-- ==== Sys2Proof/Word.lean ====
section
/-! DEFINITION. The byte and word types of the node: registers are 64 bits wide and little-endian (R7). -/

namespace Sys2Proof

/-- One byte. -/
abbrev Byte := BitVec 8

/-- One register, 64 bits (R7). -/
abbrev Word := BitVec 64

/-- An FP32 pattern. -/
abbrev F32 := BitVec 32

/-- An FP16 or BF16 pattern. -/
abbrev F16 := BitVec 16

/-- A finite map from numbers, as a list of pairs in rising key order (see `Machine/Tbl.lean` for its operations). -/
abbrev Tbl (α : Type) := List (Nat × α)

/-- Sparse byte memory: rising addresses, no entry equal to what an unlisted byte reads as. -/
abbrev Mem := List Host.Cell

end Sys2Proof
end

