-- ==== Sys2Proof/Machine/Types/Host.lean ====
section
/-! DEFINITION. State of Headwater and the PCI Express functions, of the register file, and of Gauge (chapters 14, 00, 16). -/

namespace Sys2Proof

/-- What the node does at its host port and pins, oldest first in the logs that hold it. -/
inductive HostEvt where
  /-- A write into host memory by function `fn`, in one piece; `ide` when it travels on the function's IDE stream (R457). -/
  | memWrite (fn addr : Nat) (bytes : List Byte) (ide : Bool)
  /-- An MSI-X message of function `fn` (R462). -/
  | msix (fn vec : Nat) (ide : Bool)
  /-- A completion with data of a read of function `fn` (R464). -/
  | readData (fn addr : Nat) (bytes : List Byte) (poisoned : Bool)
  /-- A request completed as Unsupported Request (R457, R461). -/
  | unsupported (fn addr : Nat)
  /-- Uncorrectable Internal Error, severity Fatal, reported by function `fn` (Table ERR-7). -/
  | aer (fn : Nat)
  /-- The WTRIP_N pin goes low (`true`) or high. -/
  | wtrip (low : Bool)
  /-- An SPDM response of function `fn` over DOE. -/
  | spdm (fn : Nat) (bytes : List Byte)
  /-- The I3C target drives these bytes (R584). -/
  | i3c (bytes : List Byte)
  /-- The scan port shifts out a register of `width` bits (R500, R582). -/
  | tap (width value : Nat)
  deriving DecidableEq, Repr

/-- State of a mailbox (Table HWD-5). -/
inductive MbState where
  | free | pending | closed
  deriving DecidableEq, Repr

/-- A message as Headwater took it (R467): mailbox, sequence number, request half, payload, time of take. -/
structure Msg where
  mb : Nat
  seq : Nat
  req : List Byte
  payload : List Byte
  admitNs : Nat
  deriving DecidableEq, Repr

/-- A completion ring (R476): entries, address, entries written so far. -/
structure Ring where
  n : Nat
  addr : Nat
  written : Nat
  deriving DecidableEq, Repr

/-- A mailbox (Tables HWD-3, HWD-5). `window` holds the request half and the payload area; `inbox` the messages taken and
passed by the frame checks whose owning block has not acted on them yet, in MSG_SEQ order (R469); messages up to MSG_SEQ `muted` write
nothing into host memory any more (R458, R574). -/
structure Mailbox where
  window : Mem
  state : MbState
  outstanding : Nat
  discarded : Nat
  takenSeq : Nat
  unrepliedSeq : Nat
  unrepliedReason : Nat
  ring : Option Ring
  inbox : List Msg
  muted : Nat
  deriving DecidableEq, Repr

/-- A PCI Express function: number 0 is the PF, number n is VF n (R455). `waiting` holds the requests that wait for
Bus Master Enable (R460); `suppressed` holds while a reset or STANDBY suppresses its host writes (R458, R574). -/
structure Func where
  busMaster : Bool
  suppressed : Bool
  ideKeys : List (List Byte)
  ideEnabled : Bool
  waiting : List HostEvt
  deriving DecidableEq, Repr

/-- NODE_STATE of HWD_STATE. -/
inductive NodeState where
  | boot | running | recovery
  deriving DecidableEq, Repr

/-- Headwater and the PCI Express functions. `flitMode` says whether the link partner supports Flit mode; a link that is not up is in Detect or in reset; `rate`
is in tenths of GT/s and `lanes` the width trained, 0 while it is down (R454). `staging` is the recovery staging area (R487). -/
structure HostSt where
  nodeState : NodeState
  recoveryCause : Nat
  fwVersion : Nat
  boxes : Tbl Mailbox
  funcs : Tbl Func
  vfEnable : Bool
  linkUp : Bool
  flitMode : Bool
  rate : Nat
  lanes : Nat
  d3hot : Bool
  staging : Mem
  out : List HostEvt
  deriving DecidableEq, Repr

/-- A class S field whose new value waits (R16, R17). `waiting` names the agents that have not reached their boundary;
`agentVals` the values that agents adopted earlier and still use. -/
structure Shadow where
  addr : Nat
  lo : Nat
  width : Nat
  newVal : Nat
  waiting : List Nat
  agentVals : Tbl Nat
  deriving DecidableEq, Repr

/-- The register file: values of the stored fields by BAR0 address (an unlisted register holds its reset value) and the
waiting shadows. Fields that a block derives from its state are read from that state. -/
structure RegFile where
  vals : Tbl Word
  shadows : List Shadow
  deriving DecidableEq, Repr

/-- Severity class of an error (Table ERR-6). -/
inductive ErrClass where
  | c | d | x | u | n
  deriving DecidableEq, Repr

/-- An error record (Table ERR-3); `detail` is the 32-byte field as a little-endian number. -/
structure GRec where
  seq : Nat
  timeNs : Nat
  unit : Nat
  typ : Nat
  cls : ErrClass
  nested : Bool
  prior : Bool
  comp : Nat
  ctx : Nat
  addr : Nat
  detail : Nat
  deriving DecidableEq, Repr

/-- Scrubbing of one target (Table ERR-8, SCRUB_CTL). -/
structure ScrubSt where
  paused : Bool
  passRuns : Bool
  deriving DecidableEq, Repr

/-- Gauge: sequence, unit queues (by unit, records in SEQ order), node log (oldest first), open handlers (unit and the
node time at which the handler's bound ends), class C counts of the current second, suppressed units, the class N error
in handling (its block code), scrub state by target, and injected errors waiting for detection. -/
structure GaugeSt where
  lastSeq : Nat
  queues : Tbl (List GRec)
  log : List GRec
  handlers : Tbl Nat
  ceSecond : Nat
  ceCounts : Tbl Nat
  ceStormed : List Nat
  fatal : Option Nat
  drainStopped : Bool
  fenced : List Nat
  scrub : Tbl ScrubSt
  deriving DecidableEq, Repr

end Sys2Proof
end

