-- ==== Sys2Proof/Machine/Types/Delta.lean ====
section
/-! DEFINITION. State of the Delta flash subsystem (chapter 11). -/

namespace Sys2Proof

/-- STATE of a channel (DLT_CHANc). -/
inductive ChanState where
  | absent | up | degraded | fenced
  deriving DecidableEq, Repr

/-- A flash channel: state, targets in use, those of them that can suspend a program or erase (R342), targets left unused, LUNs lost. -/
structure Chan where
  state : ChanState
  targets : List Nat
  suspend : List Nat
  unused : Nat
  lunsFailed : Nat
  deriving DecidableEq, Repr

/-- The geometry of every target that Delta uses (R338): LUNs, planes, blocks per plane, TLC pages per block, entries of the
read-retry table. -/
structure Geom where
  luns : Nat
  planes : Nat
  blocks : Nat
  pages : Nat
  retries : Nat
  deriving DecidableEq, Repr

/-- What a target reports at bring-up (R338): its channel and number, page data and spare bytes, geometry, the features, whether it
can suspend a program or erase (R342), and its factory-bad blocks (bits [17:0] of their block addresses). -/
structure TargetInfo where
  chan : Nat
  target : Nat
  pageBytes : Nat
  spareBytes : Nat
  geom : Geom
  features : Bool
  suspend : Bool
  factoryBad : List Nat
  deriving DecidableEq, Repr

/-- State of a block: `taken` for a write point and not erased yet, `erasing` after a fold or reclaim. -/
inductive BlockState where
  | free | taken | opened | closed | bad | erasing
  deriving DecidableEq, Repr

/-- A sector as its metadata names it (Table DLT-2), with its data before encryption (R347); `lost` when its codeword is uncorrectable. -/
structure Sector where
  key : Nat
  addr : Nat
  seq : Nat
  sealTag : Nat
  typ : Nat
  lost : Bool
  data : List Byte
  deriving DecidableEq, Repr

/-- A block (R352, R361, R368): state, SLC mode, erase count, close time, space, extent and seal tag (0: none), and its programmed
sectors in order. A good block that is not listed is free with erase count zero. -/
structure Block where
  state : BlockState
  slc : Bool
  erases : Nat
  closeNs : Nat
  space : Nat
  extent : Nat
  sealTag : Nat
  sectors : List Sector
  deriving DecidableEq, Repr

/-- A map entry (Table DLT-3). -/
inductive MapEnt where
  | mapped (psa : Nat)
  | lost
  | discarded (psa : Nat)
  deriving DecidableEq, Repr

/-- Condition of one map page (R345, R357 to R359): dirty in the cache, the LUNs that hold its copies, being rebuilt. -/
structure MapPage where
  dirty : Bool
  copies : List Nat
  rebuilding : Bool
  deriving DecidableEq, Repr

/-- A flash space (R343): map entries that are not UNMAPPED, and the map pages that hold or held one. -/
structure Space where
  map : Tbl MapEnt
  pages : Tbl MapPage
  deriving DecidableEq, Repr

/-- An open sector (R348): space and LSN. -/
structure OpenSector where
  space : Nat
  lsn : Nat
  deriving DecidableEq, Repr

/-- A page program in flight (R349): block, and the sectors of the page, each with the PSA it was copied from (R356). -/
structure Prog where
  block : Nat
  sectors : List (Sector × Option Nat)
  deriving DecidableEq, Repr

/-- What an extent holds (R361): KIND and SRC_ID. -/
structure ExtentSt where
  key : Nat
  sealTag : Nat
  kind : Nat
  src : Nat
  blocks : List Nat
  sectors : Nat
  data : Mem
  lost : List Nat
  sealed : Bool
  attached : Option Nat
  objBytes : Nat
  deriving DecidableEq, Repr

/-- A checkpoint copy (R368): SEQ, seal-tag counter, and whether its digest verifies. -/
structure Ckpt where
  seq : Nat
  sealCtr : Nat
  copies : Nat
  deriving DecidableEq, Repr

/-- STATE of Delta (DLT_STATUS). -/
inductive DeltaPhase where
  | starting | rebuilding | running | degraded
  deriving DecidableEq, Repr

/-- Delta. LUNs are keyed by block address ÷ 2^16 (channel, target, LUN); `slcTargets` holds R350's results, `failedLuns` the LUNs that
no longer answer. `nextLsn` is the first LSN
of each space that no reference area uses (R346); `reclaiming` lists the LUNs whose reclaim has not reached FREE_HIGH (R354). -/
structure DeltaSt where
  phase : DeltaPhase
  step : Nat
  geom : Geom
  chans : Tbl Chan
  failedLuns : List Nat
  slcTargets : Tbl Nat
  blocks : Tbl Block
  spaces : Tbl Space
  nextLsn : Tbl Nat
  opens : List OpenSector
  reclaiming : List Nat
  progs : List Prog
  seq : Nat
  sealCtr : Nat
  extCtr : Nat
  extents : Tbl ExtentSt
  ckpts : List Ckpt
  lastCkptNs : Nat
  deriving DecidableEq, Repr

end Sys2Proof
end

