-- ==== Sys2Proof/Machine/Types/Search.lean ====
section
/-! DEFINITION. State of collections and of the search blocks: Sounding, Braid, Confluence, Lock and the Millrace cells
(chapters 02 to 06 and 09). -/

namespace Sys2Proof

/-- A collection descriptor: the 128 bytes of Table COL-2. -/
structure Desc where
  raw : List Byte
  deriving DecidableEq, Repr

/-- State of a collection (Table COL-1); FROZEN and RECODING are separate flags. -/
inductive CollState where
  | online | dropping | offline
  deriving DecidableEq, Repr

/-- STATE of a row record (Table UPD-5). -/
inductive SlotState where
  | free | live | tombstone | forward
  deriving DecidableEq, Repr

/-- LINK of a row record (Table UPD-5). -/
inductive LinkState where
  | unlinked | pending | linked
  deriving DecidableEq, Repr

/-- An edge (Table BRD-1): generation and target slot. -/
structure Edge where
  gen : Nat
  slot : Nat
  deriving DecidableEq, Repr

/-- A slot: its row record (Table UPD-5), forward record and payload handle (R181), reach, stored parts (Table COL-3),
edge list (R121) and access count (R44). `insEpoch` and `delEpoch` hold the all-ones value where Table UPD-5 says so;
`codeLost` marks a code or side record that waits for rewriting (R286); `edgeLost` an unreadable edge list (R134);
`recoded` a row coded by the target descriptor of a running re-code (R62); `lsn` names its reference sector (R346). -/
structure Slot where
  rowId : Nat
  insEpoch : Nat
  delEpoch : Nat
  version : Nat
  gen : Nat
  state : SlotState
  link : LinkState
  width : Nat
  damaged : Bool
  payload : Nat
  fwdNode : Nat
  fwdSlot : Nat
  reach : Nat
  ref : List Byte
  code : List Byte
  side : List Byte
  outl : List Byte
  codeLost : Bool
  edges : List Edge
  edgeLost : Bool
  access : Nat
  recoded : Bool
  lsn : Nat
  deriving DecidableEq, Repr

/-- A reach record and its reach header (R69 to R74, R291): `cell` is the cell (stack × 128 + bank group) that holds its codes. -/
structure Reach where
  catchment : Nat
  centre : List F16
  radius : F32
  tight : F32
  tightEpoch : Nat
  stale : Nat
  lastChange : Nat
  cell : Nat
  switched : Bool
  deriving DecidableEq, Repr

/-- A local catchment record (R71, R125), with the RADIUS and TIGHT_RADIUS last published for it (R99). -/
structure Catch where
  centre : List F16
  radius : F32
  tight : F32
  tightEpoch : Nat
  entry : Option Nat
  pubRadius : F32
  pubTight : F32
  published : Bool
  deriving DecidableEq, Repr

/-- A received catchment summary (Table SND-4). -/
structure Summary where
  valid : Bool
  empty : Bool
  radius : F32
  tight : F32
  tightEpoch : Nat
  reaches : Nat
  rows : Nat
  seq : Nat
  centre : List F16
  deriving DecidableEq, Repr

/-- The summaries held from one source node: SEQ last seen, the UNSURE mark (R101), whether a full set was asked for, the summaries by catchment,
and the SUMMARY_RESYNC messages that wait. -/
structure SourceSums where
  lastSeq : Nat
  unsure : Bool
  resync : Bool
  sums : Tbl Summary
  msgs : List Msg
  deriving DecidableEq, Repr

/-- A publication that waits for acknowledgements (R100): catchment, nodes that have not acknowledged, time of send. -/
structure Pub where
  catchment : Nat
  seq : Nat
  waiting : List Nat
  sentNs : Nat
  slow : Bool
  deriving DecidableEq, Repr

/-- One generation of a filter bitmap (R93, R94): its commit epoch and the slots whose bit is 1. -/
structure BitGen where
  epoch : Nat
  ones : List Nat
  deriving DecidableEq, Repr

/-- A filter bitmap (R92): generations, newest first, whether it is defined and since which epoch, and its pending drop. One that is not defined holds the
bits that rows brought with them from another node. -/
structure Bitmap where
  gens : List BitGen
  defined : Bool
  since : Nat
  dropMsg : Option Msg
  deriving DecidableEq, Repr

/-- Both copies of a plane in Millrace (R292): the slots whose bit is 1. -/
structure Plane where
  primary : List Nat
  twin : List Nat
  deriving DecidableEq, Repr

/-- What the epoch home recorded of a batch named (coordinator, sequence) (R193, R608). -/
inductive Outcome2 where
  | epoch (e : Nat)
  | aborted (endOfEpochs : Bool)
  deriving DecidableEq, Repr

/-- What the epoch home records for one batch. -/
structure EpochRec where
  coord : Nat
  seq : Nat
  outcome : Outcome2
  deriving DecidableEq, Repr

/-- The epoch home's state of one collection (R184, R193, R195): next epoch, stable epoch, epochs reported complete or
void, records of batches, whether grants wait for a takeover, and the time of the last push. -/
structure EpochHome where
  next : Nat
  stable : Nat
  done : List Nat
  recs : List EpochRec
  takeover : Bool
  lastPushNs : Nat
  pushed : Nat
  deriving DecidableEq, Repr

/-- A collection as one node holds it. `strip` is the epoch strip in Millrace: INS_EPOCH and DEL_EPOCH by slot, all ones where no slot is listed (R291). `space` is the KEY_ID of its flash space (0: none), `base` the first LSN of its reference area (R346), and
`refExt` the extent that its reference reads use once it is sealed (R361). -/
structure Coll where
  comp : Nat
  id : Nat
  desc : Desc
  target : Option Desc
  state : CollState
  frozen : Bool
  recoding : Bool
  reaches : Tbl Reach
  catches : Tbl Catch
  slots : Tbl Slot
  index : Tbl Nat
  bitmaps : Tbl Bitmap
  planes : Tbl Plane
  strip : Tbl (Nat × Nat)
  sources : Tbl SourceSums
  pubSeq : Nat
  pubs : List Pub
  lastEpoch : Nat
  stableNs : Tbl Nat
  home : Option EpochHome
  defaultRow : List Byte
  defaultPayload : Nat
  millMask : Nat
  basinMask : Nat
  deltaMask : Nat
  lakeCentres : Bool
  promoteDeferred : Nat
  decayNs : Nat
  oldStorage : List (Nat × List Nat)
  scanPos : Nat
  scanSlot : Nat
  dropMsg : Option Msg
  freezeMsgs : List (Msg × List Nat)
  recodeMsg : Option Msg
  dropWait : List Nat
  space : Nat
  base : Nat
  refExt : Option Nat
  deriving DecidableEq, Repr

/-- The exact accumulator of R158: `val` counts units of 2^`lo`; `nMax` is the greatest n added (AGG_EXP set). -/
structure Acc where
  val : Int
  lo : Int
  nMax : Option Int
  sticky : Bool
  overflow : Bool
  deriving DecidableEq, Repr

/-- A bound part (R159): two FP32 ends scaled by 2^`e`. -/
structure BoundPart where
  lo : F32
  hi : F32
  e : Int
  deriving DecidableEq, Repr

/-- An entry (Table CFL-1); `key` is the sortable key and `source` the node whose list carried it. -/
structure Entry where
  key : Nat
  rowId : Nat
  collId : Nat
  version : Nat
  damaged : Bool
  source : Nat
  deriving DecidableEq, Repr

/-- A partial list (Table CFL-4); also the state of a selection and of a merge. -/
structure PList where
  source : Nat
  entries : List Entry
  damaged : List Entry
  pruned : Bool
  kthKey : Nat
  tie : Nat
  dropped : Nat
  damagedExtra : Nat
  skipped : Nat
  scanned : Nat
  minMargin : F32
  acc : Acc
  bound : BoundPart
  deriving DecidableEq, Repr

/-- A query coded for one format (R602): scale and offset, or ν_q in `a` for CODE1; codes; error norm and norms; the two ends of ‖q_N‖² (R55). -/
structure QCode where
  a : F32
  b : F32
  codes : List Int
  eq : F32
  qn : F32
  qo : F32
  q : F32
  qn2 : F32 × F32
  deriving DecidableEq, Repr

/-- The reference query of R48: FP32 elements, or INT8 codes with a power-of-two scale. -/
structure RefQuery where
  vals : List F32
  d8 : List Int
  sq : F32
  deriving DecidableEq, Repr

/-- A candidate of a query, or a DAMAGED row that a cell returned (R79, R90): interval, whether it is finite-assured, whether a cell has delivered it
(`drained`), and how far its re-score is. -/
structure Cand where
  slot : Nat
  rowId : Nat
  lo : F32
  hi : F32
  finite : Bool
  damaged : Bool
  codeLost : Bool
  drained : Bool
  rescored : Bool
  settledOut : Bool
  deriving DecidableEq, Repr

/-- One reach of a query's sweep list (R83): its ball bounds for the query and what became of it; `widths` lists the widths still to be issued one
by one (R278). -/
structure SweepItem where
  reach : Nat
  u : F32
  l : F32
  issued : Bool
  finished : Bool
  skipped : Bool
  widths : List Nat
  deriving DecidableEq, Repr

/-- A warm-start walk (R126 to R133); `lake` lists the slots whose edge list, code and side record stand prefetched in Lake for its next round (R132). -/
structure Walk where
  frontier : List Cand
  visited : List Nat
  emitted : List Cand
  rounds : Nat
  deadline : Nat
  lake : List Nat
  deriving DecidableEq, Repr

/-- One query of a batch, on this node (R113, R104): its index at the lead, the MERGE_TAG of the lead's slot, its own merge slot, its vector as supplied, the reference query
and its codes by width (R277), filter, the status with which it stops alone, threshold key and the key it started from (R106), walk, sweep list, candidates, selection, counts of skipped
reaches, smallest margin, bound part; whether CAND_LIMIT holds it (R88), whether it is complete on this node (`done`) or at its lead (`complete`); at
the lead the round, the nodes whose lists are expected, those already visited, the time by which they must answer, re-admissions (R441), the map version
it runs under with the homes of that map (none without a map) and, while it waits for a map, the version needed; the token limit and LOGIT_SCALE of an attention query (R222, R224; 2^64 and 1.0 for rows). -/
structure Query where
  idx : Nat
  leadTag : Nat
  slot : Nat
  vec : List Byte
  ref : RefQuery
  codes : Tbl QCode
  filter : List Byte
  status : Option Nat
  theta : Nat
  start : Nat
  walk : Option Walk
  started : Bool
  sweep : List SweepItem
  cands : List Cand
  sel : PList
  skippedN : Nat
  minMargin : F32
  bound : BoundPart
  pruned : Bool
  stopped : Bool
  done : Bool
  complete : Bool
  round : Nat
  expect : List Nat
  visited : List Nat
  deadline : Nat
  reroutes : Nat
  mapVersion : Nat
  map : List Nat
  needMap : Option Nat
  limit : Nat
  logit : F32
  deriving DecidableEq, Repr

/-- A query batch as lead or as visited node (R113, R104); the class S fields are those in force at its admission. `att` holds HEAD_DIM and ENTRIES of an
attention batch (R227). -/
structure QBatch where
  coll : Nat
  lead : Nat
  leadBatch : Nat
  k : Nat
  aggExp : Bool
  localOnly : Bool
  noWarm : Bool
  readEpoch : Nat
  resultAddr : Nat
  r1 : Nat
  peerTmoUs : Nat
  candLimit : Nat
  damagedCap : Nat
  walkTmoUs : Nat
  seeds : Nat
  maxRounds : Nat
  width : Nat
  att : Option (Nat × Bool)
  queries : List Query
  deriving DecidableEq, Repr

/-- A fan-out part (R104, R105): composition, collection, lead and its batch, map version, k, FLAGS of the batch, read epoch, level, the round that it is
sent in, and its queries: index at the lead, MERGE_TAG, vector, filter, starting threshold key. -/
structure FanPart where
  comp : Nat
  coll : Nat
  lead : Nat
  leadBatch : Nat
  mapVersion : Nat
  k : Nat
  flags : Nat
  readEpoch : Nat
  level : Nat
  round : Nat
  queries : List (Nat × Nat × List Byte × List Byte × Nat)
  deriving DecidableEq, Repr

/-- A merge slot (R169 to R171): generation, the query (batch, index) it serves, and the partial lists merged so far in arrival order. -/
structure MergeSlot where
  gen : Nat
  owner : Option (Nat × Nat)
  lists : List PList
  deriving DecidableEq, Repr

/-- One operation of an update batch (Table UPD-2) with the row data that Ferry pulled, and its outcome (Table UPD-4). -/
structure UpdOp where
  op : Nat
  flags : Nat
  reserved : Bool
  rowId : Nat
  payload : Nat
  tag : Nat
  data : List Byte
  status : Nat
  reason : Nat
  version : Nat
  cflags : Nat
  home : Nat
  done : Bool
  deriving DecidableEq, Repr

/-- Where an update batch stands at its coordinator (R191). -/
inductive UpdStage where
  | preparing | wantEpoch | committing | reporting | stableWait | waitMap
  deriving DecidableEq, Repr

/-- An update batch at its coordinator; `parts` lists the homes still to be sent to, in ascending id; `sent` the home whose
part is out; `homes` the prepared homes; `reports` those that reported their commit; `migr` the slots (old, new) of a migration (R202); `needNs` the end
of the wait for a map version (R442), `replans` how often its operations were sent anew. A BITMAP_WRITE is a batch with no operations. -/
structure UpdBatch where
  coll : Nat
  seq : Nat
  ops : List UpdOp
  stage : UpdStage
  parts : List Nat
  sent : Option Nat
  homes : List Nat
  reports : List Nat
  epoch : Nat
  mapVersion : Nat
  complAddr : Nat
  needMap : Nat
  migr : Option (List (Nat × Nat))
  needNs : Nat
  replans : Nat
  deriving DecidableEq, Repr

/-- State of a part at its home (R191, R192): it waits for locks, holds them, waits for its reference copies to be programmed, is prepared, has committed or
was aborted (kept for the answer of R608). -/
inductive PartState where
  | waiting | locked | writing | prepared | committed | aborted
  deriving DecidableEq, Repr

/-- A part at its home: its name (coordinator, sequence), operations, new slots, slots it ends, and the time by which an
outcome is asked for (R193). `split` names the migration batch of a split, and the operation that needs it (R197, R202); `room` is the reach that the split gives that operation's row.
A second part of a batch at one home, sent after a re-plan (R442), has the re-plan's number times 2^64 added to its sequence. -/
structure Part where
  coll : Nat
  coord : Nat
  seq : Nat
  ops : List UpdOp
  state : PartState
  arrival : Nat
  newSlots : List Nat
  ended : List Nat
  deadline : Nat
  epoch : Nat
  split : Option (Nat × Nat)
  room : Option (Nat × Nat)
  askSent : Bool
  deriving DecidableEq, Repr

/-- A part as it arrives at its home (R192). -/
structure PartMsg where
  comp : Nat
  coll : Nat
  coord : Nat
  seq : Nat
  mapVersion : Nat
  ops : List UpdOp
  deriving DecidableEq, Repr

/-- A waiting BITMAP_WRITE (R93, R94), by the sequence of its batch. -/
structure BitWrite where
  msg : Msg
  seq : Nat
  coll : Nat
  bitmap : Nat
  mode : Nat
  ids : List Nat
  deriving DecidableEq, Repr

/-- A gather in progress (R205): collection, mode, read epoch, output, ids; the map it was admitted under (R207) and the default row of then, with its
payload handle (R208); the entries read, with their ESTATUS; the indices still awaited from other nodes with the node that each was asked of, those that
were bounced once, and those that wait for a later map (R442). -/
structure Gather where
  coll : Nat
  decoded : Bool
  localOnly : Bool
  readEpoch : Nat
  outAddr : Nat
  ids : List Nat
  mapVersion : Nat
  map : List Nat
  dfltRow : List Byte
  dfltPayload : Nat
  entries : Tbl (Nat × List Byte)
  waiting : List (Nat × Nat)
  bounced : List Nat
  stalled : List Nat
  deriving DecidableEq, Repr

/-- A slot queued for linking: collection key and slot (R135). -/
structure LinkReq where
  coll : Nat
  slot : Nat
  deriving DecidableEq, Repr

/-- The search blocks of the node: collections by key (composition × 4096 + id), query batches, merge slots, update
batches and parts, bitmap writes, gathers, link and repair queues, and the batch sequence of this node as coordinator. -/
structure SearchSt where
  colls : Tbl Coll
  qbatches : Tbl QBatch
  merge : Tbl MergeSlot
  upds : Tbl UpdBatch
  parts : List Part
  bitWrites : List BitWrite
  gathers : Tbl Gather
  linkQ : List LinkReq
  repairQ : List LinkReq
  updSeq : Nat
  arrivals : Nat
  migrations : Tbl Nat
  deriving DecidableEq, Repr

/-- A bitwise row operation (R297). -/
inductive RowOp where
  | copy (d a : Nat)
  | and (d a b : Nat)
  | or (d a b : Nat)
  | xor (d a b : Nat)
  | not (d a : Nat)
  deriving DecidableEq, Repr

/-- What reading a codeword met (Table ERR-1, R520): a corrected symbol or bit by its index, poisoned data, or an error that is not corrected. -/
inductive EccOutcome where
  | clean
  | corrected (at_ : Nat)
  | poisoned
  | uncorrectable
  deriving DecidableEq, Repr

/-- What an ordinary access reads or writes. -/
inductive OrdTarget where
  /-- the code or side record of a slot -/
  | row (coll slot : Nat)
  /-- the edge list of a slot -/
  | edges (coll slot : Nat)
  /-- the row record or index entry of a slot -/
  | record (coll slot : Nat)
  /-- a place of an object -/
  | obj (obj off : Nat)
  /-- a row of a Millrace bank group, by its row number -/
  | millRow (row : Nat)
  /-- a pool frame of the Basin level, or of the Lake level -/
  | frame (basin : Bool) (n : Nat)
  /-- an area tagged to the context of a batch (merge slot, query staging, walk state) -/
  | context (batch : Nat)
  /-- control state, or the Lake firmware partition -/
  | control
  /-- a word that crosses a mesh link (R518) -/
  | mesh (link : Nat)
  /-- a place that holds nothing -/
  | other
  deriving DecidableEq, Repr

/-- An ordinary HBM access (R299): the cell whose bank group it uses (`none`: a Basin stack), what it addresses, the symbol errors of the
codeword that it reads (R517), whether what it writes is poisoned data (R522), the latency that a bundle added, whether the controller's class check missed it
(R290), and the batch whose context consumes the data. -/
structure OrdAccess where
  cell : Option Nat
  missed : Bool
  isWrite : Bool
  target : OrdTarget
  err : List (Nat × Nat)
  poisoned : Bool
  addedNs : Nat
  batch : Option Nat
  deriving DecidableEq, Repr

/-- The codes that a lane's query area holds (R277, R278): those of every width, those of one width, or none any more until the next QLOAD. -/
inductive LaneCodes where
  | all
  | width (w : Nat)
  | spent
  deriving DecidableEq, Repr

/-- A lane of a cell (R277): the query it serves, its threshold key and bound part, and the codes loaded. -/
structure Lane where
  batch : Nat
  query : Nat
  key : Nat
  bound : BoundPart
  dropped : Nat
  codes : LaneCodes
  deriving DecidableEq, Repr

/-- A cell output record (Table MRC-3), with the reach of a tally; `gone` stands for one that is discarded on drain. -/
inductive CellRec where
  | cand (lane slot : Nat) (lo hi : F32) (finite codeLost damaged : Bool)
  | tally (lane reach : Nat) (bound : BoundPart) (dropped : Nat)
  | gone
  deriving DecidableEq, Repr

/-- A work row of a filter program's result (R296): the program, the row of the planes (8,192 slots each), and the result on either copy. -/
structure WorkRow where
  prog : List Byte
  row : Nat
  primary : Nat
  twin : Nat
  deriving DecidableEq, Repr

/-- A reach issue at a cell (R279): collection, reach, read epoch, lanes still scored, slots not yet scored, and for each lane
the slots masked out because they were already drained (R604); the filter results formed for it so far (R296); once a bundle has formed them, the masks of
its lanes: the slots that each admits (R294); and the bytes of the next stored row that are already read (R274). -/
structure Issue where
  coll : Nat
  reach : Nat
  readEpoch : Nat
  lanes : List Nat
  rest : List Nat
  width : Option Nat
  masked : List (Nat × List Nat)
  work : List WorkRow
  mask : Option (List (Nat × List Nat))
  part : Nat
  deriving DecidableEq, Repr

/-- The status with which an access of a Millrace row completes (Table MRC-4): decoded, poisoned, returned without decoding, refused, or CLASS. -/
inductive AccStatus where
  | ok | poison | raw | refused | class_
  deriving DecidableEq, Repr

/-- A Millrace cell (Table MRC-2) and the queues of its bank group: program, lanes, output queue, reach issues in order, compute token held or waited for,
start of the bundle that runs, fenced (R304), waiting for its queue to drain below half (R275), ordinary accesses that wait for the bundle (R299, R300),
row operations that wait for theirs (R276, R297) with the activations already made for the first row-operation request, and the statuses with which the
last row operation and the last ordinary access completed, the latter with the row it returned undecoded; `beats` are the payload bytes that the last OUT_READ
or CELL_STATUS returned. -/
structure Cell where
  program : List Byte
  lanes : Tbl Lane
  queue : List CellRec
  issues : List Issue
  token : Bool
  waiting : Bool
  bundle : Option Nat
  fenced : Bool
  draining : Bool
  ordinary : List OrdAccess
  ops : List RowOp
  acts : Nat
  opStatus : Option AccStatus
  beats : List Byte
  accStatus : Option (AccStatus × Nat)
  deriving DecidableEq, Repr

/-- A Millrace stack: last cell granted a token (R302), fenced flag (R306), greatest added latency (R301), and for each channel the bank group that OUT_READ
drained last (R603; a channel that is not listed has drained none). -/
structure Stack where
  lastGrant : Nat
  fenced : Bool
  ordMax : Nat
  lastRead : Tbl Nat
  deriving DecidableEq, Repr

/-- The Millrace stacks: cells by stack × 128 + cell; the row-class tables of the base dies and the copy of the Millrace controller, as the blocks that are
SCRATCH (R287); the contents of SCRATCH rows (as 8,192-bit numbers), and the class changes that wait for a bundle (R289). -/
structure MrcSt where
  cells : Tbl Cell
  hbmStacks : List Stack
  scratch : List Nat
  ctrl : List Nat
  rows : Tbl Nat
  pendingRct : List (Nat × Bool)
  deriving DecidableEq, Repr

end Sys2Proof
end

