-- ==== Sys2Proof/Machine/Types/Sluice.lean ====
section
/-! DEFINITION. State of Sluice, of the Rill cores and of the objects that models use (chapters 13, 08, 07, 10). -/

namespace Sys2Proof

/-- A composition (R429, R439): its slice record, map (version and the home of each of the 4,096 buckets), previous version
with the time of installation, tier use in bytes, a COMP_DESTROY in progress, and a COMP_MODIFY whose tasks still leave removed core groups. -/
structure Comp where
  slice : List Byte
  mapVersion : Nat
  homes : List Nat
  hasMap : Bool
  prevVersion : Nat
  hasPrev : Bool
  installNs : Nat
  usedMillrace : Nat
  usedBasin : Nat
  usedFlash : Nat
  destroy : Option Msg
  modify : Option Msg
  mode : Nat
  deriving DecidableEq, Repr

/-- What is charged to a batch (Table SLC-6). -/
structure Charge where
  coreNs : Nat
  cellNs : Nat
  ferryNs : Nat
  linkNs : Nat
  flashNs : Nat
  preemptions : Nat
  reroutes : Nat
  deriving DecidableEq, Repr

/-- What a batch waits for, or that it runs. -/
inductive BatchStage where
  /-- for the epoch home's answer to a JRO get (R187) -/
  | epochCheck
  /-- for merge slots (R169) -/
  | mergeSlots
  /-- for a slot of its pipeline (R448) -/
  | pipeSlot
  /-- for a root context (R412, R415) -/
  | rootWait
  /-- admitted with its root context -/
  | active
  deriving DecidableEq, Repr

/-- An admitted batch (R415): `msg` is the message it replies to (`none` for work of another node); level 4 is best-effort;
`objs` names the objects it uses (R214). A MODEL_RUN with CHAIN_ADDR holds the chained header and the outputs that its kernel writes at the place
`stageAt` of the output address space (R233); the query batch that it admits names it as `parent`. -/
structure Batch where
  comp : Nat
  opcode : Nat
  level : Nat
  tag : Nat
  msg : Option Msg
  admitNs : Nat
  stage : BatchStage
  root : Option Nat
  coll : Option Nat
  objs : List Nat
  charge : Charge
  torn : Option Nat
  chain : Option (List Byte)
  stageAt : Nat
  staged : Mem
  parent : Option Nat
  deriving DecidableEq, Repr

/-- Context states (Table SLC-1); FREE contexts are not listed. -/
inductive CtxState where
  | ready | running | waiting | suspended | teardown | quiet
  deriving DecidableEq, Repr

/-- A completion held in a context until WAIT collects it (R413). -/
inductive Held where
  | move (tag status : Nat)
  | op (id status : Nat) (value : Nat)
  | note (src : Nat) (bytes : List Byte)
  deriving DecidableEq, Repr

/-- A context that is not FREE (R409, R410). -/
structure Ctx where
  state : CtxState
  comp : Nat
  batch : Nat
  task : Option Nat
  quietNs : Nat
  held : List Held
  deriving DecidableEq, Repr

/-- What a task waits for (R413, R426). -/
inductive WaitOn where
  | tag (t : Nat)
  | op (id : Nat)
  | note
  | all
  | sem (s : Nat)
  deriving DecidableEq, Repr

/-- The register state of a core that a save writes and a restore reads (R247): vector registers as 16,384-bit numbers,
accumulator slots of 64 INT32, stationary buffers with their mode, scalar registers, poisoned registers (R259; scalar register r is number 32 + r),
vector registers that hold an uncorrectable word (R258), and the byte offset of the next instruction. -/
structure RillRegs where
  v : Tbl Nat
  acc : Tbl (List Int)
  stat : Tbl (Nat × List (List Nat))
  x : Tbl Word
  poison : List Nat
  bad : List Nat
  pc : Nat
  deriving DecidableEq, Repr

/-- What a save area holds of a task (R247): registers, scratch, and the lines of that scratch that read uncorrectable. -/
structure Saved where
  regs : RillRegs
  scratch : Mem
  badLines : List Nat
  deriving DecidableEq, Repr

/-- State of a task. -/
inductive TaskState where
  | pending | ready | running | waiting (w : WaitOn) | suspended | draining
  deriving DecidableEq, Repr

/-- A task (R241, R411): `save` holds a suspended task's registers and scratch (R247); `moves` and `ops` its outstanding Ferry
moves and JRO operations; `puts` the scratch offset where each put that is still arriving for it began, by issuer and operation (R249). -/
structure Task where
  batch : Nat
  comp : Nat
  kernel : Nat
  args : List Byte
  parent : Option Nat
  ctx : Option Nat
  core : Option Nat
  level : Nat
  state : TaskState
  startNs : Nat
  watchNs : Nat
  scratchBytes : Nat
  maxJro : Nat
  moves : List Nat
  ops : List Nat
  save : Option Saved
  puts : Tbl Nat
  deriving DecidableEq, Repr

/-- RIL_FAULT (R270). -/
structure RilFault where
  valid : Bool
  cause : Nat
  pc : Nat
  detail : Nat
  deriving DecidableEq, Repr

/-- What a core is doing (RIL_STATUS.STATE). -/
inductive CorePhase where
  | idle | running | draining | saving | restoring
  deriving DecidableEq, Repr

/-- A Rill core (chapter 08): registers, scratch with its segment tags (composition + 1), uncorrectable scratch lines, ready
queues of levels 0 to 3 and best-effort (newest task last), the task it runs, a pre-emption in progress. -/
structure Core where
  regs : RillRegs
  scratch : Mem
  tags : Tbl Nat
  badLines : List Nat
  lastComp : Nat
  task : Option Nat
  phase : CorePhase
  queues : List (List Nat)
  accSat : Bool
  fault : RilFault
  fenced : Bool
  preemptBy : Option Nat
  drainEnd : Nat
  watchdogUs : Nat
  deriving DecidableEq, Repr

/-- A kernel (R265, R266): descriptor and code; `dropMsg` from the admission of its KERNEL_DROP. -/
structure Kernel where
  comp : Nat
  gen : Nat
  image : List Byte
  dropMsg : Option Msg
  deriving DecidableEq, Repr

/-- A semaphore (R425 to R428): free units, default lease of its SEM_INIT, POISON, held units (context, expiry) and waiters
(context, arrival). -/
structure Sem where
  units : Nat
  leaseUs : Nat
  poison : Bool
  holders : List (Nat × Nat)
  waiters : List Nat
  deriving DecidableEq, Repr

/-- A pipeline stage (R447). -/
structure Stage where
  node : Nat
  kernel : Nat
  buf : Nat
  stateBytes : Nat
  deriving DecidableEq, Repr

/-- A pipeline: its stages and its slot count (R447). -/
structure Pipe where
  stages : List Stage
  count : Nat
  deriving DecidableEq, Repr

/-- Where a run stands on a node (R444, R448): it waits for a slot, its stage's task tree runs, its state is being put to the next node, it is offered there, or
(stage 0's node only) it is at another node. -/
inductive PipePhase where
  | wait | run | push | offered | away
  deriving DecidableEq, Repr

/-- A run of a pipeline as this node holds it (R448): its batch here, pipeline and composition, slot, stage, the pipeline's stages, items, tag and level, the
node and number that stage 0 knows it by, output place and input bytes (stage 0), receiver, ownership epoch, offers made, the end of the wait for an accept. -/
structure PipeRun where
  batch : Nat
  pipe : Nat
  comp : Nat
  slot : Option Nat
  phase : PipePhase
  stage : Nat
  stages : List Stage
  nItems : Nat
  tag : Nat
  level : Nat
  home : Nat
  homeRun : Nat
  outAddr : Nat
  outLen : Nat
  input : List Byte
  receiver : Nat
  epoch : Nat
  offers : Nat
  deadline : Nat
  deriving DecidableEq, Repr

/-- An offer that waits to be accepted (R444, R440): sender, number of its ownership word there, epoch e + 1, this node's composition of the same TENANT, map
version, and the run: slot, the stage that comes next, the pipeline's stages, items, tag, level, stage 0's node and its number for the run; `gotNs` is when
it came. -/
structure Offer where
  fromNode : Nat
  word : Nat
  epoch : Nat
  comp : Nat
  mapVersion : Nat
  slot : Nat
  stage : Nat
  stages : List Stage
  nItems : Nat
  tag : Nat
  level : Nat
  home : Nat
  homeRun : Nat
  gotNs : Nat
  deriving DecidableEq, Repr

/-- The charging log (R438). -/
structure ChargeLog where
  n : Nat
  addr : Nat
  deriving DecidableEq, Repr

/-- A token of an attention object (R216, R217): reference key, code, side record, outlier values, value scale, value codes. -/
structure AttTok where
  key : List Byte
  code : List Byte
  side : List Byte
  outl : List Byte
  sigma : F16
  vals : List Int
  deriving DecidableEq, Repr

/-- A ball of an attention object (R219, R221); `cell` holds the keys of a block (stack × 128 + bank group). -/
structure Ball where
  centre : List F16
  radius : F32
  closed : Bool
  cell : Nat
  deriving DecidableEq, Repr

/-- An attention object (R215 to R221). -/
structure AttObj where
  desc : List Byte
  toks : List AttTok
  vabs : List F32
  blocks : List Ball
  groups : List Ball
  deriving DecidableEq, Repr

/-- A weight object (R230 to R239): mirror, mirror lost, tiles being refetched with the time by which each must have come, the mirror that is being written
and the message that waits for it, and the load that waits for its mirror. -/
structure WeightObj where
  mirror : Option Nat
  mirrorLost : Bool
  tier : Nat
  refetch : Tbl Nat
  pendingMirror : Option (Nat × Msg)
  loadMsg : Option Msg
  deriving DecidableEq, Repr

/-- The kinds of object of the id space of R212, and attached reference extents (R363). -/
inductive ObjKind where
  | attention (a : AttObj)
  | weight (w : WeightObj)
  | buffer (tier : Nat)
  | refExtent (ext : Nat)
  deriving DecidableEq, Repr

/-- An object of a composition (or of the admin role, composition 64): size, contents, POISONED, a drop in progress, codewords with
injected errors (kind, offset). -/
structure Obj where
  kind : ObjKind
  bytes : Nat
  data : Mem
  poisoned : Bool
  dropMsg : Option Msg
  injected : List (Nat × Nat)
  extent : Option Nat
  deriving DecidableEq, Repr

/-- A mirror copy of a weight object of another node (R235): the composition it counts against, its bytes and contents. -/
structure Mirror where
  comp : Nat
  bytes : Nat
  data : Mem
  deriving DecidableEq, Repr

/-- Sluice, the Rill cores, and objects. Keys: objects composition × 65,536 + id; semaphores and pipelines composition × 256 + index;
kernels by handle index; `meters` in ns by composition, kept after COMP_DESTROY (R435). -/
structure SluiceSt where
  comps : Tbl Comp
  meters : Tbl (List Nat)
  batches : Tbl Batch
  nextBatch : Nat
  ctxs : Tbl Ctx
  tasks : Tbl Task
  nextTask : Nat
  cores : Tbl Core
  kernels : Tbl Kernel
  kernelGens : Tbl Nat
  sems : Tbl Sem
  pipes : Tbl Pipe
  runs : Tbl PipeRun
  words : Tbl Word
  offers : List Offer
  chargeLog : Option ChargeLog
  produced : Nat
  windowNs : Nat
  shareNs : Tbl Nat
  objs : Tbl Obj
  mirrors : Tbl Mirror
  deriving DecidableEq, Repr

end Sys2Proof
end

