-- ==== Sys2Proof/Machine/Types/Trib.lean ====
section
/-! DEFINITION. State of Tributary: links, flows, outstanding operations, peers (chapter 12). -/

namespace Sys2Proof

/-- STATE of a link (TRB_LINKl). -/
inductive LinkSt where
  | disabled | down | train | align | hello | session | up | trickle | refused
  deriving DecidableEq, Repr

/-- A packet: the header of Table TRB-4 and its payload in clear; `links` masks the links on which it may leave this node (R433), and `payer`
(64: none) and `batch` (0: none) are charged for it (Table SLC-5): these three are no part of what is sent. -/
structure Packet where
  op : Nat
  cls : Nat
  hops : Nat
  fw : Bool
  fragLast : Bool
  resync : Bool
  dst : Nat
  subop : Nat
  src : Nat
  tenant : Nat
  flowSeq : Nat
  frag : Nat
  addr : Nat
  opId : Nat
  aux : Nat
  data : List Byte
  links : Nat
  payer : Nat
  batch : Nat
  deriving DecidableEq, Repr

/-- A DATA flit (R373): SEQ, FIRST, and the packets whose last byte it carries, each with the outcome of its GCM tag. -/
structure Flit where
  seq : Nat
  first : Nat
  packets : List (Packet × Bool)
  deriving DecidableEq, Repr

/-- A CONTROL flit (R374). -/
inductive Ctl where
  | ack (seq : Nat)
  | nak (seq : Nat)
  | credit (pair units : Nat)
  | hello (node incarnation link : Nat)
  | wake
  | trickle
  | quarantine
  | lostYou
  | session (nonce : Nat)
  deriving DecidableEq, Repr

/-- What a link sends, oldest first. -/
inductive LinkOut where
  | data (f : Flit)
  | idle (seq : Nat)
  | ctl (c : Ctl)
  deriving DecidableEq, Repr

/-- A Tributary link: TRB_LINKl fields, bring-up bound or retry time, transmit state (next SEQ, unacknowledged flits, packets queued,
each with the link it came on plus one, time the last acknowledgement advanced), receive state (next SEQ, flits since the last acknowledgement, receive
buffer in use), credits held (by class × 4 + virtual lane, and shared), shared credits in use by class, tag failures in a row at one SEQ,
packet counters of the session, drain towards TRICKLE, and stored training coefficients. -/
structure Link where
  state : LinkSt
  enable : Bool
  trickleReq : Bool
  spwTrickle : Bool
  peerNode : Nat
  peerLink : Nat
  peerInc : Nat
  retrains : Nat
  deadline : Nat
  leftUpNs : Nat
  coefs : Bool
  draining : Bool
  txSeq : Nat
  replay : List Flit
  queue : List (Packet × Nat)
  ackNs : Nat
  rxNext : Nat
  rxSince : Nat
  lastRxNs : Nat
  lastTxNs : Nat
  lastAckNs : Nat
  credits : Tbl Nat
  shared : Nat
  sharedUse : Tbl Nat
  wrrClass : Nat
  wrrLeft : Nat
  tagSeq : Nat
  tagFails : Nat
  txCtr : Nat
  rxCtr : Nat
  out : List LinkOut
  deriving DecidableEq, Repr

/-- A flow at its source (R400, R404): last FLOW_SEQ used, and whether the next packet carries RESYNC. -/
structure TxFlow where
  last : Nat
  resync : Bool
  deriving DecidableEq, Repr

/-- A flow at its target (R400, R404): last applied FLOW_SEQ, early packets with their arrival time and link, and whether packets are discarded
until one with RESYNC arrives. -/
structure RxFlow where
  last : Nat
  held : List (Packet × Nat × Nat)
  dropping : Bool
  deriving DecidableEq, Repr

/-- An operation outstanding at its issuer (R390, R395): destination, class, operation, issuing task (`none`: firmware), packets still to
complete, statuses by fragment, old value or data returned, local address for a GET, time of issue, bytes. -/
structure JroOp where
  dst : Nat
  cls : Nat
  op : Nat
  task : Option Nat
  ctx : Nat
  fw : Nat
  frags : Nat
  statuses : Tbl Nat
  value : Nat
  localAt : Nat
  addr : Nat
  sentNs : Nat
  len : Nat
  deriving DecidableEq, Repr

/-- What this node holds of another node (R405, R406, R511): incarnation, declared lost and not readmitted since, the probe in progress (its deadline,
0 for none), the time its peer master secret is discarded (0: no secret), what its policy check needs, and since when no choice is usable. -/
structure Peer where
  incarnation : Nat
  known : Bool
  lost : Bool
  probeNs : Nat
  secretNs : Nat
  rollback : Nat
  measure : List Byte
  fabricId : Nat
  deriving DecidableEq, Repr

/-- A firmware message to a node; the layout of the FIRMWARE region is internal (Table TRB-3). -/
inductive FwMsg where
  /-- a fan-out part of a query batch -/
  | fanout (part : FanPart)
  /-- a partial list of a query for a merge slot -/
  | topk (tag : Nat) (list : PList)
  /-- REROUTE answer to a fan-out part, or the status with which the visited node's part ends -/
  | reroute (batch query needed : Nat)
  | refused (batch query status : Nat)
  /-- a part of an update batch -/
  | part (coll seq : Nat) (ops : List UpdOp)
  | partPrepared (coll seq : Nat)
  | partReroute (coll seq needed : Nat) (notHeld : Bool)
  | epochReq (coll seq : Nat)
  | epochGrant (coll seq epoch : Nat)
  | epochAbort (coll seq : Nat) (endOfEpochs : Bool)
  | epochReroute (coll seq needed : Nat)
  | commit (coll seq epoch : Nat)
  | abort (coll seq : Nat)
  | commitReport (coll seq : Nat)
  | epochComplete (coll epoch : Nat)
  | stable (coll epoch : Nat)
  | outcomeAsk (coll coord seq : Nat)
  | outcome (coll coord seq : Nat) (o : Outcome2)
  | epochCheck (batch coll epoch : Nat)
  | gatherRead (batch coll : Nat) (ids : List Nat)
  | gatherAnswer (batch : Nat) (rows : List (Nat × List Byte))
  | summary (coll catchment : Nat) (s : Summary)
  | summaryAck (coll seq : Nat)
  | resync (coll : Nat)
  | refetch (obj tile : Nat)
  | mirrorWrite (obj : Nat)
  | pipeState (pipe slot stage : Nat) (bytes : List Byte)
  | pipeDone (pipe slot reason detail : Nat)
  | offer (word epoch comp : Nat)
  | acceptCas (word epoch : Nat)
  /-- rows of a result that the node holds (R44) -/
  | accessed (coll : Nat) (rows : List Nat)
  | forwardWrite (coll rowId : Nat) (op : UpdOp)
  | forwardOffer (coll rowId : Nat)
  | migrate (coll rowId : Nat)
  deriving DecidableEq, Repr

/-- A request that waits for a later map (R440), or an epoch request that waits for the end of a takeover (R195, R607). -/
inductive MapReq where
  | part (p : PartMsg)
  | fanout (p : FanPart)
  | summary (coll source catchment : Nat) (s : Summary) (version : Nat) (last : Bool)
  /-- the get of a gather read: composition, the map version that its note carries, and the packet -/
  | gather (comp version : Nat) (p : Packet)
  | epoch (coll coord seq version : Nat)
  deriving DecidableEq, Repr

/-- Tributary. Flows are keyed by node × 4 + class; `held` lists packets without a usable choice, with the time they are held since and the link they came
on plus one (R384); `merges` the fragments of lists (R393) by source × 2^32 + OP_ID; `getData` the data of firmware GETs by operation × 65,536 + fragment;
`fwOut` lists the firmware messages sent, oldest first; `fwPend` those of R191 and R193 that have not completed, by operation (R608); `gatherReqs` what other
nodes' gather reads ask for, by source × 2^16 + batch (R207); `waits` the requests that wait for a map, with the time they came (R440). -/
structure TribSt where
  links : Tbl Link
  txFlows : Tbl TxFlow
  rxFlows : Tbl RxFlow
  ops : Tbl JroOp
  nextOp : Nat
  held : List (Packet × Nat × Nat)
  peers : Tbl Peer
  merges : Tbl (List Byte)
  fwOut : List (Nat × Nat × FwMsg)
  getData : Tbl (List Byte)
  fwPend : Tbl (Nat × Nat × FwMsg)
  gatherReqs : Tbl (List Byte)
  waits : List (Nat × MapReq)
  deriving DecidableEq, Repr

end Sys2Proof
end

