-- ==== Sys2Proof/Machine/Types/Operands.lean ====
section
/-! DEFINITION. Types of command operands: what arrives with a command from outside the node (host data, packets, sensor and media
outcomes, the answers of other nodes), and the operand forms of the Rill instructions. -/

namespace Sys2Proof

/-- Bytes read from host memory; `none` when the read completes with an error. -/
abbrev HostRead := Option (List Byte)

/-- The answer to the JRO get of R187: the stable epoch at the epoch home, or no answer (PATH_LOST). -/
inductive EpochAns where
  | stable (e : Nat)
  | pathLost
  deriving DecidableEq, Repr

/-- The epoch home's answer to an epoch request (R184, R193), or REROUTE of a node that is not the epoch home, with its map version (R607). -/
inductive EpochReply where
  | granted (e : Nat)
  | aborted (endOfEpochs : Bool)
  | reroute (needed : Nat)
  deriving DecidableEq, Repr

/-- What a survivor reports to a new epoch home (R195): the greatest stable epoch it holds, epochs it holds as granted to named batches,
parts it holds prepared. -/
structure Survivor where
  node : Nat
  stable : Nat
  granted : List (Nat × Nat × Nat)
  prepared : List (Nat × Nat)
  deriving DecidableEq, Repr

/-- A ball whose radius Lock tightens or replaces: a reach, a local catchment, or the summary of a source's catchment that a lead holds. -/
inductive BallId where
  | reach (r : Nat)
  | catchment (c : Nat)
  | summary (source c : Nat)
  deriving DecidableEq, Repr

/-- What reading a masked row met (R286, R293): the slot whose code or side record is uncorrectable, or the plane whose mask source is. -/
inductive RowFault where
  | code (slot : Nat)
  | mask (plane : Nat)
  /-- a residue or parity check of the cell fails (R304) -/
  | check
  /-- a word of program memory or cell SRAM is uncorrectable (R304) -/
  | sram
  deriving DecidableEq, Repr

/-- How a Ferry access ends (Table FRY-5, R330). -/
inductive MoveOutcome where
  | ok (host : List Byte)
  | hostError
  | media
  | frameBad
  deriving DecidableEq, Repr

/-- How a sector read ends (R341): decoded hard, soft, at a read-retry entry, or uncorrectable; `stale` when the metadata of an extent's sector does not
carry the extent's SEAL_TAG and index (R364). -/
inductive ReadOutcome where
  | hard | soft
  | retry (n : Nat)
  | uncorrectable
  | stale
  deriving DecidableEq, Repr

/-- A flash part that stops answering, or an HBM channel (R357). -/
inductive FlashPart where
  | channel (c : Nat)
  | lun (l : Nat)
  | hbm (stack chan : Nat)
  deriving DecidableEq, Repr

/-- What a scrub pass found at one place: the symbols in error of an HBM codeword, each with what it is XORed with, or the flipped bits of an SRAM word. -/
structure ScrubFind where
  unit : Nat
  target : OrdTarget
  err : List (Nat × Nat)
  deriving DecidableEq, Repr

/-- A peer's side of the session exchange (R510): what the checks of Weir need. -/
structure Handshake where
  chainOk : Bool
  fabricId : Nat
  rollback : Nat
  measure : List Byte
  nonce : Nat
  deriving DecidableEq, Repr

/-- Triggers of a PCI Express warm reset (Table CRU-2). -/
inductive WarmCause where
  | perst | hotReset | linkDown | pfFlr
  deriving DecidableEq, Repr

/-- Triggers of a wake (R577). -/
inductive WakeSource where
  | d0 | peerWake | peerPacket
  deriving DecidableEq, Repr

/-- Element type of a vector instruction. -/
inductive VTy where
  | f32 | bf16 | f16 | i32
  deriving DecidableEq, Repr

/-- Array modes (Table RIL-2). -/
inductive MxMode where
  | int4 | int2 | binary | int8
  deriving DecidableEq, Repr

/-- A matrix stream (R250 to R254): buffer, mode, UINT4 operands, register and line streamed, active length in binary mode, slot, whether it
overwrites the slot; `residue` names an array row whose residue check fails (R255); `ecc` names the flipped bits of a word of the register
(R258). -/
structure MxArgs where
  buf : Nat
  mode : MxMode
  statU : Bool
  lineU : Bool
  reg : Nat
  line : Nat
  active : Nat
  slot : Nat
  overwrite : Bool
  residue : Option Nat
  ecc : List Nat
  deriving DecidableEq, Repr

/-- What an instruction reads in an SRAM of its core, a register number or a scratch address, and the flipped bits of one word of it (R258,
R519). -/
structure SramRead where
  src : Nat
  ecc : List Nat
  deriving DecidableEq, Repr

/-- A vector instruction: destination, sources; `parity` names a lane whose parity check fails (R257); `ecc` names the flipped bits of a word of its
first source register (R258). -/
structure VArgs where
  ty : VTy
  vd : Nat
  va : Nat
  vb : Nat
  vc : Nat
  parity : Option Nat
  ecc : List Nat
  deriving DecidableEq, Repr

/-- Conversions (R256, R262). -/
inductive Conv where
  | widenBf16 | widenF16 | narrowBf16 | narrowF16 | i32ToF32
  deriving DecidableEq, Repr

/-- Comparisons of V.CMP. -/
inductive Cmp where
  | lt | le | eq
  deriving DecidableEq, Repr

/-- Direction of a bound-path operation (R256). -/
inductive Dir where
  | up | down
  deriving DecidableEq, Repr

/-- Integer functions of a scalar instruction. -/
inductive Alu where
  | add | sub | mul | and | or | xor | shl | shr
  deriving DecidableEq, Repr

/-- Conditions of a scalar branch. -/
inductive BrCond where
  | always | eq | ne | ltu
  deriving DecidableEq, Repr

/-- Scalar instructions (Table RIL-4: integer, address, branch). -/
inductive ScalarOp where
  | alu (f : Alu) (xd xa xb : Nat)
  | imm (xd v : Nat)
  | addr (xd xa : Nat) (off : Nat)
  | branch (c : BrCond) (xa xb target : Nat)
  deriving DecidableEq, Repr

/-- Where a task names a Ferry descriptor (R316): one vector register, or 64 bytes of scratch. -/
inductive DescAt where
  | reg (v : Nat)
  | scratch (off : Nat)
  deriving DecidableEq, Repr

/-- Operands of a JRO instruction: class, global address, scratch offset and length of the local data, subop and its operands, notify value. -/
structure JroArgs where
  cls : Nat
  addr : Nat
  off : Nat
  len : Nat
  subop : Nat
  x : Nat
  y : Nat
  aux : Nat
  deriving DecidableEq, Repr

end Sys2Proof
end

