-- ==== Sys2Proof/Syntax.lean ====
section
/-! DEFINITION. The commands of the block: one constructor per row of the opcode table, with the operands that come with it from outside. -/

namespace Sys2Proof

/-- The commands, in the order of the opcode table; each docstring is the rule its row names. -/
inductive Instr where
  /-- REGISTER_WRITE (R14). -/
  | registerWrite (addr : Nat) (size : Nat) (value : Nat)
  /-- BAD_SIZE_ACCESS (R9). -/
  | badSizeAccess (isWrite : Bool) (addr : Nat) (size : Nat)
  /-- UNASSIGNED_ACCESS (R24). -/
  | unassignedAccess (isWrite : Bool) (addr : Nat) (size : Nat)
  /-- DISABLED_CORE_ACCESS (R263). -/
  | disabledCoreAccess (isWrite : Bool) (addr : Nat)
  /-- RIL_FAULT_CLEAR (R270). -/
  | rilFaultClear (core : Nat)
  /-- ERR_INT_PEND_CLEAR (R533). -/
  | errIntPendClear (mask : Nat)
  /-- CONSUMED_WRITE (R438). -/
  | consumedWrite (value : Nat)
  /-- HWD_WIN_WRITE (R463). -/
  | hwdWinWrite (value : Nat)
  /-- MAILBOX_WINDOW_WRITE (R466). -/
  | mailboxWindowWrite (mb : Nat) (off : Nat) (bytes : List Byte)
  /-- SUBMIT_WRITE (R466). -/
  | submitWrite (mb : Nat) (value : Nat)
  /-- BAR2_READ (R464). -/
  | bar2Read (off : Nat) (len : Nat)
  /-- BAR2_WRITE (R464). -/
  | bar2Write (off : Nat) (bytes : List Byte)
  /-- MESSAGE_TAKE (R467). -/
  | messageTake (mb : Nat)
  /-- NODE_INFO (R481). -/
  | nodeInfo (mb : Nat)
  /-- NODE_ID_SET (R481). -/
  | nodeIdSet (mb : Nat)
  /-- ROUTE_SET (R481). -/
  | routeSet (mb : Nat)
  /-- LINK_SET (R481). -/
  | linkSet (mb : Nat)
  /-- PEER_READMIT (R406). -/
  | peerReadmit (mb : Nat)
  /-- RING_SET (R476). -/
  | ringSet (mb : Nat)
  /-- TIME_SET (R481). -/
  | timeSet (mb : Nat)
  /-- RWP_WRITE (R483). -/
  | rwpWrite (mb : Nat)
  /-- NODE_RESET (R565). -/
  | nodeReset (mb : Nat)
  /-- RECOVERY_ENTER (R484). -/
  | recoveryEnter (mb : Nat)
  /-- RECOVERY_LOAD (R488). -/
  | recoveryLoad (mb : Nat)
  /-- COLL_CREATE (R32). -/
  | collCreate (mb : Nat)
  /-- COLL_FREEZE (R59). -/
  | collFreeze (mb : Nat)
  /-- FREEZE_SET (R59). -/
  | freezeSet (coll : Nat)
  /-- COLL_DROP (R60). -/
  | collDrop (mb : Nat)
  /-- DROP_COMPLETE (R60). -/
  | dropComplete (coll : Nat)
  /-- COLL_RECODE (R61). -/
  | collRecode (mb : Nat)
  /-- RECODE_REACH_SWITCH (R62). -/
  | recodeReachSwitch (coll : Nat) (reach : Nat)
  /-- OLD_REACH_STORAGE_FREE (R62). -/
  | oldReachStorageFree (coll : Nat) (reach : Nat)
  /-- COLL_PLACE (R63). -/
  | collPlace (mb : Nat)
  /-- COLL_INFO (R64). -/
  | collInfo (mb : Nat)
  /-- QRY_BATCH (R114). -/
  | qryBatch (mb : Nat) (dma : HostRead)
  /-- READ_EPOCH_CHECK_REPLY (R187). -/
  | readEpochCheckReply (batch : Nat) (ans : EpochAns)
  /-- MERGE_SLOT_GRANT (R169). -/
  | mergeSlotGrant (batch : Nat)
  /-- ROOT_CONTEXT_GRANT (R415). -/
  | rootContextGrant (batch : Nat)
  /-- QUERY_START (R83). -/
  | queryStart (batch : Nat) (query : Nat)
  /-- FANOUT_PART_RECEIVE (R104). -/
  | fanoutPartReceive (part : FanPart)
  /-- WALK_ROUND (R131). -/
  | walkRound (batch : Nat) (query : Nat)
  /-- WALK_TIMEOUT (R133). -/
  | walkTimeout (batch : Nat) (query : Nat)
  /-- CELL_PROG (R272). -/
  | cellProg (cell : Nat) (off : Nat) (bytes : List Byte)
  /-- QLOAD (R277). -/
  | qload (cell : Nat) (lane : Nat) (batch : Nat) (query : Nat)
  /-- REACH_ISSUE (R279). -/
  | reachIssue (cell : Nat) (coll : Nat) (reach : Nat) (mask : Nat) (readEpoch : Nat)
  /-- THETA_PUSH (R282). -/
  | thetaPush (cell : Nat) (lane : Nat) (key : Nat)
  /-- OUT_READ (R285). -/
  | outRead (cell : Nat)
  /-- ROWOP (R297). -/
  | rowop (cell : Nat) (op : RowOp)
  /-- PLANE_BITS (R295). -/
  | planeBits (coll : Nat) (plane : Nat) (slots : List Nat) (set : Bool)
  /-- RCT_SET (R289). -/
  | rctSet (block : Nat) (scratch : Bool)
  /-- CELL_HALT (R450). -/
  | cellHalt (cell : Nat) (mask : Nat)
  /-- CELL_STATUS (R307). -/
  | cellStatus (cell : Nat)
  /-- TOKEN_GRANT (R302). -/
  | tokenGrant (stack : Nat)
  /-- BUNDLE_START (R274). -/
  | bundleStart (cell : Nat)
  /-- BUNDLE_END (R274). -/
  | bundleEnd (cell : Nat) (rows : Nat) (faults : List RowFault)
  /-- ORDINARY_ACCESS (R299). -/
  | ordinaryAccess (acc : OrdAccess)
  /-- RESCORE_COMPLETE (R86). -/
  | rescoreComplete (batch : Nat) (query : Nat) (slot : Nat) (media : Bool)
  /-- QUERY_LOCAL_COMPLETE (R87). -/
  | queryLocalComplete (batch : Nat) (query : Nat)
  /-- TOPK_MERGE (R164). -/
  | topkMerge (tag : Nat) (list : PList)
  /-- QUERY_COMPLETE (R172). -/
  | queryComplete (batch : Nat) (query : Nat) (refusal : Option Nat)
  /-- PEER_TIMEOUT (R108). -/
  | peerTimeout (batch : Nat) (query : Nat)
  /-- QUERY_REROUTE (R441). -/
  | queryReroute (batch : Nat) (query : Nat) (needed : Nat)
  /-- BITMAP_WRITE (R93). -/
  | bitmapWrite (mb : Nat) (dma : HostRead)
  /-- BITMAP_DROP (R92). -/
  | bitmapDrop (mb : Nat)
  /-- SUMMARY_RESYNC (R101). -/
  | summaryResync (mb : Nat)
  /-- SUMMARY_RECEIVE (R101). -/
  | summaryReceive (coll : Nat) (source : Nat) (catchment : Nat) (summary : Summary) (version : Nat) (last : Bool)
  /-- PUB_SLOW (R100). -/
  | pubSlow (coll : Nat) (seq : Nat)
  /-- UPD_BATCH (R178). -/
  | updBatch (mb : Nat) (dma : HostRead)
  /-- PART_SEND (R191). -/
  | partSend (batch : Nat)
  /-- PART_ARRIVE (R192). -/
  | partArrive (part : PartMsg)
  /-- PART_PREPARE (R191). -/
  | partPrepare (coll : Nat) (coord : Nat) (seq : Nat)
  /-- PART_PREPARED (R191). -/
  | partPrepared (batch : Nat) (home : Nat) (ops : List UpdOp)
  /-- EPOCH_REQUEST (R184). -/
  | epochRequest (coll : Nat) (coord : Nat) (seq : Nat) (version : Nat)
  /-- EPOCH_GRANT (R191). -/
  | epochGrant (batch : Nat) (ans : EpochReply)
  /-- PART_COMMIT (R191). -/
  | partCommit (coll : Nat) (coord : Nat) (seq : Nat) (epoch : Nat)
  /-- COMMIT_REPORT (R191). -/
  | commitReport (batch : Nat) (home : Nat)
  /-- EPOCH_COMPLETE (R184). -/
  | epochComplete (coll : Nat) (epoch : Nat)
  /-- STABLE_EPOCH_PUSH (R185). -/
  | stableEpochPush (coll : Nat)
  /-- STABLE_EPOCH_RECEIVE (R185). -/
  | stableEpochReceive (coll : Nat) (epoch : Nat)
  /-- UPDATE_COMPLETE (R180). -/
  | updateComplete (batch : Nat)
  /-- PREP_TIMEOUT (R193). -/
  | prepTimeout (coll : Nat) (coord : Nat) (seq : Nat)
  /-- OUTCOME_REPLY (R193). -/
  | outcomeReply (coll : Nat) (coord : Nat) (seq : Nat) (outcome : Outcome2)
  /-- EPOCH_HOME_TAKEOVER (R195). -/
  | epochHomeTakeover (coll : Nat) (survivors : List Survivor)
  /-- MIGRATION_START (R202). -/
  | migrationStart (coll : Nat) (row : Nat) (node : Nat)
  /-- MIGRATION_RELEASE (R202). -/
  | migrationRelease (coll : Nat) (row : Nat)
  /-- TIGHTEN (R74). -/
  | tighten (coll : Nat) (ball : BallId)
  /-- RADIUS_REPLACE (R75). -/
  | radiusReplace (coll : Nat) (ball : BallId)
  /-- SLOT_FREE (R189). -/
  | slotFree (coll : Nat) (slot : Nat)
  /-- POP_DECAY (R44). -/
  | popDecay (coll : Nat)
  /-- POP_RECODE (R45). -/
  | popRecode (coll : Nat) (slot : Nat)
  /-- CODE_REWRITE (R286). -/
  | codeRewrite (coll : Nat) (slot : Nat) (media : Bool)
  /-- GATHER (R207). -/
  | gather (mb : Nat) (dma : HostRead)
  /-- DEFAULT_ROW (R208). -/
  | defaultRow (mb : Nat) (dma : HostRead)
  /-- EPOCH_INFO (R210). -/
  | epochInfo (mb : Nat)
  /-- LINK_SLOT (R137). -/
  | linkSlot (engine : Nat)
  /-- LINK_SCAN (R135). -/
  | linkScan (coll : Nat)
  /-- REPAIR_REACH (R143). -/
  | repairReach (engine : Nat)
  /-- ATT_CREATE (R215). -/
  | attCreate (mb : Nat)
  /-- ATT_APPEND (R220). -/
  | attAppend (mb : Nat) (dma : HostRead)
  /-- ATT_QUERY (R228). -/
  | attQuery (mb : Nat) (dma : HostRead) (lims : HostRead)
  /-- OBJ_DROP (R214). -/
  | objDrop (mb : Nat)
  /-- OBJ_DROP_COMPLETE (R214). -/
  | objDropComplete (obj : Nat)
  /-- WEIGHT_LOAD (R230). -/
  | weightLoad (mb : Nat) (dma : HostRead) (peerOk : Bool)
  /-- MODEL_RUN (R244). -/
  | modelRun (mb : Nat) (dma : HostRead)
  /-- WEIGHT_MIRROR (R239). -/
  | weightMirror (mb : Nat) (peerOk : Bool)
  /-- OBJ_INFO (R240). -/
  | objInfo (mb : Nat)
  /-- MIRROR_REFETCH_COMPLETE (R236). -/
  | mirrorRefetchComplete (obj : Nat) (tile : Nat) (readable : Bool)
  /-- KERNEL_LOAD (R265). -/
  | kernelLoad (mb : Nat) (dma : HostRead)
  /-- KERNEL_DROP (R268). -/
  | kernelDrop (mb : Nat)
  /-- BUF_ALLOC (R335). -/
  | bufAlloc (mb : Nat)
  /-- OBJ_PREFETCH (R333). -/
  | objPrefetch (mb : Nat)
  /-- EXT_EXPORT (R361). -/
  | extExport (mb : Nat)
  /-- EXT_ATTACH (R363). -/
  | extAttach (mb : Nat) (dma : HostRead)
  /-- EXT_READ (R366). -/
  | extRead (mb : Nat)
  /-- EXT_RELEASE (R365). -/
  | extRelease (mb : Nat) (dma : HostRead)
  /-- SPACE_RELEASE (R367). -/
  | spaceRelease (mb : Nat)
  /-- COMP_CREATE (R430). -/
  | compCreate (mb : Nat)
  /-- COMP_MODIFY (R434). -/
  | compModify (mb : Nat)
  /-- COMP_DESTROY (R435). -/
  | compDestroy (mb : Nat)
  /-- MAP_SET (R439). -/
  | mapSet (mb : Nat) (dma : HostRead)
  /-- MAP_GRACE_EXPIRY (R440). -/
  | mapGraceExpiry (comp : Nat)
  /-- COMP_INFO (R598). -/
  | compInfo (mb : Nat)
  /-- CHARGE_LOG (R438). -/
  | chargeLog (mb : Nat)
  /-- SEM_INIT (R425). -/
  | semInit (mb : Nat)
  /-- PIPE_DEFINE (R447). -/
  | pipeDefine (mb : Nat) (remote : List Nat)
  /-- PIPE_RUN (R448). -/
  | pipeRun (mb : Nat) (dma : HostRead)
  /-- PIPE_STAGE_DONE (R448). -/
  | pipeStageDone (run : Nat)
  /-- HANDOVER_OFFER (R444). -/
  | handoverOffer (run : Nat)
  /-- HANDOVER_ACCEPT (R444). -/
  | handoverAccept (offer : Nat) (old : Nat)
  /-- HANDOVER_TIMEOUT (R445). -/
  | handoverTimeout (run : Nat)
  /-- ATTEST_REPORT (R504). -/
  | attestReport (mb : Nat)
  /-- FLASH_KEY_CREATE (R513). -/
  | flashKeyCreate (mb : Nat)
  /-- FLASH_KEY_DESTROY (R514). -/
  | flashKeyDestroy (mb : Nat)
  /-- PEER_POLICY_SET (R509). -/
  | peerPolicySet (mb : Nat)
  /-- FW_STAGE (R494). -/
  | fwStage (mb : Nat)
  /-- FW_ACTIVATE (R495). -/
  | fwActivate (mb : Nat)
  /-- ERR_LOG_READ (R547). -/
  | errLogRead (mb : Nat)
  /-- REACH_DUMP (R548). -/
  | reachDump (mb : Nat)
  /-- CATCHMENT_DUMP (R549). -/
  | catchmentDump (mb : Nat)
  /-- SCRUB_CTL (R552). -/
  | scrubCtl (mb : Nat)
  /-- COUNTER_SNAPSHOT (R550). -/
  | counterSnapshot (mb : Nat)
  /-- ERROR_INJECT (R551). -/
  | errorInject (mb : Nat)
  /-- SCALAR (R262). -/
  | scalar (core : Nat) (op : ScalarOp)
  /-- MX_LOAD (R251). -/
  | mxLoad (core : Nat) (buf : Nat) (mode : MxMode) (reg : SramRead)
  /-- MX_MMA (R250). -/
  | mxMma (core : Nat) (a : MxArgs)
  /-- MX_MMA_G32 (R254). -/
  | mxMmaG32 (core : Nat) (a : MxArgs)
  /-- ACC_MOV (R253). -/
  | accMov (core : Nat) (slot : Nat) (n : Nat) (vd : Nat)
  /-- ACC_CLR (R253). -/
  | accClr (core : Nat) (slot : Nat) (n : Nat)
  /-- V_ADD (R256). -/
  | vAdd (core : Nat) (a : VArgs)
  /-- V_MUL (R256). -/
  | vMul (core : Nat) (a : VArgs)
  /-- V_MAX (R256). -/
  | vMax (core : Nat) (a : VArgs)
  /-- V_FMA (R256). -/
  | vFma (core : Nat) (a : VArgs)
  /-- CONVERT (R262). -/
  | convert (core : Nat) (k : Conv) (a : VArgs)
  /-- V_CMP (R262). -/
  | vCmp (core : Nat) (c : Cmp) (a : VArgs)
  /-- V_SEL (R262). -/
  | vSel (core : Nat) (a : VArgs)
  /-- B_ADD (R256). -/
  | bAdd (core : Nat) (d : Dir) (a : VArgs)
  /-- B_MUL (R256). -/
  | bMul (core : Nat) (d : Dir) (a : VArgs)
  /-- B_SQRT (R256). -/
  | bSqrt (core : Nat) (d : Dir) (a : VArgs)
  /-- B_DIV (R256). -/
  | bDiv (core : Nat) (d : Dir) (a : VArgs)
  /-- V_EXP2 (R257). -/
  | vExp2 (core : Nat) (a : VArgs)
  /-- V_SQRT (R256). -/
  | vSqrt (core : Nat) (a : VArgs)
  /-- V_DIV (R256). -/
  | vDiv (core : Nat) (a : VArgs)
  /-- V_REDP (R257). -/
  | vRedp (core : Nat) (n : Nat) (a : VArgs)
  /-- C_CX (R262). -/
  | cCx (core : Nat) (reg : SramRead) (k : Nat) (j : Nat)
  /-- C_MERGE (R262). -/
  | cMerge (core : Nat) (vd : Nat) (va : Nat) (vb : SramRead)
  /-- LD_V (R260). -/
  | ldV (core : Nat) (vd : Nat) (addr : SramRead)
  /-- ST_V (R260). -/
  | stV (core : Nat) (vs : SramRead) (addr : Nat)
  /-- LD_S (R260). -/
  | ldS (core : Nat) (xd : Nat) (addr : SramRead)
  /-- TILE_GET (R316). -/
  | tileGet (core : Nat) (desc : DescAt)
  /-- TILE_PUT (R316). -/
  | tilePut (core : Nat) (desc : DescAt)
  /-- JRO_PUT (R390). -/
  | jroPut (core : Nat) (a : JroArgs)
  /-- JRO_GET (R390). -/
  | jroGet (core : Nat) (a : JroArgs)
  /-- JRO_ATOM (R391). -/
  | jroAtom (core : Nat) (a : JroArgs)
  /-- JRO_NPUT (R392). -/
  | jroNput (core : Nat) (a : JroArgs)
  /-- JRO_TOPK (R393). -/
  | jroTopk (core : Nat) (a : JroArgs)
  /-- SPAWN (R411). -/
  | spawn (core : Nat) (handle : Nat) (args : List Byte)
  /-- SEM_ACQ (R426). -/
  | semAcq (core : Nat) (sem : Nat)
  /-- SEM_REL (R427). -/
  | semRel (core : Nat) (sem : Nat)
  /-- WAIT (R413). -/
  | waitOn (core : Nat) (on : WaitOn)
  /-- YIELD (R424). -/
  | yieldTask (core : Nat)
  /-- END (R243). -/
  | endTask (core : Nat)
  /-- TASK_DISPATCH (R418). -/
  | taskDispatch (core : Nat)
  /-- TASK_WATCHDOG (R269). -/
  | taskWatchdog (core : Nat)
  /-- LEASE_EXPIRY (R428). -/
  | leaseExpiry (sem : Nat) (ctx : Nat)
  /-- TEARDOWN_COMPLETE (R451). -/
  | teardownComplete (batch : Nat)
  /-- CTX_QUIET_EXPIRY (R414). -/
  | ctxQuietExpiry (ctx : Nat)
  /-- PREEMPT (R421). -/
  | preempt (core : Nat)
  /-- PREEMPT_SAVE (R422). -/
  | preemptSave (core : Nat)
  /-- SHARE_WINDOW (R431). -/
  | shareWindow
  /-- FERRY_MOVE_COMPLETE (R320). -/
  | ferryMoveComplete (move : Nat) (outcome : MoveOutcome)
  /-- FILL_COMPLETE (R324). -/
  | fillComplete (frame : Nat) (outcome : MoveOutcome)
  /-- AGE_TICK (R325). -/
  | ageTick
  /-- SECTOR_READ_COMPLETE (R341). -/
  | sectorReadComplete (space : Nat) (lsn : Nat) (outcome : ReadOutcome)
  /-- PROGRAM_COMPLETE (R349). -/
  | programComplete (block : Nat) (passed : Bool)
  /-- FOLD (R351). -/
  | fold (lun : Nat)
  /-- RECLAIM (R354). -/
  | reclaim (lun : Nat)
  /-- CHECKPOINT (R368). -/
  | checkpoint
  /-- MAP_REBUILD (R359). -/
  | mapRebuild (space : Nat) (page : Nat) (unreadable : List Nat)
  /-- DELTA_STARTUP (R370). -/
  | deltaStartup (targets : List TargetInfo) (failed : List Nat) (verified : Bool)
  /-- FLIT_RECEIVE (R402). -/
  | flitReceive (link : Nat) (flit : Flit) (crcOk : Bool)
  /-- ACK (R389). -/
  | ack (link : Nat) (seq : Nat)
  /-- NAK (R402). -/
  | nak (link : Nat) (seq : Nat)
  /-- CREDIT_RETURN (R398). -/
  | creditReturn (link : Nat) (pair : Nat) (units : Nat)
  /-- REPLAY_TIMEOUT (R402). -/
  | replayTimeout (link : Nat)
  /-- ACK_TIMER (R389). -/
  | ackTimer (link : Nat)
  /-- IDLE_TIMER (R378). -/
  | idleTimer (link : Nat)
  /-- LINK_RX_TIMEOUT (R378). -/
  | linkRxTimeout (link : Nat)
  /-- LANE_FAIL (R372). -/
  | laneFail (link : Nat)
  /-- LINK_TRAIN (R375). -/
  | linkTrain (link : Nat)
  /-- HELLO (R376). -/
  | hello (link : Nat) (node : Nat) (incarnation : Nat) (peerLink : Nat)
  /-- FABRIC_SESSION (R510). -/
  | fabricSession (link : Nat) (hs : Handshake)
  /-- LINK_STEP_TIMEOUT (R375). -/
  | linkStepTimeout (link : Nat)
  /-- LINK_RETRY (R375). -/
  | linkRetry (link : Nat)
  /-- RETRAIN_SLOW (R375). -/
  | retrainSlow (link : Nat)
  /-- TRICKLE (R379). -/
  | trickle (link : Nat)
  /-- TRICKLE_SWITCH (R379). -/
  | trickleSwitch (link : Nat)
  /-- WAKE (R380). -/
  | wake (link : Nat)
  /-- PUT (R390). -/
  | putPacket (pkt : Packet)
  /-- GET (R390). -/
  | getPacket (pkt : Packet)
  /-- ATOMIC (R391). -/
  | atomic (pkt : Packet)
  /-- NPUT (R392). -/
  | nput (pkt : Packet)
  /-- GET_DATA (R390). -/
  | getData (pkt : Packet)
  /-- COMPLETION (R395). -/
  | completion (pkt : Packet)
  /-- UNREACH_TIMEOUT (R384). -/
  | unreachTimeout (dst : Nat)
  /-- FLOW_HOLD_TIMEOUT (R404). -/
  | flowHoldTimeout (src : Nat) (cls : Nat)
  /-- OP_TIMEOUT (R404). -/
  | opTimeout (op : Nat)
  /-- PING (R405). -/
  | ping (pkt : Packet)
  /-- PONG (R405). -/
  | pong (pkt : Packet)
  /-- PROBE_TIMEOUT (R405). -/
  | probeTimeout (node : Nat)
  /-- LOSS_NOTICE (R405). -/
  | lossNotice (pkt : Packet)
  /-- QUARANTINE_NOTICE (R405). -/
  | quarantineNotice (link : Nat)
  /-- LOST_YOU (R406). -/
  | lostYou (link : Nat)
  /-- PEER_SECRET_EXPIRY (R511). -/
  | peerSecretExpiry (node : Nat)
  /-- COLD_RESET (R565). -/
  | coldReset (powerOn : Bool) (pins : Nat)
  /-- PCIE_WARM_RESET (R459). -/
  | pcieWarmReset (cause : WarmCause) (pins : Nat)
  /-- VF_FUNCTION_LEVEL_RESET (R458). -/
  | vfFunctionLevelReset (vf : Nat)
  /-- BUS_MASTER_ENABLE (R460). -/
  | busMasterEnable (fn : Nat) (on : Bool)
  /-- START_UP (R570). -/
  | startUp (selfTest : List Nat)
  /-- BOOT_FAULT (R571). -/
  | bootFault
  /-- CLOCK_LOSS (R564). -/
  | clockLoss (pll : Nat)
  /-- THERMAL_TRIP (R501). -/
  | thermalTrip (tj : Nat)
  /-- POWER_TRIP (R501). -/
  | powerTrip (watts : Nat)
  /-- QUARANTINE_ENTRY (R502). -/
  | quarantineEntry (cause : Nat) (unit : Nat)
  /-- HEADWATER_FAULT (R527). -/
  | headwaterFault (detail : Nat)
  /-- STACK_FAIL (R306). -/
  | stackFail (stack : Nat)
  /-- CHANNEL_FAIL (R357). -/
  | channelFail (part : FlashPart)
  /-- LOG_DRAIN (R600). -/
  | logDrain
  /-- CE_STORM_SECOND (R532). -/
  | ceStormSecond
  /-- HBM_SCRUB (R540). -/
  | hbmScrub (finds : List ScrubFind)
  /-- PLANE_SCRUB (R542). -/
  | planeScrub (stack : Nat)
  /-- SRAM_SCRUB (R543). -/
  | sramScrub (finds : List ScrubFind)
  /-- FLASH_SCRUB (R544). -/
  | flashScrub (weak : List Nat)
  /-- SPILLWAY_SAMPLE (R556). -/
  | spillwaySample (powerW : Nat) (tjC : Nat)
  /-- STANDBY_ENTRY (R574). -/
  | standbyEntry
  /-- WAKE_FROM_STANDBY (R577). -/
  | wakeFromStandby (source : WakeSource)
  /-- STANDBY_RETURN (R578). -/
  | standbyReturn
  /-- GET_VERSION (R506). -/
  | getVersion (port : Nat) (req : List Byte)
  /-- GET_CAPABILITIES (R506). -/
  | getCapabilities (port : Nat) (req : List Byte)
  /-- NEGOTIATE_ALGORITHMS (R506). -/
  | negotiateAlgorithms (port : Nat) (req : List Byte)
  /-- GET_DIGESTS (R506). -/
  | getDigests (port : Nat) (req : List Byte)
  /-- GET_CERTIFICATE (R506). -/
  | getCertificate (port : Nat) (off : Nat) (len : Nat)
  /-- CHALLENGE (R506). -/
  | challenge (port : Nat) (nonce : List Byte)
  /-- GET_MEASUREMENTS (R506). -/
  | getMeasurements (port : Nat) (index : Nat) (nonce : List Byte)
  /-- END_SESSION (R506). -/
  | endSession (port : Nat) (session : Nat)
  /-- HEARTBEAT (R506). -/
  | heartbeat (port : Nat) (session : Nat)
  /-- KEY_UPDATE (R506). -/
  | keyUpdate (port : Nat) (session : Nat)
  /-- KEM_KEY (R506). -/
  | kemKey (port : Nat) (nonce : List Byte)
  /-- KEM_FINISH (R506). -/
  | kemFinish (port : Nat) (cipher : List Byte) (verify : List Byte)
  /-- TENANT_SECRET (R507). -/
  | tenantSecret (port : Nat) (session : Nat) (secret : List Byte)
  /-- IDE_KM (R508). -/
  | ideKm (port : Nat) (session : Nat) (fn : Nat) (keys : List Byte) (enable : Bool)
  /-- ENTDAA (R584). -/
  | entdaa (bus : Nat) (addr : Nat)
  /-- BYPASS (R500). -/
  | bypass
  /-- SAMPLE_PRELOAD (R500). -/
  | samplePreload
  /-- EXTEST (R500). -/
  | extest
  /-- IDCODE (R582). -/
  | idcode
  /-- ERASE_COMPLETE (R353). -/
  | eraseComplete (block : Nat) (passed : Bool)
  /-- FW_IMAGE_WRITTEN (R495). -/
  | fwImageWritten
  /-- MIRROR_REFETCH_TIMEOUT (R237). -/
  | mirrorRefetchTimeout (obj : Nat)
  /-- MIN_RUN_ELAPSED (R421). -/
  | minRunElapsed (core : Nat)
  /-- UPDATE_PART_REROUTE (R442). -/
  | updatePartReroute (batch : Nat) (home : Nat) (needed : Nat) (notHeld : Bool)
  /-- VF_ENABLE_WRITE (R486). -/
  | vfEnableWrite (on : Bool)
  deriving DecidableEq, Repr

end Sys2Proof
end

