-- ==== Sys2Proof/Machine/Tbl.lean ====
section
/-! DEFINITION. Operations of the finite maps, the sparse byte memories and the byte strings that State is made of. -/

namespace Sys2Proof

/-- The entry of key `k`. -/
def Tbl.find {α : Type} (k : Nat) : Tbl α → Option α
  | [] => none
  | (j, a) :: t => if j = k then some a else Tbl.find k t

/-- Sets the entry of key `k`, keeping the keys rising. -/
def Tbl.put {α : Type} (k : Nat) (a : α) : Tbl α → Tbl α
  | [] => [(k, a)]
  | (j, b) :: t => if k < j then (k, a) :: (j, b) :: t else if j = k then (k, a) :: t else (j, b) :: Tbl.put k a t

/-- Removes the entry of key `k`. -/
def Tbl.erase {α : Type} (k : Nat) : Tbl α → Tbl α
  | [] => []
  | (j, b) :: t => if j = k then Tbl.erase k t else (j, b) :: Tbl.erase k t

/-- The entry of key `k`, or `d`. -/
def Tbl.getD {α : Type} (k : Nat) (d : α) (t : Tbl α) : α := (Tbl.find k t).getD d

/-- Applies `f` to the entry of key `k` where there is one. -/
def Tbl.upd {α : Type} (k : Nat) (f : α → α) : Tbl α → Tbl α
  | [] => []
  | (j, b) :: t => if j = k then (j, f b) :: t else (j, b) :: Tbl.upd k f t

/-- Applies `f` to every entry. -/
def Tbl.mapVals {α β : Type} (f : Nat → α → β) (t : Tbl α) : Tbl β := t.map (fun p => (p.1, f p.1 p.2))

/-- The keys in rising order. -/
def Tbl.keys {α : Type} (t : Tbl α) : List Nat := t.map (·.1)

/-- The values in key order. -/
def Tbl.vals {α : Type} (t : Tbl α) : List α := t.map (·.2)

/-- Key `k` has an entry. -/
def Tbl.has {α : Type} (k : Nat) (t : Tbl α) : Bool := (Tbl.find k t).isSome

/-- Keeps the entries that satisfy `p`. -/
def Tbl.keep {α : Type} (p : Nat → α → Bool) (t : Tbl α) : Tbl α := t.filter (fun x => p x.1 x.2)

/-- The least number below `n` that is no key: `fuel` candidates are tried from `k` up. -/
def Tbl.freeFrom {α : Type} (t : Tbl α) : Nat → Nat → Option Nat
  | 0, _ => none
  | fuel + 1, k => if Tbl.has k t then Tbl.freeFrom t fuel (k + 1) else some k

/-- What a byte that nothing has written reads as: storage is zeroed before it is first used (R314). -/
def Mem.unlisted : Byte := 0

/-- The byte at `a`. -/
def Mem.read (m : Mem) (a : Nat) : Byte := Tbl.getD a Mem.unlisted m

/-- Writes one byte, keeping the canonical form. -/
def Mem.write (m : Mem) (a : Nat) (b : Byte) : Mem :=
  if b = Mem.unlisted then Tbl.erase a m else Tbl.put a b m

/-- The keys rise strictly from above `lo` on. -/
def Tbl.rising {α : Type} : Nat → Tbl α → Bool
  | _, [] => true
  | lo, (k, _) :: t => decide (lo ≤ k) && Tbl.rising (k + 1) t

/-- The canonical form of a sparse byte memory: rising addresses, no byte that an unlisted address reads as. -/
def Mem.wf (m : Mem) : Bool := Tbl.rising 0 m && m.all (fun c => decide (c.2 ≠ Mem.unlisted))

/-- Writes a byte string from address `a` up. -/
def Mem.writeBytes (m : Mem) (a : Nat) : List Byte → Mem
  | [] => m
  | b :: bs => Mem.writeBytes (Mem.write m a b) (a + 1) bs

/-- Reads `n` bytes from address `a` up. -/
def Mem.readBytes (m : Mem) (a n : Nat) : List Byte := (List.range n).map (fun i => Mem.read m (a + i))

/-- Zeroes the bytes of `[a, a + n)`. -/
def Mem.zeroRange (m : Mem) (a n : Nat) : Mem := m.filter (fun c => decide (c.1 < a) || decide (a + n ≤ c.1))

/-- The number a little-endian byte string spells (Table SCP-2). -/
def leNat : List Byte → Nat
  | [] => 0
  | b :: bs => b.toNat + 256 * leNat bs

/-- The low `n` bytes of `v`, little-endian (Table SCP-2). -/
def le : Nat → Nat → List Byte
  | 0, _ => []
  | n + 1, v => BitVec.ofNat 8 v :: le n (v / 256)

/-- `n` bytes from offset `off` of a byte string; bytes beyond its end read zero. -/
def bytesAt (bs : List Byte) (off n : Nat) : List Byte :=
  (List.range n).map (fun i => (bs.drop off).getD i 0)

/-- The little-endian number of `n` bytes at offset `off`. -/
def natAt (bs : List Byte) (off n : Nat) : Nat := leNat (bytesAt bs off n)

/-- `n` zero bytes. -/
def zeros (n : Nat) : List Byte := List.replicate n 0

/-- A byte string padded with zeros to a multiple of `n` bytes. -/
def padTo (n : Nat) (bs : List Byte) : List Byte := bs ++ zeros ((n - bs.length % n) % n)

/-- Bits `[lo + w - 1 : lo]` of `v`. -/
def bits (v lo w : Nat) : Nat := v / 2 ^ lo % 2 ^ w

/-- Bit `i` of `v`. -/
def bit (v i : Nat) : Bool := v / 2 ^ i % 2 = 1

/-- `v` with its `w` bits from `lo` up replaced by `x`. -/
def setBits (v lo w x : Nat) : Nat := v / 2 ^ (lo + w) * 2 ^ (lo + w) + x % 2 ^ w * 2 ^ lo + v % 2 ^ lo

/-- The number of one bits among the low `n` bits of `v`. -/
def popCount : Nat → Nat → Nat
  | 0, _ => 0
  | n + 1, v => v % 2 + popCount n (v / 2)

/-- `0` or `1`. -/
def b2n (b : Bool) : Nat := if b then 1 else 0

/-- The positions below `n` whose bit of `v` is one, in rising order. -/
def bitList (n v : Nat) : List Nat := (List.range n).filter (fun i => bit v i)

/-- The greatest 64-bit number; event counters stop there (R553). -/
def max64 : Nat := 18446744073709551615

/-- A 64-bit event counter counts and saturates (R553). -/
def satAdd (a n : Nat) : Nat := Nat.min max64 (a + n)

/-- Whether `n` is a power of two, tried up to `2 ^ 32`. -/
def isPow2 (n : Nat) : Bool := (List.range 33).any (fun i => decide (n = 2 ^ i))

/-- Whether `x` is ahead of or equal to `y` within the half window of a wrapping `w`-bit number (R374). -/
def seqGe (w x y : Nat) : Bool := decide ((x + 2 ^ w - y % 2 ^ w) % 2 ^ w < 2 ^ (w - 1))

/-- The first element that satisfies `p`, and the list without it. -/
def takeFirst {α : Type} (p : α → Bool) : List α → Option (α × List α)
  | [] => none
  | a :: t => if p a then some (a, t) else (takeFirst p t).map (fun r => (r.1, a :: r.2))

/-- Inserts `a` before the first element it is less than: a stable insertion. -/
def insBy {α : Type} (lt : α → α → Bool) (a : α) : List α → List α
  | [] => [a]
  | b :: t => if lt a b then a :: b :: t else b :: insBy lt a t

/-- Stable insertion sort. -/
def sortBy {α : Type} (lt : α → α → Bool) (l : List α) : List α := l.foldl (fun acc a => insBy lt a acc) []

/-- The list without repeats, first occurrences kept. -/
def dedup (l : List Nat) : List Nat := l.foldl (fun acc a => if acc.contains a then acc else acc ++ [a]) []

/-- Sets element `i` of a list where it exists. -/
def setAt {α : Type} : List α → Nat → α → List α
  | [], _, _ => []
  | _ :: t, 0, a => a :: t
  | b :: t, i + 1, a => b :: setAt t i a

/-- The least of a list of numbers. -/
def minL : List Nat → Option Nat
  | [] => none
  | a :: t => some (t.foldl Nat.min a)

/-- The greatest of a list of numbers, 0 for none. -/
def maxL (l : List Nat) : Nat := l.foldl Nat.max 0

/-- The sum of a list of numbers. -/
def sumL (l : List Nat) : Nat := l.foldl (· + ·) 0

/-- `a / b` rounded up. -/
def cdiv (a b : Nat) : Nat := (a + b - 1) / b

/-- `a` rounded up to a multiple of `b`. -/
def roundUp (a b : Nat) : Nat := cdiv a b * b

end Sys2Proof
end

