-- ==== Sys2Proof/Machine/Ecc.lean ====
section
/-! DEFINITION. The symbol code of HBM and of mesh words, and the code of on-die SRAM words (chapter 16: R517 to R520). -/

namespace Sys2Proof

/-! ### GF(2⁸) -/

/-- x · a modulo a field polynomial, of which `poly` gives the coefficients below x⁸. -/
def gfDouble (poly a : Nat) : Nat := (2 * a ^^^ (if 128 ≤ a then poly else 0)) % 256

/-- a · b in the field. -/
def gfMul (poly a b : Nat) : Nat :=
  ((List.range 8).foldl (fun (acc : Nat × Nat) i => (if bit b i then acc.1 ^^^ acc.2 else acc.1, gfDouble poly acc.2)) (0, a)).1

/-- The field polynomial of R517, x⁸ + x⁴ + x³ + x² + 1. -/
def symPoly : Nat := 0x1D

/-- α^n. -/
def symPow : Nat → Nat
  | 0 => 1
  | n + 1 => gfDouble symPoly (symPow n)

/-! ### The symbol code -/

/-- The value of a polynomial at a point, its coefficients from the greatest power down. -/
def gfEval (poly : Nat) (l : List Nat) (x : Nat) : Nat := l.foldl (fun v c => gfMul poly v x ^^^ c) 0

/-- The syndrome of 68 symbols (R517): the values at α⁰, α¹, α² and α³ of the polynomial that they spell from x⁶⁷ down. -/
def symSyndrome (word : List Nat) : List Nat := (List.range 4).map (fun j => gfEval symPoly word (symPow j))

/-- The generator (x − α⁰)(x − α¹)(x − α²)(x − α³), from x³ down: its leading coefficient is 1. -/
def symGen : List Nat :=
  ((List.range 4).foldl (fun (g : List Nat) j => List.zipWith (· ^^^ ·) (g ++ [0]) (0 :: g.map (gfMul symPoly (symPow j)))) [1]).drop 1

/-- The check bytes c₀ to c₃ of data bytes d₀ to d₆₃ (R517): the remainder of their polynomial times x⁴ by the generator. -/
def symCheck (data : List Nat) : List Nat :=
  data.foldl (fun r d =>
    let f := r.headD 0 ^^^ d
    List.zipWith (fun a g => a ^^^ gfMul symPoly f g) (r.drop 1 ++ [0]) symGen) [0, 0, 0, 0]

/-- The mask that poison-marks a codeword (R519), over its check bytes. -/
def poisonMask : List Nat := [0x3C, 0xA5, 0x5A, 0xC3]

/-- The syndrome that this mask gives. -/
def poisonSyn : List Nat := symSyndrome (List.replicate 64 0 ++ poisonMask)

/-- A symbol error: index of the symbol, d₀ first, and what the symbol is XORed with. -/
abbrev SymErr := Nat × Nat

/-- An error of some symbols as 68 symbols. -/
def symWord (e : List SymErr) : List Nat :=
  (List.range 68).map (fun i => e.foldl (fun v x => if x.1 = i then v ^^^ x.2 % 256 else v) 0)

/-- The index of the symbol to which the error of a syndrome is confined, if there is one. -/
def symSingle (syn : List Nat) : Option Nat :=
  let v := syn.headD 0
  if v = 0 then none
  else (List.range 68).find? (fun i => (List.range 4).all (fun j => decide (syn.getD j 0 = gfMul symPoly v (symPow (j * (67 - i))))))

/-- The outcome that the decoder gives a syndrome (Table ERR-1). -/
def symDecode (syn : List Nat) : EccOutcome :=
  if syn.all (fun v => decide (v = 0)) then .clean
  else if syn = poisonSyn then .poisoned
  else match symSingle syn with
    | some i => .corrected i
    | none => .uncorrectable

/-- What the read of a codeword meets that suffers an error, poison-marked or not (R518, R519): the code is linear, so the syndrome is that of the error and
of the mask. -/
def symOutcome (marked : Bool) (e : List SymErr) : EccOutcome :=
  symDecode (List.zipWith (· ^^^ ·) (symSyndrome (symWord e)) (if marked then poisonSyn else [0, 0, 0, 0]))

/-! ### SRAM words -/

/-- What the read of an SRAM word of 72 bits meets, of which some are flipped (R520): one is corrected, more are taken as detected; `poisoned` where the word
holds poisoned data. -/
def bitOutcome (poisoned : Bool) (e : List Nat) : EccOutcome :=
  if poisoned then .poisoned
  else match e with
    | [] => .clean
    | [i] => .corrected i
    | _ => .uncorrectable

end Sys2Proof
end

