-- ==== Sys2Proof/Machine/Aes.lean ====
section
/-! DEFINITION. The sector encryption of R347: AES-256 (FIPS 197) in XTS mode (IEEE 1619) on data units of 4,096 bytes. -/

namespace Sys2Proof

/-- The field polynomial of AES, x⁸ + x⁴ + x³ + x + 1. -/
def aesPoly : Nat := 0x1B

/-- a^254, the inverse of a byte, and 0 for 0: the product of the squares a², a⁴, …, a¹²⁸. -/
def gfInv (a : Nat) : Nat :=
  ((List.range 7).foldl (fun (p : Nat × Nat) _ => let sq := gfMul aesPoly p.1 p.1; (sq, gfMul aesPoly p.2 sq)) (a, 1)).2

/-- A byte rotated left. -/
def rotByte (b n : Nat) : Nat := (b * 2 ^ n + b * 2 ^ n / 256) % 256

/-- The substitution of AES: the inverse, then the affine map. -/
def aesSub (a : Nat) : Nat := let b := gfInv (a % 256); b ^^^ rotByte b 1 ^^^ rotByte b 2 ^^^ rotByte b 3 ^^^ rotByte b 4 ^^^ 0x63

/-- Bytewise exclusive or. -/
def xorAll (a b : List Nat) : List Nat := List.zipWith (· ^^^ ·) a b

/-- The 60 words of the key schedule, newest first, from word `i` on for `n` words. -/
def aesExpand : Nat → Nat → Nat → List (List Nat) → List (List Nat)
  | 0, _, _, ws => ws
  | n + 1, i, rcon, ws =>
    let t := ws.headD []
    let turned := (t.drop 1 ++ t.take 1).map aesSub
    let f := if i % 8 = 0 then xorAll turned [rcon, 0, 0, 0] else if i % 8 = 4 then t.map aesSub else t
    aesExpand n (i + 1) (if i % 8 = 0 then gfDouble aesPoly rcon else rcon) (xorAll (ws.getD 7 []) f :: ws)

/-- The 15 round keys of a 256-bit key, 16 bytes each. -/
def aesKeys (key : List Nat) : List (List Nat) :=
  let first := (List.range 8).map (fun i => (key.drop (4 * i)).take 4)
  let ws := (aesExpand 52 8 1 first.reverse).reverse
  (List.range 15).map (fun r => ((ws.drop (4 * r)).take 4).flatten)

/-- Byte (row r, column c) of a block stands at 4 c + r; row r moves left by r columns. -/
def aesRows (b : List Nat) : List Nat := (List.range 16).map (fun i => b.getD ((i + 4 * (i % 4)) % 16) 0)

/-- One column times 3x³ + x² + x + 2. -/
def aesMix (col : List Nat) : List Nat :=
  (List.range 4).map (fun r =>
    let at_ (j : Nat) : Nat := col.getD ((r + j) % 4) 0
    gfMul aesPoly (at_ 0) 2 ^^^ gfMul aesPoly (at_ 1) 3 ^^^ at_ 2 ^^^ at_ 3)

/-- One block under the round keys. -/
def aesBlock (keys : List (List Nat)) (b : List Nat) : List Nat :=
  let start := xorAll b (keys.headD [])
  let mid := ((keys.drop 1).take 13).foldl (fun x k =>
    let y := aesRows (x.map aesSub)
    xorAll ((List.range 4).flatMap (fun c => aesMix ((y.drop (4 * c)).take 4))) k) start
  xorAll (aesRows (mid.map aesSub)) (keys.getD 14 [])

/-- A tweak of 128 bits times α: x¹²⁸ + x⁷ + x² + x + 1. -/
def xtsNext (t : Nat) : Nat := (2 * t ^^^ (if 2 ^ 127 ≤ t then 0x87 else 0)) % 2 ^ 128

/-- The bytes of a byte string as numbers. -/
def byteNats (bs : List Byte) : List Nat := bs.map (·.toNat)

/-- Encrypts `n` blocks, each masked by the running tweak before and after. -/
def xtsBlocks (keys : List (List Nat)) : Nat → Nat → List Nat → List Nat
  | 0, _, _ => []
  | n + 1, t, data =>
    let mask := byteNats (le 16 t)
    xorAll (aesBlock keys (xorAll (data.take 16) mask)) mask ++ xtsBlocks keys n (xtsNext t) (data.drop 16)

/-- AES-256-XTS of a data unit under a 512-bit key, whose second half encrypts the tweak. -/
def xtsEncrypt (key : List Byte) (tweak : Nat) (data : List Byte) : List Byte :=
  let t := aesBlock (aesKeys (byteNats (key.drop 32))) (byteNats (le 16 tweak))
  (xtsBlocks (aesKeys (byteNats (key.take 32))) (data.length / 16) (leNat (t.map (BitVec.ofNat 8))) (byteNats data)).map (BitVec.ofNat 8)

/-- The tweak of a sector (R347): ADDR in [39:0], SEAL_TAG in [87:40]. -/
def sectorTweak (addr sealTag : Nat) : Nat := addr % 2 ^ 40 + sealTag % 2 ^ 48 * 2 ^ 40

end Sys2Proof
end

