-- ==== Sys2Proof/Machine/Fp.lean ====
section
/-! DEFINITION. Floating-point arithmetic on bit patterns: FP32, FP16 and BF16 with round-to-nearest-even and the two
directed roundings (R46, R53), built on exact dyadic numbers that are rounded once. -/

namespace Sys2Proof

/-- A rounding of the manual: `rne` to nearest even, `down` toward −∞, `up` toward +∞. -/
inductive Rm where
  | rne | down | up
  deriving DecidableEq, Repr

/-- A binary format: `eb` exponent bits and `mb` fraction bits. -/
structure Fmt where
  eb : Nat
  mb : Nat
  deriving DecidableEq, Repr

/-- FP32 (R46). -/
def fmt32 : Fmt := ⟨8, 23⟩
/-- FP16 (Table COL-5). -/
def fmt16 : Fmt := ⟨5, 10⟩
/-- BF16 (R46). -/
def fmtB16 : Fmt := ⟨8, 7⟩

/-- What a pattern stands for: NaN, an infinity, or the number (−1)^neg · m · 2^e. -/
inductive Fv where
  | nan
  | inf (neg : Bool)
  | fin (neg : Bool) (m : Nat) (e : Int)
  deriving DecidableEq, Repr

/-- The exact number m · 2^e. -/
structure Dy where
  m : Int
  e : Int
  deriving DecidableEq, Repr

/-- Exponent of the least bit of the format's subnormal numbers. -/
def Fmt.emin (F : Fmt) : Int := 2 - (2 ^ (F.eb - 1) : Nat) - F.mb

/-- Reads a pattern. -/
def Fmt.dec (F : Fmt) (w : Nat) : Fv :=
  let neg := bit w (F.eb + F.mb)
  let ex := bits w F.mb F.eb
  let fr := bits w 0 F.mb
  if ex = 2 ^ F.eb - 1 then (if fr = 0 then .inf neg else .nan)
  else if ex = 0 then .fin neg fr F.emin
  else .fin neg (fr + 2 ^ F.mb) (F.emin + ex - 1)

/-- The pattern of +∞. -/
def Fmt.infPat (F : Fmt) : Nat := (2 ^ F.eb - 1) * 2 ^ F.mb
/-- The pattern that stands for NaN inside an evaluation; no rule lets it out but as a result of a vector instruction, where `Fmt.quiet` redraws it (log 9). -/
def Fmt.nanPat (F : Fmt) : Nat := (2 ^ F.eb - 1) * 2 ^ F.mb + 2 ^ (F.mb - 1)
/-- The sign bit's weight. -/
def Fmt.signW (F : Fmt) : Nat := 2 ^ (F.eb + F.mb)

/-- How a magnitude is rounded. -/
inductive Mag where
  | nearest | trunc | away
  deriving DecidableEq, Repr

/-- Rounds the magnitude n ÷ d · 2^e (d > 0) to the format, once; overflow gives +∞, or the greatest finite number when truncating. -/
def Fmt.roundMag (F : Fmt) (md : Mag) (n d : Nat) (e : Int) : Nat :=
  if n = 0 then 0 else
  let l : Int := (Nat.log2 n : Int) - Nat.log2 d + e
  if l + 2 < F.emin then (match md with | .away => 1 | _ => 0) else
  let x0 : Int := max F.emin (l - 1 - F.mb)
  let scaled (x : Int) : Nat × Nat := if x ≤ e then (n * 2 ^ (e - x).toNat, d) else (n, d * 2 ^ (x - e).toNat)
  let p0 := scaled x0
  let x : Int := if 2 ^ (F.mb + 1) ≤ p0.1 / p0.2 then x0 + 1 else x0
  let p := scaled x
  let q := p.1 / p.2
  let r := p.1 % p.2
  let inc := match md with
    | .trunc => false
    | .away => decide (r ≠ 0)
    | .nearest => decide (p.2 < 2 * r) || (decide (2 * r = p.2) && decide (q % 2 = 1))
  let q1 := if inc then q + 1 else q
  let y : Nat × Int := if q1 = 2 ^ (F.mb + 1) then (2 ^ F.mb, x + 1) else (q1, x)
  if y.1 < 2 ^ F.mb then y.1
  else
    let be := (y.2 - F.emin + 1).toNat
    if 2 ^ F.eb - 1 ≤ be then (match md with | .trunc => F.infPat - 1 | _ => F.infPat)
    else be * 2 ^ F.mb + (y.1 - 2 ^ F.mb)

/-- The magnitude rounding that a rounding means for a number of the given sign. -/
def Rm.mag (rm : Rm) (neg : Bool) : Mag :=
  match rm, neg with
  | .rne, _ => .nearest
  | .up, false => .away
  | .up, true => .trunc
  | .down, false => .trunc
  | .down, true => .away

/-- Rounds (−1)^neg · n ÷ d · 2^e to a pattern. -/
def Fmt.round (F : Fmt) (rm : Rm) (neg : Bool) (n d : Nat) (e : Int) : Nat :=
  b2n neg * F.signW + F.roundMag (rm.mag neg) n d e

/-- Rounds an exact number to a pattern; zero gives +0. -/
def Fmt.ofDy (F : Fmt) (rm : Rm) (x : Dy) : Nat := F.round rm (decide (x.m < 0)) x.m.natAbs 1 x.e

/-- Rounds x ÷ d to a pattern. -/
def Fmt.ofDyDiv (F : Fmt) (rm : Rm) (x : Dy) (d : Nat) : Nat := F.round rm (decide (x.m < 0)) x.m.natAbs d x.e

/-- Zero. -/
def Dy.zero : Dy := ⟨0, 0⟩
/-- An integer. -/
def Dy.ofInt (i : Int) : Dy := ⟨i, 0⟩
/-- Negation. -/
def Dy.neg (a : Dy) : Dy := ⟨-a.m, a.e⟩
/-- Exact product. -/
def Dy.mul (a b : Dy) : Dy := ⟨a.m * b.m, a.e + b.e⟩
/-- Exact sum. -/
def Dy.add (a b : Dy) : Dy :=
  if a.e ≤ b.e then ⟨a.m + b.m * (2 ^ (b.e - a.e).toNat : Nat), a.e⟩
  else ⟨a.m * (2 ^ (a.e - b.e).toNat : Nat) + b.m, b.e⟩
/-- Exact difference. -/
def Dy.sub (a b : Dy) : Dy := Dy.add a (Dy.neg b)
/-- Magnitude. -/
def Dy.abs (a : Dy) : Dy := ⟨a.m.natAbs, a.e⟩
/-- Product with 2^k. -/
def Dy.scale (a : Dy) (k : Int) : Dy := ⟨a.m, a.e + k⟩
/-- a < b. -/
def Dy.lt (a b : Dy) : Bool := decide ((Dy.sub a b).m < 0)
/-- a ≤ b. -/
def Dy.le (a b : Dy) : Bool := decide ((Dy.sub a b).m ≤ 0)
/-- The lesser. -/
def Dy.min (a b : Dy) : Dy := if Dy.lt b a then b else a
/-- The greater. -/
def Dy.max (a b : Dy) : Dy := if Dy.lt a b then b else a
/-- Exact sum of a list. -/
def Dy.sum (l : List Dy) : Dy := l.foldl Dy.add Dy.zero
/-- The greatest integer not above. -/
def Dy.floor (a : Dy) : Int := if 0 ≤ a.e then a.m * (2 ^ a.e.toNat : Nat) else Int.fdiv a.m (2 ^ (-a.e).toNat : Nat)

/-- The exact value of a finite pattern; `none` for NaN and the infinities. -/
def Fmt.dy? (F : Fmt) (w : Nat) : Option Dy :=
  match F.dec w with
  | .fin neg m e => some ⟨if neg then -(m : Int) else m, e⟩
  | _ => none

/-- The exact value of a finite pattern; zero for the others. -/
def Fmt.dy (F : Fmt) (w : Nat) : Dy := (F.dy? w).getD Dy.zero

/-- The pattern is a finite number. -/
def Fmt.finite (F : Fmt) (w : Nat) : Bool := (F.dy? w).isSome
/-- The pattern is a NaN. -/
def Fmt.isNan (F : Fmt) (w : Nat) : Bool := decide (F.dec w = .nan)

/-- The nearest integer to n ÷ d (d > 0), halves to even. -/
def rneDiv (n : Int) (d : Nat) : Int :=
  let q := Int.fdiv n d
  let r := n - q * d
  if (d : Int) < 2 * r ∨ (2 * r = d ∧ q % 2 = 1) then q + 1 else q

/-- The nearest integer to a ÷ b for b > 0, halves to even. -/
def Dy.rneQuot (a b : Dy) : Int :=
  if b.e ≤ a.e then rneDiv (a.m * (2 ^ (a.e - b.e).toNat : Nat)) b.m.toNat
  else rneDiv a.m (b.m.toNat * 2 ^ (b.e - a.e).toNat)

/-- Limits `x` to `[lo, hi]`. -/
def clampI (lo hi x : Int) : Int := if x < lo then lo else if hi < x then hi else x

/-- Bits of the integer square root, from bit `b - 1` down. -/
def isqrtGo : Nat → Nat → Nat → Nat
  | 0, _, acc => acc
  | b + 1, n, acc => if (acc + 2 ^ b) * (acc + 2 ^ b) ≤ n then isqrtGo b n (acc + 2 ^ b) else isqrtGo b n acc

/-- The greatest integer whose square is at most `n`. -/
def isqrt (n : Nat) : Nat := isqrtGo (Nat.log2 n / 2 + 1) n 0

/-- The square root of a non-negative exact number, rounded once to the format. -/
def Fmt.sqrtDy (F : Fmt) (rm : Rm) (x : Dy) : Nat :=
  let n0 := x.m.natAbs
  let p : Nat × Int := if x.e % 2 = 0 then (n0, x.e) else (2 * n0, x.e - 1)
  let n := p.1 * 2 ^ (2 * (F.mb + 3))
  let q := isqrt n
  let st := if q * q = n then 0 else 1
  F.round rm false (2 * q + st) 2 (p.2 / 2 - ((F.mb + 3 : Nat) : Int))

/-- Exact zero of a sum, by IEEE 754: −0 when rounding down, else +0. -/
def Fmt.zeroOf (F : Fmt) (rm : Rm) : Nat := match rm with | .down => F.signW | _ => 0

/-- Sum of two patterns. -/
def Fmt.add (F : Fmt) (rm : Rm) (a b : Nat) : Nat :=
  match F.dec a, F.dec b with
  | .nan, _ => F.nanPat
  | _, .nan => F.nanPat
  | .inf s, .inf t => if s = t then b2n s * F.signW + F.infPat else F.nanPat
  | .inf s, _ => b2n s * F.signW + F.infPat
  | _, .inf t => b2n t * F.signW + F.infPat
  | .fin s m e, .fin t n f =>
    let z := Dy.add ⟨if s then -(m : Int) else m, e⟩ ⟨if t then -(n : Int) else n, f⟩
    if z.m = 0 then (if s = t then b2n s * F.signW else F.zeroOf rm) else F.ofDy rm z

/-- Negation of a pattern. -/
def Fmt.neg (F : Fmt) (a : Nat) : Nat := if bit a (F.eb + F.mb) then a - F.signW else a + F.signW

/-- Magnitude of a pattern. -/
def Fmt.abs (F : Fmt) (a : Nat) : Nat := a % F.signW

/-- Difference of two patterns. -/
def Fmt.sub (F : Fmt) (rm : Rm) (a b : Nat) : Nat := F.add rm a (F.neg b)

/-- Product of two patterns. -/
def Fmt.mul (F : Fmt) (rm : Rm) (a b : Nat) : Nat :=
  match F.dec a, F.dec b with
  | .nan, _ => F.nanPat
  | _, .nan => F.nanPat
  | .inf s, .inf t => b2n (s != t) * F.signW + F.infPat
  | .inf s, .fin t n _ => if n = 0 then F.nanPat else b2n (s != t) * F.signW + F.infPat
  | .fin s m _, .inf t => if m = 0 then F.nanPat else b2n (s != t) * F.signW + F.infPat
  | .fin s m e, .fin t n f => F.round rm (s != t) (m * n) 1 (e + f)

/-- Quotient of two patterns. -/
def Fmt.div (F : Fmt) (rm : Rm) (a b : Nat) : Nat :=
  match F.dec a, F.dec b with
  | .nan, _ => F.nanPat
  | _, .nan => F.nanPat
  | .inf _, .inf _ => F.nanPat
  | .inf s, .fin t _ _ => b2n (s != t) * F.signW + F.infPat
  | .fin s _ _, .inf t => b2n (s != t) * F.signW
  | .fin s m e, .fin t n f =>
    if n = 0 then (if m = 0 then F.nanPat else b2n (s != t) * F.signW + F.infPat)
    else F.round rm (s != t) m n (e - f)

/-- Square root of a pattern. -/
def Fmt.sqrt (F : Fmt) (rm : Rm) (a : Nat) : Nat :=
  match F.dec a with
  | .nan => F.nanPat
  | .inf s => if s then F.nanPat else F.infPat
  | .fin s m e => if m = 0 then b2n s * F.signW else if s then F.nanPat else F.sqrtDy rm ⟨m, e⟩

/-- a · b + c, rounded once. -/
def Fmt.fma (F : Fmt) (rm : Rm) (a b c : Nat) : Nat :=
  match F.dec a, F.dec b, F.dec c with
  | .fin s m e, .fin t n f, .fin u k g =>
    let p : Dy := ⟨if s != t then -((m * n : Nat) : Int) else ((m * n : Nat) : Int), e + f⟩
    let z := Dy.add p ⟨if u then -(k : Int) else k, g⟩
    if z.m = 0 then (if (s != t) = u then b2n u * F.signW else F.zeroOf rm) else F.ofDy rm z
  | .fin _ _ _, .fin _ _ _, _ => F.add rm 0 c
  | _, _, _ =>
    -- the product is NaN or infinite, whatever rounding
    F.add rm (F.mul rm a b) c

/-- a < b for numbers and infinities; false with a NaN. -/
def Fmt.lt (F : Fmt) (a b : Nat) : Bool :=
  match F.dec a, F.dec b with
  | .nan, _ => false
  | _, .nan => false
  | .inf s, .inf t => s && !t
  | .inf s, _ => s
  | _, .inf t => !t
  | .fin s m e, .fin t n f => Dy.lt ⟨if s then -(m : Int) else m, e⟩ ⟨if t then -(n : Int) else n, f⟩

/-- a ≤ b for numbers and infinities; false with a NaN. -/
def Fmt.le (F : Fmt) (a b : Nat) : Bool := !F.isNan a && !F.isNan b && !F.lt b a

/-- Converts a pattern between formats, rounded once. -/
def Fmt.conv (F G : Fmt) (rm : Rm) (a : Nat) : Nat :=
  match F.dec a with
  | .nan => G.nanPat
  | .inf s => b2n s * G.signW + G.infPat
  | .fin s m e => G.round rm s m 1 e

/-- The greater of two patterns; a NaN gives NaN. -/
def Fmt.max (F : Fmt) (a b : Nat) : Nat := if F.isNan a || F.isNan b then F.nanPat else if F.lt a b then b else a
/-- The lesser of two patterns; a NaN gives NaN. -/
def Fmt.min (F : Fmt) (a b : Nat) : Nat := if F.isNan a || F.isNan b then F.nanPat else if F.lt b a then b else a

/-- FP32 sum. -/
def fadd (rm : Rm) (a b : F32) : F32 := BitVec.ofNat 32 (fmt32.add rm a.toNat b.toNat)
/-- FP32 difference. -/
def fsub (rm : Rm) (a b : F32) : F32 := BitVec.ofNat 32 (fmt32.sub rm a.toNat b.toNat)
/-- FP32 product. -/
def fmul (rm : Rm) (a b : F32) : F32 := BitVec.ofNat 32 (fmt32.mul rm a.toNat b.toNat)
/-- FP32 quotient. -/
def fdiv (rm : Rm) (a b : F32) : F32 := BitVec.ofNat 32 (fmt32.div rm a.toNat b.toNat)
/-- FP32 square root. -/
def fsqrt (rm : Rm) (a : F32) : F32 := BitVec.ofNat 32 (fmt32.sqrt rm a.toNat)
/-- FP32 fused multiply-add. -/
def ffma (rm : Rm) (a b c : F32) : F32 := BitVec.ofNat 32 (fmt32.fma rm a.toNat b.toNat c.toNat)
/-- a < b in FP32. -/
def flt (a b : F32) : Bool := fmt32.lt a.toNat b.toNat
/-- a ≤ b in FP32. -/
def fle (a b : F32) : Bool := fmt32.le a.toNat b.toNat
/-- The greater FP32 number. -/
def fmax (a b : F32) : F32 := BitVec.ofNat 32 (fmt32.max a.toNat b.toNat)
/-- The lesser FP32 number. -/
def fmin (a b : F32) : F32 := BitVec.ofNat 32 (fmt32.min a.toNat b.toNat)
/-- Negation. -/
def fneg (a : F32) : F32 := BitVec.ofNat 32 (fmt32.neg a.toNat)
/-- Magnitude. -/
def fabs (a : F32) : F32 := BitVec.ofNat 32 (fmt32.abs a.toNat)
/-- The pattern is a finite number. -/
def ffinite (a : F32) : Bool := fmt32.finite a.toNat
/-- The pattern is a NaN. -/
def fnan (a : F32) : Bool := fmt32.isNan a.toNat
/-- The exact value; zero for NaN and the infinities. -/
def fdy (a : F32) : Dy := fmt32.dy a.toNat
/-- Rounds an exact number to FP32. -/
def f32OfDy (rm : Rm) (x : Dy) : F32 := BitVec.ofNat 32 (fmt32.ofDy rm x)
/-- Rounds an integer to FP32. -/
def f32OfInt (rm : Rm) (i : Int) : F32 := f32OfDy rm (Dy.ofInt i)
/-- Widens BF16 to FP32 exactly (R46). -/
def bf16to32 (a : F16) : F32 := BitVec.ofNat 32 (a.toNat * 65536)
/-- Rounds FP32 to BF16, to nearest even (R49). -/
def f32toBf16 (a : F32) : F16 := BitVec.ofNat 16 (fmt32.conv fmtB16 .rne a.toNat)
/-- +∞. -/
def f32Inf : F32 := 0x7F800000#32
/-- −∞. -/
def f32NegInf : F32 := 0xFF800000#32
/-- 1.0. -/
def f32One : F32 := 0x3F800000#32

/-- A lower end that is NaN becomes −∞ (R53). -/
def loEnd (a : F32) : F32 := if fnan a then f32NegInf else a
/-- An upper end that is NaN becomes +∞ (R53). -/
def hiEnd (a : F32) : F32 := if fnan a then f32Inf else a

/-- One halving of the pairwise tree. -/
def pairStep (rm : Rm) : List F32 → List F32
  | a :: b :: t => fadd rm a b :: pairStep rm t
  | l => l

/-- `k` halvings. -/
def pairLoop (rm : Rm) : Nat → List F32 → List F32
  | 0, l => l
  | k + 1, l => pairLoop rm k (pairStep rm l)

/-- The exponent of the smallest power of two not below `n`. -/
def ceilLog2 (n : Nat) : Nat := if n ≤ 1 then 0 else Nat.log2 (n - 1) + 1

/-- The pairwise sum of R47, every addition rounded as `rm` says. -/
def pairwise (rm : Rm) (l : List F32) : F32 :=
  let k := ceilLog2 l.length
  (pairLoop rm k (l ++ List.replicate (2 ^ k - l.length) 0)).getD 0 0

/-- Searches the least pattern among `base … base + 2^b − 1` that satisfies a monotone test, `base + 2^b` when none does. -/
def leastPat (ok : Nat → Bool) : Nat → Nat → Nat
  | 0, base => if ok base then base else base + 1
  | b + 1, base => if ok (base + 2 ^ b - 1) then leastPat ok b base else leastPat ok b (base + 2 ^ b)

/-- The least FP32 number not below |a − ν ÷ √D|, for a, ν ≥ 0: the upward rounding, once, of the exact real number (R37, R602). -/
def absDiffSqrtUp (a nu : Dy) (D : Nat) : F32 :=
  let ok (p : Nat) : Bool :=
    match fmt32.dy? p with
    | none => true
    | some v =>
      let d := Dy.sub a v
      let s := Dy.add a v
      let dd := Dy.ofInt D
      (decide (d.m ≤ 0) || Dy.le (Dy.mul (Dy.mul d d) dd) (Dy.mul nu nu)) && Dy.le (Dy.mul nu nu) (Dy.mul (Dy.mul s s) dd)
  BitVec.ofNat 32 (Nat.min 0x7F800000 (leastPat ok 31 0))

/-- The constants 2^(2^−i) · 2^128, i from 1, and the running product over the bits of a fraction. -/
def exp2Loop : Nat → Nat → Nat → Nat → Nat
  | 0, _, _, acc => acc
  | k + 1, frac, c, acc =>
    let c1 := isqrt (c * 2 ^ 128)
    exp2Loop k frac c1 (if bit frac k then acc * c1 / 2 ^ 128 else acc)

/-- 2^f for an exact f in [0, 1), as a 128-bit fixed-point number; the first 64 bits of f count, which decides every rounding to FP32. -/
def exp2Fix (f : Dy) : Nat :=
  exp2Loop 64 (Int.toNat (Dy.floor (Dy.scale f 64))) (2 ^ 129) (2 ^ 128)

/-- 2^f correctly rounded to FP32, for an exact f in [0, 1) (R157, R257). -/
def exp2Frac (f : Dy) : F32 :=
  if f.m = 0 then f32One else BitVec.ofNat 32 (fmt32.round .rne false (2 * exp2Fix f + 1) 2 (-128))

end Sys2Proof
end

