-- ==== Sys2Proof/Machine/Codes.lean ====
section
/-! DEFINITION. Descriptors, row codes, reference scores and code intervals (chapter 02: R32 to R57, R602, R606; chapter 09: R280). -/

namespace Sys2Proof

/-- DIM of a descriptor. -/
def Desc.dim (d : Desc) : Nat := natAt d.raw 0x20 2
/-- METRIC: 0 inner product, 1 negative squared L2, 2 cosine. -/
def Desc.metric (d : Desc) : Nat := natAt d.raw 0x22 1
/-- CODE_FMT: 0 CODE4, 1 CODE2, 2 CODE1, 3 CODE8, 4 POPULARITY. -/
def Desc.codeFmt (d : Desc) : Nat := natAt d.raw 0x23 1
/-- REF_FMT: 0 BF16, 1 FP32, 2 INT8. -/
def Desc.refFmt (d : Desc) : Nat := natAt d.raw 0x24 1
/-- N_OUTLIER. -/
def Desc.nOut (d : Desc) : Nat := natAt d.raw 0x25 1
/-- A two's complement byte. -/
def sbyte (n : Nat) : Int := if n < 128 then n else (n : Int) - 256
/-- CODE_EXP. -/
def Desc.codeExp (d : Desc) : Int := sbyte (natAt d.raw 0x26 1)
/-- FLAGS. -/
def Desc.flags (d : Desc) : Nat := natAt d.raw 0x27 1
/-- SPAN. -/
def Desc.span (d : Desc) : Nat := natAt d.raw 0x28 2
/-- POP_HOT. -/
def Desc.popHot (d : Desc) : Nat := natAt d.raw 0x2A 2
/-- POP_COLD. -/
def Desc.popCold (d : Desc) : Nat := natAt d.raw 0x2C 2
/-- POP_DECAY_MS. -/
def Desc.popDecay (d : Desc) : Nat := natAt d.raw 0x2E 2
/-- ROW_CAPACITY. -/
def Desc.rowCap (d : Desc) : Nat := natAt d.raw 0x30 8
/-- RETENTION_EPOCHS. -/
def Desc.retEpochs (d : Desc) : Nat := natAt d.raw 0x38 4
/-- RETENTION_MS. -/
def Desc.retMs (d : Desc) : Nat := natAt d.raw 0x3C 4
/-- Entry `i` of OUTLIER_DIMS. -/
def Desc.outDim (d : Desc) (i : Nat) : Nat := natAt d.raw (0x40 + 2 * i) 2
/-- The outlier dimensions. -/
def Desc.outDims (d : Desc) : List Nat := (List.range d.nOut).map d.outDim
/-- The coded dimensions, ascending (R609). -/
def Desc.codedDims (d : Desc) : List Nat := (List.range d.dim).filter (fun j => !d.outDims.contains j)
/-- D_N. -/
def Desc.dn (d : Desc) : Nat := d.dim - d.nOut
/-- Bytes of one element of the input format (R48). -/
def Desc.elemBytes (d : Desc) : Nat := if d.refFmt = 1 then 4 else 2
/-- Bytes of a reference copy (Table COL-3). -/
def Desc.refBytes (d : Desc) : Nat := if d.refFmt = 0 then 2 * d.dim else if d.refFmt = 1 then 4 * d.dim else d.dim + 4

/-- Bits of a code: the descriptor's format, or the row's width under POPULARITY (Table UPD-5). -/
def Desc.bitsOf (d : Desc) (width : Nat) : Nat :=
  match d.codeFmt with
  | 0 => 4
  | 1 => 2
  | 2 => 1
  | 3 => 8
  | _ => if width = 1 then 8 else if width = 2 then 2 else 4

/-- Why a descriptor is refused (R32, Tables COL-2, COL-10), or 0. Of several limits broken the first in the order written here is reported: the spec
gives no order (DESIGN CHOICE, log 121). -/
def Desc.reason (d : Desc) : Nat :=
  let ascending := (List.range d.nOut).all (fun i => decide (d.outDim i < d.dim) && (decide (i = 0) || decide (d.outDim (i - 1) < d.outDim i)))
  let padded := (List.range 32).all (fun i => decide (i < d.nOut) || decide (d.outDim i = 0xFFFF))
  let pop := decide (d.codeFmt = 4)
  if d.dim < 64 ∨ 4096 < d.dim then 0x0001
  else if 2 < d.metric ∨ 4 < d.codeFmt ∨ 2 < d.refFmt then 0x0002
  else if 32 < d.nOut ∨ (d.nOut ≠ 0 ∧ d.refFmt ≠ 0) ∨ !ascending ∨ !padded then 0x0003
  else if pop ∧ 16 < d.span then 0x0009
  else if d.codeExp < -64 ∨ 63 < d.codeExp ∨ 1 < d.flags ∨ d.span < 1 ∨ 4096 < d.span
      ∨ d.rowCap < 1 ∨ 2 ^ 40 - 1 < d.rowCap then 0x000B
  else if pop ∧ (d.popHot < 1 ∨ d.popHot ≤ d.popCold ∨ d.popDecay < 10 ∨ 60000 < d.popDecay) then 0x000B
  else if !pop ∧ (d.popHot ≠ 0 ∨ d.popCold ≠ 0 ∨ d.popDecay ≠ 0) then 0x000B
  else 0

/-- Splits a byte string into `n` little-endian numbers of `k` bytes. -/
def splitNum (k : Nat) : Nat → List Byte → List Nat
  | 0, _ => []
  | n + 1, bs => leNat (bs.take k) :: splitNum k n (bs.drop k)

/-- Elements of a vector in the input format, as FP32 patterns (R48). -/
def Desc.elems (d : Desc) (bs : List Byte) : List F32 :=
  (splitNum d.elemBytes d.dim bs).map (fun w => if d.refFmt = 1 then BitVec.ofNat 32 w else bf16to32 (BitVec.ofNat 16 w))

/-- INT8 codes of a stored INT8 reference copy. -/
def int8Codes (n : Nat) (bs : List Byte) : List Int := (splitNum 1 n bs).map sbyte

/-- The row scale that follows `n` INT8 codes. -/
def int8Scale (n : Nat) (bs : List Byte) : F32 := BitVec.ofNat 32 (natAt bs n 4)

/-- The source vector x of a stored reference copy, as exact numbers over all dimensions. -/
def Desc.source (d : Desc) (ref : List Byte) : List Dy :=
  if d.refFmt = 2 then (int8Codes d.dim ref).map (fun c => Dy.mul (fdy (int8Scale d.dim ref)) (Dy.ofInt c))
  else (d.elems ref).map fdy

/-- The pairwise sum of squares of FP32 elements, every operation rounded as `rm`. -/
def sumSq (rm : Rm) (v : List F32) : F32 := pairwise rm (v.map (fun a => fmul rm a a))

/-- An upper bound of the norm of terms that are rounded upward (R37): squares, pairwise sum and square root rounded upward. -/
def normUp (v : List F32) : F32 := fsqrt .up (sumSq .up v)

/-- Normalisation of R49, steps 1 and 2, or `none` when the norm is zero or infinite. -/
def normalise (v : List F32) : Option (List F32) :=
  let n := fsqrt .rne (sumSq .rne v)
  if n = 0 ∨ !ffinite n then none else some (v.map (fun a => fdiv .rne a n))

/-- The bytes of FP32 values in the input format; BF16 is rounded to nearest even (R49). -/
def Desc.elemBytesOf (d : Desc) (v : List F32) : List Byte :=
  (v.map (fun a => if d.refFmt = 1 then le 4 a.toNat else le 2 (f32toBf16 a).toNat)).flatten

/-- R50: INT8 codes and row scale of FP32 elements. -/
def toInt8 (v : List F32) : List Int × F32 :=
  let mx := (v.map (fun a => Dy.abs (fdy a))).foldl Dy.max Dy.zero
  let s : F32 := if mx.m = 0 then f32One else BitVec.ofNat 32 (fmt32.ofDyDiv .up mx 127)
  (v.map (fun a => clampI (-127) 127 (Dy.rneQuot (fdy a) (fdy s))), s)

/-- Bytes of INT8 codes followed by their scale. -/
def int8Bytes (p : List Int × F32) : List Byte := p.1.map (fun c => BitVec.ofInt 8 c) ++ le 4 p.2.toNat

/-- R48: INT8 codes and power-of-two scale of a query, from FP32 elements. -/
def toInt8Query (v : List F32) : List Int × F32 :=
  let mx := (v.map (fun a => Dy.abs (fdy a))).foldl Dy.max Dy.zero
  -- the least power of two, within the FP32 range, not below max|q| ÷ 127
  let e : Option Nat := (List.range 277).find? (fun (i : Nat) => Dy.le mx (Dy.mul (Dy.ofInt 127) ⟨1, (i : Int) - 149⟩))
  let s : F32 := if mx.m = 0 then f32One else f32OfDy .rne ⟨1, ((e.getD 276 : Nat) : Int) - 149⟩
  (v.map (fun a => clampI (-127) 127 (Dy.rneQuot (fdy a) (fdy s))), s)

/-- The stored reference copy of supplied row data, or `none` when R40 refuses it. -/
def Desc.refOf (d : Desc) (int8 : Bool) (bs : List Byte) : Option (List Byte) :=
  if int8 then
    let cs := int8Codes d.dim bs
    let s := int8Scale d.dim bs
    if !ffinite s ∨ flt 0 s = false ∨ cs.any (fun c => decide (c = -128)) then none
    else if d.metric = 2 then
      (normalise (cs.map (fun c => f32OfDy .rne (Dy.mul (fdy s) (Dy.ofInt c))))).map
        (fun u => int8Bytes (toInt8 (u.map (fun a => bf16to32 (f32toBf16 a)))))
    else some (int8Bytes (cs, s))
  else
    let v := d.elems bs
    if v.any (fun a => !ffinite a) then none
    else
      match if d.metric = 2 then (normalise v).map (fun u => d.elems (d.elemBytesOf u)) else some v with
      | none => none
      | some u => some (if d.refFmt = 2 then int8Bytes (toInt8 u) else d.elemBytesOf u)

/-- The reference query of supplied query data (R48, R49), or `none` when R115 refuses it. -/
def Desc.refQuery (d : Desc) (bs : List Byte) : Option RefQuery :=
  let v := d.elems bs
  if v.any (fun a => !ffinite a) then none
  else
    match if d.metric = 2 then (normalise v).map (fun u => d.elems (d.elemBytesOf u)) else some v with
    | none => none
    | some u =>
      if d.refFmt = 2 then
        let p := toInt8Query u
        some ⟨p.1.map (fun c => f32OfDy .rne (Dy.mul (fdy p.2) (Dy.ofInt c))), p.1, p.2⟩
      else some ⟨u, [], 0⟩

/-- The exact elements of a reference query. -/
def RefQuery.exact (q : RefQuery) : List Dy :=
  if q.d8 = [] then q.vals.map fdy else q.d8.map (fun c => Dy.mul (fdy q.sq) (Dy.ofInt c))

/-- Σ a b over two integer lists. -/
def dotI (a b : List Int) : Int := (List.zipWith (· * ·) a b).foldl (· + ·) 0

/-- −0.0 becomes +0.0 (R52). -/
def noNegZero (a : F32) : F32 := if a = 0x80000000#32 then 0 else a

/-- The reference score of R51. -/
def refScore0 (d : Desc) (q : RefQuery) (ref : List Byte) : F32 :=
  if d.refFmt = 2 then
    let c := int8Codes d.dim ref
    let sx := fdy (int8Scale d.dim ref)
    let sq := fdy q.sq
    let dc := dotI q.d8 c
    if d.metric = 1 then
      let t1 := Dy.mul (Dy.mul sq sq) (Dy.ofInt (dotI q.d8 q.d8))
      let t2 := Dy.mul (Dy.mul (Dy.ofInt 2) (Dy.mul sq sx)) (Dy.ofInt dc)
      let t3 := Dy.mul (Dy.mul sx sx) (Dy.ofInt (dotI c c))
      f32OfDy .rne (Dy.neg (Dy.add (Dy.sub t1 t2) t3))
    else f32OfDy .rne (Dy.mul (Dy.mul sq sx) (Dy.ofInt dc))
  else
    let x := d.elems ref
    if d.metric = 1 then
      fneg (pairwise .rne ((List.zipWith (fun a b => fsub .rne a b) q.vals x).map (fun t => fmul .rne t t)))
    else pairwise .rne (List.zipWith (fun a b => fmul .rne a b) q.vals x)

/-- The reference score of R51, or of R223 with LOGIT_SCALE (1.0 for rows), after R52. -/
def refScore (d : Desc) (q : RefQuery) (logit : F32) (ref : List Byte) : F32 := noNegZero (fmul .rne (refScore0 d q ref) logit)

/-- The sortable key of R146. -/
def sortKey (s : F32) : Nat := if bit s.toNat 31 then 0xFFFFFFFF - s.toNat else s.toNat + 0x80000000

/-- The score a sortable key encodes. -/
def unKey (k : Nat) : F32 := if bit k 31 then BitVec.ofNat 32 (k - 0x80000000) else BitVec.ofNat 32 (0xFFFFFFFF - k)

/-- Packs codes of `w` bits in ascending order, padded to a multiple of 32 bytes (R41, Table COL-4). -/
def packCodes (w : Nat) (cs : List Int) : List Byte :=
  let n := roundUp (cdiv (cs.length * w) 8) 32
  le n ((cs.reverse).foldl (fun acc c => acc * 2 ^ w + (c % ((2 ^ w : Nat) : Int)).toNat) 0)

/-- Unpacks `n` codes of `w` bits; CODE1 bits become +1 and −1. -/
def unpackCodes (w n : Nat) (bs : List Byte) : List Int :=
  let v := leNat bs
  (List.range n).map (fun k =>
    let c := bits v (w * k) w
    if w = 1 then (if c = 1 then 1 else -1) else if 2 ^ (w - 1) ≤ c then (c : Int) - (2 ^ w : Nat) else c)

/-- The least and greatest of a list of exact numbers. -/
def dyRange (l : List Dy) : Dy × Dy :=
  match l with
  | [] => (Dy.zero, Dy.zero)
  | a :: t => (t.foldl Dy.min a, t.foldl Dy.max a)

/-- The stored code parts of a row: code bytes, side record, outlier values (R35 to R43); `w` is the width in bits. -/
def encodeRow (d : Desc) (w : Nat) (ref : List Byte) : List Byte × List Byte × List Byte :=
  let x := d.source ref
  let ce := d.codeExp
  let coded := d.codedDims.map (fun j => x.getD j Dy.zero)
  let y := coded.map (fun a => Dy.scale a (-ce))
  let outs := d.outDims.map (fun j => x.getD j Dy.zero)
  let outNorm := fmt32.conv fmt16 .up (normUp (outs.map (fun a => f32OfDy .up (Dy.abs (Dy.scale a (-ce)))))).toNat
  let outl := (d.outDims.map (fun j => bytesAt ref (2 * j) 2)).flatten
  let f16 (n : Nat) : List Byte := le 2 n
  let tail (r : Nat) : List Byte := f16 r ++ (if d.nOut = 0 then [] else f16 outNorm)
  let excess (n : Nat) : Bool := !fmt16.finite n
  let tailInf : List Byte := f16 0x7C00 ++ (if d.nOut = 0 then [] else f16 0x7C00)
  if w = 1 then
    let signs : List Int := coded.map (fun a => if a.m < 0 then 0 else 1)
    let nrm := fmt16.sqrtDy .rne (Dy.sum (y.map (fun a => Dy.mul a a)))
    let resid := fmt32.conv fmt16 .up (normUp (y.map (fun a => absDiffSqrtUp (Dy.abs a) (fmt16.dy nrm) d.dn))).toNat
    if excess nrm || excess resid || (decide (d.nOut ≠ 0) && excess outNorm) then
      (packCodes 1 (coded.map (fun _ => 0)), f16 0 ++ tailInf, outl)
    else (packCodes 1 signs, f16 nrm ++ tail resid, outl)
  else
    let L : Nat := 2 ^ w
    let r := dyRange y
    let scale := fmt16.ofDyDiv .up (Dy.sub r.2 r.1) (L - 1)
    let sd := fmt16.dy scale
    let off := fmt16.ofDy .rne (Dy.add r.1 (Dy.mul (Dy.ofInt ((L / 2 : Nat) : Int)) sd))
    let od := fmt16.dy off
    let cs := y.map (fun a => if sd.m = 0 then 0 else clampI (-((L / 2 : Nat) : Int)) ((L / 2 : Nat) - 1) (Dy.rneQuot (Dy.sub a od) sd))
    let dec := cs.map (fun c => Dy.add (Dy.mul sd (Dy.ofInt c)) od)
    let resid := fmt32.conv fmt16 .up (normUp (List.zipWith (fun a b => f32OfDy .up (Dy.abs (Dy.sub a b))) y dec)).toNat
    if excess scale || excess off || excess resid || (decide (d.nOut ≠ 0) && excess outNorm) then
      (packCodes w (coded.map (fun _ => 0)), f16 0 ++ f16 0 ++ tailInf, outl)
    else (packCodes w cs, f16 scale ++ f16 off ++ tail resid, outl)

/-- The fields of a side record (Table COL-5), as FP32: SCALE or NORM, OFFSET (zero for CODE1), RESID, OUT_NORM (zero when absent). -/
def sideFields (d : Desc) (w : Nat) (side : List Byte) : F32 × F32 × F32 × F32 :=
  let g (o : Nat) : F32 := BitVec.ofNat 32 (fmt16.conv fmt32 .rne (natAt side o 2))
  if w = 1 then (g 0, 0, g 2, if d.nOut = 0 then 0 else g 4)
  else (g 0, g 2, g 4, if d.nOut = 0 then 0 else g 6)

/-- n ÷ √D as a dyadic number: exact where it is dyadic, else its first 80 bits and a half, which decides every rounding. -/
def divSqrt (n : Dy) (D : Nat) : Dy :=
  let num := n.m.natAbs * n.m.natAbs * 2 ^ 160
  let q := isqrt (num / D)
  if q * q * D = num then ⟨q, n.e - 80⟩ else ⟨2 * (q : Int) + 1, n.e - 81⟩

/-- Decoded values x̂ over the coded dimensions (R35, R36); for CODE1 the value NORM ÷ √D_N is held by `divSqrt`. -/
def decodeRow (d : Desc) (w : Nat) (code side : List Byte) : List Dy :=
  let f := sideFields d w side
  let cs := unpackCodes w d.dn code
  if w = 1 then
    let m := divSqrt (fdy f.1) d.dn
    cs.map (fun c => Dy.scale (Dy.mul (Dy.ofInt c) m) d.codeExp)
  else cs.map (fun c => Dy.scale (Dy.add (Dy.mul (fdy f.1) (Dy.ofInt c)) (fdy f.2.1)) d.codeExp)

/-- The query's codes, constants and norms for width `w` (R53, R602). ‖q_N‖² is bounded from the elements, each end rounded its own way, so
that step 1 of R55 has a lower end that holds (R57; log 33). -/
def codeQuery (d : Desc) (w : Nat) (q : RefQuery) : QCode :=
  let x := q.exact
  let ce := d.codeExp
  let coded := d.codedDims.map (fun j => x.getD j Dy.zero)
  let outs := d.outDims.map (fun j => x.getD j Dy.zero)
  let up1 (l : List Dy) : F32 := normUp (l.map (fun a => f32OfDy .up (Dy.abs a)))
  let qn := up1 coded
  let qo := up1 outs
  let qa := up1 x
  let mags (rm : Rm) : List F32 := coded.map (fun a => f32OfDy rm (Dy.abs a))
  let q2 : F32 × F32 := (loEnd (sumSq .down (mags .down)), hiEnd (sumSq .up (mags .up)))
  let y := coded.map (fun a => Dy.scale a (-ce))
  if w = 1 then
    let nu : F32 := BitVec.ofNat 32 (fmt32.sqrtDy .rne (Dy.sum (y.map (fun a => Dy.mul a a))))
    if !ffinite nu then ⟨0, 0, coded.map (fun _ => 0), f32Inf, qn, qo, qa, q2⟩
    else
      let e := normUp (coded.map (fun a => absDiffSqrtUp (Dy.abs a) (Dy.scale (fdy nu) ce) d.dn))
      ⟨nu, 0, coded.map (fun a => if a.m < 0 then -1 else 1), e, qn, qo, qa, q2⟩
  else
    let L : Nat := 2 ^ w
    let r := dyRange y
    let a : F32 := BitVec.ofNat 32 (fmt32.ofDyDiv .up (Dy.sub r.2 r.1) (L - 1))
    let b : F32 := f32OfDy .rne (Dy.add r.1 (Dy.mul (Dy.ofInt ((L / 2 : Nat) : Int)) (fdy a)))
    if !ffinite a || !ffinite b then ⟨0, 0, coded.map (fun _ => 0), f32Inf, qn, qo, qa, q2⟩
    else
      let ds := y.map (fun v => if (fdy a).m = 0 then 0 else clampI (-((L / 2 : Nat) : Int)) ((L / 2 : Nat) - 1) (Dy.rneQuot (Dy.sub v (fdy b)) (fdy a)))
      let dec := ds.map (fun c => Dy.scale (Dy.add (Dy.mul (fdy a) (Dy.ofInt c)) (fdy b)) ce)
      let e := normUp (List.zipWith (fun v w => f32OfDy .up (Dy.abs (Dy.sub v w))) coded dec)
      ⟨a, b, ds, e, qn, qo, qa, q2⟩

/-- Upper-end operations (R53). -/
def upAdd (a b : F32) : F32 := hiEnd (fadd .up a b)
/-- Upper-end product. -/
def upMul (a b : F32) : F32 := hiEnd (fmul .up a b)
/-- Lower-end sum. -/
def dnAdd (a b : F32) : F32 := loEnd (fadd .down a b)
/-- Lower-end product. -/
def dnMul (a b : F32) : F32 := loEnd (fmul .down a b)
/-- Lower-end difference. -/
def dnSub (a b : F32) : F32 := dnAdd a (fneg b)

/-- A two-ended value (R53). -/
abbrev Iv := F32 × F32

/-- An exact integer as a two-ended value (R53). -/
def ivInt (i : Int) : Iv := (f32OfInt .down i, f32OfInt .up i)
/-- A number as a two-ended value. -/
def ivPt (a : F32) : Iv := (a, a)
/-- Two-ended sum. -/
def ivAdd (a b : Iv) : Iv := (dnAdd a.1 b.1, upAdd a.2 b.2)
/-- Two-ended negation. -/
def ivNeg (a : Iv) : Iv := (fneg a.2, fneg a.1)
/-- Two-ended product: the least and the greatest of the four end products (R53). -/
def ivMul (a b : Iv) : Iv :=
  let lo := fmin (fmin (dnMul a.1 b.1) (dnMul a.1 b.2)) (fmin (dnMul a.2 b.1) (dnMul a.2 b.2))
  let hi := fmax (fmax (upMul a.1 b.1) (upMul a.1 b.2)) (fmax (upMul a.2 b.1) (upMul a.2 b.2))
  (lo, hi)
/-- The power of two 2^k times a number, rounded once. -/
def fscale (rm : Rm) (a : F32) (k : Int) : F32 :=
  match fmt32.dec a.toNat with
  | .fin neg m e => BitVec.ofNat 32 (fmt32.round rm neg m 1 (e + k))
  | _ => a
/-- Two-ended product with 2^k. -/
def ivScale (a : Iv) (k : Int) : Iv := (fscale .down a.1 k, fscale .up a.2 k)

/-- γ_n rounded upward to FP32 (R56). -/
def gammaUp (n : Nat) : F32 := BitVec.ofNat 32 (fmt32.round .up false n (2 ^ 24 - n) 0)
/-- γ of Table COL-8 for a collection. -/
def Desc.gamma (d : Desc) : F32 :=
  let h := ceilLog2 d.dim
  if d.refFmt = 2 then BitVec.ofNat 32 (fmt32.round .up false 1 (2 ^ 24) 0)
  else if d.metric = 1 then gammaUp (h + 3) else gammaUp (if d.refFmt = 1 then h + 1 else h)
/-- η (R56): DIM × 2^−149. -/
def Desc.eta (d : Desc) : F32 := BitVec.ofNat 32 d.dim

/-- The allowance ε for norms ‖q‖ and W (Table COL-8, R277). -/
def epsOf (d : Desc) (q w : F32) : F32 :=
  if d.metric = 1 then upAdd (upMul d.gamma (let t := upAdd q w; upMul t t)) d.eta
  else upAdd (upMul (upMul d.gamma q) w) d.eta

/-- M of R606 below 2^127: the interval is finite-assured. `logit` is 1.0 but for attention. -/
def finiteAssured (d : Desc) (q w logit : F32) : Bool :=
  let m := if d.metric = 1 then (let t := upAdd q w; upMul t t) else upMul q w
  flt (upMul m logit) 0x7F000000#32

/-- The outlier part of an interval from the exact values (Table COL-7; step 2 of R55): [O_lo, O_hi] of ⟨q_O, x_O⟩, or [G_lo, G_hi] of ‖q_O − x_O‖², every
product and addition directed, the additions in the tree of R47 (log 121). `outl` are the row's stored outlier values (R43). -/
def exactOutliers (d : Desc) (q : RefQuery) (outl : List Byte) : Iv :=
  let x := (splitNum 2 d.nOut outl).map (fun w => bf16to32 (BitVec.ofNat 16 w))
  let e := q.exact
  let qo := d.outDims.map (fun j => e.getD j Dy.zero)
  let terms (rm : Rm) : List F32 := List.zipWith (fun (a : Dy) (b : F32) =>
    if d.metric = 1 then (let t := f32OfDy rm (Dy.abs (Dy.sub a (fdy b))); fmul rm t t) else f32OfDy rm (Dy.mul a (fdy b))) qo x
  (loEnd (pairwise .down (terms .down)), hiEnd (pairwise .up (terms .up)))

/-- The code interval of a row for a query (R54, R55, R280), and whether it is finite-assured. `part` is the outlier part from the vector unit, or `none`
for that of the cell: ±‖q_O‖ × 2^CODE_EXP·OUT_NORM, or [0, (‖q_O‖ + 2^CODE_EXP·OUT_NORM)²]. ⟨q̂, x̂⟩ is formed as Σ (a d + b)(SCALE c + OFFSET), the inner
product that Table COL-7 names (log 12). For attention the ends are multiplied by `logit` (R224), which is 1.0 for rows. -/
def rowInterval (d : Desc) (w : Nat) (q : QCode) (logit : F32) (part : Option Iv) (code side : List Byte) : F32 × F32 × Bool :=
  let f := sideFields d w side
  let sc := f.1
  let off := f.2.1
  let ce := d.codeExp
  let cs := unpackCodes w d.dn code
  let sdc := ivInt (dotI q.codes cs)
  let sumC := ivInt (cs.foldl (· + ·) 0)
  let sumD := ivInt (q.codes.foldl (· + ·) 0)
  let sumC2 := ivInt (dotI cs cs)
  let n := ivInt (d.dn : Int)
  let a := ivPt q.a
  let b := ivPt q.b
  let s := ivPt sc
  let o := ivPt off
  let aIv : Iv :=
    if w = 1 then
      let t := ivMul (ivMul a s) sdc
      ivScale (loEnd (fdiv .down t.1 n.2), hiEnd (fdiv .up t.2 n.1)) (2 * ce)
    else
      let p1 := ivMul (ivMul a s) sdc
      let p2 := ivMul (ivMul a o) sumD
      let p3 := ivMul (ivMul b s) sumC
      let p4 := ivMul (ivMul b o) n
      ivScale (ivAdd (ivAdd (ivAdd p1 p2) p3) p4) (2 * ce)
  let x2 : Iv :=
    if w = 1 then ivMul s s
    else ivAdd (ivAdd (ivMul (ivMul s s) sumC2) (ivMul (ivMul (ivMul (ivPt 0x40000000#32) s) o) sumC)) (ivMul (ivMul o o) n)
  let xhat : F32 := if w = 1 then fscale .up sc ce else fscale .up (hiEnd (fsqrt .up (fmax 0 x2.2))) ce
  let resid := fscale .up f.2.2.1 ce
  let outn := fscale .up f.2.2.2 ce
  let wv := upAdd xhat (fscale .up (upAdd f.2.2.1 f.2.2.2) ce)
  let eq := upMul q.eq xhat
  let ex := upMul q.qn resid
  let eps := epsOf d q.q wv
  let fa := finiteAssured d q.q wv logit
  if d.metric = 1 then
    let ip : Iv := (dnSub aIv.1 eq, upAdd aIv.2 eq)
    let x2s := ivScale x2 (2 * ce)
    let d2 := ivAdd (ivAdd q.qn2 (ivNeg (ivMul (ivPt 0x40000000#32) ip))) x2s
    let dlo := loEnd (fsqrt .down (if flt d2.1 0 then 0 else d2.1))
    let dhi := hiEnd (fsqrt .up (if flt d2.2 0 then 0 else d2.2))
    let g0 := upAdd q.qo outn
    let g : Iv := part.getD (0, upMul g0 g0)
    let t := upAdd dhi resid
    let lo := dnAdd (fneg (upAdd (upMul t t) g.2)) (fneg eps)
    let u0 := dnSub dlo resid
    let u := if flt u0 0 then 0 else u0
    let hi := upAdd (fneg (dnAdd (dnMul u u) g.1)) eps
    (loEnd lo, hiEnd hi, fa)
  else
    let ov := upMul q.qo outn
    let ob : Iv := part.getD (fneg ov, ov)
    let lo := dnSub (dnAdd (dnSub (dnSub aIv.1 eq) ex) ob.1) eps
    let hi := upAdd (upAdd (upAdd (upAdd aIv.2 eq) ex) ob.2) eps
    (dnMul lo logit, upMul hi logit, fa)

/-- The code interval as a cell forms it. -/
def cellInterval (d : Desc) (w : Nat) (q : QCode) (logit : F32) (code side : List Byte) : F32 × F32 × Bool := rowInterval d w q logit none code side

/-- An interval cut down to another one: the greater lower end and the lesser upper end (R80, R85). -/
def ivMeet (a b : Iv) : Iv := (if sortKey a.1 < sortKey b.1 then b.1 else a.1, if sortKey b.2 < sortKey a.2 then b.2 else a.2)

/-- ‖x − c‖ in the one fixed way of R71: exact differences rounded upward, then the upward norm. -/
def distUp (x c : List Dy) : F32 := normUp (List.zipWith (fun a b => f32OfDy .up (Dy.abs (Dy.sub a b))) x c)

/-- The FP32 squared distance of R196. -/
def distRne (x c : List Dy) : F32 := sumSq .rne (List.zipWith (fun a b => f32OfDy .rne (Dy.sub a b)) x c)

/-- A BF16 centre as exact numbers. -/
def centreDy (c : List F16) : List Dy := c.map (fun w => fdy (bf16to32 w))

/-- Ball bounds (U, L) of Table SND-1 for a query, a centre and a radius (R77, R78). -/
def ballBounds0 (d : Desc) (q : RefQuery) (centre : List F16) (r : F32) : F32 × F32 :=
  let c := centre.map bf16to32
  let qx := q.vals
  let nUp (v : List F32) : F32 := hiEnd (normUp v)
  let qh := nUp (qx.map fabs)
  let w := upAdd (nUp (c.map fabs)) r
  let eps := epsOf d qh w
  if d.metric = 1 then
    let dLo := loEnd (fsqrt .down (pairwise .down (List.zipWith (fun a b =>
      let t := fabs (f32OfDy .down (Dy.abs (Dy.sub (fdy a) (fdy b)))); fmul .down t t) qx c)))
    let dHi := nUp (List.zipWith (fun a b => f32OfDy .up (Dy.abs (Dy.sub (fdy a) (fdy b)))) qx c)
    let m0 := dnSub dLo r
    let m := if flt m0 0 then 0 else m0
    let t := upAdd dHi r
    (hiEnd (upAdd (fneg (dnMul m m)) eps), loEnd (dnAdd (fneg (upMul t t)) (fneg eps)))
  else
    let ipHi := hiEnd (pairwise .up (List.zipWith (fun a b => fmul .up a b) qx c))
    let ipLo := loEnd (pairwise .down (List.zipWith (fun a b => fmul .down a b) qx c))
    let qr := upMul qh r
    (upAdd (upAdd ipHi qr) eps, dnSub (dnSub ipLo qr) eps)

/-- Ball bounds, multiplied by LOGIT_SCALE for attention (R224). -/
def ballBounds (d : Desc) (q : RefQuery) (logit : F32) (centre : List F16) (r : F32) : F32 × F32 :=
  let b := ballBounds0 d q centre r
  (upMul b.1 logit, dnMul b.2 logit)

end Sys2Proof
end

