-- ==== Sys2Proof/Config.lean ====
section
/-! DEFINITION. What the manual leaves to a part or leaves open: free values (no body, so no proof can rest on one), and the
cryptographic functions whose outputs the manual does not compute. -/

namespace Sys2Proof

/-- A value that the manual leaves undefined; `n` counts the values drawn so far (log 1). -/
opaque Config.freeValue : Nat → Nat

/-- What the manual leaves open in the result of a vector instruction: a function of the instruction and its operands, as R257 asks (log 11). -/
opaque Config.vecOpen : Nat → List Nat → Nat

/-- ML-DSA-44 verification under FIPS 204 (R492, R503): key, message, signature, context string (log 2). -/
opaque Config.mldsaVerify : List Byte → List Byte → List Byte → List Byte → Bool

/-- ML-DSA-44 signature, 2,420 bytes, by the key pair made from a seed (R503, R504): seed, message, context string (log 2). -/
opaque Config.mldsaSign : List Byte → List Byte → List Byte → List Byte

/-- ML-KEM-768 encapsulation key of a seed (Table WEI-7) (log 2). -/
opaque Config.kemKey : List Byte → List Byte

/-- ML-KEM-768 decapsulation: seed, ciphertext (log 2). -/
opaque Config.kemDecap : List Byte → List Byte → List Byte

/-- The DER encoding of the alias certificate chain for a seed and measurement (R503) (log 2). -/
opaque Config.certChain : List Byte → List Byte → List Byte

/-- The structural check of kernel code that belongs to the SDK (R265) (log 3). -/
opaque Config.codeOk : List Byte → Bool

/-- The digests of the four firmware keys in Weir's ROM (R492) (log 2). -/
opaque Config.romKeyDigest : Nat → List Byte

/-- The digest of Weir's ROM (R504) (log 2). -/
opaque Config.romDigest : List Byte

/-- The cell program that a firmware image carries (R272); the manual does not say where in the body it lies (log 5). -/
opaque Config.cellProgram : List Byte → List Byte

/-- Nengarok's MIPI manufacturer ID, 15 bits (R584), and JEP106 code, 11 bits (R582): assigned outside the manual (log 15). -/
opaque Config.mipiId : Nat

/-- Nengarok's JEP106 code (log 15). -/
opaque Config.jep106 : Nat

/-- The bytes of an SPDM 1.4 response: request code, the content that the manual gives (R506); the framing is DMTF's (log 18). -/
opaque Config.spdmFrame : Nat → List Byte → List Byte

/-- EDGE_BASE of a collection, by its key: where its edge area begins in Basin (R121); the manual gives no address (log 124). -/
opaque Config.edgeBase : Nat → Nat

/-- The subarray of a bank group that holds row `row` of a collection's planes and the work rows used with it (R292): Ferry's placement, which the manual does
not give (log 124). -/
opaque Config.planeSub : Nat → Nat → Nat → Nat

/-- The ADDR in the metadata of a map page, by space and page (R340, R347); the manual gives none (log 117). -/
opaque Config.mapPageAddr : Nat → Nat → Nat

/-- The CRC-8 of Table DLT-2, of which the manual gives no polynomial (log 117). -/
opaque Config.crc8 : List Byte → Nat

/-- How long a LUN is busy with a read (0), a page program (1) or an erase (2) that ends at a time, in ns: by LUN and time; the manual gives typical times
only (log 127). -/
opaque Config.lunNs : Nat → Nat → Nat → Nat

/-- Core time of the firmware tasks of a batch on this node, in ns, by its number (log 127). -/
opaque Config.firmwareNs : Nat → Nat

/-- Core time of a job of the node context on a composition's data, in ns, by composition and time (log 127). -/
opaque Config.nodeWorkNs : Nat → Nat → Nat

/-- The responder's verify data under the SPDM key schedule (Table WEI-7) (log 2). -/
opaque Config.spdmData : List Byte → List Byte

/-- The requester verify data match the shared secret under the SPDM key schedule (Table WEI-7) (log 2). -/
opaque Config.spdmVerify : List Byte → List Byte → Bool

end Sys2Proof
end

