-- ==== Sys2Proof/Machine/RegMap.lean ====
section
/-! DEFINITION. The register maps of the manual (chapters 00, 03 to 06, 08 to 17): address, fields, access types, classes and
reset values, one row per register map. -/

namespace Sys2Proof

/-- Access type of a field (Table SCP-3). -/
inductive RegAccess where
  | ro | rw | w1c | wo | rwp | wpr
  deriving DecidableEq, Repr

/-- Class of a field (Table SCP-4): L at once, S shadowed, I only while the block is idle. -/
inductive RegClass where
  | l | s | i
  deriving DecidableEq, Repr

/-- A field of a register: lowest bit, width, access type, class, reset value. -/
structure RField where
  lo : Nat
  width : Nat
  acc : RegAccess
  cls : RegClass
  reset : Nat
  deriving DecidableEq, Repr

/-- A register map: BAR0 address of the first register, two repetition counts with their steps, fields. -/
structure RMap where
  base : Nat
  cnt : Nat
  step : Nat
  cnt2 : Nat
  step2 : Nat
  fields : List RField
  deriving DecidableEq, Repr

/-- Register maps, part 1. -/
def regMaps0 : List RMap := [
  -- WEI_PART_ID
  ⟨0xE00010, 1, 0, 1, 0, [⟨48, 8, .wpr, .l, 0⟩, ⟨40, 8, .wpr, .l, 0⟩, ⟨32, 8, .wpr, .l, 0⟩, ⟨16, 16, .wpr, .l, 0⟩, ⟨0, 1, .wpr, .l, 0⟩]⟩,
  -- WEI_CORE_EN0
  ⟨0xE00018, 4, 8, 1, 0, [⟨0, 64, .wpr, .l, 0⟩]⟩,
  -- SND_CFG
  ⟨0x200000, 1, 0, 1, 0, [⟨63, 1, .ro, .l, 0⟩, ⟨32, 16, .rw, .s, 16384⟩, ⟨24, 8, .rw, .s, 4⟩, ⟨0, 16, .rw, .s, 2000⟩]⟩,
  -- SND_PUB
  ⟨0x200008, 1, 0, 1, 0, [⟨32, 8, .rw, .l, 4⟩, ⟨0, 16, .rw, .l, 1000⟩]⟩,
  -- SND_STATUS
  ⟨0x200010, 1, 0, 1, 0, [⟨32, 16, .ro, .l, 0⟩, ⟨16, 16, .ro, .l, 0⟩]⟩,
  -- SND_CNT0
  ⟨0x200040, 7, 8, 1, 0, [⟨0, 64, .ro, .l, 0⟩]⟩,
  -- BRD_CFG
  ⟨0x300000, 1, 0, 1, 0, [⟨63, 1, .ro, .l, 0⟩, ⟨32, 16, .rw, .s, 150⟩, ⟨24, 8, .rw, .s, 4⟩, ⟨16, 8, .rw, .s, 8⟩, ⟨0, 8, .rw, .s, 8⟩]⟩,
  -- BRD_LINK
  ⟨0x300008, 1, 0, 1, 0, [⟨32, 16, .rw, .l, 307⟩, ⟨24, 8, .rw, .l, 16⟩, ⟨16, 8, .rw, .l, 16⟩, ⟨0, 8, .rw, .l, 64⟩]⟩,
  -- BRD_REPAIR
  ⟨0x300010, 1, 0, 1, 0, [⟨8, 8, .rw, .l, 10⟩, ⟨0, 1, .rw, .l, 1⟩]⟩,
  -- BRD_STATUS
  ⟨0x300018, 1, 0, 1, 0, [⟨32, 32, .ro, .l, 0⟩, ⟨16, 16, .ro, .l, 0⟩, ⟨0, 16, .ro, .l, 0⟩]⟩,
  -- BRD_CNT0
  ⟨0x300040, 10, 8, 1, 0, [⟨0, 64, .ro, .l, 0⟩]⟩,
  -- CFL_CFG
  ⟨0x400000, 1, 0, 1, 0, [⟨63, 1, .ro, .l, 0⟩, ⟨8, 8, .rw, .s, 64⟩]⟩,
  -- CFL_STATUS
  ⟨0x400008, 1, 0, 1, 0, [⟨16, 16, .ro, .l, 0⟩, ⟨0, 16, .ro, .l, 0⟩]⟩,
  -- CFL_CNT0
  ⟨0x400040, 7, 8, 1, 0, [⟨0, 64, .ro, .l, 0⟩]⟩,
  -- LCK_RETAIN
  ⟨0x500000, 1, 0, 1, 0, [⟨63, 1, .ro, .l, 0⟩, ⟨32, 16, .rw, .s, 200⟩, ⟨0, 32, .rw, .s, 64⟩]⟩,
  -- LCK_TIMING
  ⟨0x500008, 1, 0, 1, 0, [⟨32, 16, .rw, .l, 2000⟩, ⟨0, 16, .rw, .l, 5⟩]⟩,
  -- LCK_STATUS
  ⟨0x500010, 1, 0, 1, 0, [⟨48, 16, .ro, .l, 0⟩, ⟨32, 16, .ro, .l, 0⟩, ⟨0, 32, .ro, .l, 0⟩]⟩,
  -- LCK_CNT0
  ⟨0x500040, 8, 8, 1, 0, [⟨0, 64, .ro, .l, 0⟩]⟩,
  -- RIL_ID
  ⟨0x600000, 1, 0, 256, 4096, [⟨40, 1, .ro, .l, 0⟩, ⟨32, 8, .ro, .l, 0⟩, ⟨16, 9, .ro, .l, 0⟩, ⟨8, 2, .ro, .l, 0⟩, ⟨0, 8, .ro, .l, 0⟩]⟩,
  -- RIL_STATUS
  ⟨0x600008, 1, 0, 256, 4096, [⟨32, 10, .ro, .l, 1023⟩, ⟨16, 16, .ro, .l, 65535⟩, ⟨8, 1, .w1c, .l, 0⟩, ⟨0, 3, .ro, .l, 0⟩]⟩,
  -- RIL_FAULT
  ⟨0x600010, 1, 0, 256, 4096, [⟨63, 1, .w1c, .l, 0⟩, ⟨48, 8, .ro, .l, 0⟩, ⟨32, 16, .ro, .l, 0⟩, ⟨0, 32, .ro, .l, 0⟩]⟩,
  -- RIL_CFG
  ⟨0x600018, 1, 0, 256, 4096, [⟨63, 1, .ro, .l, 0⟩, ⟨0, 16, .rw, .s, 10000⟩]⟩,
  -- RIL_CNT0
  ⟨0x600040, 7, 8, 256, 4096, [⟨0, 64, .ro, .l, 0⟩]⟩]

/-- Register maps, part 2. -/
def regMaps1 : List RMap := [
  -- MRC_CFG
  ⟨0x700000, 1, 0, 1, 0, [⟨63, 1, .ro, .l, 0⟩, ⟨16, 16, .rw, .s, 1500⟩, ⟨0, 8, .rw, .s, 64⟩]⟩,
  -- MRC_QUOTA0
  ⟨0x700010, 4, 8, 1, 0, [⟨63, 1, .ro, .l, 0⟩, ⟨40, 8, .ro, .l, 128⟩, ⟨16, 8, .ro, .l, 96⟩, ⟨0, 8, .rw, .s, 96⟩]⟩,
  -- MRC_STATUS0
  ⟨0x700030, 4, 8, 1, 0, [⟨40, 8, .ro, .l, 0⟩, ⟨32, 8, .ro, .l, 0⟩, ⟨0, 2, .ro, .l, 0⟩]⟩,
  -- MRC_ORDMAX0
  ⟨0x700050, 4, 8, 1, 0, [⟨0, 32, .ro, .l, 0⟩]⟩,
  -- MRC_CNT0
  ⟨0x700100, 32, 8, 1, 0, [⟨0, 64, .ro, .l, 0⟩]⟩,
  -- FRY_CFG
  ⟨0x800000, 1, 0, 1, 0, [⟨32, 16, .rw, .l, 100⟩, ⟨16, 8, .rw, .l, 4⟩, ⟨0, 16, .rw, .l, 64⟩]⟩,
  -- FRY_LAYOUT
  ⟨0x800008, 1, 0, 1, 0, [⟨32, 16, .ro, .l, 48⟩, ⟨16, 16, .ro, .l, 48⟩, ⟨0, 16, .ro, .l, 160⟩]⟩,
  -- FRY_BPOOL
  ⟨0x800010, 1, 0, 1, 0, [⟨0, 16, .rwp, .l, 32⟩]⟩,
  -- FRY_STATUS
  ⟨0x800018, 1, 0, 1, 0, [⟨48, 16, .ro, .l, 2560⟩, ⟨24, 24, .ro, .l, 32768⟩, ⟨0, 16, .ro, .l, 0⟩]⟩,
  -- FRY_CLAKE_c
  ⟨0x801000, 1, 0, 64, 32, [⟨16, 16, .rwp, .l, 0⟩, ⟨0, 16, .rwp, .l, 0⟩]⟩,
  -- FRY_CBASIN_c
  ⟨0x801008, 1, 0, 64, 32, [⟨24, 24, .rwp, .l, 0⟩, ⟨0, 24, .rwp, .l, 0⟩]⟩,
  -- FRY_CUSE_c
  ⟨0x801010, 1, 0, 64, 32, [⟨48, 16, .ro, .l, 0⟩, ⟨24, 24, .ro, .l, 0⟩, ⟨0, 16, .ro, .l, 0⟩]⟩,
  -- FRY_CFILL_c
  ⟨0x801018, 1, 0, 64, 32, [⟨0, 64, .ro, .l, 0⟩]⟩,
  -- FRY_CNT0
  ⟨0x800040, 8, 8, 1, 0, [⟨0, 64, .ro, .l, 0⟩]⟩,
  -- DLT_FORMAT
  ⟨0x900000, 1, 0, 1, 0, [⟨24, 8, .rwp, .l, 64⟩, ⟨16, 8, .rwp, .l, 4⟩, ⟨8, 8, .rwp, .l, 64⟩, ⟨0, 8, .rwp, .l, 7⟩]⟩,
  -- DLT_RECLAIM
  ⟨0x900008, 1, 0, 1, 0, [⟨32, 16, .rw, .l, 64⟩, ⟨24, 8, .rw, .l, 60⟩, ⟨16, 8, .rw, .l, 4⟩, ⟨8, 8, .rw, .l, 32⟩, ⟨0, 8, .rw, .l, 16⟩]⟩,
  -- DLT_TIMING
  ⟨0x900010, 1, 0, 1, 0, [⟨32, 16, .rw, .l, 1000⟩, ⟨8, 8, .rw, .l, 16⟩]⟩,
  -- DLT_MAP
  ⟨0x900018, 1, 0, 1, 0, [⟨0, 16, .rwp, .l, 16⟩]⟩,
  -- DLT_STATUS
  ⟨0x900020, 1, 0, 1, 0, [⟨48, 8, .ro, .l, 0⟩, ⟨32, 8, .ro, .l, 0⟩, ⟨16, 16, .ro, .l, 0⟩, ⟨0, 16, .ro, .l, 0⟩]⟩,
  -- DLT_CHAN
  ⟨0x900100, 32, 8, 1, 0, [⟨24, 24, .ro, .l, 0⟩, ⟨16, 8, .ro, .l, 0⟩, ⟨8, 8, .ro, .l, 0⟩, ⟨4, 4, .ro, .l, 0⟩, ⟨0, 4, .ro, .l, 0⟩]⟩,
  -- DLT_WEAR
  ⟨0x900200, 32, 8, 1, 0, [⟨32, 32, .ro, .l, 0⟩, ⟨0, 32, .ro, .l, 0⟩]⟩,
  -- DLT_CNT0
  ⟨0x900040, 10, 8, 1, 0, [⟨0, 64, .ro, .l, 0⟩]⟩,
  -- TRB_NODE
  ⟨0xA00000, 1, 0, 1, 0, [⟨12, 1, .rwp, .i, 0⟩, ⟨0, 12, .rwp, .i, 0⟩]⟩]

/-- Register maps, part 3. -/
def regMaps2 : List RMap := [
  -- TRB_IDENT
  ⟨0xA00008, 1, 0, 1, 0, [⟨0, 32, .wpr, .l, 0⟩]⟩,
  -- TRB_TIMING
  ⟨0xA00010, 1, 0, 1, 0, [⟨48, 16, .rw, .l, 500⟩, ⟨32, 16, .rw, .l, 200⟩, ⟨16, 16, .rw, .l, 200⟩, ⟨8, 8, .rw, .l, 10⟩, ⟨0, 8, .rw, .l, 50⟩]⟩,
  -- TRB_ARB
  ⟨0xA00018, 1, 0, 1, 0, [⟨63, 1, .ro, .l, 0⟩, ⟨16, 8, .rw, .s, 1⟩, ⟨8, 8, .rw, .s, 4⟩, ⟨0, 8, .rw, .s, 8⟩]⟩,
  -- TRB_STATUS
  ⟨0xA00020, 1, 0, 1, 0, [⟨40, 8, .ro, .l, 0⟩, ⟨32, 8, .ro, .l, 0⟩, ⟨16, 16, .ro, .l, 0⟩, ⟨0, 16, .ro, .l, 0⟩]⟩,
  -- TRB_BUSY_REFUSED
  ⟨0xA00028, 1, 0, 1, 0, [⟨0, 64, .ro, .l, 0⟩]⟩,
  -- TRB_LINK
  ⟨0xA00100, 32, 8, 1, 0, [⟨52, 12, .ro, .l, 0⟩, ⟨43, 5, .ro, .l, 0⟩, ⟨32, 8, .ro, .l, 0⟩, ⟨12, 4, .ro, .l, 0⟩, ⟨1, 1, .rwp, .l, 0⟩, ⟨0, 1, .rwp, .l, 0⟩]⟩,
  -- TRB_ROUTE
  ⟨0xA10000, 4096, 8, 1, 0, [⟨63, 1, .rwp, .l, 0⟩, ⟨24, 8, .rwp, .l, 0⟩, ⟨16, 8, .rwp, .l, 0⟩, ⟨8, 8, .rwp, .l, 0⟩, ⟨0, 8, .rwp, .l, 0⟩]⟩,
  -- TRB_CNT0
  ⟨0xA00040, 9, 8, 1, 0, [⟨0, 64, .ro, .l, 0⟩]⟩,
  -- SLC_SCHED
  ⟨0x100000, 1, 0, 1, 0, [⟨63, 1, .ro, .l, 0⟩, ⟨32, 16, .rw, .s, 1000⟩, ⟨16, 8, .rw, .s, 5⟩]⟩,
  -- SLC_TIMING
  ⟨0x100008, 1, 0, 1, 0, [⟨48, 16, .rw, .l, 20⟩, ⟨32, 16, .rw, .l, 1000⟩, ⟨16, 16, .rw, .l, 2000⟩, ⟨0, 16, .rw, .l, 5000⟩]⟩,
  -- SLC_STATUS
  ⟨0x100010, 1, 0, 1, 0, [⟨48, 16, .ro, .l, 1023⟩, ⟨32, 16, .ro, .l, 0⟩, ⟨16, 16, .ro, .l, 0⟩, ⟨8, 8, .ro, .l, 0⟩]⟩,
  -- SLC_CHARGE
  ⟨0x100018, 1, 0, 1, 0, [⟨32, 32, .ro, .l, 0⟩, ⟨0, 32, .rw, .l, 0⟩]⟩,
  -- SLC_SLICE_c
  ⟨0x101000, 1, 0, 64, 128, [⟨48, 16, .rwp, .l, 0⟩, ⟨32, 16, .rwp, .l, 0⟩, ⟨16, 16, .rwp, .l, 0⟩, ⟨0, 16, .rwp, .l, 0⟩]⟩,
  -- SLC_IO_c
  ⟨0x101008, 1, 0, 64, 128, [⟨32, 32, .rwp, .l, 0⟩, ⟨0, 32, .rwp, .l, 0⟩]⟩,
  -- SLC_SCHED_c
  ⟨0x101010, 1, 0, 64, 128, [⟨48, 16, .rwp, .l, 0⟩, ⟨40, 8, .rwp, .l, 0⟩, ⟨22, 10, .rwp, .l, 0⟩, ⟨12, 10, .rwp, .l, 0⟩, ⟨5, 1, .rwp, .l, 0⟩, ⟨4, 1, .rwp, .l, 0⟩, ⟨2, 2, .rwp, .l, 0⟩, ⟨0, 1, .rwp, .l, 0⟩]⟩,
  -- SLC_MAP_c
  ⟨0x101018, 1, 0, 64, 128, [⟨32, 32, .ro, .l, 0⟩, ⟨0, 32, .ro, .l, 0⟩]⟩,
  -- SLC_QUOTA_c
  ⟨0x101020, 1, 0, 64, 128, [⟨48, 16, .rwp, .l, 0⟩, ⟨32, 16, .rwp, .l, 0⟩, ⟨0, 32, .rwp, .l, 0⟩]⟩,
  -- SLC_USE_c
  ⟨0x101028, 1, 0, 64, 128, [⟨48, 16, .ro, .l, 0⟩, ⟨32, 16, .ro, .l, 0⟩, ⟨0, 32, .ro, .l, 0⟩]⟩,
  -- SLC_METER_c
  ⟨0x101030, 5, 8, 64, 128, [⟨0, 64, .ro, .l, 0⟩]⟩,
  -- SLC_CTX_c
  ⟨0x101058, 1, 0, 64, 128, [⟨32, 16, .ro, .l, 0⟩, ⟨16, 16, .ro, .l, 0⟩, ⟨0, 16, .ro, .l, 0⟩]⟩,
  -- SLC_CNT0
  ⟨0x100040, 10, 8, 1, 0, [⟨0, 64, .ro, .l, 0⟩]⟩,
  -- HWD_STATE
  ⟨0x8000, 1, 0, 1, 0, [⟨48, 8, .ro, .l, 0⟩, ⟨40, 8, .ro, .l, 0⟩, ⟨0, 32, .ro, .l, 0⟩]⟩,
  -- HWD_WIN
  ⟨0x8008, 1, 0, 1, 0, [⟨48, 16, .rw, .l, 0⟩, ⟨16, 20, .rw, .l, 0⟩, ⟨0, 1, .rw, .l, 0⟩]⟩]

/-- Register maps, part 4. -/
def regMaps3 : List RMap := [
  -- HWD_MBSTAT
  ⟨0x9000, 65, 8, 1, 0, [⟨32, 32, .ro, .l, 0⟩, ⟨10, 11, .ro, .l, 0⟩, ⟨0, 2, .ro, .l, 2⟩]⟩,
  -- HWD_CNT0
  ⟨0x8040, 8, 8, 1, 0, [⟨0, 64, .ro, .l, 0⟩]⟩,
  -- WEI_STATUS
  ⟨0xE00000, 1, 0, 1, 0, [⟨48, 8, .wpr, .l, 0⟩, ⟨40, 8, .wpr, .l, 0⟩, ⟨32, 8, .wpr, .l, 0⟩, ⟨0, 1, .wpr, .l, 0⟩]⟩,
  -- WEI_QUAR
  ⟨0xE00008, 1, 0, 1, 0, [⟨16, 8, .wpr, .l, 0⟩, ⟨8, 8, .wpr, .l, 0⟩, ⟨0, 8, .wpr, .l, 0⟩]⟩,
  -- WEI_QUAR_NS
  ⟨0xE00038, 1, 0, 1, 0, [⟨0, 64, .wpr, .l, 0⟩]⟩,
  -- WEI_ROLLBACK
  ⟨0xE00040, 1, 0, 1, 0, [⟨32, 32, .wpr, .l, 0⟩, ⟨8, 4, .wpr, .l, 0⟩, ⟨0, 2, .wpr, .l, 0⟩]⟩,
  -- WEI_FWMEAS0
  ⟨0xE00048, 4, 8, 1, 0, [⟨0, 64, .wpr, .l, 0⟩]⟩,
  -- WEI_TRIP
  ⟨0xE00068, 1, 0, 1, 0, [⟨32, 16, .wpr, .l, 0⟩, ⟨16, 8, .wpr, .l, 0⟩, ⟨8, 8, .wpr, .l, 0⟩]⟩,
  -- WEI_CNT0
  ⟨0xE00080, 4, 8, 1, 0, [⟨0, 64, .wpr, .l, 0⟩]⟩,
  -- ERR_CFG
  ⟨0xC00000, 1, 0, 1, 0, [⟨32, 16, .rw, .l, 1000⟩, ⟨24, 8, .rwp, .l, 12⟩, ⟨16, 8, .rwp, .l, 7⟩, ⟨0, 16, .rwp, .l, 10⟩]⟩,
  -- ERR_STATUS
  ⟨0xC00008, 1, 0, 1, 0, [⟨32, 24, .ro, .l, 0⟩, ⟨16, 16, .ro, .l, 0⟩, ⟨0, 4, .ro, .l, 0⟩]⟩,
  -- ERR_INT
  ⟨0xC00010, 1, 0, 1, 0, [⟨16, 5, .rw, .l, 30⟩, ⟨0, 5, .w1c, .l, 0⟩]⟩,
  -- ERR_SEQ
  ⟨0xC00018, 1, 0, 1, 0, [⟨0, 64, .ro, .l, 0⟩]⟩,
  -- ERR_CNT0
  ⟨0xC00040, 8, 8, 1, 0, [⟨0, 64, .ro, .l, 0⟩]⟩,
  -- SPW_CFG
  ⟨0xB00000, 1, 0, 1, 0, [⟨32, 16, .rw, .l, 1050⟩, ⟨24, 8, .rw, .l, 100⟩, ⟨16, 8, .rw, .l, 32⟩, ⟨8, 8, .rw, .l, 5⟩, ⟨0, 1, .rw, .l, 1⟩]⟩,
  -- SPW_STATUS
  ⟨0xB00008, 1, 0, 1, 0, [⟨48, 16, .ro, .l, 0⟩, ⟨40, 8, .ro, .l, 0⟩, ⟨32, 4, .ro, .l, 0⟩, ⟨24, 8, .ro, .l, 128⟩, ⟨4, 4, .ro, .l, 0⟩, ⟨0, 4, .ro, .l, 0⟩]⟩,
  -- SPW_CNT0
  ⟨0xB00040, 4, 8, 1, 0, [⟨0, 64, .ro, .l, 0⟩]⟩,
  -- CRU_TIME
  ⟨0xD00000, 1, 0, 1, 0, [⟨0, 64, .ro, .l, 0⟩]⟩,
  -- CRU_RESET
  ⟨0xD00008, 1, 0, 1, 0, [⟨48, 16, .ro, .l, 0⟩, ⟨8, 8, .ro, .l, 0⟩, ⟨0, 2, .ro, .l, 0⟩]⟩,
  -- CRU_PLL
  ⟨0xD00010, 1, 0, 1, 0, [⟨20, 1, .ro, .l, 0⟩, ⟨16, 4, .ro, .l, 0⟩, ⟨8, 8, .ro, .l, 0⟩, ⟨4, 4, .ro, .l, 0⟩, ⟨2, 1, .ro, .l, 0⟩, ⟨1, 1, .ro, .l, 0⟩, ⟨0, 1, .ro, .l, 0⟩]⟩]

/-- Every register map of the manual. -/
def regMaps : List RMap := regMaps0 ++ regMaps1 ++ regMaps2 ++ regMaps3

/-- The address lies in this map's registers. -/
def RMap.hits (m : RMap) (a : Nat) : Bool :=
  if a < m.base then false
  else
    let d := a - m.base
    let i2 := if m.cnt2 ≤ 1 then 0 else d / m.step2
    let r := d - i2 * m.step2
    decide (i2 < m.cnt2) && (if m.cnt ≤ 1 then decide (r = 0) else decide (r % m.step = 0) && decide (r / m.step < m.cnt))

/-- The map of the register at an 8-byte aligned address. -/
def regAt (a : Nat) : Option RMap := regMaps.find? (fun m => m.hits a)

/-- The reset value of a register, from its fields. -/
def RMap.resetVal (m : RMap) : Nat := m.fields.foldl (fun v f => v + f.reset * 2 ^ f.lo) 0

/-- The reset value of the register at an address; 0 where there is none. -/
def regReset (a : Nat) : Nat := match regAt a with | some m => m.resetVal | none => 0

namespace Reg
/-- Address of WEI_PART_ID in BAR0. -/
abbrev WEI_PART_ID : Nat := 0xE00010
/-- Address of WEI_CORE_EN0 in BAR0. -/
abbrev WEI_CORE_EN0 : Nat := 0xE00018
/-- Address of SND_CFG in BAR0. -/
abbrev SND_CFG : Nat := 0x200000
/-- Address of SND_PUB in BAR0. -/
abbrev SND_PUB : Nat := 0x200008
/-- Address of SND_STATUS in BAR0. -/
abbrev SND_STATUS : Nat := 0x200010
/-- Address of SND_CNT0 in BAR0. -/
abbrev SND_CNT0 : Nat := 0x200040
/-- Address of BRD_CFG in BAR0. -/
abbrev BRD_CFG : Nat := 0x300000
/-- Address of BRD_LINK in BAR0. -/
abbrev BRD_LINK : Nat := 0x300008
/-- Address of BRD_REPAIR in BAR0. -/
abbrev BRD_REPAIR : Nat := 0x300010
/-- Address of BRD_STATUS in BAR0. -/
abbrev BRD_STATUS : Nat := 0x300018
/-- Address of BRD_CNT0 in BAR0. -/
abbrev BRD_CNT0 : Nat := 0x300040
/-- Address of CFL_CFG in BAR0. -/
abbrev CFL_CFG : Nat := 0x400000
/-- Address of CFL_STATUS in BAR0. -/
abbrev CFL_STATUS : Nat := 0x400008
/-- Address of CFL_CNT0 in BAR0. -/
abbrev CFL_CNT0 : Nat := 0x400040
/-- Address of LCK_RETAIN in BAR0. -/
abbrev LCK_RETAIN : Nat := 0x500000
/-- Address of LCK_TIMING in BAR0. -/
abbrev LCK_TIMING : Nat := 0x500008
/-- Address of LCK_STATUS in BAR0. -/
abbrev LCK_STATUS : Nat := 0x500010
/-- Address of LCK_CNT0 in BAR0. -/
abbrev LCK_CNT0 : Nat := 0x500040
/-- Address of RIL_ID in BAR0. -/
abbrev RIL_ID : Nat := 0x600000
/-- Address of RIL_STATUS in BAR0. -/
abbrev RIL_STATUS : Nat := 0x600008
/-- Address of RIL_FAULT in BAR0. -/
abbrev RIL_FAULT : Nat := 0x600010
/-- Address of RIL_CFG in BAR0. -/
abbrev RIL_CFG : Nat := 0x600018
/-- Address of RIL_CNT0 in BAR0. -/
abbrev RIL_CNT0 : Nat := 0x600040
/-- Address of MRC_CFG in BAR0. -/
abbrev MRC_CFG : Nat := 0x700000
/-- Address of MRC_QUOTA0 in BAR0. -/
abbrev MRC_QUOTA0 : Nat := 0x700010
/-- Address of MRC_STATUS0 in BAR0. -/
abbrev MRC_STATUS0 : Nat := 0x700030
/-- Address of MRC_ORDMAX0 in BAR0. -/
abbrev MRC_ORDMAX0 : Nat := 0x700050
/-- Address of MRC_CNT0 in BAR0. -/
abbrev MRC_CNT0 : Nat := 0x700100
/-- Address of FRY_CFG in BAR0. -/
abbrev FRY_CFG : Nat := 0x800000
/-- Address of FRY_LAYOUT in BAR0. -/
abbrev FRY_LAYOUT : Nat := 0x800008
/-- Address of FRY_BPOOL in BAR0. -/
abbrev FRY_BPOOL : Nat := 0x800010
/-- Address of FRY_STATUS in BAR0. -/
abbrev FRY_STATUS : Nat := 0x800018
/-- Address of FRY_CLAKE_c in BAR0. -/
abbrev FRY_CLAKE_c : Nat := 0x801000
/-- Address of FRY_CBASIN_c in BAR0. -/
abbrev FRY_CBASIN_c : Nat := 0x801008
/-- Address of FRY_CUSE_c in BAR0. -/
abbrev FRY_CUSE_c : Nat := 0x801010
/-- Address of FRY_CFILL_c in BAR0. -/
abbrev FRY_CFILL_c : Nat := 0x801018
/-- Address of FRY_CNT0 in BAR0. -/
abbrev FRY_CNT0 : Nat := 0x800040
/-- Address of DLT_FORMAT in BAR0. -/
abbrev DLT_FORMAT : Nat := 0x900000
/-- Address of DLT_RECLAIM in BAR0. -/
abbrev DLT_RECLAIM : Nat := 0x900008
/-- Address of DLT_TIMING in BAR0. -/
abbrev DLT_TIMING : Nat := 0x900010
/-- Address of DLT_MAP in BAR0. -/
abbrev DLT_MAP : Nat := 0x900018
/-- Address of DLT_STATUS in BAR0. -/
abbrev DLT_STATUS : Nat := 0x900020
/-- Address of DLT_CHAN in BAR0. -/
abbrev DLT_CHAN : Nat := 0x900100
/-- Address of DLT_WEAR in BAR0. -/
abbrev DLT_WEAR : Nat := 0x900200
/-- Address of DLT_CNT0 in BAR0. -/
abbrev DLT_CNT0 : Nat := 0x900040
/-- Address of TRB_NODE in BAR0. -/
abbrev TRB_NODE : Nat := 0xA00000
/-- Address of TRB_IDENT in BAR0. -/
abbrev TRB_IDENT : Nat := 0xA00008
/-- Address of TRB_TIMING in BAR0. -/
abbrev TRB_TIMING : Nat := 0xA00010
/-- Address of TRB_ARB in BAR0. -/
abbrev TRB_ARB : Nat := 0xA00018
/-- Address of TRB_STATUS in BAR0. -/
abbrev TRB_STATUS : Nat := 0xA00020
/-- Address of TRB_BUSY_REFUSED in BAR0. -/
abbrev TRB_BUSY_REFUSED : Nat := 0xA00028
/-- Address of TRB_LINK in BAR0. -/
abbrev TRB_LINK : Nat := 0xA00100
/-- Address of TRB_ROUTE in BAR0. -/
abbrev TRB_ROUTE : Nat := 0xA10000
/-- Address of TRB_CNT0 in BAR0. -/
abbrev TRB_CNT0 : Nat := 0xA00040
/-- Address of SLC_SCHED in BAR0. -/
abbrev SLC_SCHED : Nat := 0x100000
/-- Address of SLC_TIMING in BAR0. -/
abbrev SLC_TIMING : Nat := 0x100008
/-- Address of SLC_STATUS in BAR0. -/
abbrev SLC_STATUS : Nat := 0x100010
/-- Address of SLC_CHARGE in BAR0. -/
abbrev SLC_CHARGE : Nat := 0x100018
/-- Address of SLC_SLICE_c in BAR0. -/
abbrev SLC_SLICE_c : Nat := 0x101000
/-- Address of SLC_IO_c in BAR0. -/
abbrev SLC_IO_c : Nat := 0x101008
/-- Address of SLC_SCHED_c in BAR0. -/
abbrev SLC_SCHED_c : Nat := 0x101010
/-- Address of SLC_MAP_c in BAR0. -/
abbrev SLC_MAP_c : Nat := 0x101018
/-- Address of SLC_QUOTA_c in BAR0. -/
abbrev SLC_QUOTA_c : Nat := 0x101020
/-- Address of SLC_USE_c in BAR0. -/
abbrev SLC_USE_c : Nat := 0x101028
/-- Address of SLC_METER_c in BAR0. -/
abbrev SLC_METER_c : Nat := 0x101030
/-- Address of SLC_CTX_c in BAR0. -/
abbrev SLC_CTX_c : Nat := 0x101058
/-- Address of SLC_CNT0 in BAR0. -/
abbrev SLC_CNT0 : Nat := 0x100040
/-- Address of HWD_STATE in BAR0. -/
abbrev HWD_STATE : Nat := 0x8000
/-- Address of HWD_WIN in BAR0. -/
abbrev HWD_WIN : Nat := 0x8008
/-- Address of HWD_MBSTAT in BAR0. -/
abbrev HWD_MBSTAT : Nat := 0x9000
/-- Address of HWD_CNT0 in BAR0. -/
abbrev HWD_CNT0 : Nat := 0x8040
/-- Address of WEI_STATUS in BAR0. -/
abbrev WEI_STATUS : Nat := 0xE00000
/-- Address of WEI_QUAR in BAR0. -/
abbrev WEI_QUAR : Nat := 0xE00008
/-- Address of WEI_QUAR_NS in BAR0. -/
abbrev WEI_QUAR_NS : Nat := 0xE00038
/-- Address of WEI_ROLLBACK in BAR0. -/
abbrev WEI_ROLLBACK : Nat := 0xE00040
/-- Address of WEI_FWMEAS0 in BAR0. -/
abbrev WEI_FWMEAS0 : Nat := 0xE00048
/-- Address of WEI_TRIP in BAR0. -/
abbrev WEI_TRIP : Nat := 0xE00068
/-- Address of WEI_CNT0 in BAR0. -/
abbrev WEI_CNT0 : Nat := 0xE00080
/-- Address of ERR_CFG in BAR0. -/
abbrev ERR_CFG : Nat := 0xC00000
/-- Address of ERR_STATUS in BAR0. -/
abbrev ERR_STATUS : Nat := 0xC00008
/-- Address of ERR_INT in BAR0. -/
abbrev ERR_INT : Nat := 0xC00010
/-- Address of ERR_SEQ in BAR0. -/
abbrev ERR_SEQ : Nat := 0xC00018
/-- Address of ERR_CNT0 in BAR0. -/
abbrev ERR_CNT0 : Nat := 0xC00040
/-- Address of SPW_CFG in BAR0. -/
abbrev SPW_CFG : Nat := 0xB00000
/-- Address of SPW_STATUS in BAR0. -/
abbrev SPW_STATUS : Nat := 0xB00008
/-- Address of SPW_CNT0 in BAR0. -/
abbrev SPW_CNT0 : Nat := 0xB00040
/-- Address of CRU_TIME in BAR0. -/
abbrev CRU_TIME : Nat := 0xD00000
/-- Address of CRU_RESET in BAR0. -/
abbrev CRU_RESET : Nat := 0xD00008
/-- Address of CRU_PLL in BAR0. -/
abbrev CRU_PLL : Nat := 0xD00010
end Reg

end Sys2Proof
end

