-- ==== Sys2Proof/Machine/Types/Ferry.lean ====
section
/-! DEFINITION. State of Ferry and of the shared pool (chapter 10). -/

namespace Sys2Proof

/-- A pool frame that is not free (R323 to R326): the page it holds (object key and page number; for a LAKE_CENTRES page the
collection key, with `centre` set), the composition it is charged to, its AGE, whether it is being filled, and whether a read
of it would be uncorrectable. -/
structure Frame where
  obj : Nat
  page : Nat
  centre : Bool
  comp : Nat
  age : Nat
  filling : Bool
  bad : Bool
  deriving DecidableEq, Repr

/-- A move in flight (R316, R320): its task (`none` for firmware or a task that is gone), descriptor bytes, the pages whose fill it waits for, the
Lake and Basin-level frames it reads, the status that its checks gave, and the quadrant whose engine holds it. -/
structure Move where
  task : Option Nat
  comp : Nat
  batch : Nat
  desc : List Byte
  waiting : List Nat
  frames : List Nat
  basins : List Nat
  status : Nat
  quad : Nat
  deriving DecidableEq, Repr

/-- A fill in flight (R324): the page, its Lake frame, the Basin-level frame it reads (`none`: the home tier), its composition, and
whether it is a prefetch. The moves that wait on it list the page. -/
structure Fill where
  obj : Nat
  page : Nat
  frame : Nat
  basin : Option Nat
  comp : Nat
  prefetch : Bool
  deriving DecidableEq, Repr

/-- Ferry: the frames of the Lake level (0 to 2,559) and of the Basin level that are not free, moves, fills, and the bytes of save
area in use in each quadrant (R310). -/
structure FerrySt where
  lake : Tbl Frame
  basin : Tbl Frame
  moves : Tbl Move
  nextMove : Nat
  fills : List Fill
  saveUsed : List Nat
  deriving DecidableEq, Repr

end Sys2Proof
end

