-- ==== Sys2Proof/Machine/Types/Weir.lean ====
section
/-! DEFINITION. State of Weir, Spillway and the clock and reset unit (chapters 15, 17, 18). -/

namespace Sys2Proof

/-- The manufacturing record (Table WEI-3, R5, R6): part id, core map words, trip limits, and what verifies. -/
structure MfgRec where
  partId : Nat
  coreEn : List Nat
  tripC : Nat
  tripW : Nat
  signatureOk : Bool
  pufOk : Bool
  identity : List Byte
  deriving DecidableEq, Repr

/-- A state record (R497); `policy` is the payload of PEER_POLICY_SET, empty when no policy is set; `authentic`: its HMAC verifies, which a torn write spoils. -/
structure StateRec where
  seq : Nat
  rollback : Nat
  revoked : Nat
  incarnation : Nat
  policy : List Byte
  authentic : Bool
  deriving DecidableEq, Repr

/-- A firmware image as Weir holds it (Table WEI-2): version, ROLLBACK, KEY_INDEX, REVOKE, the checks of R492 that its own bytes decide
(format; SIGNER_KEY against the ROM digest; SIGNATURE; BODY_DIGEST), FW_MEASURE, and the bytes. -/
structure FwImage where
  version : Nat
  rollback : Nat
  keyIndex : Nat
  revoke : Nat
  formatOk : Bool
  keyOk : Bool
  signatureOk : Bool
  bodyOk : Bool
  measure : List Byte
  bytes : List Byte
  deriving DecidableEq, Repr

/-- An entry of the key table (R513). -/
structure KeyEnt where
  keyId : Nat
  tenant : Nat
  secret : Bool
  check : List Byte
  deriving DecidableEq, Repr

/-- A copy of the key table in one half of its region (R497). -/
structure KeyCopy where
  seq : Nat
  entries : List KeyEnt
  authentic : Bool
  deriving DecidableEq, Repr

/-- The SPDM state of one transport of a function (R506): the steps taken of the exchange, the pending KEM key, and the
established sessions. -/
structure Spdm where
  version : Bool
  capabilities : Bool
  algorithms : Bool
  nonce : List Byte
  kemKey : List Byte
  sessions : List Nat
  nextSession : Nat
  keyGen : Tbl Nat
  deriving DecidableEq, Repr

/-- STATE of WEI_STATUS. -/
inductive WeirState where
  | boot | running | recovery | quarantined
  deriving DecidableEq, Repr

/-- Instruction register of the test access port (R500). -/
inductive TapIr where
  | bypass | samplePreload | extest | idcode
  deriving DecidableEq, Repr

/-- Weir: the public registers, package flash (manufacturing record, state log of 256 slots, the two halves of the key table, firmware image with its
readability), the state record and key table in force, key slots and secrets, the staged image, SPDM state by function (65 and up: I3C buses), pins. -/
structure WeirSt where
  state : WeirState
  bootStep : Nat
  identity : Bool
  recoveryCause : Nat
  quarCause : Nat
  quarUnit : Nat
  quarNs : Nat
  lastCause : Nat
  tjMax : Nat
  fwKey : Nat
  measure : List Byte
  mfg : MfgRec
  pufRoot : List Byte
  record : StateRec
  keyTable : List KeyEnt
  image : FwImage
  flashReadable : Bool
  staged : Option FwImage
  activating : Option Msg
  slots : List (Nat × List Byte)
  flashKeys : Tbl Nat
  secrets : Tbl (List Byte)
  spdm : Tbl Spdm
  wtripLow : Bool
  vndrTest : Nat
  i3cId : Nat
  i3cAddr : Tbl Nat
  tap : TapIr
  stateLog : Tbl StateRec
  keyCopies : Tbl KeyCopy
  deriving DecidableEq, Repr

/-- STATE of SPW_STATUS. -/
inductive SpwState where
  | active | capped | entering | standby | waking
  deriving DecidableEq, Repr

/-- Spillway (R555 to R560): latest readings, SPW_LIMIT, CCLK step, stage Z, STATE, time of the last step under pressure and of the last
retreat, since when the retreat conditions hold. -/
structure SpwSt where
  powerW : Nat
  tjC : Nat
  limit : Nat
  cclkStep : Nat
  zStage : Bool
  state : SpwState
  lastStepNs : Nat
  coolSinceNs : Nat
  cool : Bool
  lastSampleNs : Nat
  wakeByPeer : Bool
  idleSinceNs : Nat
  deriving DecidableEq, Repr

/-- The clock and reset unit: locked PLLs (CRU_PLL bits), cause, type and number of resets, whether every unit is held (R564), and the
cause with which the next start-up enters recovery mode (R571, 0: none). -/
structure CruSt where
  plls : Nat
  cause : Nat
  typ : Nat
  resets : Nat
  held : Bool
  recoveryNext : Nat
  deriving DecidableEq, Repr

end Sys2Proof
end

