-- ==== Sys2Proof/Machine/State.lean ====
section
/-! DEFINITION. The state of the node, the reasons a command can stop, and the state right after a cold reset. -/

namespace Sys2Proof.Machine

/-- What stops a command. -/
inductive Fault where
  /-- An operand names a mailbox, core, cell, stack, link, function or channel that the node does not have: no sender can issue such
  a command (Table ARC-1). Raised by every meaning with such an operand; safe. -/
  | noSuchUnit
  deriving DecidableEq, Repr

/-- Why a command is refused by the model. -/
inductive Refusal where
  /-- The command has no meaning in the model; safe. -/
  | notModelled (mnemonic : String)
  deriving DecidableEq, Repr

/-- The node: the queue of waiting commands, node time in ns (R563), the number of free values drawn, and the blocks. -/
structure State where
  pending : List Instr
  now : Nat
  freeCtr : Nat
  host : HostSt
  regs : RegFile
  gauge : GaugeSt
  slc : SluiceSt
  search : SearchSt
  mrc : MrcSt
  ferry : FerrySt
  delta : DeltaSt
  trib : TribSt
  weir : WeirSt
  spw : SpwSt
  cru : CruSt
  deriving DecidableEq, Repr

/-- A mailbox from reset: CLOSED (R472). -/
def boxReset : Mailbox := ⟨[], .closed, 0, 0, 0, 0, 0, none, [], 0⟩

/-- A function from reset. -/
def Func.reset : Func := ⟨false, false, [], false, []⟩

/-- A table of `n` equal entries. -/
def tblOf {α : Type} (n : Nat) (a : α) : Tbl α := (List.range n).map (fun i => (i, a))

/-- Headwater from reset: BOOT. -/
def HostSt.reset : HostSt := ⟨.boot, 0, 0, tblOf 65 boxReset, tblOf 65 Func.reset, false, false, true, 0, 0, false, [], []⟩

/-- Gauge from cold reset: nothing logged. -/
def GaugeSt.reset : GaugeSt := ⟨0, [], [], [], 0, [], [], none, false, [], []⟩

/-- The registers of a core from reset. -/
def RillRegs.reset : RillRegs := ⟨[], [], [], [], [], [], 0⟩

/-- A core from reset: IDLE, nothing queued, default watchdog. -/
def Core.reset : Core := ⟨RillRegs.reset, [], [], [], 65, none, .idle, [[], [], [], [], []], false, ⟨false, 0, 0, 0⟩, false, none, 0, 10000⟩

/-- Sluice from reset. -/
def SluiceSt.reset : SluiceSt :=
  { comps := [], meters := [], batches := [], nextBatch := 1, ctxs := [], tasks := [], nextTask := 1, cores := tblOf 256 Core.reset,
    kernels := [], kernelGens := [], sems := [], pipes := [], runs := [], words := [], offers := [], chargeLog := none,
    produced := 0, windowNs := 0, shareNs := [], objs := [], mirrors := [] }

/-- The search blocks from reset. -/
def SearchSt.reset : SearchSt := ⟨[], [], [], [], [], [], [], [], [], 0, 0, []⟩

/-- A cell from reset. -/
def Cell.reset : Cell := ⟨[], [], [], [], false, false, none, false, false, [], [], 0, none, [], none⟩

/-- The Millrace stacks from reset. -/
def MrcSt.reset : MrcSt := ⟨tblOf 512 Cell.reset, List.replicate 4 ⟨127, false, 0, []⟩, [], [], [], []⟩

/-- Ferry from reset. -/
def FerrySt.reset : FerrySt := ⟨[], [], [], 1, [], [0, 0, 0, 0]⟩

/-- Delta from reset: STARTING, with the contents of the flash devices as they are; from manufacture they hold nothing. -/
def DeltaSt.reset : DeltaSt :=
  { phase := .starting, step := 0, geom := ⟨1, 1, 1, 1, 0⟩, chans := [], failedLuns := [], slcTargets := [], blocks := [],
    spaces := [], nextLsn := [], opens := [], reclaiming := [], progs := [], seq := 0, sealCtr := 0, extCtr := 0, extents := [], ckpts := [],
    lastCkptNs := 0 }

/-- A link from reset: DISABLED. -/
def Link.reset : Link :=
  { state := .disabled, enable := false, trickleReq := false, spwTrickle := false, peerNode := 0, peerLink := 0, peerInc := 0,
    retrains := 0, deadline := 0, leftUpNs := 0, coefs := false, draining := false, txSeq := 0, replay := [], queue := [], ackNs := 0,
    rxNext := 0, rxSince := 0, lastRxNs := 0, lastTxNs := 0, lastAckNs := 0, credits := [], shared := 0, sharedUse := [], wrrClass := 1,
    wrrLeft := 0, tagSeq := 0, tagFails := 0, txCtr := 0, rxCtr := 0, out := [] }

/-- Tributary from reset. -/
def TribSt.reset : TribSt := ⟨tblOf 32 Link.reset, [], [], [], 1, [], [], [], [], [], [], [], []⟩

/-- The manufacturing record the model starts from (log 4): an SN4-256 of stepping B0 with every core enabled and the trip limits of R501. -/
def MfgRec.stock : MfgRec :=
  ⟨0x0010010101000001, List.replicate 4 max64, 105, 1260, true, true, []⟩

/-- The firmware image the model starts from (log 5). -/
def FwImage.stock : FwImage := ⟨1, 0, 0, 0, true, true, true, true, zeros 32, []⟩

/-- Weir from cold reset: BOOT, no step of Table WEI-1 completed. -/
def WeirSt.reset : WeirSt :=
  { state := .boot, bootStep := 0, identity := false, recoveryCause := 0, quarCause := 0, quarUnit := 0, quarNs := 0, lastCause := 0,
    tjMax := 0, fwKey := 0, measure := zeros 32, mfg := MfgRec.stock, pufRoot := zeros 32, record := ⟨1, 0, 0, 0, [], true⟩,
    keyTable := [], image := FwImage.stock, flashReadable := true, staged := none, activating := none, slots := [], flashKeys := [],
    secrets := [], spdm := [], wtripLow := false, vndrTest := 0, i3cId := 0, i3cAddr := [], tap := .bypass,
    stateLog := [(0, ⟨1, 0, 0, 0, [], true⟩)], keyCopies := [(0, ⟨1, [], true⟩)] }

/-- Spillway from reset: ACTIVE, no step held. -/
def SpwSt.reset : SpwSt := ⟨0, 0, 128, 0, false, .active, 0, 0, false, 0, false, 0⟩

/-- The clock and reset unit from power-on. -/
def CruSt.reset : CruSt := ⟨0, 0, 0, 0, false, 0⟩

/-- The node right after a cold reset (R563, R567): node time zero, every register at its reset value, nothing stored. -/
def State.reset : State :=
  { pending := [], now := 0, freeCtr := 0, host := HostSt.reset, regs := ⟨[], []⟩, gauge := GaugeSt.reset, slc := SluiceSt.reset,
    search := SearchSt.reset, mrc := MrcSt.reset, ferry := FerrySt.reset, delta := DeltaSt.reset, trib := TribSt.reset,
    weir := WeirSt.reset, spw := SpwSt.reset, cru := CruSt.reset }

end Sys2Proof.Machine
end

