-- ==== Sys2Proof/Machine/Regs.lean ====
section
/-! DEFINITION. The stored register fields: reading, writing, shadows of class S fields, event counters, and the values that a block
acts on where a description says that a stored value is taken as another (R14 to R17, R553, R599). -/

namespace Sys2Proof.Machine

/-- The stored value of the register at an address. -/
def State.raw (s : State) (a : Nat) : Nat :=
  match Tbl.find a s.regs.vals with
  | some v => v.toNat
  | none => regReset a

/-- Stores a whole register; a register at its reset value is not listed. -/
def State.setRaw (s : State) (a v : Nat) : State :=
  { s with regs := { s.regs with
      vals := if v % 2 ^ 64 = regReset a then Tbl.erase a s.regs.vals else Tbl.put a (BitVec.ofNat 64 v) s.regs.vals } }

/-- A stored field. -/
def State.fld (s : State) (a lo w : Nat) : Nat := bits (s.raw a) lo w

/-- Stores a field. -/
def State.setFld (s : State) (a lo w v : Nat) : State := s.setRaw a (setBits (s.raw a) lo w v)

/-- Event counter `i` of a block counts `n` and saturates (R553). -/
def State.count (s : State) (base i n : Nat) : State := s.setRaw (base + 8 * i) (satAdd (s.raw (base + 8 * i)) n)

/-- The waiting shadow of a class S field. -/
def State.shadow (s : State) (a lo : Nat) : Option Shadow := s.regs.shadows.find? (fun h => decide (h.addr = a) && decide (h.lo = lo))

/-- The shadows other than that of one field. -/
def State.otherShadows (s : State) (a lo : Nat) : List Shadow :=
  s.regs.shadows.filter (fun h => !(decide (h.addr = a) && decide (h.lo = lo)))

/-- The value of a class S field that an agent acts on: an agent that has not reached its boundary keeps what it adopted (R16). -/
def State.fldFor (s : State) (a lo w agent : Nat) : Nat :=
  match s.shadow a lo with
  | none => s.fld a lo w
  | some h => if h.waiting.contains agent then Tbl.getD agent (s.fld a lo w) h.agentVals else h.newVal

/-- A write of a class S field: at once where no agent of its block runs, else into its shadow, whose last value alone takes effect at
the boundary of each running agent (R14, R16). -/
def State.writeS (s : State) (a lo w v : Nat) (running : List Nat) : State :=
  if running = [] then { (s.setFld a lo w v) with regs := { (s.setFld a lo w v).regs with shadows := s.otherShadows a lo } }
  else
    let keep : Tbl Nat := running.foldl (fun t g => Tbl.put g (s.fldFor a lo w g) t) []
    { s with regs := { s.regs with shadows := s.otherShadows a lo ++ [⟨a, lo, w, v % 2 ^ w, running, keep⟩] } }

/-- An agent reaches the boundary of a class S field: it adopts the shadow's value; the shadow is gone once no agent waits (R16, R17). -/
def State.boundary (s : State) (a lo w agent : Nat) : State :=
  match s.shadow a lo with
  | none => s
  | some h =>
    let rest := h.waiting.filter (fun g => decide (g ≠ agent))
    if rest = [] then
      let s1 := s.setFld a lo w h.newVal
      { s1 with regs := { s1.regs with shadows := s.otherShadows a lo } }
    else { s with regs := { s.regs with shadows := s.otherShadows a lo ++ [{ h with waiting := rest }] } }

/-- A shadow of the register at an address waits: its PENDING bit (R17). -/
def State.pendingBit (s : State) (a : Nat) : Bool := s.regs.shadows.any (fun h => decide (h.addr = a))

/-- The register with the shadow value of each field that waits, as a read returns it (Table SCP-4). -/
def State.withShadows (s : State) (a : Nat) : Nat :=
  (s.regs.shadows.filter (fun h => decide (h.addr = a))).foldl (fun v h => setBits v h.lo h.width h.newVal) (s.raw a)

/-- A draw of a value that the manual leaves open (log 1). -/
def State.free (s : State) : Nat × State := (Config.freeValue s.freeCtr, { s with freeCtr := s.freeCtr + 1 })

/-- `v`, or `d` where the stored value is 0 and is taken as `d`. -/
def orIfZero (v d : Nat) : Nat := if v = 0 then d else v

/-- `v` where it lies in `[lo, hi]`, else `d`. -/
def inRange (v lo hi d : Nat) : Nat := if lo ≤ v ∧ v ≤ hi then v else d

end Sys2Proof.Machine
end

