-- ==== Sys2Proof/Machine/Ops.lean ====
section
/-! DEFINITION. Shared operations: host writes and replies (chapter 14), error records (chapter 16). -/

namespace Sys2Proof

/-- OPCODE of a message (Table HWD-4). -/
def Msg.opcode (m : Msg) : Nat := natAt m.req 0 2

/-- PAYLOAD_LEN. -/
def Msg.len (m : Msg) : Nat := natAt m.req 2 2

/-- ON_BEHALF. -/
def Msg.behalf (m : Msg) : Nat := natAt m.req 4 1

/-- VECTOR. -/
def Msg.vector (m : Msg) : Nat := natAt m.req 5 1

/-- NO_RING. -/
def Msg.noRing (m : Msg) : Bool := bit (natAt m.req 6 2) 0

/-- MSG_TAG. -/
def Msg.tag (m : Msg) : Nat := natAt m.req 8 8

/-- REPLY_ADDR. -/
def Msg.replyAddr (m : Msg) : Nat := natAt m.req 16 8

/-- REPLY_LEN. -/
def Msg.replyLen (m : Msg) : Nat := natAt m.req 24 4

/-- A field of the payload. -/
def Msg.p (m : Msg) (off n : Nat) : Nat := natAt m.payload off n

/-- Bytes of the payload. -/
def Msg.pb (m : Msg) (off n : Nat) : List Byte := bytesAt m.payload off n

/-- The composition a message acts as; 64 for the admin role itself (R471). -/
def Msg.comp (m : Msg) : Nat := if m.mb = 64 then (if m.behalf = 0xFF then 64 else m.behalf) else m.mb

/-- The message comes from the admin mailbox. -/
def Msg.admin (m : Msg) : Bool := decide (m.mb = 64)

/-- CLASS [2:0]. -/
def ErrClass.code : ErrClass → Nat
  | .c => 0 | .d => 1 | .x => 2 | .u => 3 | .n => 4

/-- The bytes of a record (Table ERR-3). -/
def GRec.bytes (r : GRec) : List Byte :=
  le 8 r.seq ++ le 8 r.timeNs ++ le 2 r.unit ++ le 2 r.typ ++ le 1 (r.cls.code + 8 * b2n r.nested + 16 * b2n r.prior)
    ++ le 1 r.comp ++ le 2 r.ctx ++ le 8 r.addr ++ le 32 r.detail

/-- The bound of a class's handler (Table ERR-6). -/
def ErrClass.bound : ErrClass → Nat
  | .x => 100000
  | _ => 1000000

end Sys2Proof

namespace Sys2Proof.Machine

/-- Applies a meaning that always ends in a next state. -/
def ok (s : State) : Host.Outcome State Fault Refusal := .next s

/-- The next state, where the operand names a unit that the node has. -/
def onUnit (b : Bool) (s : State) : Host.Outcome State Fault Refusal := if b then .next s else .fault .noSuchUnit

/-! ### State updates -/

/-- Updates Headwater's state. -/
def State.host! (s : State) (f : HostSt → HostSt) : State := { s with host := f s.host }
/-- Updates Gauge's state. -/
def State.gauge! (s : State) (f : GaugeSt → GaugeSt) : State := { s with gauge := f s.gauge }
/-- Updates Sluice's state. -/
def State.slc! (s : State) (f : SluiceSt → SluiceSt) : State := { s with slc := f s.slc }
/-- Updates the search blocks. -/
def State.search! (s : State) (f : SearchSt → SearchSt) : State := { s with search := f s.search }
/-- Updates the Millrace stacks. -/
def State.mrc! (s : State) (f : MrcSt → MrcSt) : State := { s with mrc := f s.mrc }
/-- Updates Ferry's state. -/
def State.ferry! (s : State) (f : FerrySt → FerrySt) : State := { s with ferry := f s.ferry }
/-- Updates Delta's state. -/
def State.delta! (s : State) (f : DeltaSt → DeltaSt) : State := { s with delta := f s.delta }
/-- Updates Tributary's state. -/
def State.trib! (s : State) (f : TribSt → TribSt) : State := { s with trib := f s.trib }
/-- Updates Weir's state. -/
def State.weir! (s : State) (f : WeirSt → WeirSt) : State := { s with weir := f s.weir }
/-- Updates Spillway's state. -/
def State.spw! (s : State) (f : SpwSt → SpwSt) : State := { s with spw := f s.spw }
/-- Updates the clock and reset unit. -/
def State.cru! (s : State) (f : CruSt → CruSt) : State := { s with cru := f s.cru }

/-- Time passes up to `t` (node time never decreases). -/
def State.reach (s : State) (t : Nat) : State := { s with now := Nat.max s.now t }

/-- Microseconds in ns. -/
def us (n : Nat) : Nat := 1000 * n
/-- Milliseconds in ns. -/
def ms (n : Nat) : Nat := 1000000 * n

/-! ### Mailboxes and messages -/

/-- A mailbox. -/
def State.box (s : State) (mb : Nat) : Mailbox := Tbl.getD mb boxReset s.host.boxes
/-- Updates a mailbox. -/
def State.box! (s : State) (mb : Nat) (f : Mailbox → Mailbox) : State := s.host! (fun h => { h with boxes := Tbl.upd mb f h.boxes })
/-- A function. -/
def State.func (s : State) (fn : Nat) : Func := Tbl.getD fn Func.reset s.host.funcs
/-- Updates a function. -/
def State.func! (s : State) (fn : Nat) (f : Func → Func) : State := s.host! (fun h => { h with funcs := Tbl.upd fn f h.funcs })

/-- The function of a mailbox: the PF for the admin mailbox, VF c + 1 for composition c (R455). -/
def fnOf (mb : Nat) : Nat := if mb = 64 then 0 else mb + 1

/-- The node issues an event of function `fn`: dropped while its host writes are suppressed or Weir holds the node quarantined, kept
waiting while Bus Master Enable is 0 (R458, R460, R461). -/
def State.emit (s : State) (fn : Nat) (e : HostEvt) : State :=
  if s.weir.state = .quarantined ∨ s.cru.held then s
  else if (s.func fn).suppressed then s
  else if !(s.func fn).busMaster then s.func! fn (fun f => { f with waiting := f.waiting ++ [e] })
  else s.host! (fun h => { h with out := h.out ++ [e] })

/-- An event that is no request of a function (a completion, a pin). -/
def State.drive (s : State) (e : HostEvt) : State := s.host! (fun h => { h with out := h.out ++ [e] })

/-- Writes bytes into host memory for a function, in one piece. -/
def State.hostWrite (s : State) (fn addr : Nat) (bs : List Byte) : State :=
  if bs = [] then s else s.emit fn (.memWrite fn addr bs (s.func fn).ideEnabled)

/-- The message writes nothing into host memory any more (R458, R574). -/
def State.isMuted (s : State) (m : Msg) : Bool := decide (m.seq ≤ (s.box m.mb).muted)

/-- Writes an output of a message's function. -/
def State.output (s : State) (m : Msg) (addr : Nat) (bs : List Byte) : State :=
  if s.isMuted m then s else s.hostWrite (fnOf m.mb) addr bs

/-- The reply header (Table HWD-8). -/
def replyHeader (m : Msg) (status payloadLen replyNs : Nat) : List Byte :=
  bytesAt m.req 0 32 ++ le 1 status ++ le 1 m.mb ++ le 2 payloadLen ++ le 4 0 ++ le 8 m.seq ++ le 8 m.admitNs ++ le 8 replyNs

/-- A completion entry (R476). -/
def ringEntry (m : Msg) (status phase : Nat) : List Byte := le 8 m.tag ++ le 4 m.seq ++ le 1 status ++ le 1 phase ++ le 2 0

/-- The completion entry of a reply, unless NO_RING is set or the mailbox has no ring. -/
def State.writeRing (s : State) (m : Msg) (status : Nat) : State :=
  match (s.box m.mb).ring with
  | none => s
  | some r =>
    if m.noRing then s
    else
      let slot := r.written % r.n
      let phase := if r.written / r.n % 2 = 0 then 1 else 0
      let s1 := s.hostWrite (fnOf m.mb) (r.addr + 16 * slot) (ringEntry m status phase)
      (s1.box! m.mb (fun b => { b with ring := some { r with written := r.written + 1 } })).count Reg.HWD_CNT0 4 1

/-- The MSI-X message of a reply, unless VECTOR is 0xFF. -/
def State.replyVector (s : State) (m : Msg) : State :=
  if m.vector = 0xFF then s
  else (s.emit (fnOf m.mb) (.msix (fnOf m.mb) m.vector (s.func (fnOf m.mb)).ideEnabled)).count Reg.HWD_CNT0 5 1

/-- What a reply writes (R474): payload, header, completion entry, MSI-X message, in this order. -/
def State.writeReply (s : State) (m : Msg) (status : Nat) (payload : List Byte) : State :=
  let s1 := s.hostWrite (fnOf m.mb) (m.replyAddr + 64) payload
  let s2 := (s1.hostWrite (fnOf m.mb) m.replyAddr (replyHeader m status payload.length s.now)).count Reg.HWD_CNT0 3 1
  (s2.writeRing m status).replyVector m

/-- A reply (R473, R474); the message is no longer outstanding. A payload that the reply area cannot hold, which only a refusal at check 8
of Table HWD-6 has, is cut to it (log 14). -/
def State.reply (s : State) (m : Msg) (status : Nat) (payload : List Byte) : State :=
  let s1 := if s.isMuted m then s else s.writeReply m status (payload.take (m.replyLen - 64))
  s1.box! m.mb (fun b => { b with outstanding := b.outstanding - 1 })

/-- OK. -/
abbrev stOK : Nat := 0x00
/-- SHORT. -/
abbrev stShort : Nat := 0x01
/-- REROUTE. -/
abbrev stReroute : Nat := 0x02
/-- EPOCH_RETIRED. -/
abbrev stEpochRetired : Nat := 0x03
/-- K_RANGE. -/
abbrev stKRange : Nat := 0x10
/-- BAD_DESCRIPTOR. -/
abbrev stBad : Nat := 0x11
/-- COLLECTION_OFFLINE. -/
abbrev stOffline : Nat := 0x12
/-- FILTER_INVALID. -/
abbrev stFilter : Nat := 0x13
/-- MEDIA_UNCORRECTABLE. -/
abbrev stMedia : Nat := 0x20
/-- OBJECT_POISONED. -/
abbrev stPoisoned : Nat := 0x21
/-- PEER_LOST. -/
abbrev stPeerLost : Nat := 0x22
/-- ROW_DAMAGED. -/
abbrev stRowDamaged : Nat := 0x23
/-- CONTEXT_TORN_DOWN. -/
abbrev stTorn : Nat := 0x30
/-- LEASE_EXPIRED. -/
abbrev stLease : Nat := 0x31
/-- INTERNAL. -/
abbrev stInternal : Nat := 0x3F

/-- The header REASON (2 B) and 6 zero bytes that most replies begin with. -/
def reasonHdr (r : Nat) : List Byte := le 2 r ++ le 6 0

/-- A reply of an opcode whose payload begins with REASON (2 B) and 6 zero bytes. -/
def State.done (s : State) (m : Msg) (rest : List Byte) : State := s.reply m stOK (reasonHdr 0 ++ rest)

/-- A refusal with BAD_DESCRIPTOR and a reason, of such an opcode. -/
def State.refuse (s : State) (m : Msg) (reason : Nat) : State := s.reply m stBad (reasonHdr reason)

/-- The first message in a mailbox's inbox, when it carries this opcode, and the state without it (R469); it is admitted now. -/
def State.next? (s : State) (mb op : Nat) : Option (Msg × State) :=
  match (s.box mb).inbox with
  | [] => none
  | m :: rest => if m.opcode = op then some ({ m with admitNs := s.now }, s.box! mb (fun b => { b with inbox := rest })) else none

/-! ### Gauge -/

/-- UNIT of Table ERR-3: block code and instance number. -/
def unitOf (block i : Nat) : Nat := 256 * block + i

/-- A record enters its unit's queue, or is dropped and counted (R529). -/
def State.enqueueRec (s : State) (r : GRec) : State :=
  let q := Tbl.getD r.unit [] s.gauge.queues
  let cs := (q.filter (fun x => decide (x.cls = .c))).length
  if 64 ≤ q.length ∨ (r.cls = .c ∧ 56 ≤ cs) then s.count Reg.ERR_CNT0 2 1
  else s.gauge! (fun g => { g with queues := Tbl.put r.unit (q ++ [r]) g.queues })

/-- Forms a record: SEQ, time, queue (R525, R529). -/
def State.form (s : State) (unit typ : Nat) (cls : ErrClass) (nested : Bool) (comp ctx addr detail : Nat) : State :=
  let s1 := s.gauge! (fun g => { g with lastSeq := g.lastSeq + 1 })
  s1.enqueueRec ⟨s1.gauge.lastSeq, s.now, unit, typ, cls, nested, false, comp, ctx, addr, detail⟩

/-- The class C counts of the second that holds `now` (R532). -/
def State.ceRoll (s : State) : State :=
  let sec := s.now / 1000000000
  if s.gauge.ceSecond = sec then s else s.gauge! (fun g => { g with ceSecond := sec, ceCounts := [], ceStormed := [] })

/-- CE_STORM; 0 is taken as 1. -/
def State.ceStorm (s : State) : Nat := orIfZero (s.fld Reg.ERR_CFG 32 16) 1

/-- A class C event (R532): formed, or suppressed and counted once the unit has formed CE_STORM records in the second; the first
suppression of a second forms a CE_STORM record. -/
def State.logC (s : State) (unit typ comp ctx addr detail : Nat) : State :=
  let s0 := s.ceRoll
  let n := Tbl.getD unit 0 s0.gauge.ceCounts
  if n < s0.ceStorm then
    (s0.gauge! (fun g => { g with ceCounts := Tbl.put unit (n + 1) g.ceCounts })).form unit typ .c false comp ctx addr detail
  else
    let s1 := s0.count Reg.ERR_CNT0 1 1
    if s1.gauge.ceStormed.contains unit then s1
    else (s1.gauge! (fun g => { g with ceStormed := g.ceStormed ++ [unit] })).form unit 0x0047 .c false 0xFF 0x3FF 0 0

/-- An ACCESS record (Table ERR-5, TYPE 0x0045): PF accesses, `why` as DETAIL byte 2. -/
def State.logAccess (s : State) (isWrite : Bool) (addr size why : Nat) : State :=
  s.logC (unitOf 0x18 0) 0x0045 0xFF 0x3FF addr (b2n isWrite + 256 * size + 65536 * why)

/-- The unit has an open handler (R535); it closes at its bound (log 7). -/
def State.handlerOpen (s : State) (unit : Nat) : Bool :=
  match Tbl.find unit s.gauge.handlers with | some t => decide (s.now < t) | none => false

/-- Opens the handler of a unit (R535). -/
def State.openHandler (s : State) (unit : Nat) (k : ErrClass) : State :=
  s.gauge! (fun g => { g with handlers := Tbl.put unit (s.now + k.bound) g.handlers })

end Sys2Proof.Machine
end

