-- ==== Sys2Proof/Machine/SluiceOps.lean ====
section
/-! DEFINITION. Shared operations of Sluice: slices, contexts, admission, replies of batches with their charging records, semaphores
and teardown (chapter 13). -/

namespace Sys2Proof

/-- A field of a slice record (Table SLC-4). -/
def Comp.f (c : Comp) (off n : Nat) : Nat := natAt c.slice off n
/-- MODE, as batches are admitted under it, is CLASS (R434). -/
def Comp.classMode (c : Comp) : Bool := bit c.mode 0
/-- DEFAULT_LEVEL, as batches are admitted under it (R434). -/
def Comp.defaultLevel (c : Comp) : Nat := bits c.mode 1 2
/-- A COMP_MODIFY has replied: MODE and DEFAULT_LEVEL of the record apply to batches admitted from now on (R434). -/
def Comp.modified (c : Comp) : Comp := { c with modify := none, mode := c.f 1 1 % 8 }
/-- MIRROR_OK. -/
def Comp.mirrorOk (c : Comp) : Bool := bit (c.f 1 1) 3
/-- TENANT. -/
def Comp.tenant (c : Comp) : Nat := c.f 2 2
/-- CORE_GROUPS. -/
def Comp.groups (c : Comp) : Nat := c.f 4 2
/-- CTX_LIMIT. -/
def Comp.ctxLimit (c : Comp) : Nat := c.f 0x0A 2
/-- CTX_RESERVE. -/
def Comp.ctxReserve (c : Comp) : Nat := c.f 0x0C 2

/-- Nothing charged yet. -/
def Charge.zero : Charge := ⟨0, 0, 0, 0, 0, 0, 0⟩

end Sys2Proof

namespace Sys2Proof

/-- A core with its task removed: IDLE. -/
def Core.idle (c : Core) : Core := { c with task := none, phase := .idle, preemptBy := none }

/-- STATE of a collection reply (R58). -/
def Coll.stateCode (c : Coll) : Nat :=
  (match c.state with | .online => 0 | .dropping => 1 | .offline => 2) + 64 * b2n c.frozen + 128 * b2n c.recoding

/-- Frees a merge slot: its generation rises by one (R171, R450). -/
def MergeSlot.freed (m : MergeSlot) : MergeSlot := ⟨(m.gen + 1) % 65536, none, []⟩

end Sys2Proof

namespace Sys2Proof.Machine

/-- A composition. -/
def State.comp (s : State) (c : Nat) : Option Comp := Tbl.find c s.slc.comps
/-- Updates a composition. -/
def State.comp! (s : State) (c : Nat) (f : Comp → Comp) : State := s.slc! (fun x => { x with comps := Tbl.upd c f x.comps })
/-- A batch. -/
def State.batch (s : State) (b : Nat) : Option Batch := Tbl.find b s.slc.batches
/-- Updates a batch. -/
def State.batch! (s : State) (b : Nat) (f : Batch → Batch) : State := s.slc! (fun x => { x with batches := Tbl.upd b f x.batches })
/-- Updates a context. -/
def State.ctx! (s : State) (c : Nat) (f : Ctx → Ctx) : State := s.slc! (fun x => { x with ctxs := Tbl.upd c f x.ctxs })
/-- Updates a task. -/
def State.task! (s : State) (t : Nat) (f : Task → Task) : State := s.slc! (fun x => { x with tasks := Tbl.upd t f x.tasks })
/-- Updates a core. -/
def State.core! (s : State) (n : Nat) (f : Core → Core) : State := s.slc! (fun x => { x with cores := Tbl.upd n f x.cores })
/-- Updates an object. -/
def State.obj! (s : State) (k : Nat) (f : Obj → Obj) : State := s.slc! (fun x => { x with objs := Tbl.upd k f x.objs })

/-- The key of an object of a composition (64: the admin role). -/
def objKey (comp id : Nat) : Nat := comp * 65536 + id
/-- The key of a semaphore or pipeline of a composition. -/
def subKey (comp i : Nat) : Nat := comp * 256 + i

/-! ### Levels and contexts -/

/-- The level of a batch (Table SLC-2); 4 is best-effort. -/
def levelOf (c : Comp) (priority : Nat) : Nat :=
  if priority = 0xFF then (if c.classMode then 4 else c.defaultLevel) else Nat.min priority 3

/-- PRIORITY holds 0 to 3 or 0xFF. -/
def priorityOk (p : Nat) : Bool := decide (p ≤ 3) || decide (p = 0xFF)

/-- Contexts that a composition holds. -/
def State.ctxHeld (s : State) (c : Nat) : Nat := (s.slc.ctxs.filter (fun x => decide (x.2.comp = c))).length

/-- FREE contexts, of the 1,023 that batches use (R408). -/
def State.ctxFree (s : State) : Nat := 1023 - s.slc.ctxs.length

/-- A composition may take a context (R412). -/
def State.ctxAllowed (s : State) (c : Nat) : Bool :=
  match s.comp c with
  | none => false
  | some x =>
    let held := s.ctxHeld c
    let unused := sumL ((s.slc.comps.filter (fun y => decide (y.1 ≠ c))).map (fun y => y.2.ctxReserve - s.ctxHeld y.1))
    decide (held < x.ctxLimit) && (if held < x.ctxReserve then decide (0 < s.ctxFree) else decide (unused < s.ctxFree))

/-- Takes the free context of the least number for a batch. -/
def State.takeCtx (s : State) (comp batch : Nat) (task : Option Nat) (st : CtxState) : Option Nat × State :=
  match Tbl.freeFrom s.slc.ctxs 1023 0 with
  | none => (none, s)
  | some n => (some n, s.slc! (fun x => { x with ctxs := Tbl.put n ⟨st, comp, batch, task, 0, []⟩ x.ctxs }))

/-- CTX_QUIET_US: a value below twice OP_TMO_US is taken as that; OP_TMO_US 0 is taken as 1. -/
def State.quietUs (s : State) : Nat := Nat.max (s.fld Reg.SLC_TIMING 32 16) (2 * orIfZero (s.fld Reg.TRB_TIMING 48 16) 1)

/-- A context becomes QUIET (R414). -/
def State.quietCtx (s : State) (c : Nat) : State :=
  s.ctx! c (fun x => { x with state := .quiet, task := none, held := [], quietNs := s.now + us s.quietUs })

/-- Every context of a batch becomes QUIET. -/
def State.quietBatch (s : State) (b : Nat) : State :=
  (s.slc.ctxs.filter (fun x => decide (x.2.batch = b) && decide (x.2.state ≠ .quiet))).foldl (fun t x => t.quietCtx x.1) s

/-- Batches that wait for a root context. -/
def State.batchesWaiting (s : State) : Nat := (s.slc.batches.filter (fun b => decide (b.2.stage ≠ .active) && decide (b.2.torn = none))).length

/-- Creates a batch (R415): its number, and the state that holds it. -/
def State.addBatch (s : State) (m : Option Msg) (comp opcode level tag : Nat) (stage : BatchStage) (coll : Option Nat) (objs : List Nat) : Nat × State :=
  let b := s.slc.nextBatch
  (b, s.slc! (fun x => { x with
        nextBatch := b + 1
        batches := Tbl.put b ⟨comp, opcode, level, tag, m, s.now, stage, none, coll, objs, Charge.zero, none, none, 0, [], none⟩ x.batches }))

/-! ### Charging -/

/-- Adds to the charge of a batch and to the meter of its composition (R437); meter `i` in ns. -/
def State.chargeComp (s : State) (comp i ns : Nat) : State :=
  s.slc! (fun x =>
    let l := Tbl.getD comp [0, 0, 0, 0, 0] x.meters
    { x with meters := Tbl.put comp (setAt l i (l.getD i 0 + ns)) x.meters })

/-- Charges a batch for core time. -/
def State.chargeCore (s : State) (b ns : Nat) : State :=
  match s.batch b with
  | none => s
  | some x => (s.batch! b (fun y => { y with charge := { y.charge with coreNs := y.charge.coreNs + ns } })).chargeComp x.comp 0 ns
/-- Charges a batch for bundle time. -/
def State.chargeCell (s : State) (b ns : Nat) : State :=
  match s.batch b with
  | none => s
  | some x => (s.batch! b (fun y => { y with charge := { y.charge with cellNs := y.charge.cellNs + ns } })).chargeComp x.comp 1 ns
/-- Charges a batch for link time. -/
def State.chargeLink (s : State) (b ns : Nat) : State :=
  match s.batch b with
  | none => s
  | some x => (s.batch! b (fun y => { y with charge := { y.charge with linkNs := y.charge.linkNs + ns } })).chargeComp x.comp 3 ns

/-- Charges a composition for the time that a LUN is busy for it (Table SLC-5); how long that is the manual leaves open (log 127). -/
def State.chargeLun (s : State) (comp lun kind : Nat) : State := if comp < 64 then s.chargeComp comp 4 (Config.lunNs kind lun s.now) else s
/-- The flash reads of a batch enter its charging record (Table SLC-6). -/
def State.chargeRead (s : State) (b lun : Nat) : State :=
  s.batch! b (fun y => { y with charge := { y.charge with flashNs := y.charge.flashNs + Config.lunNs 0 lun s.now } })
/-- Charges a composition for a job of the node context on its data (R408, Table SLC-5). -/
def State.chargeNode (s : State) (comp : Nat) : State := if comp < 64 then s.chargeComp comp 0 (Config.nodeWorkNs comp s.now) else s

/-- A charging record (Table SLC-6). -/
def chargeBytes (b : Batch) (status replyNs : Nat) : List Byte :=
  le 2 b.opcode ++ le 1 b.comp ++ le 1 status ++ le 4 b.tag ++ le 8 b.admitNs ++ le 8 replyNs ++ le 8 b.charge.coreNs
    ++ le 8 b.charge.cellNs ++ le 8 b.charge.ferryNs ++ le 8 b.charge.linkNs ++ le 4 (b.charge.flashNs / 1000)
    ++ le 2 b.charge.preemptions ++ le 2 b.charge.reroutes

/-- Appends a charging record, or drops and counts it when the log is full (R438). -/
def State.chargeRecord (s : State) (b : Batch) (status : Nat) : State :=
  match s.slc.chargeLog with
  | none => s
  | some l =>
    if (s.slc.produced + 2 ^ 32 - s.fld Reg.SLC_CHARGE 0 32) % 2 ^ 32 < l.n then
      (s.hostWrite 0 (l.addr + 64 * (s.slc.produced % l.n)) (chargeBytes b status s.now)).slc!
        (fun x => { x with produced := (x.produced + 1) % 2 ^ 32 })
    else s.count Reg.SLC_CNT0 9 1

/-- The head of a batch reply (R475). -/
def batchHdr (reason tag : Nat) : List Byte := le 2 reason ++ le 2 0 ++ le 4 tag

/-- The common header of Table COL-9's replies (R58). -/
def collHdr (reason state : Nat) : List Byte := le 2 reason ++ le 1 state ++ zeros 5

/-- The payload of a BITMAP_WRITE that ends without effect: the fields of Table SND-7 follow the head (R596), with no epoch and no id ignored. -/
def writeHdr (reason : Nat) : List Byte := reasonHdr reason ++ zeros 12

/-- What a destroyed composition's other messages still get: a re-code or freeze is refused as on a dropped collection, a load as of an unknown object. -/
def State.owedRefusals (s : State) (c : Nat) : List (Msg × List Byte) :=
  s.search.colls.flatMap (fun k => if k.2.comp = c then (k.2.recodeMsg.toList ++ k.2.freezeMsgs.map (·.1)).map (fun m => (m, collHdr 0x0007 k.2.stateCode)) else [])
    ++ s.slc.objs.filterMap (fun o => if o.1 / 65536 = c then (match o.2.kind with | .weight w => w.loadMsg.map (fun m => (m, reasonHdr 0x0501)) | _ => none) else none)
    ++ s.search.bitWrites.filterMap (fun w => if w.coll / 4096 = c then some (w.msg, writeHdr 0x0007) else none)

/-- Replies that a composition's pending drops and resynchronisations still owe when it is destroyed. -/
def State.owedDrops (s : State) (c : Nat) : List (Msg × List Byte) :=
  s.search.colls.flatMap (fun k => if k.2.comp = c then k.2.dropMsg.toList.map (fun m => (m, collHdr 0 k.2.stateCode)) else [])
    ++ (s.search.colls.flatMap (fun k => if k.2.comp = c then k.2.bitmaps.filterMap (fun b => b.2.dropMsg) ++ k.2.sources.flatMap (fun v => v.2.msgs) else [])
      ++ s.slc.objs.filterMap (fun o => if o.1 / 65536 = c then o.2.dropMsg else none)
      ++ s.slc.kernels.filterMap (fun k => if k.2.comp = c then k.2.dropMsg else none)).map (fun m => (m, reasonHdr 0))

/-- The composition of a request that waits, and the map version that it carries. -/
def MapReq_at : MapReq → Nat × Nat
  | .part p => (p.comp, p.mapVersion)
  | .fanout p => (p.comp, p.mapVersion)
  | .summary coll _ _ _ v _ => (coll / 4096, v)
  | .gather comp v _ => (comp, v)
  | .epoch coll _ _ v => (coll / 4096, v)

/-- Steps 3 and 4 of R435: everything that the composition holds is dropped and freed, its flash key and tenant secret leave Weir, and
COMP_DESTROY replies. -/
def State.finishDestroy (s : State) (c : Nat) (m : Msg) : State :=
  let s0 := (s.owedRefusals c).foldl (fun (t : State) (d : Msg × List Byte) => t.reply d.1 stBad d.2) s
  let s1 := (s.owedDrops c).foldl (fun (t : State) (d : Msg × List Byte) => t.reply d.1 stOK d.2) s0
  let s2 := s1.search! (fun x => { x with
    colls := x.colls.filter (fun k => decide (k.2.comp ≠ c))
    linkQ := x.linkQ.filter (fun r => decide (r.coll / 4096 ≠ c)), repairQ := x.repairQ.filter (fun r => decide (r.coll / 4096 ≠ c))
    parts := x.parts.filter (fun p => decide (p.coll / 4096 ≠ c)), upds := x.upds.filter (fun u => decide (u.2.coll / 4096 ≠ c))
    bitWrites := x.bitWrites.filter (fun w => decide (w.coll / 4096 ≠ c)) })
  let s3 := s2.slc! (fun x => { x with
    objs := x.objs.filter (fun o => decide (o.1 / 65536 ≠ c))
    mirrors := x.mirrors.filter (fun m => decide (m.2.comp ≠ c))
    kernelGens := (x.kernels.filter (fun k => decide (k.2.comp = c))).foldl (fun g k => Tbl.put k.1 ((k.2.gen + 1) % 65536) g) x.kernelGens
    kernels := x.kernels.filter (fun k => decide (k.2.comp ≠ c))
    sems := x.sems.filter (fun k => decide (k.1 / 256 ≠ c))
    pipes := x.pipes.filter (fun k => decide (k.1 / 256 ≠ c))
    runs := x.runs.filter (fun r => decide (r.2.comp ≠ c))
    offers := x.offers.filter (fun o => decide (o.comp ≠ c))
    comps := Tbl.erase c x.comps })
  let s4 := s3.weir! (fun w => { w with
    flashKeys := Tbl.erase c w.flashKeys, secrets := Tbl.erase c w.secrets
    slots := w.slots.filter (fun k => decide (k.1 ≠ 65536 + c)) })
  let s5 := s4.ferry! (fun f => { f with
    lake := f.lake.filter (fun x => decide (x.2.comp ≠ c)), basin := f.basin.filter (fun x => decide (x.2.comp ≠ c))
    fills := f.fills.filter (fun x => decide (x.comp ≠ c)) })
  (s5.trib! (fun t => { t with waits := t.waits.filter (fun w => decide ((MapReq_at w.2).1 ≠ c)) })).done m []

/-- A COMP_DESTROY goes on once no batch of the composition is left, nor a message that was taken before it (R435). -/
def State.checkDestroy (s : State) (c : Nat) : State :=
  match (s.comp c).bind (·.destroy) with
  | none => s
  | some m => if s.slc.batches.any (fun b => decide (b.2.comp = c)) || !(s.box c).inbox.isEmpty then s else s.finishDestroy c m

/-- The meaning of an opcode's command: acts on the first message of the mailbox; without one, nothing happens (log 6). A COMP_DESTROY may have
waited for it. -/
def onMsg (s : State) (mb op : Nat) (f : Msg → State → State) : Host.Outcome State Fault Refusal :=
  onUnit (decide (mb ≤ 64)) (match s.next? mb op with
    | some (m, s1) => (f m s1).checkDestroy m.comp
    | none => s)

/-- A batch is gone: its contexts become QUIET (R414), and the core time of its firmware tasks is charged (Table SLC-5). -/
def State.endBatch (s : State) (b comp : Nat) : State :=
  let s1 := if comp < 64 then s.chargeComp comp 0 (Config.firmwareNs b) else s
  ((s1.quietBatch b).slc! (fun y => { y with batches := Tbl.erase b y.batches })).checkDestroy comp

/-- The reply of one batch. -/
def State.replyOne (s : State) (b status reason : Nat) (rest : List Byte) : State :=
  match s.batch b with
  | none => s
  | some x =>
    -- its firmware tasks have run by now (Table SLC-5)
    let ns := Config.firmwareNs b
    let s1 := match x.msg with
      | some m => (s.reply m status (batchHdr reason x.tag ++ rest)).chargeRecord { x with charge := { x.charge with coreNs := x.charge.coreNs + ns } } status
      | none => s
    s1.endBatch b x.comp

/-- A batch replies, with its charging record, and is gone (R438, R475); work of another node's batch replies to nobody here. A chained query batch has
no message of its own: the MODEL_RUN that admitted it replies with its status (R233). -/
def State.replyBatch (s : State) (b status reason : Nat) (rest : List Byte) : State :=
  match s.batch b with
  | none => s
  | some x => match x.parent with
    | none => s.replyOne b status reason rest
    | some p => (s.replyOne b status reason rest).replyOne p status reason []

/-- The message for whose function a batch writes its outputs: its own, or that of the MODEL_RUN that admitted it. -/
def State.outMsg (s : State) (b : Nat) : Option Msg :=
  (s.batch b).bind (fun x => match x.parent with | none => x.msg | some p => (s.batch p).bind (·.msg))

/-- The fields of a reply that follow its head when a whole batch is refused: R180's, with no operation committed, failed or counted. -/
def refusedFields (op : Nat) : List Byte := if op = 0x0401 then zeros 16 else []

/-- A refusal of a batch message at admission: the reply of R475 and a charging record for no work. -/
def State.refuseBatch (s : State) (m : Msg) (tag status reason : Nat) : State :=
  (s.reply m status (batchHdr reason tag ++ refusedFields m.opcode)).chargeRecord ⟨m.comp, m.opcode, 0, tag, none, m.admitNs, .active, none, none, [], Charge.zero, none, none, 0, [], none⟩ status

/-! ### Semaphores -/

/-- Updates a semaphore. -/
def State.sem! (s : State) (k : Nat) (f : Sem → Sem) : State := s.slc! (fun x => { x with sems := Tbl.upd k f x.sems })

/-- The level of the batch of a context's task. -/
def State.ctxLevel (s : State) (c : Nat) : Nat :=
  match Tbl.find c s.slc.ctxs with
  | none => 4
  | some x => match s.batch x.batch with | some b => b.level | none => 4

/-- A context holds a semaphore unit. -/
def State.holdsSem (s : State) (c : Nat) : Bool := s.slc.sems.any (fun x => x.2.holders.any (fun h => decide (h.1 = c)))

/-- The effective level of a context (R420, R426): its batch level, raised to the highest effective level of a context that waits on a semaphore it holds.
`fuel` bounds the chain of holders that wait. -/
def State.effLevelIn (s : State) : Nat → Nat → Nat
  | 0, c => s.ctxLevel c
  | fuel + 1, c => (s.slc.sems.filter (fun x => x.2.holders.any (fun h => decide (h.1 = c)))).foldl
      (fun l x => x.2.waiters.foldl (fun l w => Nat.min l (s.effLevelIn fuel w)) l) (s.ctxLevel c)

/-- The effective level of a context: no chain is longer than the contexts are many. -/
def State.effLevel (s : State) (c : Nat) : Nat := s.effLevelIn s.slc.ctxs.length c

/-- Default lease SEM_LEASE_US; 0 is taken as 1. -/
def State.leaseUs (s : State) (x : Sem) : Nat := if x.leaseUs = 0 then orIfZero (s.fld Reg.SLC_TIMING 48 16) 1 else x.leaseUs

/-- Sets scalar registers 0, 1, 2 of a task, where Sluice returns results (log 19): on its core, or in its save area. -/
def State.setResult (s : State) (t a b c : Nat) : State :=
  let put (r : RillRegs) : RillRegs :=
    { r with
      x := Tbl.put 2 (BitVec.ofNat 64 c) (Tbl.put 1 (BitVec.ofNat 64 b) (Tbl.put 0 (BitVec.ofNat 64 a) r.x))
      poison := r.poison.filter (fun p => decide (p < 32) || decide (34 < p)) }
  match Tbl.find t s.slc.tasks with
  | none => s
  | some k =>
    match k.save with
    | some v => s.task! t (fun y => { y with save := some { v with regs := put v.regs } })
    | none => (match k.core with
      | some n => s.core! n (fun y => if y.task = some t then { y with regs := put y.regs } else y)
      | none => s)

/-- Puts a completion into a context, where WAIT collects it (R413). -/
def State.hold (s : State) (c : Nat) (h : Held) : State := s.ctx! c (fun x => { x with held := x.held ++ [h] })

/-- The task of a context that waits resumes: RUNNING on its core, or no longer blocked when suspended. -/
def State.wakeCtx (s : State) (c : Nat) : State :=
  match Tbl.find c s.slc.ctxs with
  | none => s
  | some x =>
    match x.task with
    | none => s
    | some t =>
      match x.state with
      | .waiting => (s.ctx! c (fun y => { y with state := .running })).task! t (fun y => { y with state := .running })
      | .suspended => (s.ctx! c (fun y => { y with state := .ready })).task! t (fun y => { y with state := .suspended })
      | _ => s

/-- Grants free units of a semaphore to its waiters: highest effective level first, in arrival order within a level (R426, R428).
`fuel` bounds the grants. -/
def State.grantSem (s : State) (k : Nat) : Nat → State
  | 0 => s
  | fuel + 1 =>
    match Tbl.find k s.slc.sems with
    | none => s
    | some x =>
      if x.units = 0 then s
      else
        match sortBy (fun a b => decide (s.effLevel a < s.effLevel b)) x.waiters with
        | [] => s
        | w :: _ =>
          let s1 := s.sem! k (fun y => { y with
            units := y.units - 1
            holders := y.holders ++ [(w, s.now + us (s.leaseUs y))]
            waiters := y.waiters.filter (fun z => decide (z ≠ w)) })
          let s2 := match (Tbl.find w s1.slc.ctxs).bind (·.task) with
            | some t => s1.setResult t (b2n x.poison) 0 0
            | none => s1
          (s2.wakeCtx w).grantSem k fuel

/-- Releases every unit that a context holds, and its place among the waiters; with POISON where asked (R427, R428, R450). -/
def State.releaseSems (s : State) (c : Nat) (poison : Bool) : State :=
  s.slc.sems.foldl (fun t x =>
    let mine := (x.2.holders.filter (fun h => decide (h.1 = c))).length
    let t1 := t.sem! x.1 (fun y => { y with
      units := y.units + mine
      holders := y.holders.filter (fun h => decide (h.1 ≠ c))
      waiters := y.waiters.filter (fun z => decide (z ≠ c))
      poison := y.poison || (poison && decide (mine ≠ 0)) })
    if mine = 0 then t1 else t1.grantSem x.1 1024) s

/-! ### Cores and teardown -/

/-- The level of a batch, as a queue index. -/
def State.levelOfBatch (s : State) (b : Nat) : Nat := match s.batch b with | some x => Nat.min 4 x.level | none => 4

/-- Core time since the last dispatch is charged (Table SLC-5, R431), and CCLK cycles counted (RIL_CNT0). -/
def State.creditCore (s : State) (n : Nat) : State :=
  match (Tbl.find n s.slc.cores).bind (·.task) with
  | none => s
  | some t =>
    match Tbl.find t s.slc.tasks with
    | none => s
    | some k =>
      let dt := s.now - k.startNs
      let g := n
      let s1 := (s.chargeCore k.batch dt).count (Reg.RIL_CNT0 + 0x1000 * n) 0 (dt * (10 - s.spw.cclkStep) / 8)
      s1.slc! (fun x => { x with shareNs := Tbl.put (g * 64 + k.comp) (Tbl.getD (g * 64 + k.comp) 0 x.shareNs + dt) x.shareNs })

/-- Bytes of a save (R247). -/
def saveBytes (k : Task) : Nat := 98816 + k.scratchBytes

/-- The save area of a task is free again. -/
def State.freeSave (s : State) (t : Nat) : State :=
  match Tbl.find t s.slc.tasks with
  | none => s
  | some k =>
    if k.save.isNone then s
    else
      let q := (k.core.getD 0) / 64
      (s.ferry! (fun f => { f with saveUsed := setAt f.saveUsed q (f.saveUsed.getD q 0 - saveBytes k) })).task! t (fun y => { y with save := none })

/-- Tasks of a kernel run or wait, or a MODEL_RUN that names it waits for its root context (R268). -/
def State.kernelBusy (s : State) (i : Nat) : Bool :=
  s.slc.tasks.any (fun t => decide (t.2.kernel % 65536 = i) && decide (t.2.kernel ≠ 0))
    || s.slc.batches.any (fun b => decide (b.2.stage = .rootWait) && decide (b.2.opcode = 0x0506)
        && (match b.2.msg with | some m => decide (m.p 0 4 % 65536 = i) | none => false))

/-- Kernels whose drop waits and that no task uses any more are freed, and their drops reply (R266, R268). -/
def State.freeKernels (s : State) : State :=
  s.slc.kernels.foldl (fun t k => match k.2.dropMsg with
    | some m => if t.kernelBusy k.1 then t else
        (t.slc! (fun x => { x with kernels := Tbl.erase k.1 x.kernels, kernelGens := Tbl.put k.1 ((k.2.gen + 1) % 65536) x.kernelGens })).done m []
    | none => t) s

/-- A task leaves the node: it is gone from its core, from every queue and from its save area, and counted as retired where it ran. -/
def State.dropTask (s : State) (t : Nat) : State :=
  let s1 := match (Tbl.find t s.slc.tasks).bind (·.core) with
    | some n =>
      if (Tbl.find n s.slc.cores).bind (·.task) = some t then
        ((s.creditCore n).core! n (fun c => { (Core.idle c) with lastComp := c.lastComp })).count (Reg.RIL_CNT0 + 0x1000 * n) 5 1
      else s
    | none => s
  ((s1.freeSave t).slc! (fun x => { x with
    tasks := Tbl.erase t x.tasks
    cores := x.cores.map (fun c => (c.1, { c.2 with
      preemptBy := if c.2.preemptBy = some t then none else c.2.preemptBy
      queues := c.2.queues.map (fun q => q.filter (fun z => decide (z ≠ t))) })) })).freeKernels

/-- Stops a batch's lanes on every cell and its walks, and frees its merge slots (R450 steps 2 and 6). -/
def State.haltBatch (s : State) (b : Nat) : State :=
  let s1 := s.mrc! (fun x => { x with cells := x.cells.map (fun c =>
    let gone := (c.2.lanes.filter (fun l => decide (l.2.batch = b))).map (·.1)
    (c.1, { c.2 with
      lanes := c.2.lanes.filter (fun l => decide (l.2.batch ≠ b))
      queue := c.2.queue.map (fun r => match r with
        | .cand l _ _ _ _ _ _ => if gone.contains l then .gone else r
        | .tally l _ _ _ => if gone.contains l then .gone else r
        | .gone => r)
      issues := (c.2.issues.map (fun i => { i with lanes := i.lanes.filter (fun l => !gone.contains l) })).filter (fun i => decide (i.lanes ≠ []))
      acts := if c.2.ops = [] then 0 else c.2.acts })) })
  s1.search! (fun x => { x with
    qbatches := Tbl.upd b (fun q => { q with queries := q.queries.map (fun y => { y with walk := none }) }) x.qbatches
    merge := x.merge.map (fun m => (m.1, match m.2.owner with | some o => if o.1 = b then MergeSlot.freed m.2 else m.2 | none => m.2)) })

/-- The registers of the core that a task is on are cleared (R450 step 7). -/
def State.clearCore (s : State) (t : Nat) : State :=
  match (Tbl.find t s.slc.tasks).bind (·.core) with
  | some n => s.core! n (fun c => if c.task = some t then { c with regs := RillRegs.reset } else c)
  | none => s

/-- Teardown of a batch starts (R450 steps 1 to 7): its tasks stop and pending ones are discarded, its cells and walks halt, its moves run to
their end with their destinations discarded, its operations are forgotten, its semaphores are poisoned. `status` is what it replies with. -/
def State.teardown (s : State) (b status : Nat) : State :=
  match s.batch b with
  | none => s
  | some x =>
    if x.torn ≠ none then s
    else
      let mine := (s.slc.tasks.filter (fun t => decide (t.2.batch = b))).map (·.1)
      let ctxs := (s.slc.ctxs.filter (fun c => decide (c.2.batch = b) && decide (c.2.state ≠ .quiet))).map (·.1)
      let s1 := mine.foldl (fun t k => (t.clearCore k).dropTask k) s
      let s2 := s1.haltBatch b
      let s3 := s2.ferry! (fun f => { f with moves := f.moves.map (fun m => (m.1, if m.2.batch = b then { m.2 with task := none } else m.2)) })
      let s4 := s3.trib! (fun t => { t with ops := t.ops.filter (fun o => match o.2.task with | some k => !mine.contains k | none => true) })
      let s5 := ctxs.foldl (fun t c => t.releaseSems c true) s4
      let s6 := ctxs.foldl (fun t c => (t.ctx! c (fun y => { y with state := .teardown, task := none })).count Reg.SLC_CNT0 6 1) s5
      s6.batch! b (fun y => { y with torn := some status, stage := .active })

end Sys2Proof.Machine
end

