-- ==== Sys2Proof/Machine/Contain.lean ====
section
/-! DEFINITION. Containment: the class of an error and its action, fencing, node-fatal handling, the node log, quarantine
(chapters 16 and 15). -/

namespace Sys2Proof

/-- The collection has data in a Millrace stack. -/
def Coll.inStack (c : Coll) (stack : Nat) : Bool := c.reaches.any (fun r => decide (r.2.cell / 128 = stack))

/-- The class after escalation (R536): class D becomes X where a context consumes the data, U otherwise; X becomes U; U becomes N. -/
def ErrClass.raised (k : ErrClass) (hasCtx : Bool) : ErrClass :=
  match k with
  | .c => .c
  | .d => if hasCtx then .x else .u
  | .x => .u
  | .u => .n
  | .n => .n

end Sys2Proof

namespace Sys2Proof.Machine

/-! ### Queries and collections, as containment touches them -/

/-- Updates a collection. -/
def State.coll! (s : State) (k : Nat) (f : Coll → Coll) : State := s.search! (fun x => { x with colls := Tbl.upd k f x.colls })
/-- A collection by key. -/
def State.coll (s : State) (k : Nat) : Option Coll := Tbl.find k s.search.colls
/-- The key of a collection. -/
def collKey (comp id : Nat) : Nat := comp * 4096 + id
/-- Updates element `i` of a list. -/
def updAt {α : Type} : List α → Nat → (α → α) → List α
  | [], _, _ => []
  | a :: t, 0, f => f a :: t
  | a :: t, i + 1, f => a :: updAt t i f
/-- Updates a query of a batch. -/
def State.query! (s : State) (b q : Nat) (f : Query → Query) : State :=
  s.search! (fun x => { x with qbatches := Tbl.upd b (fun y => { y with queries := updAt y.queries q f }) x.qbatches })
/-- A query of a batch. -/
def State.query (s : State) (b q : Nat) : Option Query := (Tbl.find b s.search.qbatches).bind (fun y => y.queries[q]?)
/-- Updates a cell. -/
def State.cell! (s : State) (n : Nat) (f : Cell → Cell) : State := s.mrc! (fun x => { x with cells := Tbl.upd n f x.cells })

/-- A reach issue is abandoned for its lanes (R293, R304, R604): Sounding will issue the reach again for each of them; the records still
queued for them are discarded. -/
def State.abandon (s : State) (cell : Nat) (i : Issue) (lanes : List Nat) : State :=
  match Tbl.find cell s.mrc.cells with
  | none => s
  | some c =>
    let s1 := lanes.foldl (fun t l =>
      match Tbl.find l c.lanes with
      | none => t
      | some ln => t.query! ln.batch ln.query (fun q => { q with
          sweep := q.sweep.map (fun w => if w.reach = i.reach then { w with issued := false } else w) })) s
    -- the tokens of a block of an attention object lie in it by their index (R219)
    let inReach (slot : Nat) : Bool := if 2 ^ 20 ≤ i.coll then decide (slot / 256 = i.reach) else match s.coll i.coll with
      | some k => (match Tbl.find slot k.slots with | some x => decide (x.reach = i.reach) | none => false)
      | none => false
    s1.cell! cell (fun x => { x with
      acts := if x.ops = [] ∧ x.issues.head? = some i then 0 else x.acts
      queue := x.queue.map (fun r => match r with
        | .cand l slot _ _ _ _ _ => if lanes.contains l && inReach slot then .gone else r
        | .tally l r' _ _ => if lanes.contains l && decide (r' = i.reach) then .gone else r
        | .gone => r)
      lanes := if x.issues.head? = some i then x.lanes.map (fun l => (l.1, if lanes.contains l.1 then { l.2 with bound := ⟨0, 0, 0⟩, dropped := 0 } else l.2)) else x.lanes
      issues := (x.issues.map (fun y => if y.reach = i.reach ∧ y.coll = i.coll then { y with lanes := y.lanes.filter (fun l => !lanes.contains l) } else y)).filter
        (fun y => decide (y.lanes ≠ [])) })

/-- Fences a cell (R304): it holds no token and does no more work; its issues are abandoned. -/
def State.fenceCell (s : State) (n : Nat) : State :=
  match Tbl.find n s.mrc.cells with
  | none => s
  | some c =>
    let s1 := c.issues.foldl (fun t i => t.abandon n i i.lanes) s
    s1.cell! n (fun x => { x with fenced := true, token := false, waiting := false, bundle := none, issues := [], ops := [], acts := 0 })

/-- Fences a core (R264): the task on it is torn down with its batch; its queued tasks move to another core of their slice when
one takes them (they stay in its queues, from which other cores steal). -/
def State.fenceCore (s : State) (n : Nat) : State := s.core! n (fun c => { (Core.idle c) with fenced := true })

/-- Collections that a unit's failure takes OFFLINE (Table COL-1). -/
def State.offline (s : State) (p : Coll → Bool) : State :=
  s.search! (fun x => { x with colls := x.colls.map (fun k => (k.1, if p k.2 && decide (k.2.state = .online) then { k.2 with state := .offline } else k.2)) })

/-- A composition's allocations may lie in a Basin stack, or in one channel of it (R313, R432): its slice holds a channel group there. -/
def State.inBasin (s : State) (comp stack : Nat) (chan : Option Nat) : Bool := match s.comp comp with
  | none => true
  | some c => match chan with
    | some j => bit (c.f 0x12 2) (4 * stack + j / 8)
    | none => decide (c.f 0x12 2 / 16 ^ stack % 16 ≠ 0)

/-- The unit is fenced (R534): what fencing does to each block. -/
def State.fenceUnit (s : State) (unit : Nat) : State :=
  let block := unit / 256
  let i := unit % 256
  let s1 := s.gauge! (fun g => { g with fenced := if g.fenced.contains unit then g.fenced else g.fenced ++ [unit] })
  if block = 0x01 then s1.fenceCore i
  else if 2 ≤ block ∧ block ≤ 5 then
    let stack := block - 2
    if i < 128 then s1.fenceCell (128 * stack + i)
    else if i = 0xFF then
      let s2 := (List.range 128).foldl (fun t c => t.fenceCell (128 * stack + c)) s1
      (s2.mrc! (fun x => { x with hbmStacks := updAt x.hbmStacks stack (fun y => { y with fenced := true }) })).offline (fun k => Coll.inStack k stack)
    else
      -- one channel serves four bank groups: cells 4j to 4j + 3 of the stack
      let j := i - 0x80
      (s1.offline (fun k => k.reaches.any (fun r => decide (r.2.cell / 128 = stack) && decide (r.2.cell % 128 / 4 = j))))
  else if 6 ≤ block ∧ block ≤ 9 then
    -- every collection is striped over the Basin stacks its masks permit (R313)
    let st := block - 6
    s1.offline (fun k => (decide (k.basinMask = 0) || bit k.basinMask st) && s.inBasin k.comp st (if i = 0xFF then none else some (i - 0x80)))
  else if block = 0x0C then s1.delta! (fun d => { d with chans := Tbl.upd i (fun c => { c with state := .fenced }) d.chans })
  else if block = 0x0D then s1.trib! (fun t => { t with links := Tbl.upd i (fun l => { l with state := .disabled, enable := false }) t.links })
  else s1

/-! ### The node log -/

/-- The tier of a class (R530). -/
def tierOf (k : ErrClass) : Nat := match k with | .c => 0 | .d => 0 | .x => 1 | .u => 2 | .n => 3

/-- Removes the first record that satisfies `p`. -/
def dropFirst (p : GRec → Bool) (l : List GRec) : List GRec := match takeFirst p l with | some r => r.2 | none => l

/-- A record arrives at the node log (R530): the log that results, and whether a record was replaced or dropped. -/
def logInsert (cap : Nat) (log : List GRec) (r : GRec) : List GRec × Bool × Bool :=
  if log.length < cap then (log ++ [r], true, false)
  else
    let m := (minL (log.map (fun x => tierOf x.cls))).getD 0
    if tierOf r.cls < m then (log, false, true)
    else if m = 0 ∧ log.any (fun x => decide (x.cls = .c)) then (dropFirst (fun x => decide (x.cls = .c)) log ++ [r], true, true)
    else (dropFirst (fun x => decide (tierOf x.cls = m)) log ++ [r], true, true)

/-- A logged record sets its PEND bit; a bit that rises while its EN bit is 1 sends PF vector 0 (R533). -/
def State.pend (s : State) (k : ErrClass) : State :=
  let v := s.raw Reg.ERR_INT
  if bit v k.code then s
  else
    let s1 := s.setRaw Reg.ERR_INT (setBits v k.code 1 1)
    if bit v (16 + k.code) then s1.emit 0 (.msix 0 0 (s.func 0).ideEnabled) else s1

/-- The queue's first record has this SEQ. -/
def headSeq (n : Nat) (q : Nat × List GRec) : Bool := decide (q.2.head?.map (·.seq) = some n)

/-- Moves the record with the least SEQ of all unit queues into the node log (R600). -/
def State.drainOne (s : State) : State :=
  match minL (s.gauge.queues.filterMap (fun q => q.2.head?.map (·.seq))) with
  | none => s
  | some least =>
    match s.gauge.queues.find? (headSeq least) with
    | some (u, r :: rest) =>
      let x := logInsert 65536 s.gauge.log r
      let s1 := s.gauge! (fun g => { g with queues := if rest = [] then Tbl.erase u g.queues else Tbl.put u rest g.queues, log := x.1 })
      let s2 := if x.2.2 then s1.count Reg.ERR_CNT0 3 1 else s1
      if x.2.1 then (s2.count Reg.ERR_CNT0 0 1).pend r.cls else s2
    | _ => s

/-- Drains every unit queue into the node log; `n` is the number of records queued. -/
def State.drainAll (s : State) : Nat → State
  | 0 => s
  | n + 1 => s.drainOne.drainAll n

/-- Records that wait in the unit queues. -/
def State.queued (s : State) : Nat := sumL (s.gauge.queues.map (fun q => q.2.length))

/-! ### Quarantine -/

/-- What a reset, or power loss, leaves of Delta (R369): programmed blocks, sealed extents, checkpoints and counters; nothing in flight. -/
def deltaKept (d : DeltaSt) : DeltaSt :=
  { d with
    phase := .starting, step := 0, chans := [], failedLuns := [], slcTargets := [], opens := [], reclaiming := [], progs := []
    blocks := d.blocks.map (fun b => (b.1, match b.2.state with
      | .erasing => { b.2 with state := .closed }
      | .taken => { b.2 with state := .free }
      | _ => b.2))
    extents := (d.extents.filter (fun e => e.2.sealed)).map (fun e => (e.1, { e.2 with attached := none })) }

/-- Every unit but Weir, the PCI Express controller and the link layer is held in reset (R502, R564): its contents are gone. -/
def State.holdUnits (s : State) : State :=
  { s with
    slc := SluiceSt.reset, search := SearchSt.reset, mrc := MrcSt.reset, ferry := FerrySt.reset, delta := deltaKept s.delta
    host := { s.host with nodeState := .boot, boxes := tblOf 65 boxReset, staging := [] }
    trib := { s.trib with txFlows := [], rxFlows := [], ops := [], held := [], merges := [], getData := [] } }

/-- Weir quarantines the node (R502): key slots other than the CONTROL tag keys (kind 3) and every session secret are zeroed, the cause and
the time are recorded, the links send QUARANTINE in trickle mode, and WTRIP_N goes low for the two trips. -/
def State.quarantine (s : State) (cause unit : Nat) : State :=
  if s.weir.state = .quarantined then s
  else
    let s1 := s.holdUnits.weir! (fun w => { w with
      state := .quarantined, quarCause := cause, quarUnit := unit, quarNs := s.now
      slots := w.slots.filter (fun k => decide (k.1 / 65536 = 3)), spdm := [] })
    let s2 := s1.trib! (fun t => { t with
      links := t.links.map (fun l => (l.1, if l.2.state = .up ∨ l.2.state = .trickle
        then { l.2 with state := .trickle, queue := [], out := l.2.out ++ [.ctl .quarantine] } else l.2))
      peers := t.peers.map (fun p => (p.1, { p.2 with secretNs := 0 })) })
    let s3 := s2.gauge! (fun g => { g with drainStopped := true })
    if cause = 3 ∨ cause = 4 then (s3.weir! (fun w => { w with wtripLow := true })).drive (.wtrip true) else s3

/-- A class N error (R538): the record is formed, Uncorrectable Internal Error is reported by the PF and every enabled VF if the link is up, and
the node is left to be drained and quarantined. A class N error while one is in handling quarantines the node at once, NESTED_FATAL, and the
records not yet in the log are lost. -/
def State.fatal (s : State) (unit : Nat) : State :=
  match s.gauge.fatal with
  | some _ => (s.gauge! (fun g => { g with queues := [], fatal := none })).quarantine 2 (unit / 256)
  | none =>
    let s1 := s.gauge! (fun g => { g with fatal := some (unit / 256) })
    if s1.host.linkUp then
      let s2 := s1.drive (.aer 0)
      if s1.host.vfEnable then (List.range 64).foldl (fun t i => t.drive (.aer (i + 1))) s2 else s2
    else s1

/-! ### Raising an error -/

/-- An error of class D, X, U or N (R528, R534 to R536): its record is formed, raised one class when the unit's handler is open, and the action
of its class starts. `batch` is the batch whose context consumes the data or has faulted; `status` what a torn-down batch replies with. -/
def State.raise (s : State) (unit typ : Nat) (k : ErrClass) (batch : Option Nat) (comp ctx addr detail status : Nat) : State :=
  let nested := s.handlerOpen unit && decide (k ≠ .n) && decide (k ≠ .c)
  let k' := if nested then k.raised batch.isSome else k
  let s1 := if nested then s.count Reg.ERR_CNT0 4 1 else s
  let s2 := if k = .c then s1.logC unit typ comp ctx addr detail else s1.form unit typ k' nested comp ctx addr detail
  match k' with
  | .c => s2
  | .d => s2.openHandler unit .d
  | .x => (match batch with | some b => s2.teardown b status | none => s2).openHandler unit .x
  | .u => (match batch with | some b => s2.teardown b status | none => s2).fenceUnit unit |>.openHandler unit .u
  | .n => s2.fatal unit

/-- DETAIL of a record of a memory type (Table ERR-3): syndrome, index of the symbol or bit, owner kind and id, slot or offset. -/
def memDetailAt (at_ synd kind id off : Nat) : Nat :=
  synd % 2 ^ 32 + at_ % 256 * 2 ^ 32 + kind * 2 ^ 40 + id % 65536 * 2 ^ 48 + off % 2 ^ 64 * 2 ^ 64

/-- DETAIL where no symbol or bit is named. -/
def memDetail (synd kind id off : Nat) : Nat := memDetailAt 0xFF synd kind id off

/-- Raises an error of a memory type; the location inside the tier and the syndrome, which the manual derives from the physical place, are
free (log 16). -/
def State.memRaiseAt (s : State) (at_ unit typ : Nat) (k : ErrClass) (tier kind id off comp ctx : Nat) (batch : Option Nat) (status : Nat) : State :=
  let a := s.free
  let b := a.2.free
  b.2.raise unit typ k batch comp ctx (tier * 2 ^ 60 + a.1 % 2 ^ 60) (memDetailAt at_ b.1 kind id off) status

/-- Raises an error of a memory type that names no symbol or bit. -/
def State.memRaise (s : State) (unit typ : Nat) (k : ErrClass) (tier kind id off comp ctx : Nat) (batch : Option Nat) (status : Nat) : State :=
  s.memRaiseAt 0xFF unit typ k tier kind id off comp ctx batch status

/-- The unit of the Basin channel that holds a place: the stripe over stacks and channels is free (log 16). -/
def State.basinUnit (s : State) : Nat × State :=
  let a := s.free
  (unitOf (6 + a.1 % 4) (0x80 + a.1 / 4 % 32), a.2)

/-- Stack `i` of a tier's four (block codes from `base`) is not fenced. -/
def State.stackUp (s : State) (base i : Nat) : Bool := !s.gauge.fenced.contains (unitOf (base + i) 0xFF)
/-- Millrace stacks that are not fenced. -/
def State.millUp (s : State) : Nat := ((List.range 4).filter (fun i => s.stackUp 2 i)).length
/-- Basin stacks that are not fenced. -/
def State.basinUp (s : State) : Nat := ((List.range 4).filter (fun i => s.stackUp 6 i)).length

end Sys2Proof.Machine
end

