-- ==== Sys2Proof/Machine/RegView.lean ====
section
/-! DEFINITION. What a read of each register returns: stored fields with their shadows, and the fields that a block derives from its
state (register maps of chapters 00 and 03 to 17). -/

namespace Sys2Proof.Machine

/-- The manufacturing record is loaded and verified (R5, R6). -/
def State.partValid (s : State) : Bool := decide (3 ≤ s.weir.bootStep) && s.weir.mfg.signatureOk

/-- WEI_PART_ID. -/
def State.partId (s : State) : Nat := if s.partValid then s.weir.mfg.partId else 0
/-- CORES_ENABLED. -/
def State.coresEnabled (s : State) : Nat := bits s.partId 16 16
/-- WEI_CORE_ENq. -/
def State.coreEn (s : State) (q : Nat) : Nat := if s.partValid then s.weir.mfg.coreEn.getD q 0 else 0
/-- Core `n` is enabled by the manufacturing record (R3). -/
def State.coreOn (s : State) (n : Nat) : Bool := bit (s.coreEn (n / 64)) (n % 64)
/-- The logical number of an enabled core (R245). -/
def State.logical (s : State) (n : Nat) : Nat := ((List.range n).filter (fun i => s.coreOn i)).length
/-- The group of an enabled core (R245). -/
def State.groupOf (s : State) (n : Nat) : Nat := s.logical n / 16

/-- STATE of RIL_STATUS. -/
def coreStateCode (s : State) (n : Nat) (c : Core) : Nat :=
  if !s.coreOn n then 7
  else if c.fenced then 5
  else match c.phase with | .idle => 0 | .running => 1 | .draining => 2 | .saving => 3 | .restoring => 4

/-- A register of a core's block, by offset. -/
def State.rilView (s : State) (n off : Nat) : Nat :=
  let on := s.coreOn n
  let c := (Tbl.find n s.slc.cores).getD Core.reset
  if off = 0 then
    n + 2 ^ 8 * (n / 64) + (if on then 2 ^ 16 * s.logical n + 2 ^ 32 * s.groupOf n + 2 ^ 40 else 2 ^ 16 * 0x1FF + 2 ^ 32 * 0xFF)
  else if off = 8 then
    let t := c.task.bind (fun t => Tbl.find t s.slc.tasks)
    let ctx := match t.bind (·.ctx) with | some x => x | none => 0x3FF
    let ker := match t with | some x => if x.kernel = 0 then 0xFFFF else x.kernel % 65536 | none => 0xFFFF
    coreStateCode s n c + (if on then 2 ^ 8 * b2n c.accSat else 0) + 2 ^ 16 * ker + 2 ^ 32 * ctx
  else if !on then 0
  else if off = 0x10 then c.fault.detail + 2 ^ 32 * c.fault.pc + 2 ^ 48 * c.fault.cause + 2 ^ 63 * b2n c.fault.valid
  else s.withShadows (0x600000 + 0x1000 * n + off) + 2 ^ 63 * b2n (s.pendingBit (0x600000 + 0x1000 * n + off))

/-- STATE of a link as a number. -/
def linkCode : LinkSt → Nat
  | .disabled => 0 | .down => 1 | .train => 2 | .align => 3 | .hello => 4 | .session => 5 | .up => 6 | .trickle => 7 | .refused => 8

/-- STATE of a mailbox as a number. -/
def boxCode : MbState → Nat | .free => 0 | .pending => 1 | .closed => 2

/-- NODE_STATE as a number. -/
def nodeCode : NodeState → Nat | .boot => 0 | .running => 1 | .recovery => 2

/-- Lake frames charged to a composition. -/
def State.lakeHeld (s : State) (c : Nat) : Nat := (s.ferry.lake.filter (fun f => decide (f.2.comp = c))).length
/-- Basin-level frames charged to a composition. -/
def State.basinHeld (s : State) (c : Nat) : Nat := (s.ferry.basin.filter (fun f => decide (f.2.comp = c))).length
/-- Frames of the Basin level: SIZE_GIB × 16,384. -/
def State.basinFrames (s : State) : Nat := s.fld Reg.FRY_BPOOL 0 16 * 16384

/-- SPW_LIMIT as the stacks see it. -/
def State.spwLimit (s : State) : Nat := s.spw.limit
/-- QUOTA of a stack as its next grant sees it; values above 128 are taken as 128. -/
def State.quota (s : State) (st : Nat) : Nat := Nat.min 128 (s.fldFor (Reg.MRC_QUOTA0 + 8 * st) 0 8 st)
/-- EFFECTIVE of a stack (R302). -/
def State.effective (s : State) (st : Nat) : Nat := Nat.min (s.quota st) s.spw.limit
/-- Cells of a stack. -/
def State.stackCells (s : State) (st : Nat) : List (Nat × Cell) := s.mrc.cells.filter (fun c => decide (c.1 / 128 = st))
/-- NODE_ID, once ASSIGNED (R381). -/
def State.nodeId (s : State) : Option Nat := if bit (s.raw Reg.TRB_NODE) 12 then some (s.fld Reg.TRB_NODE 0 12) else none
/-- NODE_ID with 0 for an unassigned id. -/
def State.nodeNo (s : State) : Nat := s.fld Reg.TRB_NODE 0 12
/-- Cells of a stack that hold a token. -/
def State.computing (s : State) (st : Nat) : Nat := ((s.stackCells st).filter (fun c => c.2.token)).length

/-- Erase counts of the good listed blocks of a channel; a good block that is not listed has count zero. -/
def State.chanErases (s : State) (c : Nat) : List Nat :=
  (s.delta.blocks.filter (fun b => decide (b.1 / 2 ^ 21 = c) && decide (b.2.state ≠ .bad))).map (fun b => b.2.erases)
/-- Good blocks of a channel by geometry. -/
def State.chanBlocks (s : State) (c : Nat) : Nat :=
  match Tbl.find c s.delta.chans with
  | some x => x.targets.length * s.delta.geom.luns * s.delta.geom.planes * s.delta.geom.blocks
  | none => 0
/-- Factory-bad and grown-bad blocks of a channel. -/
def State.grownBad (s : State) (c : Nat) : Nat := (s.delta.blocks.filter (fun b => decide (b.1 / 2 ^ 21 = c) && decide (b.2.state = .bad))).length

/-- STATE of DLT_STATUS. -/
def deltaCode (s : State) : Nat :=
  match s.delta.phase with
  | .starting => 0
  | .rebuilding => 1
  | _ => if s.delta.chans.any (fun c => decide (c.2.state ≠ .up)) then 3 else 2

/-- Spaces that hold a sector or an extent. -/
def State.spacesHeld (s : State) : Nat :=
  (dedup ((s.delta.spaces.filter (fun x => decide (x.2.map ≠ []))).map (·.1) ++ s.delta.extents.map (fun e => e.2.key))).length

/-- Slots queued or PENDING for linking. -/
def State.linkBacklog (s : State) : Nat :=
  sumL (s.search.colls.map (fun c => (c.2.slots.filter (fun x => decide (x.2.state = .live) && decide (x.2.link = .pending) && decide (x.2.insEpoch < 2 ^ 48 - 1))).length))

/-- Queries in progress. -/
def State.liveQueries (s : State) : List Query := s.search.qbatches.flatMap (fun b => b.2.queries)

/-- Source nodes with an UNSURE summary set. -/
def State.unsureSources (s : State) : Nat :=
  (dedup (s.search.colls.flatMap (fun c => (c.2.sources.filter (fun x => x.2.unsure)).map (·.1)))).length

/-- Bytes in whole units of `u`, rounded up. -/
def inUnits (b u : Nat) : Nat := cdiv b u

/-- CODE_FMT and coded bytes of a descriptor's raw bytes at the offsets of Table COL-2. -/
def promoBytes (raw : List Byte) : Nat :=
  let dn := natAt raw 0x20 2 - natAt raw 0x25 1
  if natAt raw 0x23 1 = 4 then roundUp dn 32 - roundUp (cdiv (dn * 4) 8) 32 else 0

/-- Millrace bytes that a composition's promoted POPULARITY rows take beyond their CODE4 reservation (R609). -/
def State.popExtra (s : State) (comp : Nat) : Nat :=
  sumL ((s.search.colls.filter (fun k => decide (k.2.comp = comp))).map (fun k =>
    promoBytes k.2.desc.raw * (k.2.slots.filter (fun z => decide (z.2.width = 1) && decide (z.2.state ≠ .free))).length))

/-- A register of a composition's SLC block, by offset. -/
def State.slcView (s : State) (c off : Nat) : Nat :=
  match s.comp c with
  | none => if 0x30 ≤ off ∧ off ≤ 0x50 then ((Tbl.getD c [0, 0, 0, 0, 0] s.slc.meters).getD ((off - 0x30) / 8) 0) / 1000 % 2 ^ 64 else 0
  | some x =>
    if off = 0 then x.f 0x12 2 + 2 ^ 16 * x.f 0x10 2 + 2 ^ 32 * x.f 6 2 + 2 ^ 48 * x.groups
    else if off = 8 then x.f 0x1C 4 + 2 ^ 32 * x.f 0x18 4
    else if off = 0x10 then
      1 + 4 * bits (x.f 1 1) 1 2 + 16 * b2n (bit (x.f 1 1) 0) + 32 * b2n x.mirrorOk + 2 ^ 12 * (x.ctxReserve % 1024) + 2 ^ 22 * (x.ctxLimit % 1024)
        + 2 ^ 40 * x.f 8 1 + 2 ^ 48 * x.tenant
    else if off = 0x18 then x.prevVersion + 2 ^ 32 * x.mapVersion
    else if off = 0x20 then x.f 0x20 4 + 2 ^ 32 * x.f 0x16 2 + 2 ^ 48 * x.f 0x14 2
    else if off = 0x28 then inUnits x.usedFlash 1000000000 + 2 ^ 32 * inUnits x.usedBasin (2 ^ 30) + 2 ^ 48 * inUnits (x.usedMillrace + s.popExtra c) (2 ^ 30)
    else if off = 0x58 then
      (s.slc.sems.filter (fun y => decide (y.1 / 256 = c) && y.2.poison)).length
        + 2 ^ 16 * Nat.min 65535 (s.slc.batches.filter (fun b => decide (b.2.comp = c))).length + 2 ^ 32 * s.ctxHeld c
    else ((Tbl.getD c [0, 0, 0, 0, 0] s.slc.meters).getD ((off - 0x30) / 8) 0) / 1000 % 2 ^ 64

/-- The value that a read of the register at an 8-byte aligned address returns. -/
def State.regView (s : State) (a : Nat) : Nat :=
  let sh := s.withShadows a + 2 ^ 63 * b2n (s.pendingBit a)
  if 0x600000 ≤ a ∧ a < 0x700000 then s.rilView ((a - 0x600000) / 0x1000) (a % 0x1000)
  else if 0x101000 ≤ a ∧ a < 0x103000 then s.slcView ((a - 0x101000) / 0x80) (a % 0x80)
  else if a = Reg.WEI_PART_ID then s.partId
  else if Reg.WEI_CORE_EN0 ≤ a ∧ a ≤ Reg.WEI_CORE_EN0 + 24 then s.coreEn ((a - Reg.WEI_CORE_EN0) / 8)
  else if a = Reg.SND_STATUS then 2 ^ 16 * s.search.qbatches.length + 2 ^ 32 * s.unsureSources
  else if a = Reg.BRD_STATUS then
    (s.liveQueries.filter (fun q => q.walk.isSome)).length + 2 ^ 16 * Nat.min 65535 s.search.repairQ.length + 2 ^ 32 * (s.linkBacklog % 2 ^ 32)
  else if a = Reg.CFL_STATUS then
    sumL (s.search.qbatches.map (fun b => if 128 < b.2.k then (b.2.queries.filter (fun q => !q.complete)).length else 0)) % 65536
      + 2 ^ 16 * (s.search.merge.filter (fun m => m.2.owner.isSome)).length
  else if a = Reg.LCK_STATUS then
    sumL (s.search.upds.map (fun u => if u.2.epoch = 0 then u.2.ops.length else 0)) % 2 ^ 32
      + 2 ^ 32 * Nat.min 65535 (s.search.parts.filter (fun p => decide (p.state = .prepared))).length
      + 2 ^ 48 * (s.search.colls.filter (fun c => match c.2.home with | some h => !h.takeover | none => false)).length
  else if Reg.MRC_QUOTA0 ≤ a ∧ a ≤ Reg.MRC_QUOTA0 + 24 then
    let st := (a - Reg.MRC_QUOTA0) / 8
    sh + 2 ^ 16 * s.effective st + 2 ^ 40 * s.spw.limit - 2 ^ 16 * bits sh 16 8 - 2 ^ 40 * bits sh 40 8
  else if Reg.MRC_STATUS0 ≤ a ∧ a ≤ Reg.MRC_STATUS0 + 24 then
    let st := (a - Reg.MRC_STATUS0) / 8
    let fenced := ((s.stackCells st).filter (fun c => c.2.fenced)).length
    let whole := match s.mrc.hbmStacks[st]? with | some x => x.fenced | none => false
    (if whole then 2 else if fenced = 0 then 0 else 1) + 2 ^ 32 * s.computing st + 2 ^ 40 * fenced
  else if Reg.MRC_ORDMAX0 ≤ a ∧ a ≤ Reg.MRC_ORDMAX0 + 24 then
    (match s.mrc.hbmStacks[(a - Reg.MRC_ORDMAX0) / 8]? with | some x => x.ordMax | none => 0) % 2 ^ 32
  else if a = Reg.FRY_STATUS then
    -- until a frame is taken or SIZE_GIB is written, the printed reset value (log 17)
    if s.ferry.fills = [] ∧ s.ferry.basin = [] ∧ s.ferry.lake = [] ∧ s.raw Reg.FRY_BPOOL = regReset Reg.FRY_BPOOL then regReset a
    else s.ferry.fills.length + 2 ^ 24 * ((s.basinFrames - s.ferry.basin.length) % 2 ^ 24) + 2 ^ 48 * (2560 - s.ferry.lake.length)
  else if 0x801000 ≤ a ∧ a < 0x801800 then
    let c := (a - 0x801000) / 0x20
    let off := a % 0x20
    if off = 0x18 then s.raw a
    else if off = 0x10 then
      (s.ferry.fills.filter (fun f => decide (f.comp = c) && f.prefetch)).length + 2 ^ 24 * s.basinHeld c + 2 ^ 48 * s.lakeHeld c
    else match s.comp c with
      | none => 0
      | some x => if off = 0 then x.f 0x26 2 + 2 ^ 16 * x.f 0x24 2 else x.f 0x2C 4 % 2 ^ 24 + 2 ^ 24 * (x.f 0x28 4 % 2 ^ 24)
  else if a = Reg.DLT_STATUS then
    Nat.min 65535 s.spacesHeld
      + 2 ^ 16 * Nat.min 65535 (sumL (s.delta.spaces.map (fun x => (x.2.pages.filter (fun p => p.2.rebuilding)).length)))
      + 2 ^ 32 * (s.delta.chans.filter (fun c => decide (c.2.state = .up))).length + 2 ^ 48 * deltaCode s
  else if Reg.DLT_CHAN ≤ a ∧ a ≤ Reg.DLT_CHAN + 0xF8 then
    let c := (a - Reg.DLT_CHAN) / 8
    match Tbl.find c s.delta.chans with
    | none => 0
    | some x =>
      (match x.state with | .absent => 0 | .up => 1 | .degraded => 2 | .fenced => 3) + 2 ^ 4 * (x.unused % 16) + 2 ^ 8 * (x.lunsFailed % 256)
        + 2 ^ 16 * (x.targets.length % 256) + 2 ^ 24 * (s.grownBad c % 2 ^ 24)
  else if Reg.DLT_WEAR ≤ a ∧ a ≤ Reg.DLT_WEAR + 0xF8 then
    let c := (a - Reg.DLT_WEAR) / 8
    let l := s.chanErases c
    let least := if l.length + s.grownBad c < s.chanBlocks c then 0 else (minL l).getD 0
    least % 2 ^ 32 + 2 ^ 32 * (maxL l % 2 ^ 32)
  else if a = Reg.TRB_IDENT then (if s.weir.bootStep < 4 then 0 else s.weir.record.incarnation % 2 ^ 32)
  else if a = Reg.TRB_STATUS then
    Nat.min 65535 (dedup (s.trib.ops.map (fun o => o.2.dst * 4 + o.2.cls))).length
      + 2 ^ 16 * Nat.min 65535 (s.trib.peers.filter (fun p => p.2.lost)).length
      + 2 ^ 32 * (s.trib.links.filter (fun l => decide (l.2.state = .trickle))).length
      + 2 ^ 40 * (s.trib.links.filter (fun l => decide (l.2.state = .up))).length
  else if Reg.TRB_LINK ≤ a ∧ a ≤ Reg.TRB_LINK + 0xF8 then
    match Tbl.find ((a - Reg.TRB_LINK) / 8) s.trib.links with
    | none => 0
    | some l =>
      b2n l.enable + 2 * b2n l.trickleReq + 2 ^ 12 * linkCode l.state + 2 ^ 32 * Nat.min 255 l.retrains + 2 ^ 43 * (l.peerLink % 32)
        + 2 ^ 52 * (l.peerNode % 4096)
  else if a = Reg.SLC_STATUS then
    2 ^ 8 * s.slc.comps.length + 2 ^ 16 * s.batchesWaiting
      + 2 ^ 32 * Nat.min 65535 (s.slc.tasks.filter (fun t => decide (t.2.state = .pending))).length + 2 ^ 48 * s.ctxFree
  else if a = Reg.SLC_CHARGE then s.fld Reg.SLC_CHARGE 0 32 + 2 ^ 32 * s.slc.produced
  else if a = Reg.HWD_STATE then
    (if s.host.nodeState = .running then s.host.fwVersion else 0) + 2 ^ 40 * s.host.recoveryCause + 2 ^ 48 * nodeCode s.host.nodeState
  else if Reg.HWD_MBSTAT ≤ a ∧ a ≤ Reg.HWD_MBSTAT + 0x200 then
    let b := s.box ((a - Reg.HWD_MBSTAT) / 8)
    boxCode b.state + 2 ^ 10 * b.outstanding + 2 ^ 32 * b.discarded
  else if a = Reg.WEI_STATUS then
    b2n s.weir.identity + 2 ^ 32 * s.weir.recoveryCause + 2 ^ 40 * s.weir.bootStep
      + 2 ^ 48 * (match s.weir.state with | .boot => 0 | .running => 1 | .recovery => 2 | .quarantined => 3)
  else if a = Reg.WEI_QUAR then s.weir.quarCause + 2 ^ 8 * s.weir.quarUnit + 2 ^ 16 * s.weir.lastCause
  else if a = Reg.WEI_QUAR_NS then s.weir.quarNs
  else if a = Reg.WEI_ROLLBACK then
    if s.weir.bootStep < 4 then 0 else s.weir.fwKey + 2 ^ 8 * s.weir.record.revoked + 2 ^ 32 * s.weir.record.rollback
  else if Reg.WEI_FWMEAS0 ≤ a ∧ a ≤ Reg.WEI_FWMEAS0 + 24 then natAt s.weir.measure (a - Reg.WEI_FWMEAS0) 8
  else if a = Reg.WEI_TRIP then
    if s.partValid then 2 ^ 8 * s.weir.mfg.tripC + 2 ^ 16 * s.weir.tjMax + 2 ^ 32 * s.weir.mfg.tripW else 2 ^ 16 * s.weir.tjMax
  else if a = Reg.ERR_STATUS then
    sumL ((s.gauge.scrub.filter (fun x => x.2.passRuns)).map (fun x => 2 ^ (match x.1 with | 0 => 0 | 1 => 1 | 2 => 2 | _ => 3)))
      + 2 ^ 16 * Nat.min 65535 (s.gauge.handlers.filter (fun h => decide (s.now < h.2))).length + 2 ^ 32 * s.gauge.log.length
  else if a = Reg.ERR_SEQ then s.gauge.lastSeq
  else if a = Reg.SPW_STATUS then
    let stage := if s.spw.zStage then 3 else if 0 < s.spw.cclkStep then 2 else if s.spw.limit < 128 then 1 else 0
    (match s.spw.state with | .active => 0 | .capped => 1 | .entering => 2 | .standby => 3 | .waking => 4)
      + 2 ^ 4 * stage + 2 ^ 24 * s.spw.limit + 2 ^ 32 * s.spw.cclkStep + 2 ^ 40 * s.spw.tjC + 2 ^ 48 * s.spw.powerW
  else if a = Reg.CRU_TIME then s.now
  else if a = Reg.CRU_RESET then s.cru.typ + 2 ^ 8 * s.cru.cause + 2 ^ 48 * Nat.min 65535 s.cru.resets
  else if a = Reg.CRU_PLL then s.cru.plls
  else sh

/-- The status half of a mailbox (Table HWD-5): 8 bytes at an offset of 0x20 to 0x38; the rest of a window reads zeros (R465). -/
def State.mailboxView (s : State) (mb off : Nat) : Nat :=
  let b := s.box mb
  if off = 0x20 then (match b.state with | .free => 0 | .pending => 1 | .closed => 2) + 2 ^ 16 * b.outstanding + 2 ^ 32 * b.discarded
  else if off = 0x28 then b.takenSeq
  else if off = 0x30 then b.unrepliedSeq
  else if off = 0x38 then b.unrepliedReason
  else 0

end Sys2Proof.Machine
end

