-- ==== Sys2Proof/Machine/RegCmd.lean ====
section
/-! DEFINITION. Host accesses to registers: rows REGISTER_WRITE to HWD_WIN_WRITE (chapter 00; R24, R263, R270, R438, R463, R533). -/

namespace Sys2Proof.Machine

/-- Every host request to PF BAR0, PF BAR2 or a VF BAR0 completes as Unsupported Request in quarantine (R461). -/
def State.urIfQuarantined (s : State) (fn addr : Nat) (f : State → State) : State :=
  if s.cru.held then s
  else if s.weir.state = .quarantined then s.drive (.unsupported fn addr)
  else f s

/-- A read completes with data. -/
def State.answerRead (s : State) (fn addr : Nat) (bs : List Byte) (poisoned : Bool) : State := s.drive (.readData fn addr bs poisoned)

/-- A discarded access (R9, R24): a read returns zero, Gauge logs it; `why` as in Table ERR-5. -/
def State.badAccess (s : State) (isWrite : Bool) (addr size why : Nat) : State :=
  let s1 := s.logAccess isWrite addr size why
  if isWrite then s1 else s1.answerRead 0 addr (zeros size) false

/-- In recovery mode, registers outside the Headwater block and the Weir window read zero and discard writes (R486). -/
def recoveryHides (addr : Nat) : Bool := decide (0x100000 ≤ addr) && !(decide (0xE00000 ≤ addr) && decide (addr < 0xF00000))

/-- The agents that run under a class S field when it is written (the Boundary words of each description, log 13). -/
def State.runningFor (s : State) (a lo : Nat) : List Nat :=
  if a = Reg.SND_CFG ∨ a = Reg.BRD_CFG ∨ a = Reg.CFL_CFG then (if s.search.qbatches = [] then [] else [0])
  else if a = Reg.LCK_RETAIN then (if s.search.upds = [] ∧ s.search.parts = [] then [] else Tbl.keys s.search.colls)
  else if a = Reg.MRC_CFG then (s.mrc.cells.filter (fun c => c.2.bundle.isSome)).map (·.1)
  else if Reg.MRC_QUOTA0 ≤ a ∧ a ≤ Reg.MRC_QUOTA0 + 24 then
    let st := (a - Reg.MRC_QUOTA0) / 8
    if (s.stackCells st).any (fun c => c.2.token || c.2.waiting) then [st] else []
  else if a = Reg.TRB_ARB then (s.trib.links.filter (fun l => decide (l.2.queue ≠ []))).map (·.1)
  else if a = Reg.SLC_SCHED then
    if lo = 32 then (if s.slc.batches = [] then [] else [0])
    else (if s.slc.tasks = [] then [] else [0])
  else if 0x600000 ≤ a ∧ a < 0x700000 then
    let n := (a - 0x600000) / 0x1000
    match Tbl.find n s.slc.cores with | some c => if c.task.isSome then [n] else [] | none => []
  else []

/-- A host write of one field of a register (Tables SCP-3 and SCP-4); `v` is the whole register as the write gives it, `covered` the
bits that the access covers. RO and WO bits change nothing; RWP and WPR fields keep their value. -/
def State.hostField (s : State) (a v : Nat) (coverLo coverHi : Nat) (f : RField) : State :=
  let x := bits v f.lo f.width
  match f.acc with
  | .rw => match f.cls with
    | .s => s.writeS a f.lo f.width x (s.runningFor a f.lo)
    | _ => s.setFld a f.lo f.width x
  | .w1c => if coverLo ≤ f.lo ∧ f.lo < coverHi then s.setFld a f.lo f.width (bits (s.raw a) f.lo f.width - (bits (s.raw a) f.lo f.width &&& x)) else s
  | _ => s

/-- Clears the recorded fault of a core (R270). -/
def State.clearFault (s : State) (n : Nat) : State := s.core! n (fun c => { c with fault := { c.fault with valid := false } })

/-- Writes PEND and EN of ERR_INT (R12, R533). -/
def State.clearPend (s : State) (mask : Nat) : State :=
  s.setFld Reg.ERR_INT 0 5 (s.fld Reg.ERR_INT 0 5 - (s.fld Reg.ERR_INT 0 5 &&& mask))

/-- A host write that reaches a register: whole-register value of an 8-byte write, or the other half kept for a 4-byte write (R8); each
field follows its own access type and class (R11, R18); an attempt on RWP or WPR fields is logged once (R13). -/
def State.regWrite (s : State) (addr size value : Nat) : State :=
  let a := addr / 8 * 8
  match regAt a with
  | none => s.badAccess true addr size 1
  | some m =>
    let lo := 8 * (addr % 8)
    let v := if size = 8 then value % 2 ^ 64 else setBits (s.withShadows a) lo 32 value
    let hi := lo + 8 * size
    let hidden (f : RField) : Bool := (decide (f.acc = .rwp) || decide (f.acc = .wpr)) && decide (lo < f.lo + f.width) && decide (f.lo < hi)
    let s1 := if m.fields.any hidden then s.logAccess true addr size 2 else s
    let s2 := m.fields.foldl (fun t f => t.hostField a v lo hi f) s1
    if 0x600000 ≤ a ∧ a < 0x700000 then
      let n := (a - 0x600000) / 0x1000
      if a % 0x1000 = 8 ∧ lo ≤ 8 ∧ bit v 8 ∧ lo = 0 then s1.core! n (fun c => { c with accSat := false })
      else if a % 0x1000 = 0x10 then (if bit v 63 ∧ 64 ≤ hi then s1.clearFault n else s1)
      else s2
    else s2

/-- A host write at BAR0, after the checks of R9, R24, R263 and R486; the admin mailbox window holds no register (R455). -/
def State.bar0Write (s : State) (addr size value : Nat) : State :=
  if (size ≠ 4 ∧ size ≠ 8) ∨ addr % size ≠ 0 then s.badAccess true addr size 0
  else if addr < 0x4000 then s
  else if (regAt (addr / 8 * 8)).isNone then s.badAccess true addr size 1
  else if s.host.nodeState = .recovery ∧ recoveryHides addr then s
  else if 0x600000 ≤ addr ∧ addr < 0x700000 ∧ !s.coreOn ((addr - 0x600000) / 0x1000) then s.badAccess true addr size 3
  else s.regWrite addr size value

/-- REGISTER_WRITE (R14). -/
def execRegisterWrite (addr size value : Nat) (s : State) : Host.Outcome State Fault Refusal :=
  ok (s.urIfQuarantined 0 addr (fun t => t.bar0Write addr size value))

/-- BAD_SIZE_ACCESS (R9): an access of a size other than 4 or 8 bytes, or unaligned; an access of a right size is none (log 6). -/
def execBadSizeAccess (isWrite : Bool) (addr size : Nat) (s : State) : Host.Outcome State Fault Refusal :=
  ok (s.urIfQuarantined 0 addr (fun t => if (size ≠ 4 ∧ size ≠ 8) ∨ addr % size ≠ 0 then t.badAccess isWrite addr size 0 else t))

/-- UNASSIGNED_ACCESS (R24): no register map assigns the address; mailbox windows are no registers. -/
def execUnassignedAccess (isWrite : Bool) (addr size : Nat) (s : State) : Host.Outcome State Fault Refusal :=
  ok (s.urIfQuarantined 0 addr (fun t =>
    if addr < 0x4000 ∨ (regAt (addr / 8 * 8)).isSome then t else t.badAccess isWrite addr size 1))

/-- DISABLED_CORE_ACCESS (R263): a read returns the fixed values, a write is discarded; Gauge logs a write. -/
def execDisabledCoreAccess (isWrite : Bool) (addr : Nat) (s : State) : Host.Outcome State Fault Refusal :=
  ok (s.urIfQuarantined 0 addr (fun t =>
    let n := (addr - 0x600000) / 0x1000
    if addr < 0x600000 ∨ 0x700000 ≤ addr ∨ t.coreOn n ∨ t.host.nodeState = .recovery then t
    else if isWrite then t.badAccess true addr 8 3
    else t.answerRead 0 addr (le 8 (t.rilView n (addr % 0x1000))) false))

/-- RIL_FAULT_CLEAR (R270). -/
def execRilFaultClear (core : Nat) (s : State) : Host.Outcome State Fault Refusal :=
  onUnit (decide (core < 256)) (s.urIfQuarantined 0 (0x600010 + 0x1000 * core) (fun t => t.bar0Write (0x600010 + 0x1000 * core) 8 (2 ^ 63)))

/-- ERR_INT_PEND_CLEAR (R533). -/
def execErrIntPendClear (mask : Nat) (s : State) : Host.Outcome State Fault Refusal :=
  ok (s.urIfQuarantined 0 Reg.ERR_INT (fun t => if t.host.nodeState = .recovery then t else t.clearPend mask))

/-- CONSUMED_WRITE (R438): the host writes CONSUMED of SLC_CHARGE. -/
def execConsumedWrite (value : Nat) (s : State) : Host.Outcome State Fault Refusal :=
  ok (s.urIfQuarantined 0 Reg.SLC_CHARGE (fun t => t.bar0Write Reg.SLC_CHARGE 8 value))

/-- HWD_WIN_WRITE (R463). -/
def execHwdWinWrite (value : Nat) (s : State) : Host.Outcome State Fault Refusal :=
  ok (s.urIfQuarantined 0 Reg.HWD_WIN (fun t => t.bar0Write Reg.HWD_WIN 8 value))

end Sys2Proof.Machine
end

