-- ==== Sys2Proof/Machine/Host.lean ====
section
/-! DEFINITION. Headwater: mailboxes, frame checks, the BAR2 window, admin opcodes on the node's own registers, and the host's control of
the functions (chapter 14). -/

namespace Sys2Proof

/-- Injected errors of the codewords that a range touches (R551). -/
def Obj.hits (o : Obj) (off len : Nat) : List (Nat × Nat) :=
  o.injected.filter (fun x => decide (x.2 / 64 * 64 < off + len) && decide (off < x.2 / 64 * 64 + 64))

end Sys2Proof

namespace Sys2Proof.Machine

/-! ### Mailbox windows -/

/-- A request to a mailbox window: Unsupported Request in quarantine, or to a VF while VF Enable is 0 (R461, R486). -/
def State.mbAccess (s : State) (mb off : Nat) (f : State → State) : State :=
  if s.cru.held then s
  else if s.weir.state = .quarantined ∨ (mb ≠ 64 ∧ s.host.vfEnable = false) then s.drive (.unsupported (fnOf mb) off)
  else f s

/-- A discarded write is counted (R466). -/
def State.discardWrite (s : State) (mb : Nat) : State :=
  (s.box! mb (fun b => { b with discarded := Nat.min 0xFFFFFFFF (b.discarded + 1) })).count Reg.HWD_CNT0 6 1

/-- The submit write (R466). -/
def State.submit (s : State) (mb value : Nat) : State :=
  if (s.box mb).state = .free then
    s.box! mb (fun b => { b with state := .pending, window := Mem.writeBytes b.window 0 (le 8 value) })
  else s.discardWrite mb

/-- Window offsets that a write may reach besides the submit write (Table HWD-3): the status half discards. -/
def windowOpen (a : Nat) : Bool := (decide (8 ≤ a) && decide (a < 0x20)) || (decide (0x40 ≤ a) && decide (a < 0x4000))

/-- Writes the bytes that a window keeps. -/
def windowWrite (m : Mem) (a : Nat) : List Byte → Mem
  | [] => m
  | b :: bs => windowWrite (if windowOpen a then Mem.write m a b else m) (a + 1) bs

/-- MAILBOX_WINDOW_WRITE (R466). -/
def execMailboxWindowWrite (mb off : Nat) (bs : List Byte) (s : State) : Host.Outcome State Fault Refusal :=
  onUnit (decide (mb ≤ 64)) (s.mbAccess mb off (fun t =>
    if bs = [] then t
    else if off = 0 ∧ bs.length = 8 then t.submit mb (leNat bs)
    else if off < 8 ∨ (t.box mb).state ≠ .free then t.discardWrite mb
    else t.box! mb (fun b => { b with window := windowWrite b.window off bs })))

/-- SUBMIT_WRITE (R466). -/
def execSubmitWrite (mb value : Nat) (s : State) : Host.Outcome State Fault Refusal :=
  onUnit (decide (mb ≤ 64)) (s.mbAccess mb 0 (fun t => t.submit mb value))

/-! ### Frame checks -/

/-- Who may send an opcode (Table HWD-7). -/
inductive Sender where
  | admin | comp | both
  deriving DecidableEq, Repr

/-- A row of Table HWD-7: opcode, sender, fixed request size, largest reply payload. -/
structure OpRow where
  op : Nat
  sender : Sender
  req : Nat
  reply : Nat
  deriving DecidableEq, Repr

/-- Opcodes of the admin chapter and of collections and searches. -/
def opRows0 : List OpRow :=
  [⟨0x0101, .admin, 8, 80⟩, ⟨0x0102, .admin, 8, 8⟩, ⟨0x0103, .admin, 8, 8⟩, ⟨0x0104, .admin, 8, 8⟩, ⟨0x0105, .admin, 8, 8⟩,
   ⟨0x0106, .both, 16, 8⟩, ⟨0x0107, .admin, 8, 8⟩, ⟨0x0108, .admin, 24, 8⟩, ⟨0x0109, .admin, 8, 8⟩, ⟨0x010A, .admin, 8, 8⟩,
   ⟨0x010B, .admin, 8, 8⟩, ⟨0x0201, .comp, 136, 8⟩, ⟨0x0202, .comp, 8, 14⟩, ⟨0x0203, .comp, 8, 8⟩, ⟨0x0204, .comp, 136, 8⟩,
   ⟨0x0205, .comp, 16, 8⟩, ⟨0x0206, .comp, 8, 340⟩, ⟨0x0301, .comp, 96, 8⟩, ⟨0x0302, .comp, 16, 20⟩, ⟨0x0303, .comp, 8, 8⟩,
   ⟨0x0304, .comp, 8, 8⟩]

/-- Opcodes of updates, attention, models, kernels, buffers and extents. -/
def opRows1 : List OpRow :=
  [⟨0x0401, .comp, 64, 24⟩, ⟨0x0402, .comp, 64, 8⟩, ⟨0x0403, .comp, 24, 8⟩, ⟨0x0404, .comp, 8, 40⟩, ⟨0x0501, .comp, 64, 8⟩,
   ⟨0x0502, .comp, 16, 16⟩, ⟨0x0503, .comp, 64, 8⟩, ⟨0x0504, .both, 8, 8⟩, ⟨0x0505, .comp, 24, 8⟩, ⟨0x0506, .comp, 64, 8⟩,
   ⟨0x0507, .admin, 8, 8⟩, ⟨0x0508, .comp, 8, 24⟩, ⟨0x0509, .comp, 24, 16⟩, ⟨0x050A, .comp, 8, 8⟩, ⟨0x050B, .both, 24, 8⟩,
   ⟨0x050C, .comp, 24, 8⟩, ⟨0x050D, .comp, 24, 24⟩, ⟨0x050E, .comp, 24, 8⟩, ⟨0x050F, .comp, 24, 16⟩, ⟨0x0510, .comp, 24, 8⟩,
   ⟨0x0511, .admin, 8, 8⟩]

/-- Opcodes of compositions, security and diagnostics. -/
def opRows2 : List OpRow :=
  [⟨0x0601, .admin, 64, 8⟩, ⟨0x0602, .admin, 64, 8⟩, ⟨0x0603, .admin, 8, 8⟩, ⟨0x0604, .admin, 16, 8⟩, ⟨0x0605, .both, 8, 160⟩,
   ⟨0x0606, .admin, 16, 8⟩, ⟨0x0607, .comp, 8, 8⟩, ⟨0x0608, .comp, 8, 8⟩, ⟨0x0609, .comp, 40, 8⟩, ⟨0x0701, .both, 32, 2688⟩,
   ⟨0x0702, .admin, 16, 8⟩, ⟨0x0703, .admin, 16, 8⟩, ⟨0x0704, .admin, 16, 8⟩, ⟨0x0705, .admin, 24, 48⟩, ⟨0x0706, .admin, 8, 8⟩,
   ⟨0x0801, .both, 24, 40⟩, ⟨0x0802, .both, 32, 24⟩, ⟨0x0803, .both, 24, 16⟩, ⟨0x0804, .admin, 8, 8⟩, ⟨0x0805, .admin, 16, 16⟩,
   ⟨0x0806, .admin, 16, 8⟩]

/-- Table HWD-7. -/
def opRows : List OpRow := opRows0 ++ opRows1 ++ opRows2

/-- The row of an opcode. -/
def opRow (op : Nat) : Option OpRow := opRows.find? (fun r => decide (r.op = op))

/-- Opcodes served in recovery mode (R486). -/
def recoveryOp (op : Nat) : Bool := decide (op = 0x0101) || decide (op = 0x010B) || decide (op = 0x0701) || decide (op = 0x0801)

/-- OPCODE served in the node's state (R491). -/
def servedIn (st : NodeState) (op : Nat) : Bool :=
  match st with
  | .boot => false
  | .running => decide (op ≠ 0x010B)
  | .recovery => recoveryOp op

/-- The largest reply payload that an opcode can give for this request; OBJ_INFO of an attention object adds 4 × HEAD_DIM. -/
def State.replyMax (s : State) (m : Msg) (r : OpRow) : Nat :=
  if r.op = 0x0508 then
    match Tbl.find (objKey m.comp (m.p 0 2)) s.slc.objs with
    | some o => (match o.kind with | .attention a => 24 + 4 * natAt a.desc 2 2 | _ => 24)
    | none => 24
  else r.reply

/-- The frame checks of Table HWD-6, in order: the reason of the first that fails. Admin-only opcodes need ON_BEHALF 0xFF (R477), but for
WEIGHT_MIRROR, whose object belongs to the composition that ON_BEHALF names (R436). -/
def State.frameCheck (s : State) (m : Msg) : Option Nat :=
  if natAt m.req 6 2 / 2 ≠ 0 ∨ natAt m.req 0x1C 4 ≠ 0 then some 0x0F0B
  else match opRow m.opcode with
    | none => some 0x0F01
    | some r =>
      let ff := decide (m.behalf = 0xFF)
      if !servedIn s.host.nodeState m.opcode then some 0x0F07
      else if (r.sender = .admin ∧ !(m.admin && (ff || decide (r.op = 0x0507)))) ∨ (r.sender = .comp ∧ (m.admin && ff)) then some 0x0508
      else if (!m.admin && !ff) || (m.admin && !ff && ((s.comp m.behalf).isNone || decide (64 ≤ m.behalf))) then some 0x0F04
      else if m.len % 8 ≠ 0 ∨ 16320 < m.len ∨ m.len < r.req then some 0x0F02
      else if m.vector ≠ 0xFF ∧ !(if m.admin then decide (2 ≤ m.vector) else decide (m.vector ≤ 15)) then some 0x0F06
      else if m.replyLen - 64 < s.replyMax m r then some 0x0F05
      else none

/-- Where BATCH_TAG stands in the payload of an opcode whose reply R475 gives. -/
def batchTagOff (op : Nat) : Option Nat :=
  if op = 0x0301 then some 0x0C
  else if op = 0x0401 then some 0x08
  else if op = 0x0402 then some 0x28
  else if op = 0x0503 then some 0x0C
  else if op = 0x0506 then some 0x30
  else if op = 0x0609 then some 0x04
  else none

/-- The payload of a refusal by the frame checks: REASON, with BATCH_TAG where R475 gives the reply. -/
def frameRefusal (m : Msg) (reason : Nat) : List Byte :=
  match batchTagOff m.opcode with
  | some o => le 2 reason ++ le 2 0 ++ m.pb o 4
  | none => reasonHdr reason

/-- Headwater takes messages: the node serves, and no STANDBY holds it (R467, Table SPW-3). -/
def State.takesMessages (s : State) : Bool :=
  !s.cru.held && decide (s.weir.state ≠ .quarantined) && decide (s.host.nodeState ≠ .boot) && !s.host.d3hot
    && (decide (s.spw.state = .active) || decide (s.spw.state = .capped))

/-- A message is taken out of its window (R467), dropped under R470, refused by the frame checks (R471), or left for its block. -/
def State.take (s : State) (mb : Nat) : State :=
  let b := s.box mb
  let req := Mem.readBytes b.window 0 32
  let payload := Mem.readBytes b.window 0x40 (Nat.min (natAt req 2 2) 16320)
  let m : Msg := ⟨mb, b.takenSeq + 1, req, payload, s.now⟩
  let s1 := (s.box! mb (fun x => { x with window := [], state := .free, takenSeq := x.takenSeq + 1 })).count Reg.HWD_CNT0 0 1
  if m.replyAddr % 64 ≠ 0 ∨ m.replyLen < 64 then
    (s1.box! mb (fun x => { x with unrepliedSeq := m.seq, unrepliedReason := 0x0F05 })).count Reg.HWD_CNT0 2 1
  else
    let s2 := s1.box! mb (fun x => { x with outstanding := x.outstanding + 1 })
    match s2.frameCheck m with
    | some r => (s2.count Reg.HWD_CNT0 1 1).reply m stBad (frameRefusal m r)
    | none => s2.box! mb (fun x => { x with inbox := x.inbox ++ [m] })

/-- MESSAGE_TAKE (R467 to R471). -/
def execMessageTake (mb : Nat) (s : State) : Host.Outcome State Fault Refusal :=
  onUnit (decide (mb ≤ 64))
    (if s.takesMessages && decide ((s.box mb).state = .pending) && decide ((s.box mb).outstanding < 1024) && decide (s.batchesWaiting < 4096)
      then s.take mb else s)

/-! ### BAR2 -/

/-- The size of the recovery staging area (R487). -/
def stagingBytes : Nat := 0x8000000

/-- What the window maps: EN, buffer id, and the offset in the buffer of BAR2 offset 0 (R463). -/
def State.winBuf (s : State) : Option (Nat × Obj) :=
  if bit (s.raw Reg.HWD_WIN) 0 then
    let k := objKey 64 (s.fld Reg.HWD_WIN 48 16)
    (Tbl.find k s.slc.objs).map (fun o => (k, o))
  else none

/-- Errors met by a read of an admin buffer: a one-symbol error is corrected, a two-symbol error is uncorrectable and its codeword is
poison-marked, a poison mark forms no record (R518, R521). -/
def State.meetInjected (s : State) (k id : Nat) (hits : List (Nat × Nat)) : State :=
  hits.foldl (fun t x =>
    let u := t.basinUnit
    if x.1 = 1 then
      (u.2.memRaise u.1 0x0001 .c 2 4 id x.2 0xFF 0x3FF none 0).obj! k (fun o => { o with injected := o.injected.filter (fun y => decide (y ≠ x)) })
    else if x.1 = 2 then
      ((u.2.memRaise u.1 0x0002 .d 2 4 id x.2 0xFF 0x3FF none 0).count Reg.ERR_CNT0 6 1).obj! k
        (fun o => { o with injected := o.injected.map (fun y => if y = x then (3, y.2) else y) })
    else t) s

/-- BAR2_READ (R464, R487). -/
def execBar2Read (off len : Nat) (s : State) : Host.Outcome State Fault Refusal :=
  ok (s.urIfQuarantined 0 off (fun t =>
    if t.host.nodeState = .recovery then
      t.answerRead 0 off ((List.range len).map (fun i => if off + i < stagingBytes then Mem.read t.host.staging (off + i) else 0)) false
    else match t.winBuf with
      | none => (t.count Reg.HWD_CNT0 7 1).answerRead 0 off (zeros len) false
      | some (k, o) =>
        let b := t.fld Reg.HWD_WIN 16 20 * 65536 + off
        let t1 := if o.bytes < b + len then t.count Reg.HWD_CNT0 7 1 else t
        let hits := o.hits b len
        (t1.meetInjected k (k % 65536) hits).answerRead 0 off (Mem.readBytes o.data b len) (o.poisoned || hits.any (fun x => decide (x.1 ≠ 1)))))

/-- Keeps the bytes of a write that lie below a limit. -/
def clipBytes (off lim : Nat) (bs : List Byte) : List Byte := bs.take (lim - off)

/-- BAR2_WRITE (R464, R487): writes are encoded with valid check bytes, so an injected error of a codeword written whole is gone. -/
def execBar2Write (off : Nat) (bs : List Byte) (s : State) : Host.Outcome State Fault Refusal :=
  ok (s.urIfQuarantined 0 off (fun t =>
    if t.host.nodeState = .recovery then t.host! (fun h => { h with staging := Mem.writeBytes h.staging off (clipBytes off stagingBytes bs) })
    else match t.winBuf with
      | none => t.count Reg.HWD_CNT0 7 1
      | some (k, o) =>
        let b := t.fld Reg.HWD_WIN 16 20 * 65536 + off
        let t1 := if o.bytes < b + bs.length then t.count Reg.HWD_CNT0 7 1 else t
        t1.obj! k (fun y => { y with
          data := Mem.writeBytes y.data b (clipBytes b y.bytes bs)
          injected := y.injected.filter (fun x => !(decide (b ≤ x.2 / 64 * 64) && decide (x.2 / 64 * 64 + 64 ≤ b + bs.length))) })))

/-! ### Admin opcodes -/

/-- NODE_INFO (R481). -/
def execNodeInfo (mb : Nat) (s : State) : Host.Outcome State Fault Refusal :=
  onMsg s mb 0x0101 (fun m t =>
    if m.p 0 8 ≠ 0 then t.refuse m 0x0F0B
    else
      let id := match t.nodeId with | some n => n | none => 0xFFFF
      t.done m (le 1 (nodeCode t.host.nodeState) ++ le 1 t.host.recoveryCause ++ le 6 0 ++ le 8 t.partId
        ++ le 8 (t.coreEn 0) ++ le 8 (t.coreEn 1) ++ le 8 (t.coreEn 2) ++ le 8 (t.coreEn 3)
        ++ le 4 (t.regView Reg.HWD_STATE) ++ le 2 id ++ le 2 0 ++ le 4 (t.regView Reg.TRB_IDENT) ++ le 4 0 ++ le 8 t.now))

/-- RING_SET (R476, R481): a bad N is refused with RANGE; the ring serves replies after its own. -/
def execRingSet (mb : Nat) (s : State) : Host.Outcome State Fault Refusal :=
  onMsg s mb 0x0106 (fun m t =>
    let n := m.p 0 4
    if m.p 4 4 ≠ 0 then t.refuse m 0x0F0B
    else if n ≠ 0 ∧ (n < 64 ∨ 65536 < n ∨ !isPow2 n) then t.refuse m 0x0F0C
    else (t.done m []).box! m.comp (fun b => { b with ring := if n = 0 then none else some ⟨n, m.p 8 8, 0⟩ }))

/-- TIME_SET (R481): node time never decreases. -/
def execTimeSet (mb : Nat) (s : State) : Host.Outcome State Fault Refusal :=
  onMsg s mb 0x0107 (fun m t => if m.p 0 8 < t.now then t.refuse m 0x0F0B else ({ t with now := m.p 0 8 }).done m [])

/-- The pool, the map cache and the node's own 512 MiB fit the Basin stacks of 64 GB that are not fenced (R483, R598). -/
def State.basinFits (s : State) (pool cache : Nat) : Bool :=
  decide ((pool + cache) * 2 ^ 30 + 512 * 2 ^ 20 ≤ s.basinUp * 64 * 10 ^ 9)

/-- RWP_WRITE (R483, Table HWD-12). -/
def execRwpWrite (mb : Nat) (s : State) : Host.Outcome State Fault Refusal :=
  onMsg s mb 0x0108 (fun m t =>
    let a := m.p 0 4
    let mask := m.p 0x10 8
    let old := t.raw a
    let new := old - (old &&& mask) + (m.p 8 8 &&& mask)
    let w := if a = Reg.DLT_FORMAT then 32 else 16
    if m.p 4 4 ≠ 0 then t.refuse m 0x0F0B
    else if (a ≠ Reg.FRY_BPOOL ∧ a ≠ Reg.DLT_FORMAT ∧ a ≠ Reg.DLT_MAP) ∨ mask / 2 ^ w ≠ 0 then t.refuse m 0x0F0C
    else if a ≠ Reg.DLT_FORMAT ∧ t.slc.comps ≠ [] then t.refuse m 0x0F08
    else if a = Reg.FRY_BPOOL ∧ !t.basinFits new (t.fld Reg.DLT_MAP 0 16) then t.refuse m 0x0F0C
    else if a = Reg.DLT_MAP ∧ !t.basinFits (t.fld Reg.FRY_BPOOL 0 16) new then t.refuse m 0x0F0C
    else (t.setRaw a new).done m [])

/-! ### Functions -/

/-- BUS_MASTER_ENABLE (R460): requests that waited are issued in order when the bit returns to 1. -/
def execBusMasterEnable (fn : Nat) (on : Bool) (s : State) : Host.Outcome State Fault Refusal :=
  onUnit (decide (fn ≤ 64))
    (if s.cru.held then s
     else if on then
      let w := (s.func fn).waiting
      let s1 := s.func! fn (fun f => { f with busMaster := true, waiting := [] })
      w.foldl (fun t e => t.emit fn e) s1
     else s.func! fn (fun f => { f with busMaster := false }))

/-- VF_ENABLE_WRITE (R455, R486): the bit cannot be set in recovery mode. -/
def execVfEnableWrite (on : Bool) (s : State) : Host.Outcome State Fault Refusal :=
  ok (if s.cru.held then s else s.host! (fun h => { h with vfEnable := on && decide (h.nodeState ≠ .recovery) }))

/-- Messages of a mailbox write nothing any more; those not yet admitted are dropped (R458). -/
def State.mute (s : State) (mb : Nat) : State :=
  s.box! mb (fun b => { b with muted := b.takenSeq, outstanding := b.outstanding - b.inbox.length, inbox := [] })

/-- VF_FUNCTION_LEVEL_RESET (R458), from its start to its end within 100 ms: contexts torn down, host requests of the function dropped. -/
def execVfFunctionLevelReset (vf : Nat) (s : State) : Host.Outcome State Fault Refusal :=
  onUnit (decide (1 ≤ vf) && decide (vf ≤ 64))
    (if s.cru.held ∨ s.weir.state = .quarantined ∨ s.host.vfEnable = false then s
     else
      let c := vf - 1
      let s1 := s.mute c
      let s2 := (s1.slc.batches.filter (fun b => decide (b.2.comp = c) && b.2.msg.isSome)).foldl (fun t b => t.teardown b.1 stTorn) s1
      let s3 := s2.func! vf (fun f => { f with waiting := [], busMaster := false })
      let live := match s3.comp c with | some x => x.destroy.isNone | none => false
      s3.box! c (fun b => { b with window := [], state := if live then .free else .closed }))

end Sys2Proof.Machine
end

