-- ==== Sys2Proof/Machine/Gauge.lean ====
section
/-! DEFINITION. Gauge and the trips: reading the log, scrub control, counter snapshots, error injection, the drain, node-fatal handling
(chapters 15 and 16). -/

namespace Sys2Proof.Machine

/-- Reason codes of Table ATT-1. -/
abbrev rUnknown : Nat := 0x0501
/-- OBJ_IN_USE. -/
abbrev rInUse : Nat := 0x0502
/-- SHAPE. -/
abbrev rShape : Nat := 0x0503
/-- SCALE. -/
abbrev rScale : Nat := 0x0504
/-- CAPACITY. -/
abbrev rCapacity : Nat := 0x0505
/-- VALUE. -/
abbrev rValue : Nat := 0x0506
/-- LIMIT. -/
abbrev rLimit : Nat := 0x0507
/-- PRIVILEGE. -/
abbrev rPrivilege : Nat := 0x0508
/-- IMAGE. -/
abbrev rImage : Nat := 0x0509
/-- TABLE_FULL. -/
abbrev rTableFull : Nat := 0x050A
/-- FIELD. -/
abbrev rField : Nat := 0x050B

/-- The records that ERR_LOG_READ writes: from `from` on, of one composition unless the admin role itself asks (R547). -/
def logPick (log : List GRec) (comp from_ n : Nat) : List GRec :=
  (log.filter (fun r => decide (from_ ≤ r.seq) && (decide (comp = 64) || decide (r.comp = comp)))).take n

/-- NEXT_SEQ of ERR_LOG_READ (R547). -/
def nextSeq (log picked : List GRec) (from_ : Nat) : Nat :=
  match picked.getLast? with
  | some r => r.seq + 1
  | none => if log = [] then from_ else Nat.max from_ (maxL (log.map (·.seq)) + 1)

/-- ERR_LOG_READ (R546, R547). -/
def execErrLogRead (mb : Nat) (s : State) : Host.Outcome State Fault Refusal :=
  onMsg s mb 0x0801 (fun m t =>
    let n := m.p 8 4
    let out := m.p 0x10 8
    if n = 0 ∨ 256 < n ∨ m.p 0x0C 4 ≠ 0 ∨ out % 64 ≠ 0 then t.refuse m rField
    else
      let log := t.gauge.log
      let picked := logPick log m.comp (m.p 0 8) n
      (t.output m out (picked.flatMap GRec.bytes)).done m
        (le 8 ((minL (log.map (·.seq))).getD 0) ++ le 8 (nextSeq log picked (m.p 0 8)) ++ le 4 picked.length ++ le 4 0
          ++ le 8 (t.raw (Reg.ERR_CNT0 + 24))))

/-- The scrub state of a target. -/
def State.scrubOf (s : State) (target : Nat) : ScrubSt := Tbl.getD target ⟨false, false⟩ s.gauge.scrub
/-- Sets the scrub state of a target. -/
def State.scrub! (s : State) (target : Nat) (f : ScrubSt → ScrubSt) : State :=
  s.gauge! (fun g => { g with scrub := Tbl.put target (f (Tbl.getD target ⟨false, false⟩ g.scrub)) g.scrub })

/-- Place and width of a target's interval in ERR_CFG: planes share the HBM interval (R552). -/
def scrubField (target : Nat) : Nat × Nat := if target = 1 then (0, 16) else if target = 2 then (16, 8) else (24, 8)

/-- SCRUB_CTL (R552). -/
def execScrubCtl (mb : Nat) (s : State) : Host.Outcome State Fault Refusal :=
  onMsg s mb 0x0804 (fun m t =>
    let target := m.p 0 1
    let action := m.p 1 1
    let f := scrubField target
    if 3 < target ∨ 3 < action ∨ m.p 2 2 ≠ 0 ∨ (action = 0 ∧ 2 ^ f.2 ≤ m.p 4 4) then t.refuse m rField
    else
      let t1 :=
        if action = 0 then t.setFld Reg.ERR_CFG f.1 f.2 (m.p 4 4)
        else if action = 1 then t.scrub! target (fun x => { x with passRuns := true })
        else if action = 2 then t.scrub! target (fun _ => ⟨true, false⟩)
        else t.scrub! target (fun x => { x with paused := false })
      t1.done m [])

/-- The register maps that COUNTER_SNAPSHOT covers (R550). -/
def counterBases : List Nat :=
  [Reg.HWD_CNT0, Reg.SLC_CNT0, Reg.SLC_METER_c, Reg.SND_CNT0, Reg.BRD_CNT0, Reg.CFL_CNT0, Reg.LCK_CNT0, Reg.RIL_CNT0, Reg.MRC_CNT0,
   Reg.FRY_CNT0, Reg.FRY_CFILL_c, Reg.DLT_CNT0, Reg.TRB_CNT0, Reg.SPW_CNT0, Reg.ERR_CNT0, Reg.WEI_CNT0]

/-- Every address of a register map, in ascending order. -/
def mapAddrs (m : RMap) : List Nat :=
  (List.range m.cnt2).flatMap (fun j => (List.range m.cnt).map (fun i => m.base + j * m.step2 + i * m.step))

/-- The addresses of every counter and meter in ascending order. -/
def counterAddrs : List Nat :=
  sortBy (fun a b => decide (a < b)) ((regMaps.filter (fun m => counterBases.contains m.base)).flatMap mapAddrs)

/-- COUNTER_SNAPSHOT (R550). -/
def execCounterSnapshot (mb : Nat) (s : State) : Host.Outcome State Fault Refusal :=
  onMsg s mb 0x0805 (fun m t =>
    let k := objKey 64 (m.p 0 2)
    match Tbl.find k t.slc.objs with
    | none => t.refuse m (if m.p 2 6 ≠ 0 then rField else rUnknown)
    | some o =>
      let bytes := 16 + 16 * counterAddrs.length
      if m.p 2 6 ≠ 0 ∨ o.bytes < m.p 8 8 + bytes then t.refuse m rField
      else
        let data := le 8 t.now ++ le 8 counterAddrs.length ++ counterAddrs.flatMap (fun a => le 8 a ++ le 8 (t.regView a))
        (t.obj! k (fun x => { x with data := Mem.writeBytes x.data (m.p 8 8) data })).done m (le 8 bytes))

/-- UNIT names a unit of Table ERR-4. -/
def unitExists (u : Nat) : Bool :=
  let b := u / 256
  let i := u % 256
  if b = 1 then true
  else if 2 ≤ b ∧ b ≤ 5 then decide (i < 0xA0) || decide (i = 0xFF)
  else if 6 ≤ b ∧ b ≤ 9 then (decide (0x80 ≤ i) && decide (i < 0xA0)) || decide (i = 0xFF)
  else if b = 0x0B then true
  else if b = 0x0C ∨ b = 0x0D then decide (i < 32)
  else if b = 0x0A ∨ b = 0x0E ∨ b = 0x10 ∨ b = 0x11 ∨ b = 0x14 then decide (i < 4)
  else if (0x0F ≤ b ∧ b ≤ 0x18) then decide (i = 0)
  else false

/-- ERROR_INJECT (R551). -/
def execErrorInject (mb : Nat) (s : State) : Host.Outcome State Fault Refusal :=
  onMsg s mb 0x0806 (fun m t =>
    let kind := m.p 0 1
    let unit := m.p 2 2
    if m.p 1 1 ≠ 0 ∨ m.p 4 4 ≠ 0 ∨ kind = 0 ∨ 6 < kind then t.refuse m rField
    else if kind ≤ 3 then
      let k := objKey 64 (m.p 14 2)
      let off := m.p 8 6
      match Tbl.find k t.slc.objs with
      | none => t.refuse m rUnknown
      | some o =>
        if o.bytes ≤ off then t.refuse m rField
        else (t.obj! k (fun x => { x with injected := x.injected ++ [(kind, off)] })).done m []
    else if t.slc.comps ≠ [] ∨ (kind ≠ 6 ∧ !unitExists unit) then t.refuse m rField
    else
      let t1 :=
        if kind = 4 then t.memRaise unit 0x0005 .c 6 0 0 0 0xFF 0x3FF none 0
        else if kind = 5 then t.raise unit 0x0028 .u none 0xFF 0x3FF 0 0 0
        else t.raise unit 0x0053 .n none 0xFF 0x3FF 0 0 0
      t1.done m [])

/-- LOG_DRAIN (R600): one move, unless the drain is stopped. -/
def execLogDrain (s : State) : Host.Outcome State Fault Refusal := ok (if s.gauge.drainStopped || s.cru.held then s else s.drainOne)

/-- CE_STORM_SECOND (R532): the second ends. -/
def execCeStormSecond (s : State) : Host.Outcome State Fault Refusal := ok ((s.reach ((s.now / 1000000000 + 1) * 1000000000)).ceRoll)

/-- TJ_MAX_C holds the greatest junction temperature seen. -/
def State.seeTj (s : State) (tj : Nat) : State := s.weir! (fun w => { w with tjMax := Nat.max w.tjMax (Nat.min 255 tj) })

/-- THERMAL_TRIP (R501): `tj` for 100 µs. -/
def execThermalTrip (tj : Nat) (s : State) : Host.Outcome State Fault Refusal :=
  ok (if s.cru.held then s
    else
      let s1 := s.seeTj tj
      if s.partValid && decide (s.weir.mfg.tripC ≤ tj) then s1.quarantine 3 0xFF else s1)

/-- POWER_TRIP (R501): `watts` averaged over 1 ms. -/
def execPowerTrip (watts : Nat) (s : State) : Host.Outcome State Fault Refusal :=
  ok (if !s.cru.held && s.partValid && decide (s.weir.mfg.tripW < watts) then s.quarantine 4 0xFF else s)

/-- QUARANTINE_ENTRY (R502, R538). Cause 1 ends the handling of a class N error: every queue is drained first. Cause 2 interrupts it: records not
yet in the log are lost. The other causes come from Weir itself. -/
def execQuarantineEntry (cause unit : Nat) (s : State) : Host.Outcome State Fault Refusal :=
  ok (if s.cru.held then s
    else if cause = 1 then
      match s.gauge.fatal with
      | some b => ((s.drainAll s.queued).gauge! (fun g => { g with fatal := none })).quarantine 1 b
      | none => s
    else if cause = 2 then
      if s.gauge.fatal.isSome then (s.gauge! (fun g => { g with queues := [], fatal := none })).quarantine 2 (unit % 256) else s
    else if 3 ≤ cause ∧ cause ≤ 6 then s.quarantine cause 0xFF
    else s)

/-- HEADWATER_FAULT (R527): a trap or watchdog of Headwater core `detail mod 4`. -/
def execHeadwaterFault (detail : Nat) (s : State) : Host.Outcome State Fault Refusal :=
  ok (if s.cru.held ∨ s.weir.state = .quarantined then s else s.raise (unitOf 0x14 (detail % 4)) 0x0051 .n none 0xFF 0x3FF 0 detail 0)

end Sys2Proof.Machine
end

