-- ==== Sys2Proof/Machine/Sha3.lean ====
section
/-! DEFINITION. SHA3-256 (the hash of chapters 11, 13 and 15, from FIPS 202), and the key derivation of R503 over it. -/

namespace Sys2Proof

/-- Rotates a 64-bit lane left. -/
def rotl64 (x n : Nat) : Nat := if n = 0 then x else (x * 2 ^ n ||| x / 2 ^ (64 - n)) % 2 ^ 64

/-- Rotation offsets of step rho, as FIPS 202 walks them: from lane (1, 0) on to lane (y, 2x + 3y), step t rotates by the t-th triangular number. -/
def keccakWalk : Nat → Nat → Nat → Nat → List Nat → List Nat
  | 0, _, _, _, offs => offs
  | n + 1, t, x, y, offs => keccakWalk n (t + 1) y ((2 * x + 3 * y) % 5) (setAt offs (x + 5 * y) ((t + 1) * (t + 2) / 2 % 64))

/-- The offsets by lane x + 5 y. -/
def keccakRho : List Nat := keccakWalk 24 0 1 0 (List.replicate 25 0)

/-- The register of the round-constant generator after one step: x⁸ + x⁶ + x⁵ + x⁴ + 1. -/
def keccakLfsr (r : Nat) : Nat := if r < 128 then 2 * r else (2 * r ^^^ 0x71) % 256

/-- Round constants of step iota: the generator's output bit 7i + j is bit 2^j − 1 of constant i. -/
def keccakRcFrom : Nat → Nat → List Nat
  | 0, _ => []
  | n + 1, r =>
    let bitsOf := (List.range 7).foldl (fun (a : Nat × Nat) j => (a.1 + a.2 % 2 * 2 ^ (2 ^ j - 1), keccakLfsr a.2)) (0, r)
    bitsOf.1 :: keccakRcFrom n bitsOf.2

/-- The 24 round constants. -/
def keccakRc : List Nat := keccakRcFrom 24 1

/-- One round over 25 lanes in order x + 5 y. -/
def keccakRound (a : List Nat) (rc : Nat) : List Nat :=
  let at' (l : List Nat) (i : Nat) : Nat := l.getD i 0
  let c := (List.range 5).map (fun x => at' a x ^^^ at' a (x + 5) ^^^ at' a (x + 10) ^^^ at' a (x + 15) ^^^ at' a (x + 20))
  let d := (List.range 5).map (fun x => at' c ((x + 4) % 5) ^^^ rotl64 (at' c ((x + 1) % 5)) 1)
  let th := (List.range 25).map (fun i => at' a i ^^^ at' d (i % 5))
  -- lane (x, y) of the result of pi comes from lane (x + 3 y, x)
  let b := (List.range 25).map (fun i =>
    let x := i % 5
    let y := i / 5
    let j := (x + 3 * y) % 5 + 5 * x
    rotl64 (at' th j) (at' keccakRho j))
  let ch := (List.range 25).map (fun i =>
    let x := i % 5
    let y5 := i - x
    at' b i ^^^ ((2 ^ 64 - 1 - at' b (y5 + (x + 1) % 5)) &&& at' b (y5 + (x + 2) % 5)))
  setAt ch 0 (at' ch 0 ^^^ rc)

/-- The permutation. -/
def keccakF (a : List Nat) : List Nat := keccakRc.foldl keccakRound a

/-- The 17 lanes of one 136-byte block. -/
def sha3Lanes (bs : List Byte) : List Nat := (List.range 17).map (fun i => natAt bs (8 * i) 8)

/-- Absorbs `n` blocks of 136 bytes. -/
def sha3Absorb : Nat → List Nat → List Byte → List Nat
  | 0, st, _ => st
  | n + 1, st, bs =>
    let l := sha3Lanes (bs.take 136)
    sha3Absorb n (keccakF ((List.range 25).map (fun i => st.getD i 0 ^^^ l.getD i 0))) (bs.drop 136)

/-- SHA3-256. -/
def sha3 (bs : List Byte) : List Byte :=
  let n := bs.length / 136 + 1
  let pad := 136 * n - bs.length
  let msg := bs ++ (if pad = 1 then [0x86] else [0x06] ++ zeros (pad - 2) ++ [0x80])
  ((sha3Absorb n (List.replicate 25 0) msg).take 4).flatMap (le 8)

/-- A byte string XORed with one byte. -/
def xorByte (b : Byte) (bs : List Byte) : List Byte := bs.map (fun x => x ^^^ b)

/-- HMAC-SHA3-256, for keys of at most one block. -/
def hmac (k bs : List Byte) : List Byte :=
  let key := k ++ zeros (136 - k.length)
  sha3 (xorByte 0x5C key ++ sha3 (xorByte 0x36 key ++ bs))

/-- The ASCII bytes of a label. -/
def ascii (s : String) : List Byte := s.toList.map (fun c => BitVec.ofNat 8 c.toNat)

/-- KDF of R503. -/
def kdf (k : List Byte) (label : String) (bs : List Byte) : List Byte := hmac k (ascii label ++ bs)

end Sys2Proof
end

