-- ==== Sys2Proof/Machine/Weir.lean ====
section
/-! DEFINITION. Weir: firmware images, keys, attestation, the SPDM responder, the I3C targets and the test access port (chapters 15, 18). -/

namespace Sys2Proof

/-- A firmware image of the bytes that a sender gives (Table WEI-2, R492). -/
def FwImage.ofBytes (bs : List Byte) : FwImage :=
  let len := natAt bs 0x10 8
  let key := bytesAt bs 0x40 1312
  let idx := natAt bs 0x0C 1
  let zero := decide (natAt bs 0x0E 2 = 0) && decide (natAt bs 0x38 8 = 0) && decide (natAt bs 0xED4 300 = 0) && decide (natAt bs 0x0D 1 < 16)
  let fmt := decide (natAt bs 0 4 = 0x53465731) && zero && decide (len % 4096 = 0) && decide (0x2000 ≤ len) && decide (len ≤ 0x6000000)
    && decide (len ≤ bs.length) && decide (idx < 4)
  let img := bs.take len
  { version := natAt bs 4 4, rollback := natAt bs 8 4, keyIndex := idx, revoke := natAt bs 0x0D 1
    formatOk := fmt
    keyOk := decide (sha3 key = Config.romKeyDigest idx)
    signatureOk := Config.mldsaVerify key (bytesAt bs 0 0x560) (bytesAt bs 0x560 2420) []
    bodyOk := decide (bytesAt bs 0x18 32 = sha3 (img.drop 4096))
    measure := sha3 img
    bytes := img }

/-- The checks of R492 in its order: the reason code of the first that fails (Table WEI-9). `withBody` leaves out the body digest. -/
def FwImage.refusal (i : FwImage) (counter revoked : Nat) (withBody : Bool) : Option Nat :=
  if !i.formatOk then some 0x0703
  else if !i.keyOk || bit revoked i.keyIndex then some 0x0701
  else if bit i.revoke i.keyIndex then some 0x0703
  else if !i.signatureOk then some 0x0701
  else if i.rollback < counter then some 0x0702
  else if withBody && !i.bodyOk then some 0x0703
  else none

/-- A state record as it stands in its slot (R497), with its HMAC under the package-flash key; the fields lie in the order in which R497 names them. -/
def StateRec.bytes (r : StateRec) (key : List Byte) : List Byte :=
  let body := le 8 r.seq ++ le 4 r.rollback ++ le 1 r.revoked ++ le 4 r.incarnation ++ r.policy
  body ++ hmac key body

/-- The authentic record with the greatest SEQ, and its slot (R497). -/
def newestRec (log : Tbl StateRec) : Option (Nat × StateRec) :=
  (log.filter (fun x => x.2.authentic)).foldl (fun (acc : Option (Nat × StateRec)) x => match acc with
    | some y => if y.2.seq < x.2.seq then some x else some y
    | none => some x) none

/-- The newest authentic copy of the key table, and its half (R497); without one, an empty copy. -/
def newestKeys (copies : Tbl KeyCopy) : Nat × KeyCopy :=
  (copies.filter (fun x => x.2.authentic)).foldl (fun (acc : Nat × KeyCopy) x => if acc.2.seq < x.2.seq then x else acc) (1, ⟨0, [], false⟩)

/-- From reset of a transport: nothing negotiated. -/
def Spdm.reset : Spdm := ⟨false, false, false, [], [], [], 1, []⟩

end Sys2Proof

namespace Sys2Proof.Machine

/-- An image under R492 against Weir's own state. -/
def State.imageRefusal (s : State) (i : FwImage) : Option Nat := i.refusal s.weir.record.rollback s.weir.record.revoked true

/-! ### Keys -/

/-- The seed of the alias key pair: FW_MEASURE, or the ROM's digest in recovery mode (R503, R505). -/
def State.aliasSeed (s : State) : List Byte :=
  kdf s.weir.pufRoot "alias" (if s.weir.state = .recovery then Config.romDigest else s.weir.measure)

/-- The storage root. -/
def State.storageRoot (s : State) : List Byte := kdf s.weir.pufRoot "storage" []

/-- The tenant secret of a composition, or 32 zero bytes. -/
def State.secretOf (s : State) (c : Nat) : List Byte := (Tbl.find c s.weir.secrets).getD (zeros 32)

/-- The flash key of R513. -/
def State.flashKey (s : State) (keyId tenant : Nat) (secret : List Byte) : List Byte :=
  let body := le 8 keyId ++ le 2 tenant ++ secret
  kdf s.storageRoot "flash" (body ++ [1]) ++ kdf s.storageRoot "flash" (body ++ [2])

/-- Its check value. -/
def keyCheck (key : List Byte) : List Byte := (sha3 (ascii "check" ++ key)).take 16

/-- The Delta system key (R503). -/
def State.systemKey (s : State) : List Byte := kdf s.storageRoot "system" [1] ++ kdf s.storageRoot "system" [2]

/-- A key slot code: kind (1 Delta AES, 2 link GCM, 3 CONTROL tag, 4 IDE) and number. -/
def slotCode (kind n : Nat) : Nat := 65536 * kind + n

/-- Puts a key into a slot. -/
def State.putSlot (s : State) (code : Nat) (key : List Byte) : State :=
  s.weir! (fun w => { w with slots := w.slots.filter (fun k => decide (k.1 ≠ code)) ++ [(code, key)] })
/-- Zeroes a key slot. -/
def State.zeroSlot (s : State) (code : Nat) : State := s.weir! (fun w => { w with slots := w.slots.filter (fun k => decide (k.1 ≠ code)) })

/-- The package-flash key (R503). -/
def State.pflashKey (s : State) : List Byte := kdf s.storageRoot "pflash" []

/-- Writes a new state record to the slot after the newest one (R497). -/
def State.newRecord (s : State) (f : StateRec → StateRec) : State :=
  s.weir! (fun w =>
    let r : StateRec := { f w.record with seq := w.record.seq + 1 }
    let slot := match newestRec w.stateLog with | some x => (x.1 + 1) % 256 | none => 0
    { w with record := r, stateLog := Tbl.put slot r w.stateLog })

/-- Writes the key table into the half that does not hold the newest authentic copy (R497). -/
def State.newKeys (s : State) (f : List KeyEnt → List KeyEnt) : State :=
  s.weir! (fun w =>
    let c := newestKeys w.keyCopies
    { w with keyTable := f w.keyTable, keyCopies := Tbl.put (1 - c.1) ⟨c.2.seq + 1, f w.keyTable, true⟩ w.keyCopies })

/-- FLASH_KEY_CREATE (R513). -/
def execFlashKeyCreate (mb : Nat) (s : State) : Host.Outcome State Fault Refusal :=
  onMsg s mb 0x0702 (fun m t =>
    let c := m.p 0 1
    let id := m.p 8 8
    match t.comp c with
    | none => t.refuse m 0x0601
    | some x =>
      let sec := t.secretOf c
      let key := t.flashKey id x.tenant sec
      let ent := t.weir.keyTable.find? (fun e => decide (e.keyId = id))
      if m.p 1 7 ≠ 0 then t.refuse m 0x050B
      else if id = 0 ∨ Tbl.has c t.weir.flashKeys ∨ t.weir.flashKeys.any (fun k => decide (k.2 = id)) then t.refuse m 0x0706
      else match ent with
        | some e =>
          if e.tenant ≠ x.tenant ∨ e.check ≠ keyCheck key then t.refuse m 0x0707
          else ((t.weir! (fun w => { w with flashKeys := Tbl.put c id w.flashKeys })).putSlot (slotCode 1 c) key).done m []
        | none =>
          if 1024 ≤ t.weir.keyTable.length then t.refuse m 0x070A
          else
            let e : KeyEnt := ⟨id, x.tenant, Tbl.has c t.weir.secrets, keyCheck key⟩
            (((t.weir! (fun w => { w with flashKeys := Tbl.put c id w.flashKeys })).newKeys (fun l => l ++ [e])).putSlot (slotCode 1 c) key).done m [])

/-- Something of a composition lies in its flash space (R514): a collection, a weight object in flash, or an attached extent. -/
def State.flashInUse (s : State) (c : Nat) : Bool :=
  s.search.colls.any (fun k => decide (k.2.comp = c))
    || s.slc.objs.any (fun o => decide (o.1 / 65536 = c) && (match o.2.kind with
      | .weight w => decide (w.tier = 2)
      | .refExtent _ => true
      | _ => o.2.extent.isSome))

/-- A composition's key leaves every engine (R514). -/
def State.dropFlashKey (s : State) (c : Nat) : State :=
  (s.weir! (fun w => { w with flashKeys := Tbl.erase c w.flashKeys })).zeroSlot (slotCode 1 c)

/-- FLASH_KEY_DESTROY (R514). -/
def execFlashKeyDestroy (mb : Nat) (s : State) : Host.Outcome State Fault Refusal :=
  onMsg s mb 0x0703 (fun m t =>
    let c := m.p 0 1
    if m.p 1 7 ≠ 0 then t.refuse m 0x050B
    else if (t.comp c).isNone then t.refuse m 0x0601
    else if Tbl.find c t.weir.flashKeys ≠ some (m.p 8 8) then t.refuse m 0x0708
    else if t.flashInUse c then t.refuse m 0x0709
    else (t.dropFlashKey c).done m [])

/-! ### Images -/

/-- FW_STAGE (R494). -/
def execFwStage (mb : Nat) (s : State) : Host.Outcome State Fault Refusal :=
  onMsg s mb 0x0705 (fun m t =>
    let k := objKey 64 (m.p 0 2)
    let off := m.p 8 8
    let len := m.p 0x10 8
    if t.weir.activating.isSome then t.refuse m 0x0705
    else match Tbl.find k t.slc.objs with
      | none => t.refuse m 0x0703
      | some o =>
        if m.p 2 6 ≠ 0 then t.refuse m 0x050B
        else if o.bytes < off + len then t.refuse m 0x0703
        else
          let hits := o.hits off len
          let t1 := (t.meetInjected k (k % 65536) hits).weir! (fun w => { w with staged := none })
          if o.poisoned || hits.any (fun x => decide (x.1 ≠ 1)) then t1.reply m stMedia (reasonHdr 0)
          else
            let i := FwImage.ofBytes (Mem.readBytes o.data off len)
            match t1.imageRefusal i with
            | some r => (t1.count Reg.WEI_CNT0 3 1).refuse m r
            | none => (t1.weir! (fun w => { w with staged := some i })).done m (le 4 i.version ++ le 4 i.rollback ++ i.measure))

/-- FW_ACTIVATE (R495): the write of the staged image starts. -/
def execFwActivate (mb : Nat) (s : State) : Host.Outcome State Fault Refusal :=
  onMsg s mb 0x0706 (fun m t =>
    if m.p 0 8 ≠ 0 then t.refuse m 0x050B
    else if t.weir.activating.isSome then t.refuse m 0x0705
    else if t.weir.staged.isNone then t.refuse m 0x0704
    else t.weir! (fun w => { w with activating := some m }))

/-! ### Attestation -/

/-- The report body of Table WEI-6 for composition `c`, or for the node (64). -/
def State.report (s : State) (nonce : List Byte) (c : Nat) : List Byte :=
  let rcv := decide (s.weir.state = .recovery)
  let x := s.comp c
  let key := Tbl.find c s.weir.flashKeys
  let secret := match key with
    | some id => s.weir.keyTable.any (fun e => decide (e.keyId = id) && e.secret)
    | none => false
  let flags := b2n secret + 2 * b2n (s.func (fnOf c)).ideEnabled + 4 * b2n (match x with | some y => y.mirrorOk | none => false)
    + 8 * b2n rcv + 16 * b2n (decide (s.weir.record.policy ≠ []))
  le 4 0x57525054 ++ le 2 1 ++ le 1 (b2n (decide (c < 64))) ++ le 1 (if c < 64 then c else 0xFF) ++ nonce ++ le 8 s.partId
    ++ le 8 (s.coreEn 0) ++ le 8 (s.coreEn 1) ++ le 8 (s.coreEn 2) ++ le 8 (s.coreEn 3)
    ++ (if rcv then Config.romDigest else s.weir.measure)
    ++ le 4 (if rcv then 0 else s.host.fwVersion) ++ le 4 s.weir.record.rollback ++ le 4 (s.regView Reg.TRB_IDENT)
    ++ le 2 (s.nodeId.getD 0xFFFF) ++ le 2 (match x with | some y => y.tenant | none => 0)
    ++ (match x with | some y => sha3 y.slice | none => zeros 32) ++ le 8 (key.getD 0) ++ le 8 flags
    ++ (if s.weir.record.policy = [] then zeros 32 else sha3 s.weir.record.policy) ++ le 8 s.now ++ zeros 40

/-- ATTEST_REPORT (R504, R505). -/
def execAttestReport (mb : Nat) (s : State) : Host.Outcome State Fault Refusal :=
  onMsg s mb 0x0701 (fun m t =>
    if !t.weir.identity then t.refuse m 0x070B
    else
      let body := t.report (m.pb 0 32) m.comp
      (t.count Reg.WEI_CNT0 0 1).done m (body ++ bytesAt (Config.mldsaSign t.aliasSeed body (ascii "SN4 attest")) 0 2420 ++ le 4 0))

/-! ### SPDM -/

/-- The responder can answer on a transport: functions 0 to 64 once PCI Express is released, I3C buses 65 and 66 in every state (R506, R584). -/
def State.spdmUp (s : State) (port : Nat) : Bool :=
  !s.cru.held && (decide (65 ≤ port) || (decide (5 ≤ s.weir.bootStep) && (decide (port = 0) || s.host.vfEnable)))

/-- The SPDM state of a transport. -/
def State.spdm (s : State) (port : Nat) : Spdm := (Tbl.find port s.weir.spdm).getD Spdm.reset
/-- Updates it. -/
def State.spdm! (s : State) (port : Nat) (f : Spdm → Spdm) : State := s.weir! (fun w => { w with spdm := Tbl.put port (f (s.spdm port)) w.spdm })
/-- A response. -/
def State.answer (s : State) (port code : Nat) (content : List Byte) : State := s.drive (.spdm port (Config.spdmFrame code content))
/-- An SPDM ERROR response (code 0x7F): the reason is DMTF's. -/
def State.spdmError (s : State) (port : Nat) : State := s.answer port 0x7F []

/-- A request on a transport: the port exists, the responder can answer, and the request is allowed now. -/
def onSpdm (s : State) (port : Nat) (allowed : Bool) (f : State → State) : Host.Outcome State Fault Refusal :=
  onUnit (decide (port ≤ 66)) (if !s.spdmUp port then s else if allowed then f s else s.spdmError port)

/-- GET_VERSION (R506): a new negotiation. -/
def execGetVersion (port : Nat) (_req : List Byte) (s : State) : Host.Outcome State Fault Refusal :=
  onSpdm s port true (fun t => (t.spdm! port (fun p => { p with version := true, capabilities := false, algorithms := false })).answer port 0x04 [])
/-- GET_CAPABILITIES (R506). -/
def execGetCapabilities (port : Nat) (_req : List Byte) (s : State) : Host.Outcome State Fault Refusal :=
  onSpdm s port (s.spdm port).version (fun t => (t.spdm! port (fun p => { p with capabilities := true })).answer port 0x61 [])
/-- NEGOTIATE_ALGORITHMS (R506): only ML-DSA-44, SHA3-256 and AES-256-GCM are offered. -/
def execNegotiateAlgorithms (port : Nat) (_req : List Byte) (s : State) : Host.Outcome State Fault Refusal :=
  onSpdm s port (s.spdm port).capabilities (fun t => (t.spdm! port (fun p => { p with algorithms := true })).answer port 0x63 [])

/-- The chain of slot 0: device identity part of the manufacturing record, then the alias certificate (R503). -/
def State.chain (s : State) : List Byte := s.weir.mfg.identity ++ Config.certChain s.aliasSeed (if s.weir.state = .recovery then Config.romDigest else s.weir.measure)

/-- Requests that need the negotiation and an identity. -/
def State.spdmReady (s : State) (port : Nat) : Bool := (s.spdm port).algorithms && s.weir.identity

/-- GET_DIGESTS (R506). -/
def execGetDigests (port : Nat) (_req : List Byte) (s : State) : Host.Outcome State Fault Refusal :=
  onSpdm s port (s.spdmReady port) (fun t => t.answer port 0x01 (sha3 t.chain))
/-- GET_CERTIFICATE (R506). -/
def execGetCertificate (port off len : Nat) (s : State) : Host.Outcome State Fault Refusal :=
  onSpdm s port (s.spdmReady port && decide (off ≤ s.chain.length)) (fun t => t.answer port 0x02 ((t.chain.drop off).take len))
/-- CHALLENGE (R506): signed with the alias key. -/
def execChallenge (port : Nat) (nonce : List Byte) (s : State) : Host.Outcome State Fault Refusal :=
  onSpdm s port (s.spdmReady port) (fun t => t.answer port 0x03 (sha3 t.chain ++ Config.mldsaSign t.aliasSeed (sha3 t.chain ++ nonce) []))

/-- A measurement by index (R506). -/
def State.measurement (s : State) (port i : Nat) : List Byte :=
  if i = 1 then Config.romDigest
  else if i = 2 then s.weir.measure
  else if i = 3 then le 4 s.weir.record.rollback ++ le 1 s.weir.record.revoked
  else if 1 ≤ port ∧ port ≤ 64 then
    (match s.comp (port - 1) with | some x => sha3 x.slice ++ le 2 x.tenant | none => zeros 34)
  else (if s.weir.record.policy = [] then zeros 32 else sha3 s.weir.record.policy)

/-- GET_MEASUREMENTS (R506): index 0 asks for the number of indices, 0xFF for all. -/
def execGetMeasurements (port index : Nat) (nonce : List Byte) (s : State) : Host.Outcome State Fault Refusal :=
  onSpdm s port (s.spdmReady port && (decide (index ≤ 4) || decide (index = 0xFF))) (fun t =>
    let body :=
      if index = 0 then le 1 4
      else if index = 0xFF then (List.range 4).flatMap (fun i => t.measurement port (i + 1))
      else t.measurement port index
    t.answer port 0x60 (body ++ Config.mldsaSign t.aliasSeed (body ++ nonce) []))

/-- KEM_KEY (Table WEI-7): an ephemeral key of a free seed, signed. -/
def execKemKey (port : Nat) (nonce : List Byte) (s : State) : Host.Outcome State Fault Refusal :=
  onSpdm s port (s.spdmReady port) (fun t =>
    let r := t.free
    let seed := le 32 r.1
    let key := Config.kemKey seed
    (r.2.spdm! port (fun p => { p with nonce := nonce, kemKey := seed })).answer port 0xFE (key ++ Config.mldsaSign t.aliasSeed (nonce ++ key) []))

/-- KEM_FINISH (Table WEI-7): the session is established when the verify data match; a function holds at most two. -/
def execKemFinish (port : Nat) (cipher verify : List Byte) (s : State) : Host.Outcome State Fault Refusal :=
  onSpdm s port true (fun t =>
    let p := t.spdm port
    if p.kemKey = [] ∨ 2 ≤ p.sessions.length then t.spdmError port
    else
    let secret := Config.kemDecap p.kemKey cipher
    if Config.spdmVerify secret verify then
      let t1 := t.spdm! port (fun q => { q with
        kemKey := [], nonce := []
        sessions := q.sessions ++ [q.nextSession], nextSession := q.nextSession + 1, keyGen := Tbl.put q.nextSession 0 q.keyGen })
      (t1.count Reg.WEI_CNT0 1 1).answer port 0xFE (le 4 p.nextSession ++ Config.spdmData secret)
    else ((t.spdm! port (fun q => { q with kemKey := [], nonce := [] })).count Reg.WEI_CNT0 2 1).spdmError port)

/-- The session is established on the transport. -/
def State.inSession (s : State) (port session : Nat) : Bool := (s.spdm port).sessions.contains session

/-- END_SESSION (R506). -/
def execEndSession (port session : Nat) (s : State) : Host.Outcome State Fault Refusal :=
  onSpdm s port (s.inSession port session) (fun t =>
    (t.spdm! port (fun p => { p with sessions := p.sessions.filter (fun x => decide (x ≠ session)), keyGen := Tbl.erase session p.keyGen })).answer port 0x6C [])
/-- HEARTBEAT (R506). -/
def execHeartbeat (port session : Nat) (s : State) : Host.Outcome State Fault Refusal :=
  onSpdm s port (s.inSession port session) (fun t => t.answer port 0x68 [])
/-- KEY_UPDATE (R506): the session's keys move on by one. -/
def execKeyUpdate (port session : Nat) (s : State) : Host.Outcome State Fault Refusal :=
  onSpdm s port (s.inSession port session) (fun t =>
    (t.spdm! port (fun p => { p with keyGen := Tbl.upd session (· + 1) p.keyGen })).answer port 0x69 [])

/-- TENANT_SECRET (R507). -/
def execTenantSecret (port session : Nat) (secret : List Byte) (s : State) : Host.Outcome State Fault Refusal :=
  onSpdm s port (s.inSession port session && decide (1 ≤ port) && decide (port ≤ 64) && (s.comp (port - 1)).isSome
      && !Tbl.has (port - 1) s.weir.flashKeys && decide (secret.length = 32)) (fun t =>
    (t.weir! (fun w => { w with secrets := Tbl.put (port - 1) secret w.secrets })).answer port 0xFE [])

/-- IDE_KM (R508): only for the function of the DOE that carries it. -/
def execIdeKm (port session fn : Nat) (keys : List Byte) (enable : Bool) (s : State) : Host.Outcome State Fault Refusal :=
  onSpdm s port (s.inSession port session && decide (port ≤ 64) && decide (fn = port)) (fun t =>
    let t1 := t.func! fn (fun f => { f with ideKeys := if keys = [] then f.ideKeys else [keys], ideEnabled := enable })
    (if keys = [] then t1 else t1.putSlot (slotCode 4 fn) keys).answer port 0xFE [])

/-! ### I3C and the test access port -/

/-- The provisional ID (R584). -/
def State.provisionalId (s : State) : Nat := Config.mipiId % 2 ^ 15 * 2 ^ 33 + 2 ^ 32 + s.weir.i3cId % 2 ^ 32

/-- ENTDAA (R584): the target drives its provisional ID, most significant byte first, and takes the address. -/
def execEntdaa (bus addr : Nat) (s : State) : Host.Outcome State Fault Refusal :=
  onUnit (decide (bus < 2)) (if s.cru.held then s
    else (s.drive (.i3c (le 6 s.provisionalId).reverse)).weir! (fun w => { w with i3cAddr := Tbl.put bus addr w.i3cAddr }))

/-- BYPASS (R500): the one-bit register reads 0. -/
def execBypass (s : State) : Host.Outcome State Fault Refusal := ok ((s.weir! (fun w => { w with tap := .bypass })).drive (.tap 1 0))
/-- SAMPLE_PRELOAD (R500). -/
def execSamplePreload (s : State) : Host.Outcome State Fault Refusal := ok (s.weir! (fun w => { w with tap := .samplePreload }))
/-- EXTEST (R500): Weir quarantines the node first. -/
def execExtest (s : State) : Host.Outcome State Fault Refusal := ok ((s.quarantine 6 0xFF).weir! (fun w => { w with tap := .extest }))
/-- IDCODE (R582). -/
def execIdcode (s : State) : Host.Outcome State Fault Refusal :=
  ok ((s.weir! (fun w => { w with tap := .idcode })).drive (.tap 32 (0x10540001 + Config.jep106 % 2 ^ 11 * 2)))

end Sys2Proof.Machine
end

