-- ==== Sys2Proof/Machine/Reset.lean ====
section
/-! DEFINITION. Resets and start-up, clock loss, and Spillway's throttle (chapters 15, 17, 18). -/

namespace Sys2Proof

/-- The cores of a grade (Table SCP-1); a GRADE that names none fits no map. -/
def gradeCores (g : Nat) : Nat := if g = 1 then 256 else if g = 2 then 240 else if g = 3 then 224 else 0

/-- The core map of the manufacturing record holds exactly the count that its GRADE states (R4, R6). -/
def MfgRec.mapOk (m : MfgRec) : Bool :=
  let n := ((List.range 256).filter (fun i => bit (m.coreEn.getD (i / 64) 0) (i % 64))).length
  decide (n ≠ 0) && decide (n = gradeCores (bits m.partId 40 8))

end Sys2Proof

namespace Sys2Proof.Machine

/-- TYPE of CRU_RESET. -/
abbrev rstCold : Nat := 0
/-- PCI Express warm. -/
abbrev rstWarm : Nat := 1
/-- Node. -/
abbrev rstNode : Nat := 2

/-- What a reset leaves of Weir (Table CRU-3, R495, R499, R502): package flash; the cause of an ended quarantine; a torn image write. -/
def weirAfter (w : WeirSt) (cold : Bool) (pins id : Nat) : WeirSt :=
  { WeirSt.reset with
    lastCause := if cold then 0 else if w.state = .quarantined then w.quarCause else w.lastCause
    tjMax := if cold then 0 else w.tjMax
    mfg := w.mfg, pufRoot := w.pufRoot, record := w.record, keyTable := w.keyTable, stateLog := w.stateLog, keyCopies := w.keyCopies
    image := if w.activating.isSome then { w.image with bodyOk := false } else w.image
    flashReadable := w.flashReadable
    wtripLow := if cold then false else w.wtripLow
    vndrTest := pins, i3cId := id, tap := w.tap }

/-- What a reset leaves of Gauge (R531, Table CRU-3): the node log with PRIOR set and ERR_SEQ, except for a cold reset. -/
def gaugeAfter (g : GaugeSt) (cold : Bool) : GaugeSt :=
  if cold then GaugeSt.reset
  else { GaugeSt.reset with lastSeq := g.lastSeq, log := g.log.map (fun r => { r with prior := true }) }

/-- What a reset leaves of the host side: nothing but the log of what the node did. -/
def hostAfter (h : HostSt) : HostSt := { HostSt.reset with out := h.out, flitMode := h.flitMode }

/-- Links from reset: stored training coefficients are kept by a warm or node reset. -/
def tribAfter (t : TribSt) (cold : Bool) : TribSt :=
  { TribSt.reset with links := t.links.map (fun l => (l.1, { Link.reset with coefs := l.2.coefs && !cold })), fwOut := t.fwOut }

/-- A reset of the whole package (R565 to R567): type, cause, what start-up must enter, and the VNDR_TEST balls, which quarantine the node when
one is high (R581). -/
def State.packageReset (s : State) (typ cause recovery pins : Nat) : State :=
  let cold := decide (typ = rstCold)
  let r := s.free
  let s1 : State := { r.2 with
    now := if cold then 0 else s.now
    host := hostAfter s.host, regs := ⟨[], []⟩, gauge := gaugeAfter s.gauge cold, slc := SluiceSt.reset, search := SearchSt.reset
    mrc := MrcSt.reset, ferry := FerrySt.reset, delta := deltaKept s.delta, trib := tribAfter s.trib cold
    weir := weirAfter s.weir cold pins (r.1 % 2 ^ 32)
    spw := SpwSt.reset
    cru := { CruSt.reset with cause := cause, typ := typ, resets := if cold then 0 else Nat.min 65535 (s.cru.resets + 1), recoveryNext := recovery } }
  let s2 := if s.weir.wtripLow && cold then s1.drive (.wtrip false) else s1
  if pins = 0 then s2 else s2.quarantine 6 0xFF

/-- COLD_RESET (R565). -/
def execColdReset (powerOn : Bool) (pins : Nat) (s : State) : Host.Outcome State Fault Refusal :=
  ok (s.packageReset rstCold (if powerOn then 0x00 else 0x01) 0 pins)

/-- The CAUSE of a warm trigger. -/
def warmCode : WarmCause → Nat
  | .perst => 0x10 | .hotReset => 0x11 | .linkDown => 0x12 | .pfFlr => 0x13

/-- A trip can be ended by a cold reset only (Table WEI-4). -/
def State.tripped (s : State) : Bool := decide (s.weir.state = .quarantined) && (decide (s.weir.quarCause = 3) || decide (s.weir.quarCause = 4))

/-- PCIE_WARM_RESET (R459, R565): no effect on a node that a trip or a lost clock holds; the link-down that a node reset causes starts no second reset, as the
link is down already (R566). -/
def execPcieWarmReset (cause : WarmCause) (pins : Nat) (s : State) : Host.Outcome State Fault Refusal :=
  ok (if s.cru.held || s.tripped || (decide (cause = .linkDown) && !s.host.linkUp) then s else s.packageReset rstWarm (warmCode cause) 0 pins)

/-! ### Start-up -/

/-- Steps 1 to 7 of Table WEI-1: the state after them and the cause of recovery mode, 0 for none (R489, R490). -/
def State.weirBoot (s : State) : State × Nat :=
  let at_ (n : Nat) : State := s.weir! (fun w => { w with bootStep := n, identity := decide (2 ≤ n) })
  if !s.weir.flashReadable then (at_ 1, 5)
  else if !s.weir.mfg.pufOk then (at_ 1, 1)
  else if !s.weir.mfg.signatureOk ∨ !s.weir.mfg.mapOk then (at_ 2, 1)
  else match newestRec s.weir.stateLog with
  | none => (at_ 3, 1)
  | some r =>
    let s1 := ((at_ 5).weir! (fun w => { w with record := r.2, keyTable := (newestKeys w.keyCopies).2.entries })).newRecord
      (fun r => { r with incarnation := (r.incarnation + 1) % 2 ^ 32 })
    if s.cru.recoveryNext ≠ 0 then (s1, s.cru.recoveryNext)
    else
      let img := s.weir.image
      match img.refusal r.2.rollback r.2.revoked false with
      | some _ => (s1.count Reg.WEI_CNT0 3 1, 2)
      | none =>
        if !img.bodyOk then ((s1.weir! (fun w => { w with bootStep := 6 })).count Reg.WEI_CNT0 3 1, 2)
        else ((s1.weir! (fun w => { w with bootStep := 7, state := .running, measure := img.measure, fwKey := img.keyIndex })).putSlot (slotCode 1 64) s1.systemKey, 0)

/-- The port trains (R454): in Flit mode at one of the rates and widths, which the link partner decides (free); without Flit mode the link stays in Detect, and
Gauge logs it. -/
def State.trainPcie (s : State) : State :=
  if !s.host.flitMode then (s.host! (fun h => { h with linkUp := false, rate := 0, lanes := 0 })).logC (unitOf 0x18 0) 0x0046 0xFF 0x3FF 0 0
  else
    let f := s.free
    f.2.host! (fun h => { h with linkUp := true, rate := [25, 50, 80, 160, 320, 640, 1280].getD (f.1 % 7) 25, lanes := [8, 4, 2, 1].getD (f.1 / 7 % 4) 8 })

/-- Start-up into recovery mode (R484 to R487): the admin mailbox is FREE and the staging area zero. -/
def State.startRecovery (s : State) (cause : Nat) : State :=
  let s1 := s.weir! (fun w => { w with state := .recovery, recoveryCause := cause })
  let s2 := s1.cru! (fun c => { c with plls := 0x100007, recoveryNext := 0 })
  (s2.host! (fun h => { h with nodeState := .recovery, recoveryCause := cause, vfEnable := false, staging := [] })).trainPcie.box! 64
    (fun b => { b with state := .free })

/-- The record type of a unit that fails its start-up test. -/
def testFail (unit : Nat) : Nat :=
  let b := unit / 256
  if b = 1 then 0x0020
  else if 2 ≤ b ∧ b ≤ 5 ∧ unit % 256 < 128 then 0x0022
  else if 2 ≤ b ∧ b ≤ 9 ∧ unit % 256 = 0xFF then 0x0024
  else 0x0025

/-- R493: raises of the rollback counter and of the revoked set at the first RUNNING under an image, in one record write. -/
def State.raiseRollback (s : State) : State :=
  let i := s.weir.image
  let r := s.weir.record
  if r.rollback < i.rollback ∨ r.revoked ||| i.revoke ≠ r.revoked then
    s.newRecord (fun x => { x with rollback := Nat.max x.rollback i.rollback, revoked := x.revoked ||| i.revoke })
  else s

/-- Loads the cell program of the running image into every cell (R272). -/
def State.loadCells (s : State) : State :=
  s.mrc! (fun x => { x with cells := x.cells.map (fun c => (c.1, { c.2 with program := Config.cellProgram s.weir.image.bytes })) })

/-- Steps 5 to 11 of Table CRU-4: clocks, HBM, cells, cores; units that fail their test are fenced; RUNNING. -/
def State.startNode (s : State) (failed : List Nat) : State :=
  let s1 := (s.cru! (fun c => { c with plls := 0x1FFFF7 })).loadCells
  let s2 := (s1.host! (fun h => { h with nodeState := .running, fwVersion := s.weir.image.version })).trainPcie.box! 64
    (fun b => { b with state := .free })
  let s3 := s2.raiseRollback
  failed.foldl (fun t u => if unitExists u then t.raise u (testFail u) .u none 0xFF 0x3FF 0 0 0 else t) s3

/-- START_UP (R489, R570): Table WEI-1, then Table CRU-4 or recovery mode; `failed` names the units that fail their tests. -/
def execStartUp (failed : List Nat) (s : State) : Host.Outcome State Fault Refusal :=
  ok (if s.cru.held ∨ s.weir.state ≠ .boot then s
    else
      let b := s.weirBoot
      if b.2 = 0 then b.1.startNode failed else b.1.startRecovery b.2)

/-- BOOT_FAULT (R571): a verified image does not reach RUNNING; a node reset into recovery mode. -/
def execBootFault (s : State) : Host.Outcome State Fault Refusal :=
  ok (if s.cru.held ∨ s.weir.state ≠ .boot then s
    else
      let b := s.weirBoot
      if b.2 = 0 then b.1.packageReset rstNode 0x24 4 s.weir.vndrTest else s)

/-- NODE_RESET (R481, R565): the reply is written before the reset begins. -/
def execNodeReset (mb : Nat) (s : State) : Host.Outcome State Fault Refusal :=
  onMsg s mb 0x0109 (fun m t =>
    if m.p 0 8 ≠ 0 then t.refuse m 0x0F0B else (t.done m []).packageReset rstNode 0x20 0 t.weir.vndrTest)

/-- RECOVERY_ENTER (R481, R484). -/
def execRecoveryEnter (mb : Nat) (s : State) : Host.Outcome State Fault Refusal :=
  onMsg s mb 0x010A (fun m t =>
    if m.p 0 8 ≠ 0 then t.refuse m 0x0F0B else (t.done m []).packageReset rstNode 0x21 3 t.weir.vndrTest)

/-- RECOVERY_LOAD (R488). -/
def execRecoveryLoad (mb : Nat) (s : State) : Host.Outcome State Fault Refusal :=
  onMsg s mb 0x010B (fun m t =>
    if t.host.recoveryCause = 1 then t.refuse m 0x0F09
    else
      let i := FwImage.ofBytes (Mem.readBytes t.host.staging 0 (Nat.min (m.p 0 8) stagingBytes))
      if stagingBytes < m.p 0 8 ∨ (t.imageRefusal i).isSome then (t.count Reg.WEI_CNT0 3 1).refuse m 0x0F0A
      else ((t.weir! (fun w => { w with image := i, flashReadable := true })).done m []).packageReset rstNode 0x23 0 t.weir.vndrTest)

/-- FW_IMAGE_WRITTEN (R495): reply, then a node reset. -/
def execFwImageWritten (s : State) : Host.Outcome State Fault Refusal :=
  ok (match s.weir.activating, s.weir.staged with
    | some m, some i =>
      ((s.weir! (fun w => { w with image := i, staged := none, activating := none })).done m []).packageReset rstNode 0x22 0 s.weir.vndrTest
    | _, _ => s)

/-! ### Clocks -/

/-- CLOCK_LOSS (R564): `pll` is a bit of CRU_PLL; 21 is the 25 MHz reference. Loss of the reference or of WPLL holds every unit until a cold reset. -/
def execClockLoss (pll : Nat) (s : State) : Host.Outcome State Fault Refusal :=
  onUnit (decide (pll ≤ 21) && decide (pll ≠ 3))
    (if s.cru.held then s
     else if pll = 0 ∨ pll = 21 then
      ((s.holdUnits.cru! (fun c => { c with held := true, plls := 0 })).weir! (fun w => { w with wtripLow := true })).drive (.wtrip true)
     else if !bit s.cru.plls pll ∨ s.weir.state = .quarantined then s
     else (s.cru! (fun c => { c with plls := setBits c.plls pll 1 0 })).raise (unitOf 0x17 0) 0x0052 .n none 0xFF 0x3FF 0 pll 0)

/-! ### Spillway -/

/-- CAP_W within 800 to 1,050 (R559). -/
def State.capW (s : State) : Nat := Nat.max 800 (Nat.min 1050 (s.fld Reg.SPW_CFG 32 16))
/-- TJ_THROTTLE_C (R559). -/
def State.tjThrottle (s : State) : Nat := inRange (s.fld Reg.SPW_CFG 24 8) 85 100 100
/-- QUOTA_FLOOR. -/
def State.quotaFloor (s : State) : Nat := Nat.min 128 (s.fld Reg.SPW_CFG 16 8)
/-- CCLK_FLOOR_STEP. -/
def State.cclkFloor (s : State) : Nat := Nat.min 5 (s.fld Reg.SPW_CFG 8 8)
/-- CAP_EN. -/
def State.capEn (s : State) : Bool := bit (s.raw Reg.SPW_CFG) 0

/-- Spillway is under pressure (R556). -/
def State.pressed (s : State) (power tj : Nat) : Bool := (s.capEn && decide (s.capW < power)) || decide (s.tjThrottle ≤ tj)
/-- The retreat conditions of R556. -/
def State.eased (s : State) (power tj : Nat) : Bool := (!s.capEn || decide (100 * power ≤ 97 * s.capW)) && decide (tj + 3 ≤ s.tjThrottle)

/-- PF MSI-X vector 1 (R560). -/
def State.spwVector (s : State) : State := s.emit 0 (.msix 0 1 (s.func 0).ideEnabled)

/-- Spillway holds no step. -/
def SpwFree (x : SpwSt) : Bool := decide (x.limit = 128) && decide (x.cclkStep = 0) && !x.zStage

/-- STATE follows the steps held; a change from ACTIVE to CAPPED sends vector 1. -/
def State.spwState (s : State) : State :=
  let next := if SpwFree s.spw then SpwState.active else SpwState.capped
  let s1 := s.spw! (fun x => { x with state := next })
  if s.spw.state = .active ∧ next = .capped then s1.spwVector else s1

/-- The least EFFECTIVE of the four stacks. -/
def State.leastEffective (s : State) : Nat := (minL ((List.range 4).map s.effective)).getD 0

/-- The next step of Table SPW-1 under pressure; `none` when every stage is exhausted. -/
def State.throttle (s : State) : Option State :=
  let least := s.leastEffective
  let lim := Nat.max s.quotaFloor (least - 16)
  if s.quotaFloor < least ∧ lim ≠ s.spw.limit then some (s.spw! (fun x => { x with limit := lim }))
  else if s.spw.cclkStep < s.cclkFloor then some (s.spw! (fun x => { x with cclkStep := x.cclkStep + 1 }))
  else if !s.spw.zStage then some ((s.spw! (fun x => { x with zStage := true, limit := 0 })).spwVector)
  else none

/-- One step of retreat, in reverse order (Table SPW-1). -/
def State.retreat (s : State) : State :=
  if s.spw.zStage then s.spw! (fun x => { x with zStage := false, limit := s.quotaFloor })
  else if 0 < s.spw.cclkStep then s.spw! (fun x => { x with cclkStep := x.cclkStep - 1 })
  else if s.spw.limit < 128 then
    let l := s.spw.limit + 16
    s.spw! (fun x => { x with limit := if (List.range 4).all (fun st => decide (s.quota st ≤ l)) then 128 else l })
  else s

/-- SPILLWAY_SAMPLE (R555, R556): readings, then one step, a retreat, or neither. -/
def execSpillwaySample (powerW tjC : Nat) (s : State) : Host.Outcome State Fault Refusal :=
  ok (if s.cru.held ∨ s.host.nodeState ≠ .running ∨ s.weir.state = .quarantined ∨ !(decide (s.spw.state = .active) || decide (s.spw.state = .capped)) then s
    else
      let s0 := s.reach (s.spw.lastSampleNs + us 10)
      let s1 := if s.spw.state = .capped then s0.count Reg.SPW_CNT0 1 ((s0.now - s.spw.lastSampleNs) / 1000) else s0
      let ease := s1.eased powerW tjC
      let s2 := (s1.seeTj tjC).spw! (fun x => { x with
        powerW := Nat.min 65535 powerW, tjC := Nat.min 255 tjC, lastSampleNs := s1.now
        cool := ease, coolSinceNs := if ease && x.cool then x.coolSinceNs else s1.now })
      if s2.pressed powerW tjC then
        if s2.spw.lastStepNs ≠ 0 ∧ s2.now < s2.spw.lastStepNs + us 100 then s2
        else match s2.throttle with
          | some t => ((t.spw! (fun x => { x with lastStepNs := t.now })).count Reg.SPW_CNT0 0 1).spwState
          | none => s2
      else if ease && decide (s2.spw.coolSinceNs + ms 1 ≤ s2.now) && !SpwFree s2.spw then
        (s2.retreat.spw! (fun x => { x with coolSinceNs := s2.now })).spwState
      else s2)

end Sys2Proof.Machine
end

