-- ==== Sys2Proof/Machine/Sched.lean ====
section
/-! DEFINITION. Sluice scheduling: task faults, dispatch and stealing, pre-emption, leases, watchdogs, shares (chapters 13 and 08). -/

namespace Sys2Proof

/-- ENTRY of a kernel (Table RIL-5). -/
def Kernel.entry (k : Kernel) : Nat := natAt k.image 0x0C 4
/-- SCRATCH_BYTES. -/
def Kernel.scratch (k : Kernel) : Nat := natAt k.image 0x10 4
/-- MAX_JRO. -/
def Kernel.maxJro (k : Kernel) : Nat := natAt k.image 0x14 2
/-- WATCHDOG_US. -/
def Kernel.watchdog (k : Kernel) : Nat := natAt k.image 0x16 2
/-- ARG_BYTES. -/
def Kernel.argBytes (k : Kernel) : Nat := natAt k.image 0x06 2

end Sys2Proof

namespace Sys2Proof.Machine

/-- A core. -/
def State.core (s : State) (n : Nat) : Core := (Tbl.find n s.slc.cores).getD Core.reset

/-- The task that issues on a core: RUNNING. -/
def State.running (s : State) (n : Nat) : Option (Nat × Task) :=
  if (s.core n).phase ≠ .running then none
  else match (s.core n).task with
    | none => none
    | some t => match Tbl.find t s.slc.tasks with
      | some k => if k.state = .running then some (t, k) else none
      | none => none

/-- An instruction of the task that issues on a core; without one nothing happens (log 6). -/
def onTask (s : State) (n : Nat) (f : Nat → Task → State) : Host.Outcome State Fault Refusal :=
  onUnit (decide (n < 256)) (match s.running n with | some (t, k) => f t k | none => s)

/-- Instructions are 8 bytes: code lengths and entries are multiples of 8 (Table RIL-5, log 20). -/
def State.pcNext (s : State) (n : Nat) : State := s.core! n (fun c => { c with regs := { c.regs with pc := c.regs.pc + 8 } })

/-- A kernel by handle, of a composition, not dropped (R266, R268). -/
def State.kernel (s : State) (comp handle : Nat) : Option Kernel :=
  match Tbl.find (handle % 65536) s.slc.kernels with
  | some k => if k.comp = comp ∧ k.gen = handle / 65536 ∧ k.dropMsg = none then some k else none
  | none => none

/-! ### Faults -/

/-- Record type, class and reply status of a fault cause (Table RIL-7, Table ERR-5). -/
def faultKind (cause : Nat) : Nat × ErrClass × Nat :=
  if cause = 8 then (0x0027, .x, stLease)
  else if cause = 9 then (0x0020, .u, stTorn)
  else if cause = 10 then (0x0021, .u, stTorn)
  else (0x0026, .x, stTorn)

/-- A read of a segment that another composition wrote last clears it (R246). -/
def State.touchSegs (s : State) (core comp off n : Nat) : State :=
  if n = 0 then s
  else (List.range ((off + n - 1) / 65536 - off / 65536 + 1)).foldl (fun t i =>
    let g := off / 65536 + i
    if Tbl.getD g (comp + 1) (t.core core).tags = comp + 1 then t
    else t.core! core (fun c => { c with scratch := Mem.zeroRange c.scratch (g * 65536) 65536, tags := Tbl.erase g c.tags,
                                         badLines := c.badLines.filter (fun l => decide (l / 1024 ≠ g)) })) s

/-- A task fault on a core (R269, R270): RIL_FAULT holds the first, later ones are counted; the batch is torn down; ARRAY_CHECK and VEC_CHECK
fence the core. -/
def State.taskFault (s : State) (n cause detail : Nat) : State :=
  let c := s.core n
  match c.task.bind (fun t => Tbl.find t s.slc.tasks) with
  | none => s
  | some k =>
    let d := detail % 2 ^ 32
    let s1 := if c.fault.valid then s.count (Reg.RIL_CNT0 + 0x1000 * n) 6 1 else s.core! n (fun y => { y with fault := ⟨true, cause, c.regs.pc % 65536, d⟩ })
    let f := faultKind cause
    s1.raise (unitOf 1 n) f.1 f.2.1 (some k.batch) k.comp (k.ctx.getD 0x3FF) 0 (cause + 2 ^ 16 * (c.regs.pc % 65536) + 2 ^ 32 * d) f.2.2

/-- A task fault of a task wherever it is: on its core, or suspended, when its last core's RIL_FAULT records it with the offset at which it would go on. -/
def State.faultTask (s : State) (t cause detail : Nat) : State :=
  match Tbl.find t s.slc.tasks with
  | none => s
  | some k =>
    let n := k.core.getD 0
    if (s.core n).task = some t then s.taskFault n cause detail
    else
      let pc := match k.save with | some v => v.regs.pc % 65536 | none => 0
      let d := detail % 2 ^ 32
      let f := faultKind cause
      let s1 := if (s.core n).fault.valid then s.count (Reg.RIL_CNT0 + 0x1000 * n) 6 1 else s.core! n (fun y => { y with fault := ⟨true, cause, pc, d⟩ })
      s1.raise (unitOf 1 n) f.1 f.2.1 (some k.batch) k.comp (k.ctx.getD 0x3FF) 0 (cause + 2 ^ 16 * pc + 2 ^ 32 * d) f.2.2

/-- Fault ILLEGAL: the instruction word that DETAIL holds is free, as the encoding belongs to the SDK (log 20). -/
def State.illegal (s : State) (n : Nat) : State := let r := s.free; r.2.taskFault n 0x01 (r.1 % 2 ^ 32)

/-! ### Placement and dispatch -/

/-- Core `n` belongs to the slice of composition `c`, is enabled and not fenced. -/
def State.sliceCore (s : State) (c n : Nat) : Bool :=
  match s.comp c with
  | some x => s.coreOn n && bit x.groups (s.groupOf n) && !(s.core n).fenced
  | none => false

/-- Tasks queued on a core. -/
def Core_queued (c : Core) : Nat := sumL (c.queues.map (·.length))

/-- Pages of an allocation that lie in a quadrant: page by page over the permitted stacks or channels in ascending order, of which each quadrant has `per`
(R22, R313). -/
def pagesIn (units : List Nat) (per pages q : Nat) : Nat :=
  sumL ((List.range units.length).map (fun i => if units.getD i 0 / per = q then pages / units.length + (if i < pages % units.length then 1 else 0) else 0))

/-- The stacks that a mask of channel groups permits. -/
def stacksOf (mask : Nat) : List Nat := (List.range 4).filter (fun st => decide (mask / 16 ^ st % 16 ≠ 0))

/-- How much of an object lies in a quadrant (R416): blocks of an attention object, pages of any other. -/
def State.objIn (s : State) (key q : Nat) : Nat :=
  match Tbl.find key s.slc.objs, s.comp (key / 65536) with
  | some o, some c =>
    let pages := cdiv o.bytes 65536
    let striped (tier : Nat) : Nat :=
      if tier = 0 then pagesIn (stacksOf (c.f 0x10 2)) 1 pages q
      else if tier = 1 then pagesIn (stacksOf (c.f 0x12 2)) 1 pages q
      else pagesIn ((List.range 32).filter (fun n => bit (c.f 0x18 4) n)) 8 pages q
    (match o.kind with
      | .attention a => (a.blocks.filter (fun b => decide (b.cell / 128 = q))).length
      | .weight w => striped w.tier
      | .buffer t => striped t
      | .refExtent _ => striped 2)
  | _, _ => 0

/-- The core that a root task goes to (R416): in the slice's core group whose quadrant holds most of the batch's data, with ties to the lower group, the core
with the fewest queued tasks, with ties to the lower. A group lies in the quadrant of its lowest core. -/
def State.rootCore (s : State) (c : Nat) (data : List Nat) : Option Nat :=
  let cores := (List.range 256).filter (fun n => s.sliceCore c n)
  let held := (List.range 4).map (fun q => sumL (data.map (fun k => s.objIn k q)))
  let best := cores.foldl (fun (acc : Option (Nat × Nat)) n => match acc with
    | none => some (s.groupOf n, held.getD (n / 64) 0)
    | some (g, v) => if s.groupOf n ≠ g ∧ v < held.getD (n / 64) 0 then some (s.groupOf n, held.getD (n / 64) 0) else some (g, v)) none
  match best with
  | none => none
  | some (g, _) =>
    let l := cores.filter (fun n => decide (s.groupOf n = g))
    (sortBy (fun a b => decide (Core_queued (s.core a) < Core_queued (s.core b))) l).head?

/-- Appends a task to a core's queue of a level. -/
def State.queueTask (s : State) (n level t : Nat) (newest : Bool) : State :=
  s.core! n (fun c => { c with queues := updAt c.queues (Nat.min 4 level) (fun q => if newest then q ++ [t] else t :: q) })

/-- Creates a task (R241, R411). -/
def State.newTask (s : State) (batch comp handle level : Nat) (args : List Byte) (ctx parent : Option Nat) (st : TaskState) : Nat × State :=
  let t := s.slc.nextTask
  -- a kernel that is being dropped still serves what was admitted before (R268)
  let k := match Tbl.find (handle % 65536) s.slc.kernels with | some x => if x.comp = comp ∧ x.gen = handle / 65536 then some x else none | none => none
  let sb := match k with | some x => x.scratch | none => 0
  let mj := match k with | some x => x.maxJro | none => 64
  (t, s.slc! (fun x => { x with
        nextTask := t + 1
        tasks := Tbl.put t ⟨batch, comp, handle, args, parent, ctx, none, level, st, 0, 0, sb, mj, [], [], none, []⟩ x.tasks }))

/-- Launches the root task of a batch in its root context, near its data (R244, R415, R416). -/
def State.startRoot (s : State) (b handle : Nat) (args : List Byte) (data : List Nat) : State :=
  match s.batch b with
  | none => s
  | some x =>
    match s.rootCore x.comp data with
    | none => s
    | some n =>
      let r := s.newTask b x.comp handle (s.levelOfBatch b) args x.root none .ready
      let s1 := match x.root with | some c => r.2.ctx! c (fun y => { y with task := some r.1, state := .ready }) | none => r.2
      s1.queueTask n (s.levelOfBatch b) r.1 true

/-- The effective level of a task. -/
def State.taskLevel (s : State) (t : Nat) : Nat :=
  match Tbl.find t s.slc.tasks with
  | none => 4
  | some k => match k.ctx with | some c => s.effLevel c | none => k.level

/-- The task is READY: it can start on some core when one is free. -/
def State.isReady (s : State) (t : Nat) : Bool :=
  match Tbl.find t s.slc.tasks with
  | none => false
  | some k => match k.state with
    | .ready => true
    | .suspended => true
    | .pending => s.ctxAllowed k.comp
    | _ => false

/-- The task can start on core `n`. -/
def State.canStart (s : State) (n t : Nat) : Bool :=
  s.isReady t && (match Tbl.find t s.slc.tasks with | some k => s.sliceCore k.comp n | none => false)

/-- Core time of a composition in a group in this share window (R431). -/
def State.groupUse (s : State) (g c : Nat) : Nat :=
  sumL ((s.slc.shareNs.filter (fun x => decide (x.1 % 64 = c) && decide (s.groupOf (x.1 / 64) = g) && s.coreOn (x.1 / 64))).map (·.2))

/-- Compositions that hold a group. -/
def State.groupComps (s : State) (g : Nat) : List Nat := (s.slc.comps.filter (fun x => bit x.2.groups g)).map (·.1)

/-- The composition has a READY task queued on a core of the group. -/
def State.readyIn (s : State) (g c n : Nat) : Bool :=
  s.slc.cores.any (fun x => s.coreOn x.1 && decide (s.groupOf x.1 = g) && x.2.queues.any (fun q => q.any (fun t =>
    s.canStart n t && (match Tbl.find t s.slc.tasks with | some k => decide (k.comp = c) | none => false))))

/-- The composition has a task on a core of the group. -/
def State.runsIn (s : State) (g c : Nat) : Bool :=
  s.slc.cores.any (fun x => s.coreOn x.1 && decide (s.groupOf x.1 = g) && (match x.2.task.bind (fun t => Tbl.find t s.slc.tasks) with
    | some k => decide (k.comp = c)
    | none => false))

/-- SHARE of a composition. -/
def State.share (s : State) (c : Nat) : Nat := match s.comp c with | some x => x.f 8 1 | none => 0

/-- How far below its entitlement a composition is, scaled by the sum of the shares (R431). -/
def State.deficit (s : State) (g n c : Nat) : Int :=
  let act := (s.groupComps g).filter (fun d => s.readyIn g d n || s.runsIn g d)
  let total := sumL (act.map (s.groupUse g))
  let w := sumL (act.map s.share)
  (s.share c * total : Nat) - (s.groupUse g c * w : Nat)

/-- The composition that a free core of a group goes to: the one furthest below its entitlement, with ties to the lower (R431). -/
def State.turnOf (s : State) (n : Nat) : Option Nat :=
  let g := s.groupOf n
  let l := (s.groupComps g).filter (fun c => s.readyIn g c n)
  (sortBy (fun a b => decide (s.deficit g n b < s.deficit g n a)) l).head?

/-- A latency-critical task of a composition wants core `n`: it is READY and may run there (R420). -/
def State.wanted (s : State) (n c : Nat) : Bool := s.slc.tasks.any (fun t => decide (t.2.comp = c) && s.canStart n t.1 && decide (s.taskLevel t.1 < 4))

/-- Tasks of a queue that may start on core `n` now, oldest first; `c` restricts them to one composition. A best-effort task leaves a core that a
latency-critical task of its composition wants (R420). -/
def State.startable (s : State) (n : Nat) (c : Option Nat) (q : List Nat) : List Nat :=
  q.filter (fun t => s.canStart n t && (match Tbl.find t s.slc.tasks with
    | some k => (match c with | some d => decide (k.comp = d) | none => true) && (decide (s.taskLevel t < 4) || !s.wanted n k.comp)
    | none => true))

/-- The newest task of the core's own highest non-empty queue (R418). -/
def State.ownPick (s : State) (n : Nat) (c : Option Nat) : Option Nat :=
  ((s.core n).queues.findSome? (fun q => (s.startable n c q).getLast?))

/-- The oldest task at the highest level found among some cores, from the core with the most tasks at that level (R418). -/
def State.stealPick (s : State) (n : Nat) (c : Option Nat) (cores : List Nat) : Option Nat :=
  (List.range 5).findSome? (fun l =>
    let cands := (cores.map (fun m => s.startable n c ((s.core m).queues.getD l []))).filter (fun q => decide (q ≠ []))
    ((sortBy (fun a b => decide (b.length < a.length)) cands).head?).bind (·.head?))

/-- The task that a free core takes, and whether it is stolen (R418, R431). -/
def State.nextTask (s : State) (n : Nat) : Option (Nat × Bool) :=
  let c := if (s.groupComps (s.groupOf n)).length ≤ 1 then none else s.turnOf n
  match s.ownPick n c with
  | some t => some (t, false)
  | none =>
    let others := (List.range 256).filter (fun m => decide (m ≠ n) && s.coreOn m)
    let a := others.filter (fun m => decide (s.groupOf m = s.groupOf n))
    let b := others.filter (fun m => decide (m / 64 = n / 64))
    ((s.stealPick n c a).orElse (fun _ => (s.stealPick n none b).orElse (fun _ => s.stealPick n none others))).map (fun t => (t, true))

/-- Starts or resumes a task on a core (R246, R247, R411, R418). -/
def State.startTask (s : State) (n t : Nat) : State :=
  match Tbl.find t s.slc.tasks with
  | none => s
  | some k =>
    let s1 := s.slc! (fun x => { x with
      cores := x.cores.map (fun c => (c.1, { c.2 with queues := c.2.queues.map (fun q => q.filter (fun z => decide (z ≠ t))) })) })
    let r := match k.ctx with
      | some c => (some c, s1.ctx! c (fun y => { y with state := .running, task := some t }))
      | none => s1.takeCtx k.comp k.batch (some t) .running
    let s2 := (r.2.boundary (0x600018 + 0x1000 * n) 0 16 n).boundary Reg.SLC_SCHED 16 8 0
    let ker := Tbl.find (k.kernel % 65536) s2.slc.kernels
    let wd := match ker with | some x => x.watchdog | none => 0
    let wdUs := if wd ≠ 0 then wd else orIfZero (s2.fldFor (0x600018 + 0x1000 * n) 0 16 n) 1
    let s3 := s2.core! n (fun c =>
      let base := if c.lastComp = k.comp then c.regs else RillRegs.reset
      let regs := match k.save with
        | some v => v.regs
        | none => { base with pc := (match ker with | some x => x.entry | none => 0) }
      let scr := match k.save with
        | some v => v.scratch ++ c.scratch.filter (fun z => decide (k.scratchBytes ≤ z.1))
        | none => c.scratch
      let tags := match k.save with
        | some _ => (List.range (k.scratchBytes / 65536)).foldl (fun m i => Tbl.put i (k.comp + 1) m) c.tags
        | none => c.tags
      let bad := match k.save with
        | some v => v.badLines ++ c.badLines.filter (fun l => decide (k.scratchBytes ≤ 64 * l))
        | none => c.badLines
      { c with
        regs := regs, scratch := scr, tags := tags, badLines := bad, lastComp := k.comp, task := some t, phase := .running, preemptBy := none
        watchdogUs := wdUs })
    let s4 := s3.freeSave t
    (s4.task! t (fun y => { y with ctx := r.1, core := some n, state := .running, startNs := s.now, watchNs := s.now })).count Reg.SLC_CNT0 1 1

/-- A core can take work: enabled, not fenced, without a task. -/
def State.coreFree (s : State) (n : Nat) : Bool :=
  s.coreOn n && !(s.core n).fenced && decide ((s.core n).phase = .idle) && (s.core n).task.isNone

/-- TASK_DISPATCH (R418). -/
def execTaskDispatch (core : Nat) (s : State) : Host.Outcome State Fault Refusal :=
  onUnit (decide (core < 256))
    (if s.coreFree core then
      match s.nextTask core with
      | some (t, stolen) => (if stolen then s.count Reg.SLC_CNT0 2 1 else s).startTask core t
      | none => s
     else s)

/-! ### Suspension and pre-emption -/

/-- Bytes of the saves that cores of a quadrant other than `n` drain for. -/
def State.saveDue (s : State) (n : Nat) : Nat :=
  sumL (s.slc.cores.map (fun x => if decide (x.1 ≠ n) && decide (x.1 / 64 = n / 64) && decide (x.2.phase = .draining)
    then (match x.2.task.bind (fun t => Tbl.find t s.slc.tasks) with | some k => saveBytes k | none => 0) else 0))

/-- A save fits the save partition of the core's quadrant beside those in use and in progress (R310, Table FRY-2). -/
def State.saveRoom (s : State) (n : Nat) (k : Task) : Bool := decide (s.ferry.saveUsed.getD (n / 64) 0 + s.saveDue n + saveBytes k ≤ 12 * 2 ^ 20)

/-- The task on a core is saved and suspended (R247, R410, R422): READY again unless it waits. The save reads scratch, so a segment of another
composition is cleared (R246); lines that read uncorrectable stay so. -/
def State.suspend (s0 : State) (n : Nat) : State :=
  match (s0.core n).task with
  | none => s0
  | some t =>
    match Tbl.find t s0.slc.tasks with
    | none => s0
    | some k =>
      let s := s0.touchSegs n k.comp 0 k.scratchBytes
      let c := s.core n
      let blocked := match k.state with | .waiting _ => true | _ => false
      let s1 := s.creditCore n
      let s2 := s1.task! t (fun y => { y with
        save := some ⟨c.regs, c.scratch.filter (fun z => decide (z.1 < k.scratchBytes)), c.badLines.filter (fun l => decide (64 * l < k.scratchBytes))⟩
        state := if blocked then y.state else .suspended })
      let s3 := match k.ctx with
        | some x => s2.ctx! x (fun y => { y with state := if blocked then .suspended else .ready })
        | none => s2
      let s4 := s3.ferry! (fun f => { f with saveUsed := setAt f.saveUsed (n / 64) (f.saveUsed.getD (n / 64) 0 + saveBytes k) })
      (s4.core! n (fun y => { (Core.idle y) with lastComp := y.lastComp })).queueTask n k.level t false

/-- The task on a core may be pre-empted but for its run time: not holding a semaphore, and its save fits (R421). -/
def State.movable (s : State) (n : Nat) (k : Task) : Bool :=
  (match k.ctx with | some c => !s.holdsSem c | none => true) && s.saveRoom n k

/-- Pre-emption of the task on a core (R422 steps 1 and 2), by another where one is named: the core stops issuing and drains for at most 10 µs. -/
def State.startPreempt (s : State) (n : Nat) (t : Option Nat) : State :=
  match (s.core n).task with
  | none => s
  | some v =>
    let s1 := s.core! n (fun c => { c with phase := .draining, preemptBy := t, drainEnd := s.now + us 10 })
    let s2 := match Tbl.find v s.slc.tasks with
      | some k => s1.batch! k.batch (fun b => { b with charge := { b.charge with preemptions := b.charge.preemptions + 1 } })
      | none => s1
    s2.count Reg.SLC_CNT0 3 1

/-- A composition whose core groups were removed (R434): its tasks on them are pre-empted by R422, and COMP_MODIFY replies when none is left there. -/
def State.settleModify (s : State) (c : Nat) : State :=
  match (s.comp c).bind (·.modify) with
  | none => s
  | some m =>
    let out (t : State) (x : Nat × Core) : Bool := !t.sliceCore c x.1 && (match x.2.task.bind (fun v => Tbl.find v t.slc.tasks) with | some k => decide (k.comp = c) | none => false)
    let s1 := (s.slc.cores.filter (out s)).foldl (fun t x => match x.2.task.bind (fun v => Tbl.find v t.slc.tasks) with
      | some k => if decide (x.2.phase = .running) && t.movable x.1 k then t.startPreempt x.1 none else t
      | none => t) s
    if s1.slc.cores.any (out s1) then s1 else (s1.comp! c Comp.modified).done m []

/-- Every COMP_MODIFY that waits for tasks to leave its removed core groups. -/
def State.settleModifies (s : State) : State := s.slc.comps.foldl (fun t c => if c.2.modify.isSome then t.settleModify c.1 else t) s

/-- MIN_RUN_US as the scheduler acts on it. -/
def State.minRun (s : State) : Nat := us (s.fldFor Reg.SLC_SCHED 16 8 0)

/-- No core of the composition's slice is free (R421). -/
def State.noFreeCore (s : State) (c : Nat) : Bool := (List.range 256).all (fun n => !s.sliceCore c n || !s.coreFree n)

/-- The READY task of a composition at the highest effective level, but for one that a core already drains for; BE tasks never pre-empt (R420). -/
def State.topReady (s : State) (c : Nat) : Option (Nat × Nat) :=
  let l := (s.slc.tasks.filter (fun t => decide (t.2.comp = c) && s.isReady t.1 && !s.slc.cores.any (fun x => decide (x.2.preemptBy = some t.1)))).map
    (fun t => (t.1, s.taskLevel t.1))
  (sortBy (fun a b => decide (a.2 < b.2)) (l.filter (fun x => decide (x.2 < 4)))).head?

/-- A task on a core, with its core. -/
def State.placed (s : State) : List (Nat × Nat × Task) :=
  s.slc.cores.filterMap (fun x => if x.2.phase ≠ .running then none else match x.2.task with
    | some t => (Tbl.find t s.slc.tasks).map (fun k => (x.1, t, k))
    | none => none)

/-- The victim of a READY task at level `l` of a composition (R421): the lowest effective level below it, the most recently started of those. -/
def State.victimOf (s : State) (c l : Nat) : Option Nat :=
  let cands := s.placed.filter (fun x => decide (x.2.2.comp = c) && decide (l < s.taskLevel x.2.1) && s.movable x.1 x.2.2
    && decide (x.2.2.state ≠ .draining))
  let lt (a b : Nat × Nat × Task) : Bool :=
    decide (s.taskLevel b.2.1 < s.taskLevel a.2.1) || (decide (s.taskLevel a.2.1 = s.taskLevel b.2.1) && decide (b.2.2.startNs < a.2.2.startNs))
  ((sortBy lt cands).head?).map (·.1)

/-- The pre-emption across compositions of R431 on a shared group: the task that starts and the core of its victim. -/
def State.shareVictim (s : State) (n : Nat) : Option Nat :=
  let g := s.groupOf n
  let cs := s.groupComps g
  let low := (sortBy (fun a b => decide (s.deficit g n b < s.deficit g n a)) (cs.filter (fun c => s.readyIn g c n && decide (0 < s.deficit g n c)))).head?
  match low, (s.core n).task.bind (fun t => Tbl.find t s.slc.tasks) with
  | some c, some k =>
    let high := (sortBy (fun a b => decide (s.deficit g n a < s.deficit g n b)) (cs.filter (fun d => s.runsIn g d && decide (s.deficit g n d < 0)))).head?
    let best := (sortBy (fun (a b : Nat × Nat × Task) => decide (b.2.2.startNs < a.2.2.startNs))
      (s.placed.filter (fun x => decide (some x.2.2.comp = high) && decide (s.groupOf x.1 = g) && s.movable x.1 x.2.2))).head?
    if high = some k.comp ∧ best.map (·.1) = some n then
      let l := (s.slc.tasks.filter (fun t => decide (t.2.comp = c) && s.canStart n t.1)).map (fun t => (t.1, s.taskLevel t.1))
      ((sortBy (fun a b => decide (a.2 < b.2)) l).head?).map (·.1)
    else none
  | _, _ => none

/-- What pre-empts the task on a core now, if anything. -/
def State.preemptor (s : State) (n : Nat) : Option Nat :=
  match (s.core n).task.bind (fun t => Tbl.find t s.slc.tasks) with
  | none => none
  | some k =>
    match s.topReady k.comp with
    | some (t, l) => if s.noFreeCore k.comp && decide (s.victimOf k.comp l = some n) then some t else s.shareVictim n
    | none => s.shareVictim n

/-- A READY task of the composition on this core wants a core and every candidate is excluded by a semaphore or by R310 (R424). -/
def State.deferred (s : State) (n : Nat) : Bool :=
  match (s.core n).task.bind (fun t => Tbl.find t s.slc.tasks) with
  | none => false
  | some k =>
    match s.topReady k.comp with
    | some (_, l) => s.noFreeCore k.comp && (s.victimOf k.comp l).isNone
        && s.placed.any (fun x => decide (x.2.2.comp = k.comp) && decide (l < s.taskLevel x.2.1))
    | none => false

/-- Pre-emption at a core, when its victim has run long enough. -/
def State.tryPreempt (s : State) (n : Nat) : State :=
  if (s.core n).phase ≠ .running then s
  else match s.preemptor n with
    | some t =>
      match (s.core n).task.bind (fun v => Tbl.find v s.slc.tasks) with
      | some k => if k.startNs + s.minRun ≤ s.now then s.startPreempt n (some t) else s
      | none => s
    | none => if s.deferred n then s.count Reg.SLC_CNT0 4 1 else s

/-- PREEMPT (R421, R431): a victim that has not run MIN_RUN_US yet goes on until it has. -/
def execPreempt (core : Nat) (s : State) : Host.Outcome State Fault Refusal := onUnit (decide (core < 256)) (s.settleModifies.tryPreempt core)

/-- MIN_RUN_ELAPSED (R421): the candidate reaches MIN_RUN_US. -/
def execMinRunElapsed (core : Nat) (s : State) : Host.Outcome State Fault Refusal :=
  onUnit (decide (core < 256)) (match (s.core core).task.bind (fun v => Tbl.find v s.slc.tasks) with
    | some k => (s.reach (k.startNs + s.minRun)).tryPreempt core
    | none => s)

/-- PREEMPT_SAVE (R422 steps 3 and 4): the drain ends, or its 10 µs pass; the victim is saved and the other task starts; a COMP_MODIFY that it left
a removed core group for may be over (R434). -/
def execPreemptSave (core : Nat) (s : State) : Host.Outcome State Fault Refusal :=
  onUnit (decide (core < 256))
    (if (s.core core).phase ≠ .draining then s
     else
      let c := s.core core
      let open_ := match c.task.bind (fun t => Tbl.find t s.slc.tasks) with | some k => decide (k.moves ≠ []) || decide (k.ops ≠ []) | none => false
      let s1 := (if open_ then s.reach c.drainEnd else s).suspend core
      match c.preemptBy with
      | some t => if s1.canStart core t then s1.startTask core t else s1
      | none => s1.settleModifies)

/-! ### Leases, watchdogs, contexts, shares -/

/-- TASK_WATCHDOG (R269). -/
def execTaskWatchdog (core : Nat) (s : State) : Host.Outcome State Fault Refusal :=
  onTask s core (fun _ k =>
    let s1 := s.reach (k.watchNs + us (s.core core).watchdogUs)
    s1.taskFault core 0x06 ((s1.now - k.watchNs) / 1000))

/-- LEASE_EXPIRY (R428): the holder faults LEASE; the units that its context holds are released with POISON by the teardown. -/
def execLeaseExpiry (sem ctx : Nat) (s : State) : Host.Outcome State Fault Refusal :=
  ok (match Tbl.find sem s.slc.sems with
    | none => s
    | some x =>
      match x.holders.find? (fun h => decide (h.1 = ctx)) with
      | none => s
      | some h =>
        let s1 := (s.reach h.2).count Reg.SLC_CNT0 5 1
        match (Tbl.find ctx s1.slc.ctxs).bind (·.task) with
        | some t => s1.faultTask t 0x08 (sem % 256)
        | none => s1)

/-- CTX_QUIET_EXPIRY (R414). -/
def execCtxQuietExpiry (ctx : Nat) (s : State) : Host.Outcome State Fault Refusal :=
  ok (match Tbl.find ctx s.slc.ctxs with
    | some c => if c.state = .quiet then (s.reach c.quietNs).slc! (fun x => { x with ctxs := Tbl.erase ctx x.ctxs }) else s
    | none => s)

/-- SHARE_WINDOW (R431): a window ends; a waiting SHARE_WINDOW_US takes effect. -/
def execShareWindow (s : State) : Host.Outcome State Fault Refusal :=
  let s1 := s.reach (s.slc.windowNs + us (orIfZero (s.fldFor Reg.SLC_SCHED 32 16 0) 1))
  ok ((s1.slc! (fun x => { x with windowNs := s1.now, shareNs := [] })).boundary Reg.SLC_SCHED 32 16 0)

/-! ### Sluice instructions -/

/-- SPAWN (R411, R417, R268): a pending task on the spawning core's queue; a full store stalls. -/
def execSpawn (core handle : Nat) (args : List Byte) (s : State) : Host.Outcome State Fault Refusal :=
  onTask s core (fun t k =>
    match s.kernel k.comp handle with
    | none => s.taskFault core 0x07 (handle % 65536)
    | some x =>
      if 65536 ≤ (s.slc.tasks.filter (fun y => decide (y.2.state = .pending))).length then s
      else
        let l := s.levelOfBatch k.batch
        let r := s.newTask k.batch k.comp handle l (args.take x.argBytes) none (some t) .pending
        (r.2.queueTask core l r.1 true).pcNext core)

/-- SEM_ACQ (R425, R426). -/
def execSemAcq (core sem : Nat) (s : State) : Host.Outcome State Fault Refusal :=
  onTask s core (fun t k =>
    let key := subKey k.comp sem
    match (if sem < 256 then Tbl.find key s.slc.sems else none), k.ctx with
    | some x, some c =>
      let s1 := s.pcNext core
      if 0 < x.units then
        (s1.sem! key (fun y => { y with units := y.units - 1, holders := y.holders ++ [(c, s1.now + us (s1.leaseUs y))] })).setResult t (b2n x.poison) 0 0
      else
        ((s1.sem! key (fun y => { y with waiters := y.waiters ++ [c] })).task! t (fun y => { y with state := .waiting (.sem key) })).ctx! c
          (fun y => { y with state := .waiting })
    | _, _ => s.illegal core)

/-- Removes the first element that satisfies `p`. -/
def dropOne {α : Type} (p : α → Bool) (l : List α) : List α := match takeFirst p l with | some r => r.2 | none => l

/-- SEM_REL (R426, R427). -/
def execSemRel (core sem : Nat) (s : State) : Host.Outcome State Fault Refusal :=
  onTask s core (fun _ k =>
    let key := subKey k.comp sem
    match (if sem < 256 then Tbl.find key s.slc.sems else none), k.ctx with
    | some x, some c =>
      if x.holders.any (fun h => decide (h.1 = c)) then
        ((s.pcNext core).sem! key (fun y => { y with units := y.units + 1, holders := dropOne (fun h => decide (h.1 = c)) y.holders })).grantSem key 65536 |>.settleModifies
      else s.illegal core
    | _, _ => s.illegal core)

/-- What a completion that a context holds gives a task: status, value, source. -/
def heldResult : Held → Nat × Nat × Nat
  | .move _ st => (st, 0, 0)
  | .op _ st v => (st, v, 0)
  | .note src bs => (0, leNat bs, src)

/-- A held completion satisfies a WAIT. -/
def heldFits (w : WaitOn) (h : Held) : Bool :=
  match w, h with
  | .tag t, .move u _ => decide (t = u)
  | .op i, .op j _ _ => decide (i = j)
  | .note, .note _ _ => true
  | _, _ => false

/-- Takes what a WAIT asks for out of a context, if it is there (R413): ALL needs no move or operation outstanding, and returns the first status
other than OK among the completions held. -/
def State.collect (s : State) (t c : Nat) (k : Task) (w : WaitOn) : Option State :=
  match Tbl.find c s.slc.ctxs with
  | none => none
  | some x =>
    match w with
    | .all =>
      if k.moves = [] ∧ k.ops = [] then
        let done := x.held.filter (fun h => match h with | .note _ _ => false | _ => true)
        let bad := (done.map (fun h => (heldResult h).1)).find? (fun v => decide (v ≠ 0))
        some ((s.ctx! c (fun y => { y with held := y.held.filter (fun h => match h with | .note _ _ => true | _ => false) })).setResult t (bad.getD 0) 0 0)
      else none
    | _ =>
      match takeFirst (heldFits w) x.held with
      | some (h, rest) =>
        let r := heldResult h
        some ((s.ctx! c (fun y => { y with held := rest })).setResult t r.1 r.2.1 r.2.2)
      | none => none

/-- A completion reaches a context (R413): a task that waits for it goes on, else the context holds it. -/
def State.deliver (s : State) (c : Nat) (h : Held) : State :=
  let s1 := s.hold c h
  match (Tbl.find c s1.slc.ctxs).bind (·.task) with
  | none => s1
  | some t =>
    match Tbl.find t s1.slc.tasks with
    | none => s1
    | some k => match k.state with
      | .waiting w => (match s1.collect t c k w with | some s2 => s2.wakeCtx c | none => s1)
      | _ => s1

/-- WAIT (R413): the watchdog restarts. -/
def execWaitOn (core : Nat) (on_ : WaitOn) (s : State) : Host.Outcome State Fault Refusal :=
  onTask s core (fun t k =>
    match on_, k.ctx with
    | .sem _, _ => s.illegal core
    | _, none => s
    | w, some c =>
      let s1 := (s.pcNext core).task! t (fun y => { y with watchNs := s.now })
      match s1.collect t c k w with
      | some s2 => s2
      | none => (s1.task! t (fun y => { y with state := .waiting w })).ctx! c (fun y => { y with state := .waiting }))

/-- YIELD (R424): suspends for a READY task of higher effective level that can start here, unless the task holds a semaphore. -/
def execYieldTask (core : Nat) (s : State) : Host.Outcome State Fault Refusal :=
  onTask s core (fun t k =>
    let s1 := (s.pcNext core).task! t (fun y => { y with watchNs := s.now })
    let higher := s1.slc.tasks.any (fun y => decide (y.1 ≠ t) && decide (y.2.comp = k.comp) && s1.canStart core y.1 && decide (s1.taskLevel y.1 < s1.taskLevel t))
    if higher && s1.movable core k then s1.suspend core else s1)

end Sys2Proof.Machine
end

