-- ==== Sys2Proof/Machine/Delta.lean ====
section
/-! DEFINITION. Delta: placement, the map, programs, fold and reclaim, losses, checkpoints, start-up and frozen extents (chapter 11). -/

namespace Sys2Proof

/-- Channel of a block address (Table DLT-3). -/
def chanOf (blk : Nat) : Nat := blk / 2 ^ 21
/-- LUN key of a block address: channel, target, LUN. -/
def lunOf (blk : Nat) : Nat := blk / 2 ^ 16
/-- PSA of sector `i` of a block (Table DLT-3): four codewords to a page. -/
def psaOf (blk i : Nat) : Nat := blk * 2 ^ 14 + i
/-- Block address of a PSA. -/
def psaBlock (psa : Nat) : Nat := psa / 2 ^ 14

/-- Sectors per TLC block. -/
def Geom.tlc (g : Geom) : Nat := 4 * g.pages
/-- Sectors that a block holds in its mode (R350). -/
def Geom.cap (g : Geom) (slc : Bool) : Nat := if slc then g.tlc / 3 else g.tlc
/-- Block addresses of a LUN, ascending. -/
def Geom.blocksOf (g : Geom) (lun : Nat) : List Nat :=
  (List.range g.planes).flatMap (fun p => (List.range g.blocks).map (fun b => lun * 2 ^ 16 + p * 2 ^ 14 + b))

/-- A block that nothing is programmed in. -/
def Block.blank : Block := ⟨.free, false, 0, 0, 0, 0, 0, []⟩

/-- The PSA of an entry that is MAPPED. -/
def MapEnt.psa? : MapEnt → Option Nat
  | .mapped p => some p
  | _ => none

/-- A map page that nothing has been written to. -/
def MapPage.blank : MapPage := ⟨false, [], false⟩

/-- The score of R355. -/
def reclaimScore (s v e eMax age wear : Nat) : Nat := (s - v) * (Nat.min 1023 age + 16) * 1024 / (s + v) + wear * (eMax - e)

/-- The SLC target of R350. -/
def slcTargetOf (good s opPct valid share slcMin slcMax : Nat) : Nat :=
  let t := good * s
  let m := t * opPct / 100
  let sp := t - valid - m
  Nat.min slcMax (Nat.max slcMin (sp * share / (256 * s)))

/-- An extent is an object of this node by its own sectors (R361). -/
def ExtentSt.sectorLost (e : ExtentSt) (i : Nat) : ExtentSt := { e with lost := if e.lost.contains i then e.lost else e.lost ++ [i] }

/-- The extent map (Table DLT-5) with a seal code. -/
def extentMap (id : Nat) (e : ExtentSt) (code : List Byte) : List Byte :=
  le 4 0x44585431 ++ le 4 id ++ le 8 e.key ++ le 8 e.sealTag ++ le 1 e.kind ++ le 1 0 ++ le 2 e.src ++ le 4 e.blocks.length
    ++ le 8 e.sectors ++ le 8 0 ++ code ++ e.blocks.flatMap (le 4)

/-- Sectors of one row's reference copy (R346). -/
def Desc.rowSectors (d : Desc) : Nat := cdiv d.refBytes 4096
/-- The first LSN of slot `i` from BASE (R346). -/
def Desc.slotLsn (d : Desc) (base i : Nat) : Nat :=
  if d.refBytes ≤ 4096 then base + i / (4096 / d.refBytes) else base + i * cdiv d.refBytes 4096
/-- The LSNs that hold a slot's reference copy. -/
def Desc.slotLsns (d : Desc) (base i : Nat) : List Nat :=
  (List.range (if d.refBytes ≤ 4096 then 1 else d.rowSectors)).map (fun j => d.slotLsn base i + j)

end Sys2Proof

namespace Sys2Proof

/-- Raw TLC bytes of a target. -/
def TargetInfo.raw (t : TargetInfo) : Nat := t.geom.luns * t.geom.planes * t.geom.blocks * t.geom.pages * 16384

/-- Sector `i` of an extent as EXT_READ returns it: zeros where lost (Table DLT-4). -/
def ExtentSt.sector (e : ExtentSt) (i : Nat) : List Byte := if e.lost.contains i then zeros 4096 else Mem.readBytes e.data (4096 * i) 4096

end Sys2Proof

namespace Sys2Proof.Machine

/-! ### Fields as Delta acts on them -/

/-- OP_PCT. -/
def State.opPct (s : State) : Nat := inRange (s.fld Reg.DLT_FORMAT 0 8) 3 50 7
/-- SLC_MIN. -/
def State.slcMin (s : State) : Nat := s.fld Reg.DLT_FORMAT 16 8
/-- SLC_MAX. -/
def State.slcMax (s : State) : Nat := Nat.max s.slcMin (s.fld Reg.DLT_FORMAT 8 8)
/-- SLC_SHARE. -/
def State.slcShare (s : State) : Nat := s.fld Reg.DLT_FORMAT 24 8
/-- FREE_LOW, FREE_HIGH, FREE_CRIT. -/
def State.freeMarks (s : State) : Nat × Nat × Nat :=
  let lo := s.fld Reg.DLT_RECLAIM 0 8
  let hi := s.fld Reg.DLT_RECLAIM 8 8
  let cr := s.fld Reg.DLT_RECLAIM 16 8
  if cr < lo ∧ lo < hi then (lo, hi, cr) else (16, 32, 4)
/-- CKPT_MS. -/
def State.ckptMs (s : State) : Nat := inRange (s.fld Reg.DLT_TIMING 32 16) 100 10000 1000
/-- RETRY_MAX, within the device's table. -/
def State.retryMax (s : State) : Nat := Nat.min (s.fld Reg.DLT_TIMING 8 8) s.delta.geom.retries

/-- Delta serves requests: step 6 of Table DLT-8 is reached. -/
def State.deltaUp (s : State) : Bool := match s.delta.phase with | .running => true | .degraded => true | _ => false

/-- The space of a composition: the KEY_ID of its flash key (R343, R513). -/
def State.spaceOf (s : State) (comp : Nat) : Option Nat := Tbl.find comp s.weir.flashKeys
/-- The composition that holds a space, 0xFF for none. -/
def State.spaceComp (s : State) (space : Nat) : Nat := match s.weir.flashKeys.find? (fun k => decide (k.2 = space)) with | some k => k.1 | none => 0xFF

/-! ### Blocks and the map -/

/-- A block. -/
def State.blk (s : State) (b : Nat) : Block := Tbl.getD b Block.blank s.delta.blocks
/-- Updates a block. -/
def State.blk! (s : State) (b : Nat) (f : Block → Block) : State :=
  s.delta! (fun d => { d with blocks := Tbl.put b (f (Tbl.getD b Block.blank d.blocks)) d.blocks })
/-- A map entry; `none` is UNMAPPED. -/
def State.mapEnt (s : State) (space lsn : Nat) : Option MapEnt := (Tbl.find space s.delta.spaces).bind (fun x => Tbl.find lsn x.map)
/-- Updates the map page of an LSN. -/
def State.page! (s : State) (space page : Nat) (f : MapPage → MapPage) : State :=
  s.delta! (fun d => { d with spaces := Tbl.upd space (fun x => { x with pages := Tbl.put page (f (Tbl.getD page MapPage.blank x.pages)) x.pages }) d.spaces })
/-- Sets a map entry; its map page is dirty (R345). -/
def State.setMap (s : State) (space lsn : Nat) (e : MapEnt) : State :=
  let s1 := s.delta! (fun d =>
    let x := Tbl.getD space ⟨[], []⟩ d.spaces
    { d with spaces := Tbl.put space { x with map := Tbl.put lsn e x.map } d.spaces })
  s1.page! space (lsn / 512) (fun p => { p with dirty := true })
/-- The map page of an LSN is being rebuilt (R359). -/
def State.rebuilding (s : State) (space lsn : Nat) : Bool :=
  match Tbl.find space s.delta.spaces with
  | some x => (Tbl.getD (lsn / 512) MapPage.blank x.pages).rebuilding
  | none => false

/-- MAPPED sectors of a block (R355): index, sector. -/
def State.validOf (s : State) (b : Nat) : List (Nat × Sector) :=
  let k := s.blk b
  ((List.range k.sectors.length).zip k.sectors).filter (fun x => decide (x.2.typ = 0) && decide (k.extent = 0)
    && decide (s.mapEnt x.2.key x.2.addr = some (.mapped (psaOf b x.1))))

/-- The listed blocks of a LUN. -/
def State.lunBlocks (s : State) (lun : Nat) : Tbl Block := s.delta.blocks.filter (fun b => decide (lunOf b.1 = lun))
/-- Good blocks of a LUN. -/
def State.goodBlocks (s : State) (lun : Nat) : Nat :=
  s.delta.geom.planes * s.delta.geom.blocks - ((s.lunBlocks lun).filter (fun b => decide (b.2.state = .bad))).length
/-- Free blocks of a LUN. -/
def State.freeBlocks (s : State) (lun : Nat) : Nat :=
  s.delta.geom.planes * s.delta.geom.blocks - ((s.lunBlocks lun).filter (fun b => decide (b.2.state ≠ .free))).length
/-- MAPPED sectors held in a LUN's blocks. -/
def State.lunValid (s : State) (lun : Nat) : Nat := sumL ((s.lunBlocks lun).map (fun b => (s.validOf b.1).length))
/-- The SLC blocks of a LUN. -/
def State.slcBlocks (s : State) (lun : Nat) : Tbl Block :=
  (s.lunBlocks lun).filter (fun b => b.2.slc && decide (b.2.state ≠ .free) && decide (b.2.state ≠ .bad) && decide (b.2.state ≠ .erasing))
/-- The SLC target of a LUN under the fields as they stand (R350). -/
def State.slcNow (s : State) (lun : Nat) : Nat :=
  slcTargetOf (s.goodBlocks lun) s.delta.geom.tlc s.opPct (s.lunValid lun) s.slcShare s.slcMin s.slcMax
/-- The SLC target that the LUN's last closing block set. -/
def State.slcTarget (s : State) (lun : Nat) : Nat := Tbl.getD lun (s.slcNow lun) s.delta.slcTargets

/-- The free block that a write point takes (R352): the lowest erase count, with ties to the lower address. -/
def State.takeable (s : State) (lun : Nat) : Option Nat :=
  let listed := ((s.lunBlocks lun).filter (fun b => decide (b.2.state = .free))).map (fun b => (b.2.erases, b.1))
  let fresh := ((s.delta.geom.blocksOf lun).find? (fun b => !Tbl.has b s.delta.blocks)).toList.map (fun b => (0, b))
  ((sortBy (fun (a b : Nat × Nat) => decide (a.1 < b.1) || (decide (a.1 = b.1) && decide (a.2 < b.2))) (listed ++ fresh)).head?).map (·.2)

/-- A LUN still takes new writes (R353): its free and closed good blocks hold its valid sectors plus FREE_CRIT blocks. -/
def State.lunTakes (s : State) (lun : Nat) : Bool :=
  let room := s.freeBlocks lun + ((s.lunBlocks lun).filter (fun b => decide (b.2.state = .closed) && decide (b.2.extent = 0))).length
  decide (s.lunValid lun + s.freeMarks.2.2 * s.delta.geom.tlc ≤ room * s.delta.geom.tlc)

/-- LUNs of the channels in a mask that answer, ascending; a mask of zero permits every channel. -/
def State.luns (s : State) (mask : Nat) : List Nat :=
  (s.delta.chans.filter (fun c => (decide (mask = 0) || bit mask c.1) && (decide (c.2.state = .up) || decide (c.2.state = .degraded)))).flatMap (fun c =>
    (c.2.targets.flatMap (fun t => (List.range s.delta.geom.luns).map (fun l => c.1 * 32 + t * 4 + l))).filter (fun l => !s.delta.failedLuns.contains l))

/-- The channels that a hint mask permits in a composition's slice (R313, R432); without a channel of the slice, one that no channel has. -/
def State.flashMask (s : State) (comp hint : Nat) : Nat :=
  let ch := match s.comp comp with | some c => c.f 0x18 4 | none => 0
  let m := Nat.land hint ch
  if m ≠ 0 then m else if ch ≠ 0 then ch else 2 ^ 32

/-- Sectors programmed in a block or in flight to it. -/
def State.fillOf (s : State) (b : Nat) : Nat :=
  (s.blk b).sectors.length + sumL ((s.delta.progs.filter (fun p => decide (p.block = b))).map (fun p => p.sectors.length))

/-- The write point of a LUN for a space and mode: a block with room, or the block it takes. -/
def State.writePoint (s : State) (lun space : Nat) (slc : Bool) : Option (Nat × State) :=
  let cap := s.delta.geom.cap slc
  match (s.lunBlocks lun).find? (fun b => (decide (b.2.state = .opened) || decide (b.2.state = .taken)) && decide (b.2.space = space)
      && decide (b.2.slc = slc) && decide (b.2.extent = 0) && decide (s.fillOf b.1 < cap)) with
  | some b => some (b.1, s)
  | none => (s.takeable lun).map (fun b => (b, s.blk! b (fun k => { k with state := .taken, slc := slc, space := space, extent := 0, sealTag := 0, sectors := [] })))

/-- Where the reference copy of a slot lies in the reference area (R346). -/
def Desc_refAt (d : Desc) (i : Nat) : Nat :=
  let r := d.refBytes
  if r ≤ 4096 then i / (4096 / r) * 4096 + i % (4096 / r) * r else i * (cdiv r 4096 * 4096)

/-- The image of a mutable sector (R346, R348): the reference copies that lie in it, over zeros. -/
def State.lsnImage (s : State) (space lsn : Nat) : List Byte :=
  match s.search.colls.find? (fun k => decide (k.2.space = space) && decide (k.2.base ≤ lsn)
      && k.2.slots.any (fun z => (k.2.desc.slotLsns k.2.base z.1).contains lsn)) with
  | none => zeros 4096
  | some k =>
    let here := k.2.slots.filter (fun z => decide (z.2.state ≠ .free) && (k.2.desc.slotLsns k.2.base z.1).contains lsn)
    Mem.readBytes (here.foldl (fun m z => Mem.writeBytes m (Desc_refAt k.2.desc z.1) z.2.ref) []) (4096 * (lsn - k.2.base)) 4096

/-- The sector at a PSA. -/
def State.sectorAt (s : State) (psa : Nat) : Option Sector := (s.blk (psaBlock psa)).sectors[psa % 2 ^ 14]?

/-- A page program starts (R349): its sectors carry the next SEQ; a copy keeps what it is a copy of (R347); a page is padded to four codewords with TYPE 3. -/
def State.program (s : State) (b space : Nat) (l : List (Nat × Option Nat)) : State :=
  s.delta! (fun d =>
    let q := d.seq + 1
    let data (a : Nat) (src : Option Nat) : List Byte :=
      match src.bind s.sectorAt with | some z => z.data | none => s.lsnImage space a
    let sec (typ a : Nat) (bs : List Byte) : Sector := ⟨space, a, q, 0, typ, false, bs⟩
    { d with seq := q, progs := d.progs ++ [⟨b, l.map (fun x => (sec 0 x.1 (data x.1 x.2), x.2)) ++ List.replicate (4 - l.length) (sec 3 0 (zeros 4096), none)⟩] })

/-- Splits a list into pages of four. -/
def pages4 {α : Type} : Nat → List α → List (List α)
  | 0, _ => []
  | n + 1, l => if l.isEmpty then [] else l.take 4 :: pages4 n (l.drop 4)

/-- Writes sectors of a space as pages to the write points of some LUNs, which take pages in turn; `none` when no LUN has room (R353). -/
def State.writePages (s : State) (luns : List Nat) (space : Nat) (slc : Bool) : List (List (Nat × Option Nat)) → Option State
  | [] => some s
  | pg :: rest =>
    let n := luns.length
    let order := (List.range n).map (fun i => luns.getD ((s.delta.seq + i) % n) 0)
    match order.findSome? (fun l => if s.lunTakes l then s.writePoint l space slc else none) with
    | none => none
    | some (b, s1) => (s1.program b space pg).writePages luns space slc rest

/-- A write of a sector by a block above Delta merges into its open sector (R348). -/
def State.openLsn (s : State) (space lsn : Nat) : State :=
  s.delta! (fun d => { d with opens := if d.opens.contains ⟨space, lsn⟩ then d.opens else d.opens ++ [⟨space, lsn⟩] })

/-- A flush of a space (R349): every open sector is programmed through the SLC write points; `none` when the slice's LUNs cannot take them. -/
def State.flush (s : State) (space mask : Nat) : Option State :=
  let mine := (s.delta.opens.filter (fun o => decide (o.space = space))).map (fun o => (o.lsn, (none : Option Nat)))
  let s1 := s.delta! (fun d => { d with opens := d.opens.filter (fun o => decide (o.space ≠ space)) })
  if mine = [] then some s else (s1.writePages (s.luns mask) space true (pages4 mine.length mine)).map (fun t => t.count Reg.DLT_CNT0 1 mine.length)

/-- Sectors of a space that wait in open sectors or in programs of new data. -/
def State.flashPending (s : State) (space : Nat) (lsns : List Nat) : Bool :=
  s.delta.opens.any (fun o => decide (o.space = space) && lsns.contains o.lsn)
    || s.delta.progs.any (fun p => p.sectors.any (fun x => decide (x.1.key = space) && decide (x.1.typ = 0) && x.2.isNone && lsns.contains x.1.addr))

/-- Discards an LSN (R360): its entry is set to DISCARDED. -/
def State.discard (s : State) (space lsn : Nat) : State :=
  match s.mapEnt space lsn with
  | some (.mapped p) => (s.setMap space lsn (.discarded p)).count Reg.DLT_CNT0 8 1
  | some .lost => (s.setMap space lsn (.discarded 0)).count Reg.DLT_CNT0 8 1
  | _ => s

/-- Discards the reference area of a collection: LSNs from BASE of every slot. -/
def State.discardAll (s : State) (space : Nat) (lsns : List Nat) : State := lsns.foldl (fun t l => t.discard space l) s

/-! ### Losses -/

/-- Sets DAMAGED on the rows of some slots, and the bits of those that are not FREE in both copies of the damaged plane, which lists them by slot (R291). -/
def Coll_damage (c : Coll) (lost : Nat → Bool) : Coll :=
  let hit := (c.slots.filter (fun z => decide (z.2.state ≠ .free) && lost z.1)).map (·.1)
  if hit = [] then c
  else
    let add (l : List Nat) : List Nat := l ++ hit.filter (fun i => !l.contains i)
    let p := Tbl.getD 1 ⟨[], []⟩ c.planes
    { c with
      slots := c.slots.map (fun z => (z.1, if z.2.state ≠ .free ∧ lost z.1 then { z.2 with damaged := true } else z.2))
      planes := Tbl.put 1 ⟨add p.primary, add p.twin⟩ c.planes }

/-- Lock sets DAMAGED on every row whose copy lies in a lost sector (Table DLT-4). -/
def State.damageLsn (s : State) (space lsn : Nat) : State :=
  s.search! (fun x => { x with colls := x.colls.map (fun k =>
    if k.2.space = space ∧ k.2.refExt = none then
      (k.1, Coll_damage k.2 (fun i => (k.2.desc.slotLsns k.2.base i).contains lsn))
    else k) })

/-- The collection and slot that own a mutable sector. -/
def State.lsnOwner (s : State) (space lsn : Nat) : Nat × Nat :=
  match s.search.colls.find? (fun k => decide (k.2.space = space) && k.2.slots.any (fun z => (k.2.desc.slotLsns k.2.base z.1).contains lsn)) with
  | some k => (k.2.id, ((k.2.slots.find? (fun z => (k.2.desc.slotLsns k.2.base z.1).contains lsn)).map (·.1)).getD 0)
  | none => (0, 0)

/-- An uncorrectable codeword of a mutable sector (R357, R358): LOST, logged, and reported to the owner. -/
def State.sectorLost (s : State) (space lsn : Nat) : State :=
  match s.mapEnt space lsn with
  | some (.mapped p) =>
    let o := s.lsnOwner space lsn
    let f := s.free
    let s1 := (f.2.setMap space lsn .lost).blk! (psaBlock p) (fun k => { k with sectors := updAt k.sectors (p % 2 ^ 14) (fun x => { x with lost := true }) })
    ((s1.count Reg.DLT_CNT0 5 1).damageLsn space lsn).raise (unitOf 0x0C (chanOf (psaBlock p))) 0x0007 .d none (s.spaceComp space) 0x3FF
      (4 * 2 ^ 60 + p) (memDetail f.1 1 o.1 o.2) 0
  | _ => s

/-- Lock sets DAMAGED on every row of a collection whose reads use extent `e` and whose copy lies in its sector `i` (R361, Table DLT-4). -/
def State.damageExt (s : State) (e i : Nat) : State :=
  s.search! (fun x => { x with colls := x.colls.map (fun k =>
    if k.2.refExt = some e then
      (k.1, Coll_damage k.2 (fun j => (k.2.desc.slotLsns k.2.base j).contains (k.2.base + i)))
    else k) })

/-- Sector `i` of an extent is lost (R357, Table DLT-4), or `stale` (R364). -/
def State.extentLost (s : State) (e i : Nat) (stale : Bool) : State :=
  match Tbl.find e s.delta.extents with
  | none => s
  | some x =>
    if x.lost.contains i ∨ x.sectors ≤ i then s
    else
      let b := x.blocks.getD (i / s.delta.geom.tlc) 0
      let f := s.free
      let s1 := f.2.delta! (fun d => { d with extents := Tbl.upd e (fun y => y.sectorLost i) d.extents })
      ((s1.count Reg.DLT_CNT0 (if stale then 9 else 5) 1).damageExt e i).raise (unitOf 0x0C (chanOf b)) (if stale then 0x0008 else 0x0007) .d none (s.spaceComp x.key) 0x3FF
        (4 * 2 ^ 60 + psaOf b (i % s.delta.geom.tlc)) (memDetail f.1 (if x.kind = 0 then 3 else 1) x.src i) 0

/-- A sector read that ended is counted; `true` when its codeword is uncorrectable (R341). -/
def State.readNote (s : State) (outcome : ReadOutcome) : State × Bool :=
  let seen := s.count Reg.DLT_CNT0 0 1
  match outcome with
  | .hard => (seen, false)
  | .soft => (seen.count Reg.DLT_CNT0 4 1, false)
  | .retry n => if s.retryMax < n then (seen, true) else (seen.count Reg.DLT_CNT0 4 1, false)
  | .uncorrectable => (seen, true)
  | .stale => (seen, false)

/-! ### Programs and erases -/

/-- A block that is full closes; its LUN's SLC target is computed again (R350). -/
def State.closeFull (s : State) (b : Nat) : State :=
  let k := s.blk b
  if s.delta.geom.cap k.slc ≤ k.sectors.length then
    let s1 := s.blk! b (fun x => { x with state := .closed, closeNs := s.now })
    s1.delta! (fun d => { d with slcTargets := Tbl.put (lunOf b) (s1.slcNow (lunOf b)) d.slcTargets })
  else s

/-- Maps the sectors of a programmed page (R349, R356): a copy counts only where the entry still holds the PSA it was read from. -/
def State.mapPage (s : State) (b first : Nat) (l : List (Sector × Option Nat)) : State :=
  ((List.range l.length).zip l).foldl (fun t x =>
    let sec := x.2.1
    if sec.typ ≠ 0 then t
    else match x.2.2 with
      | none => t.setMap sec.key sec.addr (.mapped (psaOf b (first + x.1)))
      | some p => if t.mapEnt sec.key sec.addr = some (.mapped p) then t.setMap sec.key sec.addr (.mapped (psaOf b (first + x.1))) else t) s

/-- The programs in flight to a block are written again at other write points. -/
def State.reprogram (s : State) (b : Nat) : State :=
  let k := s.blk b
  let mine := s.delta.progs.filter (fun p => decide (p.block = b))
  let s2 := s.delta! (fun d => { d with progs := d.progs.filter (fun p => decide (p.block ≠ b)) })
  let pages := mine.map (fun p => (p.sectors.filter (fun x => decide (x.1.typ = 0))).map (fun x => (x.1.addr, x.2)))
  let own := lunOf b
  match s2.writePages (own :: (s2.luns 0).filter (fun l => decide (l ≠ own))) k.space k.slc pages with
  | some s3 => s3
  | none => pages.flatten.foldl (fun t x => t.openLsn k.space x.1) s2

/-- Retires a block (R353): grown bad, counted; the programs in flight to it are written again at a write point. -/
def State.retire (s : State) (b : Nat) : State := ((s.blk! b (fun x => { x with state := .bad })).count Reg.DLT_CNT0 6 1).reprogram b

/-- Relocates a block's MAPPED sectors to TLC write points of its channel and space and marks it for erase (R351, R354). -/
def State.relocate (s : State) (b : Nat) (cnt : Nat) : Option State :=
  let k := s.blk b
  let v := (s.validOf b).map (fun x => (x.2.addr, some (psaOf b x.1)))
  let own := lunOf b
  let others := (s.luns (2 ^ chanOf b)).filter (fun l => decide (l ≠ own))
  let put (t : State) (pg : List (Nat × Option Nat)) : Option State :=
    ((own :: others).findSome? (fun l => t.writePoint l k.space false)).map (fun r => r.2.program r.1 k.space pg)
  let s0 := s.blk! b (fun x => { x with state := .erasing })
  let r := (pages4 v.length v).foldl (fun (acc : Option State) pg => acc.bind (fun t => put t pg)) (some s0)
  r.map (fun t => t.count Reg.DLT_CNT0 cnt v.length)

/-- Oldest first among blocks. -/
def oldestBlock (l : Tbl Block) : Option Nat :=
  ((sortBy (fun (a b : Nat × Block) => decide (a.2.closeNs < b.2.closeNs)) l).head?).map (·.1)

/-- FOLD (R351): a LUN with more SLC blocks than its SLC target folds its oldest closed one. -/
def execFold (lun : Nat) (s : State) : Host.Outcome State Fault Refusal :=
  ok (if !s.deltaUp ∨ (s.slcBlocks lun).length ≤ s.slcTarget lun then s
    else match oldestBlock ((s.slcBlocks lun).filter (fun b => decide (b.2.state = .closed))) with
      | some b => (s.relocate b 3).getD s
      | none => s)

/-- e_max of a channel (R355). -/
def State.eMax (s : State) (c : Nat) : Nat := maxL (s.chanErases c)

/-- The score of a block now. -/
def State.scoreOf (s : State) (b : Nat) : Nat :=
  let k := s.blk b
  let unit := orIfZero (s.fld Reg.DLT_RECLAIM 24 8) 1
  reclaimScore s.delta.geom.tlc (s.validOf b).length k.erases (s.eMax (chanOf b)) ((s.now - k.closeNs) / (unit * 1000000000)) (s.fld Reg.DLT_RECLAIM 32 16)

/-- The victim of reclaim on a LUN (R354, R355). -/
def State.victimBlock (s : State) (lun : Nat) : Option Nat :=
  let l := (s.lunBlocks lun).filter (fun b => decide (b.2.state = .closed) && !b.2.slc && decide (b.2.extent = 0))
  ((sortBy (fun (a b : Nat × Nat) => decide (b.2 < a.2)) (l.map (fun b => (b.1, s.scoreOf b.1)))).head?).map (·.1)

/-- RECLAIM (R354): from below FREE_LOW until FREE_HIGH, one block at a time. -/
def execReclaim (lun : Nat) (s : State) : Host.Outcome State Fault Refusal :=
  ok (
    let free := s.freeBlocks lun
    let going := s.delta.reclaiming.contains lun
    let busy := (s.lunBlocks lun).any (fun b => decide (b.2.state = .erasing) && !b.2.slc)
    if !s.deltaUp then s
    else if going ∧ s.freeMarks.2.1 ≤ free then s.delta! (fun d => { d with reclaiming := d.reclaiming.filter (fun l => decide (l ≠ lun)) })
    else if busy ∨ (!going ∧ s.freeMarks.1 ≤ free) then s
    else match s.victimBlock lun with
      | some b =>
        let s1 := if going then s else s.delta! (fun d => { d with reclaiming := d.reclaiming ++ [lun] })
        (s1.relocate b 2).getD s
      | none => s)

/-! ### Checkpoints, rebuild, start-up -/

/-- The LUNs that hold the two copies of a map page (R345): of the first two channels of those that answer, or two targets of one. -/
def State.pageHomes (s : State) : List Nat :=
  let l := s.luns 0
  match l with
  | [] => []
  | a :: rest => match rest.find? (fun b => decide (b / 32 ≠ a / 32)) with
    | some b => [a, b]
    | none => match rest.find? (fun b => decide (b / 4 ≠ a / 4)) with
      | some b => [a, b]
      | none => [a, a]

/-- A checkpoint (R345, R368): dirty map pages are written back, each twice; the checkpoint is written as two copies; the older one goes. -/
def State.checkpoint (s : State) : State :=
  let homes := s.pageHomes
  (s.delta! (fun d => { d with
    spaces := d.spaces.map (fun x => (x.1, { x.2 with pages := x.2.pages.map (fun p => (p.1, if p.2.dirty then { p.2 with dirty := false, copies := homes } else p.2)) }))
    ckpts := [⟨d.seq, d.sealCtr, 2⟩]
    lastCkptNs := s.now })).count Reg.DLT_CNT0 7 1

/-- CHECKPOINT (R345): at the end of CKPT_MS. -/
def execCheckpoint (s : State) : Host.Outcome State Fault Refusal :=
  ok (if !s.deltaUp then s else (s.reach (s.delta.lastCkptNs + ms s.ckptMs)).checkpoint)

/-- The sector that a scan of a space's metadata finds for an LSN (R359): the greatest SEQ, with its PSA. -/
def State.scanFor (s : State) (space lsn : Nat) : Option (Sector × Nat) :=
  let all := s.delta.blocks.flatMap (fun b =>
    if b.2.space = space ∧ b.2.extent = 0 ∧ b.2.state ≠ .bad then
      (((List.range b.2.sectors.length).zip b.2.sectors).filter (fun x => decide (x.2.typ = 0) && decide (x.2.key = space) && decide (x.2.addr = lsn))).map
        (fun x => (x.2, psaOf b.1 x.1))
    else [])
  (sortBy (fun (a b : Sector × Nat) => decide (b.1.seq < a.1.seq)) all).head?

/-- MAP_REBUILD (R359): `unreadable` names the LSNs that the scan found only as uncorrectable codewords. -/
def execMapRebuild (space page : Nat) (unreadable : List Nat) (s : State) : Host.Outcome State Fault Refusal :=
  ok (match (Tbl.find space s.delta.spaces).bind (fun x => Tbl.find page x.pages) with
    | none => s
    | some p =>
      if !p.rebuilding then s
      else
        let s1 := (List.range 512).foldl (fun t i =>
          let lsn := 512 * page + i
          match t.scanFor space lsn with
          | some (sec, psa) =>
            let t1 := t.setMap space lsn (.mapped psa)
            if sec.lost ∨ unreadable.contains lsn then t1.sectorLost space lsn else t1
          | none => t) s
        s1.page! space page (fun q => { q with rebuilding := false, copies := s1.pageHomes, dirty := false }))

/-- A target meets R338 apart from the common geometry. -/
def TargetUsable (t : TargetInfo) : Bool :=
  decide (t.pageBytes = 16384) && decide (2048 ≤ t.spareBytes) && decide (1 ≤ t.geom.luns) && decide (t.geom.luns ≤ 4) && decide (1 ≤ t.geom.planes)
    && decide (t.geom.planes ≤ 4) && decide (1 ≤ t.geom.blocks) && decide (t.geom.blocks ≤ 16384) && decide (1 ≤ t.geom.pages) && decide (t.geom.pages ≤ 4096) && t.features

/-- The targets that Delta uses (R338, R339), of those on channels whose training passes, in ascending channel and target order. -/
def pickTargets (targets : List TargetInfo) (failed : List Nat) : List TargetInfo × Geom :=
  let l := sortBy (fun (a b : TargetInfo) => decide (a.chan < b.chan) || (decide (a.chan = b.chan) && decide (a.target < b.target)))
    (targets.filter (fun t => decide (t.chan < 32) && decide (t.target < 8) && !failed.contains t.chan))
  let g := match (l.filter TargetUsable).head? with | some t => t.geom | none => ⟨1, 1, 1, 1, 0⟩
  let same (t : TargetInfo) : Bool := TargetUsable t && decide (t.geom.luns = g.luns) && decide (t.geom.planes = g.planes) && decide (t.geom.blocks = g.blocks)
    && decide (t.geom.pages = g.pages)
  let r := (l.filter same).foldl (fun (acc : List TargetInfo × Nat) t =>
    if acc.2 + t.raw ≤ 64000000000000 then (acc.1 ++ [t], acc.2 + t.raw) else (acc.1, 64000000000001)) ([], 0)
  (r.1, g)

/-- DELTA_STARTUP (R337 to R339, R370): the parameter pages of the targets, the channels whose training fails, and whether a checkpoint verifies (without
one the whole medium is scanned, to the same map). The record type of a target left unused is not given and is free (log 1). -/
def execDeltaStartup (targets : List TargetInfo) (failed : List Nat) (_verified : Bool) (s : State) : Host.Outcome State Fault Refusal :=
  ok (if s.delta.phase ≠ .starting ∨ s.host.nodeState ≠ .running ∨ s.cru.held then s
    else
      let p := pickTargets targets failed
      let chan (c : Nat) : Option Chan :=
        let here := targets.filter (fun t => decide (t.chan = c))
        let used := (p.1.filter (fun t => decide (t.chan = c))).map (·.target)
        if used = [] then (if here = [] then none else some ⟨.absent, [], [], here.length, 0⟩)
        else some ⟨.up, used, (p.1.filter (fun t => decide (t.chan = c) && t.suspend)).map (·.target), here.length - used.length, 0⟩
      let chans := (List.range 32).filterMap (fun c => (chan c).map (fun x => (c, x)))
      let bads := p.1.flatMap (fun t => t.factoryBad.map (fun b => t.chan * 2 ^ 21 + t.target * 2 ^ 18 + b % 2 ^ 18))
      let s1 := s.delta! (fun d => { d with
        phase := .running, step := 6, geom := p.2, chans := chans, failedLuns := []
        blocks := bads.foldl (fun m b => Tbl.put b { (Tbl.getD b Block.blank m) with state := .bad } m) d.blocks
        lastCkptNs := s.now })
      chans.foldl (fun t c => (List.range c.2.unused).foldl (fun t _ => let f := t.free; f.2.logC (unitOf 0x0C c.1) (f.1 % 65536) 0xFF 0x3FF 0 0) t) s1)

/-! ### Encryption -/

/-- The key that a space's sectors are encrypted under, as it stands in Delta's AES engines (R343, R347, R513); space 0 holds Delta's system sectors. -/
def State.spaceKey (s : State) (space : Nat) : List Byte :=
  let slot := slotCode 1 (if space = 0 then 64 else s.spaceComp space)
  match s.weir.slots.find? (fun k => decide (k.1 = slot)) with | some k => k.2 | none => zeros 64

/-- What the medium holds of a sector's data (R347). -/
def State.sectorText (s : State) (z : Sector) : List Byte := xtsEncrypt (s.spaceKey z.key) (sectorTweak z.addr z.sealTag) z.data

/-- The metadata of a sector (Table DLT-2), in clear. -/
def sectorMeta (z : Sector) : List Byte :=
  let bs := le 8 z.key ++ le 8 (z.addr % 2 ^ 40) ++ le 8 z.seq ++ le 6 z.sealTag ++ le 1 z.typ
  bs ++ le 1 (Config.crc8 bs % 256)

/-- The 4,128 bytes of a codeword that its parity covers (R340): the data, encrypted, and the metadata. -/
def State.codeword (s : State) (z : Sector) : List Byte := s.sectorText z ++ sectorMeta z

/-- Sector `i` of an extent (R361, R362): ADDR holds its index, and the seal tag stands in its metadata and its tweak. -/
def State.extentSector (s : State) (e i : Nat) : Option Sector :=
  (Tbl.find e s.delta.extents).bind (fun x => if x.sectors ≤ i then none else some ⟨x.key, i, 0, x.sealTag, 0, x.lost.contains i, x.sector i⟩)

/-- The 64 bits of a map entry (Table DLT-3). -/
def mapBits (e : Option MapEnt) : Nat := match e with
  | none => 0
  | some (.mapped p) => 2 ^ 62 + p % 2 ^ 40
  | some .lost => 2 * 2 ^ 62
  | some (.discarded _) => 3 * 2 ^ 62

/-- A map page as a system sector (R345, R347). -/
def State.mapSector (s : State) (space page : Nat) : Sector :=
  ⟨0, Config.mapPageAddr space page % 2 ^ 40, 0, 0, 1, false, (List.range 512).flatMap (fun i => le 8 (mapBits (s.mapEnt space (512 * page + i))))⟩

/-! ### Frozen extents -/

/-- The seal code of an extent map (R362), under the seal key of its space for the composition that holds it. -/
def State.sealCode (s : State) (comp id : Nat) (e : ExtentSt) : List Byte :=
  match s.comp comp with
  | none => []
  | some x =>
    let key := kdf (s.flashKey e.key x.tenant (s.secretOf comp)) "seal" []
    (sha3 (key ++ extentMap id e (zeros 16))).take 16

/-- Blocks for an extent (R361): taken under R352, in round-robin order over the LUNs of the permitted channels. -/
def State.takeBlocks (s : State) (luns : List Nat) : Nat → Nat → List Nat → Option (List Nat × State)
  | 0, _, acc => some (acc, s)
  | n + 1, i, acc =>
    let k := luns.length
    match ((List.range k).map (fun j => luns.getD ((i + j) % k) 0)).findSome? (fun l => if s.lunTakes l then s.takeable l else none) with
    | none => none
    | some b => (s.blk! b (fun x => { x with state := .closed, slc := false, erases := x.erases + 1, closeNs := s.now, sectors := [] })).takeBlocks luns n (i + 1) (acc ++ [b])

/-- LUNs ordered so that successive ones lie on different channels. -/
def spreadLuns (l : List Nat) : List Nat :=
  sortBy (fun a b => decide ((l.filter (fun x => decide (x / 32 = a / 32) && decide (x < a))).length < (l.filter (fun x => decide (x / 32 = b / 32) && decide (x < b))).length)) l

/-- Writes and seals an extent (R361, R362): its number and the state, or `none` when the slice's channels cannot hold it. -/
def State.sealExtent (s : State) (space mask kind src bytes : Nat) (data : Mem) (objBytes : Nat) (lost : List Nat) : Option (Nat × State) :=
  let sectors := cdiv bytes 4096
  match s.takeBlocks (spreadLuns (s.luns mask)) (cdiv sectors s.delta.geom.tlc) 0 [] with
  | none => none
  | some (blocks, s1) =>
    let id := s.delta.extCtr + 1
    let tag := s.delta.sealCtr + 1
    let s2 := blocks.foldl (fun t b => t.blk! b (fun x => { x with space := space, extent := id, sealTag := tag })) s1
    some (id, (s2.delta! (fun d => { d with
      extCtr := id, sealCtr := tag, seq := d.seq + cdiv sectors 4
      extents := Tbl.put id ⟨space, tag, kind, src, blocks, sectors, data, lost, true, none, objBytes⟩ d.extents })).count Reg.DLT_CNT0 1 sectors)

/-- Sectors of a weight extent before its tiles: the header and the tensor table (R361). -/
def ExtentSt_first (e : ExtentSt) : Nat := e.sectors - e.objBytes / 4096

/-- The tiles of a weight extent. -/
def ExtentSt_tiles (e : ExtentSt) : Mem :=
  let o := ExtentSt_first e * 4096
  (e.data.filter (fun c => decide (o ≤ c.1))).map (fun c => (c.1 - o, c.2))

/-- Frees the blocks of an extent (R365, R367). -/
def State.freeExtent (s : State) (id : Nat) : State :=
  match Tbl.find id s.delta.extents with
  | none => s
  | some e =>
    let s1 := e.blocks.foldl (fun t b => if (t.blk b).extent = id ∧ (t.blk b).state ≠ .bad then t.blk! b (fun x => { x with state := .free, space := 0, extent := 0, sealTag := 0, sectors := [] }) else t) s
    s1.delta! (fun d => { d with extents := Tbl.erase id d.extents })

/-- What EXT_EXPORT replies and writes for an extent: the map, when MAP_LEN bytes hold it. -/
def State.exportReply (s : State) (m : Msg) (id : Nat) : State :=
  match Tbl.find id s.delta.extents with
  | none => s.refuse m 0x050E
  | some e =>
    let map := extentMap id e (s.sealCode m.comp id e)
    if m.p 0x10 8 < map.length then s.refuse m rField
    else (s.output m (m.p 8 8) map).done m (le 4 id ++ le 4 e.blocks.length ++ le 8 map.length)

/-- The reference area of a collection as bytes (R346), by slot. -/
def Coll_refData (c : Coll) : Mem :=
  c.slots.foldl (fun m z => if z.2.state = .free then m else Mem.writeBytes m (Desc_refAt c.desc z.1) z.2.ref) []

/-- LSNs of a collection's reference area that its slots use. -/
def Coll_lsns (c : Coll) : List Nat := dedup (c.slots.flatMap (fun z => if z.2.state = .free then [] else c.desc.slotLsns c.base z.1))

/-- A FROZEN collection's reference area is copied to an extent, its reads switch to it, and the mutable LSNs are discarded (R361). -/
def State.sealColl (s : State) (k : Nat) (c : Coll) : Option (Nat × State) :=
  let lsns := Coll_lsns c
  let top := maxL (lsns.map (fun l => l + 1 - c.base))
  let lost := (lsns.filter (fun l => decide (s.mapEnt c.space l = some .lost))).map (fun l => l - c.base)
  (s.sealExtent c.space (s.flashMask c.comp c.deltaMask) 1 c.id (4096 * top) (Coll_refData c) 0 lost).map (fun r =>
    (r.1, (r.2.coll! k (fun x => { x with refExt := some r.1 })).discardAll c.space lsns))

/-- EXT_EXPORT (R361, R366, R367). -/
def execExtExport (mb : Nat) (s : State) : Host.Outcome State Fault Refusal :=
  onMsg s mb 0x050D (fun m t =>
    let kind := m.p 0 1
    let id := m.p 2 2
    if 1 < kind ∨ m.p 1 1 ≠ 0 ∨ m.p 4 4 ≠ 0 then t.refuse m rField
    else if kind = 0 then
      match Tbl.find (objKey m.comp id) t.slc.objs with
      | none => t.refuse m rUnknown
      | some o =>
        if o.dropMsg.isSome then t.refuse m rUnknown
        else match o.kind, o.extent with
          | .weight _, some e => t.exportReply m e
          | .weight _, none => t.refuse m 0x050E
          | _, _ => t.refuse m rUnknown
    else
      let k := collKey m.comp id
      match t.coll k with
      | none => t.refuse m 0x0005
      | some c =>
        if c.state = .dropping then t.refuse m 0x0005
        else if !c.frozen then t.refuse m 0x050E
        else match c.refExt with
          | some e => t.exportReply m e
          | none => match t.sealColl k c with
            | some r => r.2.exportReply m r.1
            | none => t.refuse m rCapacity)

/-- What a map names: the extent, when MAGIC and layout are those of Table DLT-5. -/
def mapExtent (map : List Byte) : Nat := natAt map 4 4

/-- The reason why a map is refused (R363), or 0. -/
def State.mapReason (s : State) (comp : Nat) (map : List Byte) : Nat :=
  let n := natAt map 0x1C 4
  if natAt map 0 4 ≠ 0x44585431 ∨ n = 0 ∨ 2 ^ 20 < n ∨ map.length ≠ 64 + 4 * n then rField
  else
    let e : ExtentSt := ⟨natAt map 8 8, natAt map 0x10 8, natAt map 0x18 1, natAt map 0x1A 2, splitNum 4 n (map.drop 64), natAt map 0x20 8, [], [], true, none, 0⟩
    let id := mapExtent map
    let code := match s.comp comp with
      | none => []
      | some x => (sha3 (kdf (s.flashKey e.key x.tenant (s.secretOf comp)) "seal" [] ++ map.take 0x30 ++ zeros 16 ++ map.drop 0x40)).take 16
    if s.spaceOf comp ≠ some e.key ∨ bytesAt map 0x30 16 ≠ code then 0x050C
    else if !(e.blocks.all (fun b => let k := s.blk b; decide (k.extent = id) && decide (k.sealTag = e.sealTag))) ∨ !Tbl.has id s.delta.extents then 0x050D
    else match (Tbl.find id s.delta.extents).bind (·.attached) with
      | some _ => 0x050F
      | none => 0

/-- EXT_ATTACH (R363, R366); `dma` is the map at MAP_ADDR. -/
def execExtAttach (mb : Nat) (dma : HostRead) (s : State) : Host.Outcome State Fault Refusal :=
  onMsg s mb 0x050E (fun m t =>
    let id := m.p 0 2
    let key := objKey m.comp id
    if m.p 2 6 ≠ 0 ∨ id = 0xFFFF then t.refuse m rField
    else if Tbl.has key t.slc.objs then t.refuse m rInUse
    else if 16384 ≤ t.slc.objs.length then t.refuse m rTableFull
    else match dma with
      | none => t.reply m stInternal (reasonHdr 0)
      | some map =>
        let r := t.mapReason m.comp (map.take (m.p 0x10 8))
        if r ≠ 0 then t.refuse m r
        else match Tbl.find (mapExtent map) t.delta.extents with
          | none => t.refuse m 0x050D
          | some e =>
            let kind : ObjKind := if e.kind = 0 then .weight ⟨none, false, 2, [], none, none⟩ else .refExtent (mapExtent map)
            let data := if e.kind = 0 then ExtentSt_tiles e else []
            ((t.slc! (fun x => { x with objs := Tbl.put key ⟨kind, if e.kind = 0 then e.objBytes else 4096 * e.sectors, data, false, none, [], some (mapExtent map)⟩ x.objs })).delta!
              (fun d => { d with extents := Tbl.upd (mapExtent map) (fun y => { y with attached := some key }) d.extents })).done m [])

/-- EXT_READ (R364, R366). -/
def execExtRead (mb : Nat) (s : State) : Host.Outcome State Fault Refusal :=
  onMsg s mb 0x050F (fun m t =>
    let n := m.p 4 4
    let first := m.p 8 8
    let out := m.p 0x10 8
    match Tbl.find (objKey m.comp (m.p 0 2)) t.slc.objs with
    | none => t.refuse m rUnknown
    | some o =>
      match (if o.dropMsg.isSome then none else match o.kind with | .refExtent e => Tbl.find e t.delta.extents | _ => none) with
      | none => t.refuse m rUnknown
      | some e =>
        if m.p 2 2 ≠ 0 ∨ n = 0 ∨ 65536 < n ∨ out % 64 ≠ 0 ∨ e.sectors < first + n then t.refuse m rField
        else
          let is := (List.range n).map (fun i => first + i)
          let lost := (is.filter (fun i => e.lost.contains i)).length
          let t1 := t.output m out (is.flatMap e.sector)
          ((t1.count Reg.DLT_CNT0 0 (n - lost)).chargeLun m.comp (lunOf (e.blocks.getD (first / t.delta.geom.tlc) 0)) 0).done m (le 4 lost ++ le 4 0))

/-- EXT_RELEASE (R365). -/
def execExtRelease (mb : Nat) (dma : HostRead) (s : State) : Host.Outcome State Fault Refusal :=
  onMsg s mb 0x0510 (fun m t =>
    if m.p 0 8 ≠ 0 then t.refuse m rField
    else match dma with
      | none => t.reply m stInternal (reasonHdr 0)
      | some map =>
        let r := t.mapReason m.comp (map.take (m.p 0x10 8))
        if r ≠ 0 then t.refuse m r else (t.freeExtent (mapExtent map)).done m [])

/-- SPACE_RELEASE (R367, R514): every LSN is discarded, every block of its extents freed, and the key table entry goes. -/
def execSpaceRelease (mb : Nat) (s : State) : Host.Outcome State Fault Refusal :=
  onMsg s mb 0x0511 (fun m t =>
    let k := m.p 0 8
    if t.weir.flashKeys.any (fun x => decide (x.2 = k)) then t.refuse m rInUse
    else
      let lsns := match Tbl.find k t.delta.spaces with | some x => Tbl.keys x.map | none => []
      let t1 := t.discardAll k lsns
      let t2 := (t1.delta.extents.filter (fun e => decide (e.2.key = k))).foldl (fun u e =>
        (match e.2.attached with | some o => u.slc! (fun x => { x with objs := Tbl.erase o x.objs }) | none => u).freeExtent e.1) t1
      (t2.newKeys (fun l => l.filter (fun e => decide (e.keyId ≠ k)))).done m [])

end Sys2Proof.Machine
end

