-- ==== Sys2Proof/Machine/Select.lean ====
section
/-! DEFINITION. Confluence: entries, selections, aggregates, merging of partial lists and the result record (chapter 05). -/

namespace Sys2Proof

/-- Saturating 32-bit addition. -/
def sat32 (a b : Nat) : Nat := Nat.min 0xFFFFFFFF (a + b)

/-- a ranks before b in the result order (R148). -/
def Entry.before (a b : Entry) : Bool :=
  decide (b.key < a.key) ||
    (decide (a.key = b.key) && (decide (a.collId < b.collId) || (decide (a.collId = b.collId) && decide (a.rowId < b.rowId))))

/-- The bytes of an entry (Table CFL-1). -/
def Entry.bytes (e : Entry) (remote outlier : Bool) : List Byte :=
  le 16 (e.key + 2 ^ 32 * e.rowId + 2 ^ 80 * e.collId + 2 ^ 93 * b2n e.damaged + 2 ^ 94 * b2n outlier + 2 ^ 95 * b2n remote + 2 ^ 96 * e.version)

/-- The null entry (R147). -/
def nullEntry : List Byte := le 16 (2 ^ 32 * (2 ^ 48 - 1) + 2 ^ 80 * 0xFFF + 2 ^ 92)

/-- The term of a score (R157): an exact number with the n of the term, an overflow, or a non-zero sticky bit alone. -/
inductive Term where
  | exact (v : Dy) (n : Int)
  | huge
  | tiny
  deriving DecidableEq, Repr

/-- LOG2E (R157). -/
def log2e : F32 := 0x3FB8AA3B#32

/-- The term function of R157 of a finite score. -/
def termOf (aggExp : Bool) (s : F32) : Term :=
  if !aggExp then .exact (fdy s) 0
  else
    let t := fmul .rne s log2e
    if fle 0x4F000000#32 t then .huge
    else if flt t 0xCF000000#32 then .tiny
    else
      let n := Dy.floor (fdy t)
      let g := exp2Frac (Dy.sub (fdy t) (Dy.ofInt n))
      .exact (Dy.scale (fdy g) n) n

/-- An empty accumulator (R158). -/
def Acc.empty (aggExp : Bool) : Acc := ⟨0, if aggExp then 0 else -149, none, false, false⟩

/-- Moves an accumulator's bit 0 up to weight 2^lo, ORing what is lost into STICKY. -/
def Acc.shiftTo (a : Acc) (lo : Int) : Acc :=
  if lo ≤ a.lo then a
  else
    let k := (lo - a.lo).toNat
    if 2000 < k then { a with val := 0, lo := lo, sticky := a.sticky || decide (a.val ≠ 0) }
    else { a with val := Int.fdiv a.val (2 ^ k : Nat), lo := lo, sticky := a.sticky || decide (Int.emod a.val (2 ^ k : Nat) ≠ 0) }

/-- Adds a term (R158). -/
def Acc.addTerm (aggExp : Bool) (a : Acc) (t : Term) : Acc :=
  match t with
  | .huge => { a with overflow := true }
  | .tiny => { a with sticky := true }
  | .exact v n =>
    if !aggExp then { a with val := a.val + v.m * (2 ^ (v.e + 149).toNat : Nat) }
    else
      let nm := match a.nMax with | none => n | some m => max m n
      let a1 := match a.nMax with
        | none => { a with lo := nm - 460, nMax := some nm }
        | some _ => { (a.shiftTo (nm - 460)) with nMax := some nm }
      let e := v.e - a1.lo
      if 0 ≤ e then { a1 with val := a1.val + v.m * (2 ^ e.toNat : Nat) }
      else if e < -2000 then { a1 with sticky := true }
      else
        let k := (-e).toNat
        { a1 with val := a1.val + Int.fdiv v.m (2 ^ k : Nat), sticky := a1.sticky || decide (Int.emod v.m (2 ^ k : Nat) ≠ 0) }

/-- Aligns and adds two accumulators (R158, R164). -/
def Acc.merge (a b : Acc) : Acc :=
  match a.nMax, b.nMax with
  | some m, some n =>
    let lo := max m n - 460
    let x := a.shiftTo lo
    let y := b.shiftTo lo
    ⟨x.val + y.val, lo, some (max m n), x.sticky || y.sticky, a.overflow || b.overflow⟩
  | none, some _ => { b with sticky := a.sticky || b.sticky, overflow := a.overflow || b.overflow }
  | some _, none => { a with sticky := a.sticky || b.sticky, overflow := a.overflow || b.overflow }
  | none, none => { a with val := a.val + b.val, sticky := a.sticky || b.sticky, overflow := a.overflow || b.overflow }

/-- The exact value of an accumulator, with its sticky bit as a half unit below bit 0; a sticky bit alone stands for terms below 2^(−2^31). -/
def Acc.dy (a : Acc) : Dy :=
  if a.sticky then (if a.nMax.isNone && decide (a.val = 0) then ⟨1, -(2 ^ 33 : Int)⟩ else ⟨2 * a.val + 1, a.lo - 1⟩) else ⟨a.val, a.lo⟩

/-- An empty bound part (R160). -/
def BoundPart.empty : BoundPart := ⟨0, 0, 0⟩

/-- Rescales a bound part to a greater exponent, rounding outward (R164). -/
def BoundPart.toExp (b : BoundPart) (e : Int) : BoundPart := ⟨fscale .down b.lo (b.e - e), fscale .up b.hi (b.e - e), e⟩

/-- Adds two bound parts: rescaled to the greater B_EXP, added with directed rounding (R164). -/
def BoundPart.add (a b : BoundPart) : BoundPart :=
  if a.lo = 0 ∧ a.hi = 0 then b
  else if b.lo = 0 ∧ b.hi = 0 then a
  else
    let e := max a.e b.e
    let x := a.toExp e
    let y := b.toExp e
    ⟨dnAdd x.lo y.lo, upAdd x.hi y.hi, e⟩

/-- The contribution [N f(lo), N f(hi)] of an interval, each end rounded toward the end it feeds (R159). An infinite end of
the interval gives 0 or an infinity. -/
def termBound (aggExp : Bool) (n : Nat) (lo hi : F32) : BoundPart :=
  if n = 0 then BoundPart.empty
  else if !aggExp then
    ⟨dnMul (f32OfInt .down n) lo, upMul (f32OfInt .up n) hi, 0⟩
  else
    let tl := if ffinite lo then termOf true lo else if lo = f32Inf then .huge else .tiny
    let th := if ffinite hi then termOf true hi else if hi = f32Inf then .huge else .tiny
    let e : Int := match th with | .exact _ k => k | _ => 0
    let lo' : F32 := match tl with
      | .exact v _ => f32OfDy .down ⟨v.m * n, v.e - e⟩
      | .huge => 0x7F7FFFFF#32
      | .tiny => 0
    let hi' : F32 := match th with
      | .exact v _ => f32OfDy .up ⟨v.m * n, v.e - e⟩
      | .huge => f32Inf
      | .tiny => 1#32
    ⟨lo', hi', e⟩

/-- The contribution of a skipped ball: [min(0, N f(L)), max(0, N f(U))] (R159). -/
def ballPart (aggExp : Bool) (n : Nat) (u l : F32) : BoundPart :=
  let b := termBound aggExp n l u
  ⟨if flt b.lo 0 then b.lo else 0, if flt 0 b.hi then b.hi else 0, b.e⟩

/-- An empty selection or merge (R149, R164). -/
def PList.empty (aggExp : Bool) (source : Nat) : PList :=
  { source := source, entries := [], damaged := [], pruned := false, kthKey := 0, tie := 0, dropped := 0, damagedExtra := 0,
    skipped := 0, scanned := 0, minMargin := f32Inf, acc := Acc.empty aggExp, bound := BoundPart.empty }

/-- Adds the exact term of an entry's score to the rest accumulator. -/
def PList.rest (aggExp : Bool) (p : PList) (e : Entry) : PList := { p with acc := p.acc.addTerm aggExp (termOf aggExp (unKey e.key)) }

/-- The key of the last resident entry, or zero (R149). -/
def lastKey (l : List Entry) : Nat := match l.getLast? with | some e => e.key | none => 0

/-- A selection absorbs one entry: the loop of R150. -/
def PList.absorb (aggExp : Bool) (k : Nat) (p : PList) (score : F32) (e : Entry) : PList :=
  if !ffinite score then { p with dropped := sat32 p.dropped 1 }
  else if p.entries.length < k then
    let es := insBy Entry.before e p.entries
    { p with entries := es, kthKey := lastKey es }
  else
    match p.entries.getLast? with
    | none => p
    | some last =>
      let r : List Entry × Entry := if e.before last then (insBy Entry.before e p.entries.dropLast, last) else (p.entries, e)
      let k1 := lastKey r.1
      let tie0 := if k1 = last.key then p.tie else 0
      let p1 := p.rest aggExp r.2
      { p1 with entries := r.1, kthKey := k1, tie := if r.2.key = k1 then tie0 + 1 else tie0 }

/-- A version is newer than another (R165). -/
def newerVersion (a b : Nat) : Bool :=
  let d := (a + 2 ^ 32 - b) % 2 ^ 32
  decide (1 ≤ d) && decide (d ≤ 2 ^ 31 - 1)

/-- What duplicate removal keeps of two entries of one row, and whether they diverge (R165). -/
def keepOf (homeOf : Nat → Nat) (a b : Entry) : Entry × Bool :=
  if newerVersion a.version b.version then (a, false)
  else if newerVersion b.version a.version then (b, false)
  else if a.key = b.key then (a, false)
  else
    let h := homeOf a.rowId
    let first := if a.before b then a else b
    if a.source = h ∧ b.source ≠ h then (a, true)
    else if b.source = h ∧ a.source ≠ h then (b, true)
    else (first, true)

/-- The union of two entry lists with duplicates removed: entries in result order, the diverging pairs, and how many were removed. -/
def unionEntries (homeOf : Nat → Nat) (xs ys : List Entry) : List Entry × List (Entry × Entry) × Nat :=
  ys.foldl (fun (acc : List Entry × List (Entry × Entry) × Nat) e =>
    match acc.1.find? (fun a => decide (a.rowId = e.rowId) && decide (a.collId = e.collId)) with
    | none => (insBy Entry.before e acc.1, acc.2.1, acc.2.2)
    | some a =>
      let k := keepOf homeOf a e
      let others := acc.1.filter (fun x => !(decide (x.rowId = e.rowId) && decide (x.collId = e.collId)))
      (insBy Entry.before k.1 others, if k.2 then acc.2.1 ++ [(a, e)] else acc.2.1, acc.2.2 + 1))
    (xs, [], 0)

/-- Damaged side entries kept by a producer or a merge (R167): those not strictly below the k-th key, greatest first, up to the cap;
and the number beyond it. -/
def keepDamaged (cap kth : Nat) (l : List Entry) : List Entry × Nat :=
  let s := sortBy Entry.before (l.filter (fun e => decide (kth ≤ e.key)))
  (s.take cap, s.length - cap)

/-- The union of the entries of some lists, in result order and with duplicates removed (R164, R165), the diverging pairs, and how many were removed. -/
def unionOf (homeOf : Nat → Nat) (ls : List PList) : List Entry × List (Entry × Entry) × Nat :=
  ls.foldl (fun (acc : List Entry × List (Entry × Entry) × Nat) p =>
    let u := unionEntries homeOf acc.1 p.entries
    (u.1, acc.2.1 ++ u.2.1, acc.2.2 + u.2.2)) ([], [], 0)

/-- A sum that saturates at 32 bits. -/
def sumSat (ls : List PList) (f : PList → Nat) : Nat := ls.foldl (fun n p => sat32 n (f p)) 0

/-- Merges a set of partial lists into the list of `source` (R164, R165, R167): the cut to k entries, the ties and the damaged side entries are taken
over the whole set, so that the order of arrival does not matter (R170). -/
def PList.merge (aggExp : Bool) (k cap : Nat) (homeOf : Nat → Nat) (source : Nat) (ls : List PList) : PList :=
  let u := (unionOf homeOf ls).1
  let res := u.take k
  let out := u.drop k
  let kth := lastKey res
  let dm := keepDamaged cap kth (ls.flatMap (fun p => p.damaged))
  { source := source
    entries := res
    damaged := dm.1
    pruned := ls.any (fun p => p.pruned)
    kthKey := kth
    tie := sat32 (out.filter (fun e => decide (e.key = kth))).length (sumSat ls (fun p => if p.entries ≠ [] ∧ p.kthKey = kth then p.tie else 0))
    dropped := sumSat ls (fun p => p.dropped)
    damagedExtra := sat32 (sumSat ls (fun p => p.damagedExtra)) dm.2
    skipped := sumSat ls (fun p => p.skipped)
    scanned := sumSat ls (fun p => p.scanned)
    minMargin := (ls.map (fun p => p.minMargin)).foldl fmin f32Inf
    acc := out.foldl (fun a e => a.addTerm aggExp (termOf aggExp (unKey e.key))) ((ls.map (fun p => p.acc)).foldl Acc.merge (Acc.empty aggExp))
    bound := (ls.map (fun p => p.bound)).foldl BoundPart.add BoundPart.empty }

/-- Sum of two exact numbers for one rounding: a part far below the other's last bit counts as a sticky bit. -/
def dyAddFar (a b : Dy) : Dy :=
  let top (x : Dy) : Int := (Nat.log2 x.m.natAbs : Int) + x.e
  if a.m = 0 then b
  else if b.m = 0 then a
  else if top b + 1000 < a.e then Dy.add a ⟨if b.m < 0 then -1 else 1, a.e - 1000⟩
  else if top a + 1000 < b.e then Dy.add b ⟨if a.m < 0 then -1 else 1, b.e - 1000⟩
  else Dy.add a b

/-- One end of the reported rest interval (R161). -/
def restEnd (rm : Rm) (acc : Acc) (b : F32) (bexp stab : Int) : F32 :=
  if ffinite b then f32OfDy rm (Dy.scale (dyAddFar acc.dy (Dy.scale (fdy b) bexp)) (-stab)) else b

/-- The aggregate fields of a completed query: AGG_FLAGS bits [1] and [2] as a number, SEL_SUM, REST_LO, REST_HI, STAB_EXP (R161). -/
structure AggOut where
  restExact : Bool
  overflow : Bool
  sel : F32
  restLo : F32
  restHi : F32
  stab : Int
  deriving DecidableEq, Repr

/-- The first entry has no n that STAB_EXP can hold (R157, R161): its t lies beyond ±2^31. -/
def stabOpen (aggExp : Bool) (p : PList) : Bool :=
  aggExp && (match p.entries with
    | [] => false
    | e :: _ => (match termOf true (unKey e.key) with | .exact _ _ => false | _ => true))

/-- The reported aggregates (R161); `opn` is STAB_EXP where `stabOpen` holds, which the manual leaves open. -/
def aggregates (aggExp : Bool) (opn : Int) (p : PList) : AggOut :=
  let selAcc := p.entries.foldl (fun a e => a.addTerm aggExp (termOf aggExp (unKey e.key))) (Acc.empty aggExp)
  let stab : Int := if !aggExp then 0 else
    match p.entries with
    | [] => 0
    | e :: _ => match termOf true (unKey e.key) with | .exact _ n => n | _ => opn
  let excess := selAcc.overflow || p.acc.overflow
  if excess then ⟨!p.pruned, true, f32Inf, f32Inf, f32Inf, stab⟩
  else
    let sel := f32OfDy .rne (Dy.scale selAcc.dy (-stab))
    if !p.pruned then
      let r := f32OfDy .rne (Dy.scale p.acc.dy (-stab))
      ⟨true, false, sel, r, r, stab⟩
    else ⟨false, false, sel, restEnd .down p.acc p.bound.lo p.bound.e stab, restEnd .up p.acc p.bound.hi p.bound.e stab, stab⟩

/-- DAMAGED_SEEN and DAMAGED_BOUND (R168). -/
def damagedSeen (p : PList) : Nat × Bool :=
  if p.damagedExtra = 0 then ((p.damaged.filter (fun e => decide (p.kthKey ≤ e.key))).length, false)
  else (sat32 p.damaged.length p.damagedExtra, true)

/-- Bytes between result records (R173). -/
def recordStride (k : Nat) : Nat := roundUp (64 + 16 * k) 64

/-- A 32-bit two's complement field. -/
def le32i (i : Int) : List Byte := le 4 (i % ((2 ^ 32 : Nat) : Int)).toNat

/-- The header of the record of a query that completed with OK, SHORT or ROW_DAMAGED (Table CFL-5). -/
def resultHeader (ag : AggOut) (aggExp : Bool) (idx readEpoch mapVersion status : Nat) (p : PList) : List Byte :=
  let ds := damagedSeen p
  [BitVec.ofNat 8 status, BitVec.ofNat 8 (b2n aggExp + 2 * b2n ag.restExact + 4 * b2n ag.overflow + 8 * b2n ds.2)]
    ++ le 2 idx ++ le 2 p.entries.length ++ le 2 0 ++ le 8 readEpoch ++ le 4 mapVersion
    ++ le 4 p.tie ++ le 4 p.dropped ++ le 4 ds.1 ++ le 4 p.kthKey ++ le 4 p.minMargin.toNat ++ le 4 p.skipped ++ le 4 p.scanned
    ++ le 4 ag.sel.toNat ++ le 4 ag.restLo.toNat ++ le 4 ag.restHi.toNat ++ le32i ag.stab

/-- The k entries of a record, null entries after the last (R147, R173). -/
def resultEntries (outliers : Bool) (k lead : Nat) (p : PList) : List Byte :=
  (p.entries.map (fun e => Entry.bytes { e with damaged := false } (decide (e.source ≠ lead)) outliers)).flatten
    ++ (List.replicate (k - p.entries.length) nullEntry).flatten

/-- The header of the record of a query that completed with another status (R174). -/
def failHeader (idx readEpoch mapVersion status : Nat) : List Byte :=
  [BitVec.ofNat 8 status, 0] ++ le 2 idx ++ le 4 0 ++ le 8 readEpoch ++ le 4 mapVersion ++ zeros 44

/-- The record of a query that completed with OK, SHORT or ROW_DAMAGED (R173, Table CFL-5). -/
def resultRecord (ag : AggOut) (aggExp outliers : Bool) (k idx lead readEpoch mapVersion status : Nat) (p : PList) : List Byte :=
  resultHeader ag aggExp idx readEpoch mapVersion status p ++ resultEntries outliers k lead p ++ zeros (recordStride k - 64 - 16 * k)

/-- The record of a query that completed with another status (R174). -/
def failRecord (k idx readEpoch mapVersion status : Nat) : List Byte :=
  failHeader idx readEpoch mapVersion status ++ (List.replicate k nullEntry).flatten ++ zeros (recordStride k - 64 - 16 * k)

/-! ### Attention output (R225, R226, R229) -/

/-- Bytes between the records of an attention batch (R229). -/
def attStride (headDim k : Nat) (entries : Bool) : Nat := roundUp (128 + 4 * headDim + (if entries then 16 * k else 0)) 64

/-- w_i (R225) of a selected score. -/
def attWeight (stab : Int) (s : F32) : F32 :=
  let t := fdy (fmul .rne s log2e)
  let n := Dy.floor t
  f32OfDy .rne (Dy.scale (fdy (exp2Frac (Dy.sub t (Dy.ofInt n)))) (n - stab))

/-- One channel of the output (R225): weights and stored values in result order. -/
def attChannel (sel : F32) (w vals : List F32) : F32 := if w = [] then 0 else fdiv .rne (pairwise .rne (List.zipWith (fun a b => fmul .rne a b) w vals)) sel

/-- One end of the remainder mass, ρ ÷ (E_SEL + ρ) (R226). -/
def massEnd (rm : Rm) (sel rho : Dy) : F32 :=
  if rho.m = 0 then 0
  else
    let d := dyAddFar sel rho
    BitVec.ofNat 32 (fmt32.round rm false rho.m.natAbs d.m.natAbs (rho.e - d.e))

/-- MASS_LO and MASS_HI (R226). -/
def attMass (ag : AggOut) (p : PList) : F32 × F32 :=
  if ag.overflow then (f32Inf, f32Inf)
  else
    let sel := (p.entries.foldl (fun a e => a.addTerm true (termOf true (unKey e.key))) (Acc.empty true)).dy
    let rho (b : F32) : Dy := if p.pruned then dyAddFar p.acc.dy (Dy.scale (fdy b) p.bound.e) else p.acc.dy
    (massEnd .down sel (rho p.bound.lo), if p.pruned && !ffinite p.bound.hi then f32One else massEnd .up sel (rho p.bound.hi))

/-- What an attention record holds beside its header and output (R229). -/
def attTail (mass : F32 × F32) (tokens : Nat) (out : List F32) (entries : List Byte) (pad : Nat) : List Byte :=
  le 4 mass.1.toNat ++ le 4 mass.2.toNat ++ le 4 tokens ++ zeros 52 ++ out.flatMap (fun o => le 4 o.toNat) ++ entries ++ zeros pad

/-- The record of a failed attention query (R229, R174). -/
def attFail (headDim k : Nat) (entries : Bool) (idx limit status : Nat) : List Byte :=
  let es : List Byte := if entries then (List.replicate k nullEntry).flatten else []
  failHeader idx limit 0 status ++ attTail (0, 0) 0 (List.replicate headDim 0) es (attStride headDim k entries - 128 - 4 * headDim - es.length)

/-- The 128-byte header of a partial list (Table CFL-4). -/
def PList.header (p : PList) (tag : Nat) (extraSet : Bool) : List Byte :=
  le 8 tag ++ le 2 p.source ++ le 2 p.entries.length ++ le 1 p.damaged.length
    ++ le 1 (b2n p.pruned + 2 * b2n p.acc.sticky + 4 * b2n p.acc.overflow + 8 * b2n extraSet) ++ le 2 0
    ++ le 4 p.kthKey ++ le 4 p.tie ++ le 4 p.dropped ++ le 4 p.damagedExtra ++ le 4 p.skipped ++ le 4 p.scanned
    ++ le 4 p.minMargin.toNat ++ le32i p.acc.lo ++ le 4 p.bound.lo.toNat ++ le 4 p.bound.hi.toNat ++ le32i p.bound.e ++ le 4 0
    ++ le 64 (p.acc.val % ((2 ^ 512 : Nat) : Int)).toNat

/-- Bytes between the records of a batch (R173, R229). -/
def QBatch.stride (b : QBatch) : Nat := match b.att with | none => recordStride b.k | some (hd, es) => attStride hd b.k es

/-- The record of a query of a batch that completed with another status (R174, R229). -/
def QBatch.failBytes (b : QBatch) (y : Query) (status : Nat) : List Byte :=
  match b.att with
  | none => failRecord b.k y.idx b.readEpoch y.mapVersion status
  | some (hd, es) => attFail hd b.k es y.idx y.limit status

/-- A candidate that is neither re-scored nor settled out (R88). -/
def Cand.open (c : Cand) : Bool := !c.damaged && !c.rescored && !c.settledOut

/-- Descending upper end, ties in ascending row id (R86). -/
def Cand.sooner (a b : Cand) : Bool := decide (sortKey b.hi < sortKey a.hi) || (decide (a.hi = b.hi) && decide (a.rowId < b.rowId))

/-- A query that is live on this node: neither stopped alone nor complete here. -/
def Query.live (q : Query) : Bool := q.status.isNone && !q.done && !q.complete

end Sys2Proof
end

