-- ==== Sys2Proof/Machine/Luns.lean ====
section
/-! DEFINITION. The order in which a LUN serves its queue, and the ends of programs and erases (chapter 11: R342, R349, R352, R353). -/

namespace Sys2Proof

/-- The priority classes of a LUN (R342). -/
inductive LunCls where
  | demand | write | prefetch | background
  deriving DecidableEq, Repr

/-- The class of a page program: a page of copies is background work, for fold, reclaim or relocation. -/
def Prog.cls (p : Prog) : LunCls := if p.sectors.any (fun x => decide (x.1.typ = 0) && x.2.isNone) then .write else .background

end Sys2Proof

namespace Sys2Proof.Machine

/-- The candidate that R86 re-scores next. -/
def Query_next (q : Query) : Option Cand := (sortBy Cand.sooner (q.cands.filter (fun x => x.open))).head?

/-- The LUN that a read of a mutable sector goes to; an entry that is not MAPPED touches no flash. -/
def State.lsnLun (s : State) (space lsn : Nat) : Option Nat :=
  match s.mapEnt space lsn with | some (.mapped p) => some (lunOf (psaBlock p)) | _ => none

/-- The LUN that a read of a sector of an extent goes to. -/
def State.extLun (s : State) (e i : Nat) : Option Nat :=
  (Tbl.find e s.delta.extents).bind (fun x => (x.blocks[i / s.delta.geom.tlc]?).map lunOf)

/-- The LUN that the re-score of a slot's row reads. -/
def State.refLun (s : State) (c : Coll) (i : Nat) : Option Nat :=
  match c.refExt with
  | some e => s.extLun e (c.desc.slotLsn c.base i - c.base)
  | none => s.lsnLun c.space (c.desc.slotLsn c.base i)

/-- The LUNs that re-scores wait on: of each live query of a batch that runs, the candidate that comes next (R86). -/
def State.scoreLuns (s : State) : List Nat :=
  s.search.qbatches.flatMap (fun b => match s.coll b.2.coll, s.batch b.1 with
    | some c, some x => if x.stage = .active ∧ x.torn = none then
        b.2.queries.filterMap (fun q => if q.live then (Query_next q).bind (fun y => s.refLun c y.slot) else none) else []
    | _, _ => [])

/-- The LUN that a fill of a page reads, when the page comes from an extent. -/
def State.fillLun (s : State) (f : Fill) : Option Nat :=
  if f.basin.isSome then none
  else ((Tbl.find f.obj s.slc.objs).bind (·.extent)).bind (fun e => (Tbl.find e s.delta.extents).bind (fun x => s.extLun e (ExtentSt_first x + 16 * f.page)))

/-- The LUNs that fills wait on: prefetches, or demand fills. -/
def State.fillLuns (s : State) (prefetch : Bool) : List Nat := (s.ferry.fills.filter (fun f => f.prefetch == prefetch)).filterMap s.fillLun

/-- The class of a block's erase: that of the programs which wait for it, or background for a block that was relocated. -/
def State.eraseCls (s : State) (b : Nat) : LunCls :=
  if (s.blk b).state = .taken ∧ s.delta.progs.any (fun p => decide (p.block = b) && decide (p.cls = .write)) then .write else .background

/-- The work of a LUN in a class that its queue holds beside reads: programs to blocks that are erased, and erases. -/
def State.lunWork (s : State) (lun : Nat) (c : LunCls) : Bool :=
  s.delta.progs.any (fun p => decide (lunOf p.block = lun) && decide ((s.blk p.block).state = .opened) && decide (p.cls = c))
    || (s.lunBlocks lun).any (fun b => (decide (b.2.state = .taken) || decide (b.2.state = .erasing)) && decide (s.eraseCls b.1 = c))

/-- The rank of a class on a LUN (R342): background work rises above writes below FREE_LOW, and above demand reads below FREE_CRIT. -/
def State.lunRank (s : State) (lun : Nat) (c : LunCls) : Nat :=
  match c with
  | .demand => 2 | .write => 4 | .prefetch => 6
  | .background => if s.freeBlocks lun < s.freeMarks.2.2 then 1 else if s.freeBlocks lun < s.freeMarks.1 then 3 else 8

/-- The target of a LUN can suspend a program or erase for a demand read (R342). -/
def State.suspends (s : State) (lun : Nat) : Bool :=
  match Tbl.find (lun / 32) s.delta.chans with | some c => c.suspend.contains (lun % 32 / 4) | none => false

/-- A LUN has work of a better class than `c` in its queue (R342). A demand read goes before a program or erase in progress only where the device can suspend
it. -/
def State.lunBusy (s : State) (lun : Nat) (c : LunCls) : Bool :=
  let better (d : LunCls) : Bool := decide (s.lunRank lun d < s.lunRank lun c)
  (better .demand && (decide (c = .prefetch) || s.suspends lun) && (s.scoreLuns.contains lun || (s.fillLuns false).contains lun))
    || (better .write && s.lunWork lun .write) || (better .background && s.lunWork lun .background)
    || (better .prefetch && (s.fillLuns true).contains lun)

/-- A read of a class waits for its LUN. -/
def State.readWaits (s : State) (lun : Option Nat) (c : LunCls) : Bool := match lun with | some l => s.lunBusy l c | none => false

/-- PROGRAM_COMPLETE (R349, R353): the oldest program in flight to a block that has been erased ends, unless its LUN serves other work first (R342). -/
def State.programDone (s : State) (block : Nat) (passed : Bool) : State :=
  if (s.blk block).state ≠ .opened then s
  else match takeFirst (fun (p : Prog) => decide (p.block = block)) s.delta.progs with
    | none => s
    | some (p, rest) =>
      if s.lunBusy (lunOf block) p.cls then s
      else let s := s.chargeLun (s.spaceComp (s.blk block).space) (lunOf block) 1
      if passed then
        let first := (s.blk block).sectors.length
        let s1 := (s.delta! (fun d => { d with progs := rest })).blk! block (fun x => { x with sectors := x.sectors ++ p.sectors.map (·.1) })
        (s1.mapPage block first p.sectors).closeFull block
      else s.retire block

/-- ERASE_COMPLETE (R352, R353): the erase count rises; the block is ready for its write point, or free; a failed erase retires it. A block that is
relocated is erased only after the programs of its copies. -/
def execEraseComplete (block : Nat) (passed : Bool) (s : State) : Host.Outcome State Fault Refusal :=
  ok (if s.lunBusy (lunOf block) (s.eraseCls block) then s else match (s.blk block).state with
    | .taken =>
      let s := s.chargeLun (s.spaceComp (s.blk block).space) (lunOf block) 2
      let s1 := s.blk! block (fun x => { x with erases := x.erases + 1 })
      if passed then s1.blk! block (fun x => { x with state := .opened }) else s1.retire block
    | .erasing =>
      if s.delta.progs.any (fun p => p.sectors.any (fun x => decide (x.2.map psaBlock = some block))) then s
      else
        let s := s.chargeLun (s.spaceComp (s.blk block).space) (lunOf block) 2
        let s1 := s.blk! block (fun x => { x with erases := x.erases + 1, sectors := [], space := 0 })
        if passed then s1.blk! block (fun x => { x with state := .free, slc := false }) else s1.retire block
    | _ => s)

end Sys2Proof.Machine
end

