-- ==== Sys2Proof/Machine/Ferry.lean ====
section
/-! DEFINITION. Ferry: quotas, moves and their descriptors, the shared pool, fills and prefetch, poisoning, buffers (chapters 10 and 07). -/

namespace Sys2Proof

/-- A Ferry descriptor (Table FRY-4). -/
structure FDesc where
  raw : List Byte
  deriving DecidableEq, Repr

/-- OP. -/
def FDesc.op (d : FDesc) : Nat := natAt d.raw 0 1
/-- FLAGS. -/
def FDesc.flags (d : FDesc) : Nat := natAt d.raw 1 1
/-- TRANSPOSE. -/
def FDesc.transpose (d : FDesc) : Bool := bit d.flags 0
/-- MATRIX. -/
def FDesc.matrix (d : FDesc) : Bool := bit d.flags 1
/-- NO_PAGE. -/
def FDesc.noPage (d : FDesc) : Bool := bit d.flags 2
/-- NO_POOL. -/
def FDesc.noPool (d : FDesc) : Bool := bit d.flags 3
/-- SRC_KIND. -/
def FDesc.srcKind (d : FDesc) : Nat := natAt d.raw 2 1
/-- DST_KIND. -/
def FDesc.dstKind (d : FDesc) : Nat := natAt d.raw 3 1
/-- TILE_FMT. -/
def FDesc.fmt (d : FDesc) : Nat := natAt d.raw 4 1
/-- TAG. -/
def FDesc.tag (d : FDesc) : Nat := natAt d.raw 6 2
/-- SRC. -/
def FDesc.src (d : FDesc) : Nat := natAt d.raw 8 8
/-- DST. -/
def FDesc.dst (d : FDesc) : Nat := natAt d.raw 0x10 8
/-- LENGTH. -/
def FDesc.len (d : FDesc) : Nat := natAt d.raw 0x18 4
/-- ROWS. -/
def FDesc.rows (d : FDesc) : Nat := natAt d.raw 0x20 4
/-- COLS. -/
def FDesc.cols (d : FDesc) : Nat := natAt d.raw 0x24 4
/-- ROW_PITCH. -/
def FDesc.pitch (d : FDesc) : Nat := natAt d.raw 0x28 4
/-- ROW0. -/
def FDesc.row0 (d : FDesc) : Nat := natAt d.raw 0x2C 4
/-- COL0. -/
def FDesc.col0 (d : FDesc) : Nat := natAt d.raw 0x30 4

/-- Bits of an element of a MATRIX format (Table RIL-3). -/
def tileElemBits (fmt : Nat) : Nat := match fmt with | 1 => 4 | 2 => 2 | 3 => 1 | _ => 8
/-- Elements of a line of a MATRIX format. -/
def tileLine (fmt : Nat) : Nat := match fmt with | 2 => 256 | 3 => 512 | _ => 128
/-- Tile sizes of Table RIL-3. -/
def tileSize (fmt : Nat) : Nat :=
  match fmt with
  | 1 => 4096 | 2 => 4096 | 3 => 4096 | 4 => 8192 | 5 => 2048 | 6 => 2048 | 7 => 512 | 8 => 2048
  | _ => 64

/-- The number in a 16-bit object operand. -/
def FDesc.objId (v : Nat) : Nat := v % 65536
/-- Byte offset of an object operand. -/
def FDesc.objOff (v : Nat) : Nat := v / 65536

/-- The alignment rules of Table FRY-4 for an operand. -/
def FDesc.aligned (d : FDesc) (kind v : Nat) : Bool :=
  match kind with
  | 1 => decide (d.fmt = 0) || decide (FDesc.objOff v % 64 = 0)
  | _ => decide (v % 64 = 0)

/-- The descriptor breaks no format rule (Table FRY-4, status FORMAT). -/
def FDesc.formatOk (d : FDesc) : Bool :=
  (decide (d.op = 1) || decide (d.op = 2)) && decide (d.flags < 16) && decide (d.srcKind ≤ 2) && (decide (d.op = 2) || decide (d.dstKind ≤ 2))
    && decide (d.fmt ≤ 8) && decide (natAt d.raw 5 1 = 0) && decide (natAt d.raw 0x1C 4 = 0) && decide (natAt d.raw 0x34 12 = 0)
    && decide (64 ≤ d.len) && decide (d.len ≤ 2 ^ 21) && decide (d.len % 64 = 0) && decide (d.len % tileSize d.fmt = 0)
    && (!d.matrix || (decide (1 ≤ d.fmt) && decide (d.fmt ≤ 4) && decide (d.pitch % 8 = 0) && decide (d.col0 % 8 = 0)))
    && d.aligned d.srcKind d.src && (decide (d.op = 2) || d.aligned d.dstKind d.dst) && (decide (d.op = 1) || decide (d.srcKind = 1))

/-- Bytes of source that the descriptor covers from SRC: the bytes copied, or the rows of the matrix. -/
def FDesc.srcLen (d : FDesc) : Nat :=
  if d.matrix then (if d.rows = 0 then 0 else (d.rows - 1) * d.pitch + cdiv (d.cols * tileElemBits d.fmt) 8) else d.len

/-- Element (r, c) of the source matrix; zero outside it (R318). -/
def FDesc.elem (d : FDesc) (src : List Byte) (r c : Nat) : Nat :=
  if r < d.rows ∧ c < d.cols then
    let w := tileElemBits d.fmt
    bits (natAt src (r * d.pitch + c * w / 8) 1) (c * w % 8) w
  else 0

/-- Packs elements of a line in ascending order. -/
def packLine (w : Nat) (l : List Nat) : List Byte := le (l.length * w / 8) (l.reverse.foldl (fun a e => a * 2 ^ w + e) 0)

/-- The destination bytes of a MATRIX move (R318): tiles advance along the reduction first, then by 64 lines. -/
def FDesc.tiles (d : FDesc) (src : List Byte) : List Byte :=
  let w := tileElemBits d.fmt
  let n := tileLine d.fmt
  let span := if d.transpose then d.rows - d.row0 else d.cols - d.col0
  let across := Nat.max 1 (cdiv span n)
  (List.range (d.len / tileSize d.fmt)).flatMap (fun t =>
    let red := t % across * n
    let line0 := t / across * 64
    (List.range 64).flatMap (fun l => packLine w ((List.range n).map (fun e =>
      if d.transpose then d.elem src (d.row0 + red + e) (d.col0 + line0 + l) else d.elem src (d.row0 + line0 + l) (d.col0 + red + e)))))

/-- What a move writes, of the source bytes. -/
def FDesc.result (d : FDesc) (src : List Byte) : List Byte := if d.matrix then d.tiles src else src.take d.len

/-- Pages that `[off, off + n)` touches. -/
def pagesOf (off n : Nat) : List Nat := if n = 0 then [] else (List.range ((off + n - 1) / 65536 - off / 65536 + 1)).map (fun i => off / 65536 + i)

/-- A weight object that is being loaded: its mirror has not acknowledged every tile (R235). -/
def Obj.loading (o : Obj) : Bool := match o.kind with | .weight w => w.loadMsg.isSome | _ => false

/-- A weight object whose mirror is being written. -/
def Obj.mirroring (o : Obj) : Bool := match o.kind with | .weight w => w.pendingMirror.isSome | _ => false

end Sys2Proof

namespace Sys2Proof

/-- Quotas of a composition in bytes: Millrace, Basin, flash (R432). -/
def Comp.quotaBytes (c : Comp) (tier : Nat) : Nat :=
  match tier with | 0 => c.f 0x14 2 * 2 ^ 30 | 1 => c.f 0x16 2 * 2 ^ 30 | _ => c.f 0x20 4 * 1000000000

/-- Bytes of a tier that a composition uses. -/
def Comp.used (c : Comp) (tier : Nat) : Nat := match tier with | 0 => c.usedMillrace | 1 => c.usedBasin | _ => c.usedFlash

/-- Adds to or takes from the use of a tier. -/
def Comp.setUsed (c : Comp) (tier v : Nat) : Comp :=
  match tier with | 0 => { c with usedMillrace := v } | 1 => { c with usedBasin := v } | _ => { c with usedFlash := v }

/-- Writes into scratch as a composition: each 64 KiB segment that another composition wrote last is cleared first, then tagged (R246). -/
def Core.scratchWrite (c : Core) (comp off : Nat) (bs : List Byte) : Core :=
  let segs := if bs = [] then [] else (List.range ((off + bs.length - 1) / 65536 - off / 65536 + 1)).map (fun i => off / 65536 + i)
  let c1 := segs.foldl (fun x g => if Tbl.getD g (comp + 1) x.tags = comp + 1 then x else { x with scratch := Mem.zeroRange x.scratch (g * 65536) 65536, badLines := x.badLines.filter (fun l => decide (l / 1024 ≠ g)) }) c
  { c1 with
    scratch := Mem.writeBytes c1.scratch off bs
    tags := segs.foldl (fun m g => Tbl.put g (comp + 1) m) c1.tags
    badLines := c1.badLines.filter (fun l => decide (l < cdiv off 64) || decide ((off + bs.length) / 64 ≤ l)) }

end Sys2Proof

namespace Sys2Proof.Machine

/-! ### Quotas and usable capacities -/

/-- Bytes of admin buffers (R482). -/
def State.adminBytes (s : State) : Nat := sumL ((s.slc.objs.filter (fun o => decide (o.1 / 65536 = 64))).map (fun o => o.2.bytes))
/-- USABLE_MILLRACE_GIB (R598). -/
def State.usableMill (s : State) : Nat := s.millUp * 48000000000 / 2 ^ 30
/-- Basin bytes outside pool, map cache, the node's own areas and admin buffers. -/
def State.basinSpare (s : State) : Nat :=
  s.basinUp * 64000000000 - (s.fld Reg.FRY_BPOOL 0 16 + s.fld Reg.DLT_MAP 0 16) * 2 ^ 30 - 512 * 2 ^ 20 - s.adminBytes
/-- USABLE_BASIN_GIB (R598). -/
def State.usableBasin (s : State) : Nat := s.basinSpare / 2 ^ 30
/-- USABLE_FLASH_GB (R598). -/
def State.usableFlash (s : State) : Nat :=
  let raw := sumL (s.delta.chans.map (fun c => c.2.targets.length)) * s.delta.geom.luns * s.delta.geom.planes * s.delta.geom.blocks * s.delta.geom.pages * 16384
  (raw - raw * s.opPct / 100 - raw * 5 / 1000) / 1000000000

/-- Bytes that count against a quota. -/
def State.quotaUse (s : State) (comp : Nat) (c : Comp) (tier : Nat) : Nat := Comp.used c tier + (if tier = 0 then s.popExtra comp else 0)

/-- An allocation of tier 0 (Millrace), 1 (Basin) or 2 (flash): `none` when it would pass the quota (R314, R432); the admin role's buffers come from
Basin outside every quota (R482). -/
def State.allocate (s : State) (comp tier bytes : Nat) : Option State :=
  if comp = 64 then
    let quotas := sumL (s.slc.comps.map (fun c => Comp.quotaBytes c.2 1))
    if tier = 1 ∧ quotas + bytes ≤ s.basinSpare then some s else none
  else match s.comp comp with
    | none => none
    | some c => if s.quotaUse comp c tier + bytes ≤ Comp.quotaBytes c tier then some (s.comp! comp (fun x => Comp.setUsed x tier (Comp.used x tier + bytes))) else none

/-- Releases an allocation. -/
def State.release (s : State) (comp tier bytes : Nat) : State := s.comp! comp (fun x => Comp.setUsed x tier (Comp.used x tier - bytes))

/-- The tier of an object's home: 1 Basin, 2 flash. -/
def Obj_tier (o : Obj) : Nat := match o.kind with | .weight w => w.tier | .refExtent _ => 2 | _ => 1

/-! ### Poisoning (R236 to R238) -/

/-- Ends a batch without a fault record or a torn context (R238, R321): its tasks stop, its moves and operations are detached, and it replies. -/
def State.endTasks (s : State) (b : Nat) : State :=
  let mine := (s.slc.tasks.filter (fun t => decide (t.2.batch = b))).map (·.1)
  let ctxs := (s.slc.ctxs.filter (fun c => decide (c.2.batch = b) && decide (c.2.state ≠ .quiet))).map (·.1)
  let s1 := mine.foldl (fun t k => t.dropTask k) s
  let s2 := (s1.haltBatch b).ferry! (fun f => { f with moves := f.moves.map (fun m => (m.1, if m.2.batch = b then { m.2 with task := none } else m.2)) })
  let s3 := s2.trib! (fun t => { t with ops := t.ops.filter (fun o => match o.2.task with | some k => !mine.contains k | none => true) })
  ctxs.foldl (fun t c => t.releaseSems c true) s3

/-- The lead's queries that have not completed complete with a status: their records are written (R174, R175), and the query batch is gone. -/
def State.failQueries (s : State) (b status : Nat) : State :=
  match Tbl.find b s.search.qbatches with
  | none => s
  | some qb =>
    let s1 := match s.outMsg b with
      | none => s
      | some m => qb.queries.foldl (fun (t : State) (q : Query) => if q.complete then t else
          (t.output m (qb.resultAddr + q.idx * qb.stride) (qb.failBytes q status)).count Reg.SND_CNT0 0 1) s
    s1.search! (fun x => { x with qbatches := Tbl.erase b x.qbatches })

/-- The chained query batch of a MODEL_RUN batch. -/
def State.childOf (s : State) (b : Nat) : Option Nat := (s.slc.batches.find? (fun x => decide (x.2.parent = some b))).map (·.1)

/-- Completes a batch with OBJECT_POISONED (R238); a chained query batch of it ends with it. -/
def State.poisonBatch (s : State) (b : Nat) : State :=
  match s.childOf b with
  | some c => ((s.failQueries c stPoisoned).endTasks c).replyBatch c stPoisoned 0 []
  | none => ((s.failQueries b stPoisoned).endTasks b).replyBatch b stPoisoned 0 []

/-- Completes every batch that names an object and has not replied, with OBJECT_POISONED (R238). -/
def State.poisonBatches (s : State) (k : Nat) : State :=
  ((s.slc.batches.filter (fun b => b.2.objs.contains k && decide (b.2.torn = none))).map (·.1)).foldl (fun t b => t.poisonBatch b) s

/-- An object is poisoned (R237, R238); Gauge forms an OBJ_POISONED record. -/
def State.poisonObj (s : State) (k : Nat) : State :=
  match Tbl.find k s.slc.objs with
  | none => s
  | some o =>
    if o.poisoned then s
    else
      let kind := match o.kind with | .attention _ => 2 | .weight _ => 3 | _ => 4
      let f := s.free
      let s1 := (f.2.obj! k (fun x => { x with poisoned := true, kind := match x.kind with | .weight w => .weight { w with refetch := [] } | y => y })).ferry! (fun y => { y with
        fills := y.fills.filter (fun z => decide (z.obj ≠ k)), lake := y.lake.filter (fun z => !(decide (z.2.obj = k) && z.2.filling && !z.2.centre)) })
      let moves := (s1.ferry! (fun y => { y with
        moves := y.moves.map (fun m => (m.1, if FDesc.srcKind ⟨m.2.desc⟩ = 1 ∧ objKey m.2.comp (FDesc.objId (FDesc.src ⟨m.2.desc⟩)) = k ∧ m.2.status = 0
          then { m.2 with status := 1, waiting := [] } else m.2)) }))
      (moves.raise (unitOf 0x0E 0) 0x0009 .d none (k / 65536) 0x3FF 0 (memDetail f.1 kind (k % 65536) 0) 0).poisonBatches k

/-- A refetch of a weight object's tile from its mirror starts (R236): requests that need it stall; a JRO get goes to the mirror, and Gauge
logs a MIRROR_REFETCH record. -/
def State.startRefetch (s : State) (k tile mirror : Nat) : State :=
  let s1 := s.obj! k (fun o => { o with kind := match o.kind with
    | .weight w => .weight { w with refetch := Tbl.put tile (s.now + us (orIfZero (s.fld Reg.SND_CFG 0 16) 1)) w.refetch }
    | x => x })
  (s1.trib! (fun t => { t with fwOut := t.fwOut ++ [(mirror, 1, .refetch k tile)] })).logC (unitOf 0x0E 0) 0x0014 (k / 65536) 0x3FF 0 (tile + 2 ^ 32 * (k % 65536))

/-- An uncorrectable read of the home copy of a weight object's tile (R236, R237); `true` when a refetch runs. -/
def State.weightLoss (s : State) (k tile : Nat) : State × Bool :=
  match Tbl.find k s.slc.objs with
  | none => (s, false)
  | some o => match o.kind with
    | .weight w => (match w.mirror with
      | some n => if w.mirrorLost then (s.poisonObj k, false) else (if Tbl.has tile w.refetch then s else s.startRefetch k tile n, true)
      | none => (s.poisonObj k, false))
    | _ => (s.poisonObj k, false)

/-! ### The pool -/

/-- The two levels of the pool. -/
inductive Level where
  | lake | basin
  deriving DecidableEq, Repr

/-- Frames of a level. -/
def State.frames (s : State) (l : Level) : Tbl Frame := match l with | .lake => s.ferry.lake | .basin => s.ferry.basin
/-- Sets the frames of a level. -/
def State.frames! (s : State) (l : Level) (f : Tbl Frame → Tbl Frame) : State :=
  s.ferry! (fun y => match l with | .lake => { y with lake := f y.lake } | .basin => { y with basin := f y.basin })
/-- LIMIT and RESERVE of a composition at a level (R326). -/
def State.poolShare (s : State) (l : Level) (c : Nat) : Nat × Nat :=
  match s.comp c with
  | none => (0, 0)
  | some x => match l with
    | .lake => (x.f 0x24 2, x.f 0x26 2)
    | .basin => (x.f 0x28 4 % 2 ^ 24, x.f 0x2C 4 % 2 ^ 24)
/-- Frames that a composition holds at a level. -/
def State.poolHeld (s : State) (l : Level) (c : Nat) : Nat := match l with | .lake => s.lakeHeld c | .basin => s.basinHeld c
/-- A frame is pinned (R325). -/
def State.pinned (s : State) (l : Level) (i : Nat) (f : Frame) : Bool :=
  f.filling || f.centre || s.ferry.moves.any (fun m => match l with | .lake => m.2.frames.contains i | .basin => m.2.basins.contains i)
    || (match l with | .lake => false | .basin => s.ferry.fills.any (fun x => decide (x.basin = some i)))
/-- The free frame that is taken: Lake slices from the requesting quadrant on (R324). -/
def State.freeFrame (s : State) (l : Level) (quad : Nat) : Option Nat :=
  match l with
  | .basin => Tbl.freeFrom s.ferry.basin s.basinFrames 0
  | .lake => (List.range 4).findSome? (fun j => Tbl.freeFrom s.ferry.lake 640 ((quad + j) % 4 * 640))
/-- The unpinned frame with the greatest AGE, ties to the lower index, among some owners. -/
def State.oldestFrame (s : State) (l : Level) (own : Nat → Bool) : Option Nat :=
  let c := (s.frames l).filter (fun f => own f.2.comp && !s.pinned l f.1 f.2)
  ((sortBy (fun (a b : Nat × Frame) => decide (b.2.age < a.2.age)) c).head?).map (·.1)
/-- The frame that R326 gives: the frame, and whether it evicts. -/
def State.chooseFrame (s : State) (l : Level) (c quad : Nat) : Option (Nat × Bool) :=
  let sh := s.poolShare l c
  let held := s.poolHeld l c
  let free := s.freeFrame l quad
  let excess (d : Nat) : Bool := decide ((s.poolShare l d).2 < s.poolHeld l d)
  match (if held < sh.1 then free else none) with
  | some i => some (i, false)
  | none =>
    let two := if held < sh.2 ∨ (free.isNone ∧ held < sh.1) then s.oldestFrame l excess else none
    match two.orElse (fun _ => s.oldestFrame l (fun d => decide (d = c))) with
    | some i => some (i, true)
    | none => none

/-- The frame of a level that holds a page. -/
def State.findPage (s : State) (l : Level) (obj page : Nat) : Option Nat :=
  ((s.frames l).find? (fun f => decide (f.2.obj = obj) && decide (f.2.page = page) && !f.2.centre)).map (·.1)

/-- A page's home is flash. -/
def State.flashHome (s : State) (obj : Nat) : Bool := match Tbl.find obj s.slc.objs with | some o => decide (Obj_tier o = 2) | none => false

/-- Evicts a Basin-level frame (R328). -/
def State.evictBasin (s : State) (i : Nat) : State := (s.frames! .basin (Tbl.erase i)).count Reg.FRY_CNT0 5 1
/-- Evicts a Lake frame (R328): a page whose home is flash goes to a Basin-level frame of the same composition, if R326 gives one. -/
def State.evictLake (s : State) (i : Nat) : State :=
  match Tbl.find i s.ferry.lake with
  | none => s
  | some f =>
    let s1 := (s.frames! .lake (Tbl.erase i)).count Reg.FRY_CNT0 5 1
    if s.flashHome f.obj ∧ (s.findPage .basin f.obj f.page).isNone then
      match s1.chooseFrame .basin f.comp 0 with
      | some (j, ev) => (if ev then s1.evictBasin j else s1).frames! .basin (Tbl.put j { f with age := 0, bad := false })
      | none => s1
    else s1

/-- Starts a fill of a page (R324) from the home tier; `none` when R326 gives no frame. A prefetch page that would evict a frame below
PREFETCH_MIN_AGE is dropped (R334). -/
def State.startFill (s : State) (obj page c quad : Nat) (prefetch : Bool) : Option State :=
  match s.chooseFrame .lake c quad with
  | none => none
  | some (i, ev) =>
    let young := match Tbl.find i s.ferry.lake with | some f => decide (f.age < s.fld Reg.FRY_CFG 16 8) | none => false
    if prefetch && ev && young then none
    else
      let s1 := (if ev then s.evictLake i else s).ferry! (fun y => { y with
        lake := Tbl.put i ⟨obj, page, false, c, 0, true, false⟩ y.lake, fills := y.fills ++ [⟨obj, page, i, none, c, prefetch⟩] })
      let s2 := if prefetch then s1 else s1.setRaw (Reg.FRY_CFILL_c + 32 * c) (s1.raw (Reg.FRY_CFILL_c + 32 * c) + 1)
      some (if s.flashHome obj then s2.count Reg.FRY_CNT0 2 1 else s2)

/-- Queues the prefetch of a page (R333, R334). -/
def State.prefetchPage (s : State) (obj page c quad : Nat) : State :=
  if (s.findPage .lake obj page).isSome ∨ (s.findPage .basin obj page).isSome then s
  else
    let active := (s.ferry.fills.filter (fun f => decide (f.comp = c) && f.prefetch)).length
    match (if active < s.fld Reg.FRY_CFG 0 16 then s.startFill obj page c quad true else none) with
    | some t => t
    | none => s.count Reg.FRY_CNT0 6 1

/-! ### Moves -/

/-- The move's source is a page-pooled object: its key and the pages it reads. -/
def State.pooledSrc (s : State) (comp : Nat) (d : FDesc) : Option (Nat × List Nat) :=
  if d.srcKind = 1 then
    let k := objKey comp (FDesc.objId d.src)
    match Tbl.find k s.slc.objs with
    | some o => (match o.kind with
      | .weight _ => some (k, pagesOf (FDesc.objOff d.src) (if d.op = 2 then d.len else d.srcLen))
      | _ => none)
    | none => none
  else none

/-- The object rules of R317 for a task's operand. -/
def State.mayUse (s : State) (comp : Nat) (kind v : Nat) (isSrc : Bool) : Bool :=
  if kind ≠ 1 then true
  else match Tbl.find (objKey comp (FDesc.objId v)) s.slc.objs with
    | some o => o.dropMsg.isNone && (match o.kind with | .weight _ => isSrc | .buffer _ => true | _ => false)
    | none => false

/-- An operand lies inside its object, its scratch limit or 2 MiB (status BOUND). -/
def State.inside (s : State) (comp scratchBytes kind v n : Nat) : Bool :=
  match kind with
  | 0 => decide (v + n ≤ scratchBytes) && decide (v + n ≤ 2 ^ 21)
  | 1 => (match Tbl.find (objKey comp (FDesc.objId v)) s.slc.objs with | some o => decide (FDesc.objOff v + n ≤ o.bytes) | none => false)
  | _ => decide (v + n ≤ 2 ^ 64)

/-- The status that the checks of a descriptor give (Table FRY-5). -/
def State.moveCheck (s : State) (k : Task) (d : FDesc) : Nat :=
  if !d.formatOk then 5
  else if !(s.mayUse k.comp d.srcKind d.src true) || !(d.op = 2 || s.mayUse k.comp d.dstKind d.dst false) then 3
  else if !(s.inside k.comp k.scratchBytes d.srcKind d.src (if d.op = 2 then d.len else d.srcLen))
      || !(d.op = 2 || s.inside k.comp k.scratchBytes d.dstKind d.dst d.len) then 4
  else match (if d.srcKind = 1 then Tbl.find (objKey k.comp (FDesc.objId d.src)) s.slc.objs else none) with
    | some o => if o.poisoned && decide (d.op ≠ 2) then 1 else 0
    | none => 0

/-- Looks up the pages of a move (R323, R327, R331): those in a level are read there; the others are filled, or read from the home tier when no frame
is given or NO_POOL is set. -/
def State.lookup (s : State) (obj c quad : Nat) (noPool : Bool) (m : Move) : List Nat → State × Move
  | [] => (s, m)
  | p :: rest =>
    match s.findPage .lake obj p with
    | some i =>
      let fl := match Tbl.find i s.ferry.lake with | some f => f.filling | none => false
      if fl then s.lookup obj c quad noPool { m with waiting := m.waiting ++ [p] } rest
      else s.lookup obj c quad noPool { m with frames := m.frames ++ [i] } rest
    | none => match s.findPage .basin obj p with
      | some i => s.lookup obj c quad noPool { m with basins := m.basins ++ [i] } rest
      | none => match (if noPool then none else s.startFill obj p c quad false) with
        | some t => t.lookup obj c quad noPool { m with waiting := m.waiting ++ [p] } rest
        | none => s.lookup obj c quad noPool m rest

/-- Bytes of a core's scratch as a composition reads them: segments of another one read as zeros (R246). -/
def State.coreScratch (s : State) (n comp off len : Nat) : List Byte := Mem.readBytes ((s.touchSegs n comp off len).core n).scratch off len

/-- A line that meets `[off, off + n)` is listed. -/
def linesMeet (l : List Nat) (off n : Nat) : Bool := l.any (fun x => decide (x * 64 < off + n) && decide (off < x * 64 + 64))

/-- The descriptor that a task names (R316), and the state after the read of it. -/
def State.descAt (s : State) (n comp : Nat) (a : DescAt) : FDesc × State :=
  match a with
  | .reg v => (⟨le 64 (Tbl.getD v 0 (s.core n).regs.v)⟩, s)
  | .scratch off => (⟨s.coreScratch n comp off 64⟩, s.touchSegs n comp off 64)

/-- Issues a task's move (R316, R320, R331, R333): it is in flight until FERRY_MOVE_COMPLETE; a prefetch completes as soon as it is queued. -/
def State.issueMove (s : State) (n t : Nat) (k : Task) (d : FDesc) (extra : Bool) : State :=
  let quad := n / 64
  let st := if extra then s.moveCheck k d else 5
  let id := s.ferry.nextMove
  let base : Move := ⟨some t, k.comp, k.batch, d.raw, [], [], [], st, quad⟩
  let absent (p : Nat × List Nat) : Bool := p.2.any (fun i => (s.findPage .lake p.1 i).isNone && (s.findPage .basin p.1 i).isNone)
  let r : State × Move :=
    if st ≠ 0 then (s, base)
    else match s.pooledSrc k.comp d with
      | none => (s, base)
      | some p =>
        if d.op = 2 then (if (match Tbl.find p.1 s.slc.objs with | some o => o.poisoned | none => true) then s else p.2.foldl (fun u i => u.prefetchPage p.1 i k.comp quad) s, base)
        else if d.noPage && absent p then (s, { base with status := 2 })
        else s.lookup p.1 k.comp quad d.noPool base p.2
  let s1 := r.1.ferry! (fun y => { y with nextMove := id + 1, moves := Tbl.put id r.2 y.moves })
  (s1.task! t (fun y => { y with moves := y.moves ++ [id] })).pcNext n

/-- A vector register or scratch place names a descriptor that can be read: an existing, unpoisoned register, or scratch of the task. -/
def State.descOk (s : State) (n : Nat) (k : Task) (a : DescAt) : Option (Nat × Nat) :=
  match a with
  | .reg v => if 32 ≤ v then some (1, 0) else if (s.core n).regs.poison.contains v then some (3, v) else none
  | .scratch off => if off % 64 ≠ 0 ∨ k.scratchBytes < off + 64 then some (2, off) else none

/-- TILE_GET (R316); with 64 moves outstanding it stalls (R413). -/
def execTileGet (core : Nat) (desc : DescAt) (s : State) : Host.Outcome State Fault Refusal :=
  onTask s core (fun t k => if 64 ≤ k.moves.length then s else match s.descOk core k desc with
    | some (1, _) => s.illegal core
    | some (c, v) => s.taskFault core c v
    | none => let d := s.descAt core k.comp desc; d.2.issueMove core t k d.1 true)

/-- TILE_PUT (R316): a move whose source is the task's scratch; with 64 moves outstanding it stalls (R413). -/
def execTilePut (core : Nat) (desc : DescAt) (s : State) : Host.Outcome State Fault Refusal :=
  onTask s core (fun t k => if 64 ≤ k.moves.length then s else match s.descOk core k desc with
    | some (1, _) => s.illegal core
    | some (c, v) => s.taskFault core c v
    | none => let d := s.descAt core k.comp desc; d.2.issueMove core t k d.1 (decide (d.1.op = 1) && decide (d.1.srcKind = 0)))

/-- Writes into a task's scratch: on its core, or in its save area (R247, R388). -/
def State.taskScratch (s : State) (t off : Nat) (bs : List Byte) : State :=
  match Tbl.find t s.slc.tasks with
  | none => s
  | some k => match k.save with
    | some v => s.task! t (fun y => { y with save := some { v with
        scratch := Mem.writeBytes v.scratch off bs
        badLines := v.badLines.filter (fun l => decide (l < cdiv off 64) || decide ((off + bs.length) / 64 ≤ l)) } })
    | none => match k.core with
      | some n => s.core! n (fun c => if c.task = some t then Core.scratchWrite c k.comp off bs else c)
      | none => s

/-- Reads a task's scratch, on its core or in its save area: `none` where some line reads uncorrectable; a task that has not started has none, and what is
read there is free. -/
def State.readTaskScratch (s : State) (t off n : Nat) : Option (List Byte) × State :=
  match Tbl.find t s.slc.tasks with
  | none => (some (zeros n), s)
  | some k => match k.save with
    | some v => (if linesMeet v.badLines off n then none else some (Mem.readBytes v.scratch off n), s)
    | none =>
      let c := k.core.getD 0
      if k.core.isNone ∨ (s.core c).task ≠ some t then (let f := s.free; (some (le n f.1), f.2))
      else
        let s1 := s.touchSegs c k.comp off n
        (if linesMeet (s1.core c).badLines off n then none else some (Mem.readBytes (s1.core c).scratch off n), s1)

/-- The source bytes of a move, and the state after the read: `none` where scratch reads uncorrectable. -/
def State.moveSrc (s : State) (m : Move) (d : FDesc) (host : List Byte) : Option (List Byte) × State :=
  match d.srcKind with
  | 0 => s.readTaskScratch (m.task.getD 0) d.src d.srcLen
  | 1 => (some (match Tbl.find (objKey m.comp (FDesc.objId d.src)) s.slc.objs with | some o => Mem.readBytes o.data (FDesc.objOff d.src) d.srcLen | none => []), s)
  | _ => (some (bytesAt host 0 d.srcLen), s)

/-- Writes the destination of a move. -/
def State.moveDst (s : State) (m : Move) (d : FDesc) (bs : List Byte) : State :=
  match d.dstKind with
  | 0 => (match m.task with | some t => s.taskScratch t d.dst bs | none => s)
  | 1 => s.obj! (objKey m.comp (FDesc.objId d.dst)) (fun o => { o with data := Mem.writeBytes o.data (FDesc.objOff d.dst) bs })
  | _ => match (s.batch m.batch).bind (fun b => b.chain.map (fun h => (h, b.stageAt))) with
    | some (h, at_) =>
      -- the vectors of the chained query batch go to its staging place (R233)
      if at_ ≤ d.dst ∧ d.dst + bs.length ≤ at_ + natAt h 2 2 * natAt h 0xA 2 then s.batch! m.batch (fun b => { b with staged := Mem.writeBytes b.staged (d.dst - at_) bs })
      else s.hostWrite (fnOf m.comp) d.dst bs
    | none => s.hostWrite (fnOf m.comp) d.dst bs

/-- A move leaves Ferry and completes to its task (R320, R321): POISONED completes the batch, other statuses than OK and NOT_RESIDENT fault the task. -/
def State.finishMove (s : State) (id : Nat) (m : Move) (status : Nat) : State :=
  let d : FDesc := ⟨m.desc⟩
  let s1 := (s.ferry! (fun y => { y with
    moves := Tbl.erase id y.moves
    lake := m.frames.foldl (fun f i => Tbl.upd i (fun x => { x with age := 0 }) f) y.lake
    basin := m.basins.foldl (fun f i => Tbl.upd i (fun x => { x with age := 0 }) f) y.basin })).count Reg.FRY_CNT0 0 1
  match m.task with
  | none => s1
  | some t =>
    let s2 := s1.task! t (fun y => { y with moves := y.moves.filter (fun z => decide (z ≠ id)) })
    if status = 0 ∨ status = 2 then
      match (Tbl.find t s2.slc.tasks).bind (·.ctx) with
      | some c => s2.deliver c (.move d.tag status)
      | none => s2
    else if status = 1 then
      -- the destination bytes are undefined (R321); no poisoned byte goes to the host (R524)
      (if d.dstKind < 2 then (let f := s2.free; f.2.moveDst m d (le d.len f.1)) else s2).poisonBatch m.batch
    else s2.faultTask t 0x05 status

/-- Ferry time charged to a batch: bytes over the engine's 512 GB/s (Table SLC-5). -/
def State.chargeFerry (s : State) (b bytes : Nat) : State :=
  match s.batch b with
  | none => s
  | some x => (s.batch! b (fun y => { y with charge := { y.charge with ferryNs := y.charge.ferryNs + bytes / 512 } })).chargeComp x.comp 2 (bytes / 512)

/-- A Lake frame, or Basin-level frame, that reads uncorrectable is discarded (R330); Gauge logs it as class C. -/
def State.refill (s : State) (l : Level) (i c : Nat) : State :=
  let u := match l with | .lake => ((unitOf 0x0A (i / 640), s) : Nat × State) | .basin => s.basinUnit
  ((u.2.frames! l (Tbl.erase i)).count Reg.FRY_CNT0 7 1).logC u.1 0x0013 c 0x3FF 0 0

/-- A frame of a level is marked as uncorrectable. -/
def State.badFrame (s : State) (l : Level) (i : Nat) : Bool := match Tbl.find i (s.frames l) with | some f => f.bad | none => false

/-- The frames that an end of a move finds bad: those marked, or those that the outcome names. -/
def State.movesBad (s : State) (m : Move) (outcome : MoveOutcome) : List Nat × List Nat :=
  let l := m.frames.filter (s.badFrame .lake)
  let b := m.basins.filter (s.badFrame .basin)
  if l ≠ [] ∨ b ≠ [] then (l, b) else match outcome with
    | .frameBad => (m.frames, m.basins)
    | _ => ([], [])

/-- The tiles that a move reads from their home copy and that are being refetched: it stalls until they have come (R236). -/
def State.refetching (s : State) (m : Move) (d : FDesc) : List Nat :=
  match s.pooledSrc m.comp d with
  | none => []
  | some (k, pages) => match (Tbl.find k s.slc.objs).map (fun (o : Obj) => o.kind) with
    | some (.weight w) => pages.filter (fun p => Tbl.has p w.refetch && (s.findPage .lake k p).isNone && (s.findPage .basin k p).isNone)
    | _ => []

/-- The engine of a move's quadrant keeps it in flight: at most 256 descriptors at a time, oldest first (R319). -/
def State.engaged (s : State) (id : Nat) (m : Move) : Bool :=
  decide ((s.ferry.moves.filter (fun x => decide (x.2.quad = m.quad) && decide (x.1 < id))).length < 256)

/-- What the end of a move's accesses does (R320, R330, R236, R237). -/
def State.moveEnds (s : State) (move : Nat) (outcome : MoveOutcome) : State :=
  (match Tbl.find move s.ferry.moves with
    | none => s
    | some m =>
      let d : FDesc := ⟨m.desc⟩
      if !s.engaged move m then s
      else if m.status ≠ 0 ∨ d.op = 2 then s.finishMove move m m.status
      else if m.waiting ≠ [] then s
      else if s.refetching m d ≠ [] then s.ferry! (fun y => { y with moves := Tbl.upd move (fun z => { z with waiting := s.refetching m d }) y.moves })
      else match (if s.movesBad m outcome = ([], []) then outcome else .frameBad) with
        | .ok host =>
          let r := s.moveSrc m d host
          (match r.1 with
            | none => r.2.finishMove move m 7
            | some bs =>
              let s1 := r.2.moveDst m d (d.result bs)
              let s2 := (s1.count Reg.FRY_CNT0 1 d.len).chargeFerry m.batch d.len
              (if m.frames ≠ [] then s2.count Reg.FRY_CNT0 4 1 else s2).finishMove move m 0)
        | .hostError => if d.srcKind = 2 ∨ d.dstKind = 2 then s.finishMove move m 6 else s
        | .media =>
          match s.pooledSrc m.comp d with
          | some (k, pages) =>
            -- the home copy is read only for pages in no level
            let own := pages.filter (fun p => (s.findPage .lake k p).isNone && (s.findPage .basin k p).isNone)
            (match own with
              | [] => s
              | p :: _ =>
                let r := s.weightLoss k p
                if r.2 then r.1.ferry! (fun y => { y with moves := Tbl.upd move (fun z => { z with waiting := [p] }) y.moves })
                else match Tbl.find move r.1.ferry.moves with
                  | some z => r.1.finishMove move z 1
                  | none => r.1)
          | none => if d.srcKind = 2 then s else s.finishMove move m 7
        | .frameBad =>
          match (s.movesBad m outcome).1, (s.movesBad m outcome).2, s.pooledSrc m.comp d with
          | i :: _, _, some (k, _) =>
            let p := match Tbl.find i s.ferry.lake with | some f => f.page | none => 0
            let s1 := s.refill .lake i m.comp
            -- the refill reads the next level, or the home tier
            let bas := s1.findPage .basin k p
            (match s1.startFill k p m.comp m.quad false with
              | some t => t.ferry! (fun y => { y with
                  fills := y.fills.map (fun f => if f.obj = k ∧ f.page = p then { f with basin := bas } else f)
                  moves := y.moves.map (fun z => (z.1, if z.2.frames.contains i then { z.2 with frames := z.2.frames.filter (fun j => decide (j ≠ i)), waiting := z.2.waiting ++ [p] } else z.2)) })
              | none => s1.ferry! (fun y => { y with
                  moves := y.moves.map (fun z => (z.1, { z.2 with frames := z.2.frames.filter (fun j => decide (j ≠ i)) })) }))
          | [], i :: _, some _ =>
            (s.refill .basin i m.comp).ferry! (fun y => { y with
              moves := y.moves.map (fun z => (z.1, { z.2 with basins := z.2.basins.filter (fun j => decide (j ≠ i)) })) })
          | _, _, _ => s)

/-- A filled page serves every move that waits for it (R324). -/
def State.servePage (s : State) (k p frame : Nat) : State :=
  s.ferry! (fun y => { y with
    fills := y.fills.filter (fun f => !(decide (f.obj = k) && decide (f.page = p)))
    lake := Tbl.upd frame (fun f => { f with filling := false, age := 0 }) y.lake
    moves := y.moves.map (fun z =>
      let d : FDesc := ⟨z.2.desc⟩
      (z.1, if d.srcKind = 1 ∧ objKey z.2.comp (FDesc.objId d.src) = k ∧ z.2.waiting.contains p
        then { z.2 with waiting := z.2.waiting.filter (fun q => decide (q ≠ p)), frames := z.2.frames ++ [frame] } else z.2)) })

/-- The page of a fill belongs to a tile that is being fetched again from the mirror (R236). -/
def State.fillRefetching (s : State) (f : Fill) : Bool :=
  match (Tbl.find f.obj s.slc.objs).map (fun (o : Obj) => o.kind) with | some (.weight w) => Tbl.has f.page w.refetch | _ => false

/-- The Basin-level copy that a fill reads lies in a frame marked bad. -/
def State.basinBad (s : State) (f : Fill) : Bool := match f.basin with | some i => s.badFrame .basin i | none => false

/-- FILL_COMPLETE (R324, R330, R332); a read of flash that its LUN does not serve yet waits (R342). -/
def execFillComplete (frame : Nat) (outcome : MoveOutcome) (s : State) : Host.Outcome State Fault Refusal :=
  ok (match s.ferry.fills.find? (fun f => decide (f.frame = frame)) with
    | none => s
    | some f =>
      if s.fillRefetching f || s.readWaits (s.fillLun f) (if f.prefetch then .prefetch else .demand) then s
      else match (if s.basinBad f then .frameBad else outcome), f.basin with
        | .ok _, b => (if b.isSome then s.count Reg.FRY_CNT0 3 1 else s).servePage f.obj f.page frame
        | .media, none =>
          let r := s.weightLoss f.obj f.page
          if r.2 then r.1
          else r.1.ferry! (fun y => { y with fills := y.fills.filter (fun g => decide (g.frame ≠ frame)), lake := Tbl.erase frame y.lake })
        | .hostError, _ => s
        | .frameBad, none => s
        | _, some i =>
          -- the Basin-level copy is bad: the page is filled from its home
          (s.refill .basin i f.comp).ferry! (fun y => { y with fills := y.fills.map (fun g => if g.frame = frame then { g with basin := none } else g) }))

/-- AGE_TICK (R325). -/
def execAgeTick (s : State) : Host.Outcome State Fault Refusal :=
  let older (f : Frame) : Frame := { f with age := Nat.min 255 (f.age + 1) }
  ok (s.ferry! (fun y => { y with lake := y.lake.map (fun f => (f.1, older f.2)), basin := y.basin.map (fun f => (f.1, older f.2)) }))

/-- SECTOR_READ_COMPLETE (R341, R357, R364, Table DLT-4): `space` is a KEY_ID, or 2^64 plus an extent number, whose sector `lsn` is then. Sectors that are not
MAPPED are not read (Table DLT-3), and reads of a map page that is being rebuilt wait (R359). A lost sector of a weight object's extent is refetched from
the mirror, or poisons the object. -/
def execSectorReadComplete (space lsn : Nat) (outcome : ReadOutcome) (s : State) : Host.Outcome State Fault Refusal :=
  ok (if !s.deltaUp then s
    else if 2 ^ 64 ≤ space then
      match Tbl.find (space - 2 ^ 64) s.delta.extents with
      | none => s
      | some x =>
        if x.lost.contains lsn ∨ x.sectors ≤ lsn then s
        else
          let r := (s.chargeLun (s.spaceComp x.key) (lunOf (x.blocks.getD (lsn / s.delta.geom.tlc) 0)) 0).readNote outcome
          let stale := decide (outcome = .stale)
          if !r.2 && !stale then r.1
          else match (if x.kind = 0 then s.slc.objs.find? (fun o => decide (o.2.extent = some (space - 2 ^ 64))) else none) with
            | some (k, _) => ((r.1.extentLost (space - 2 ^ 64) lsn stale).weightLoss k ((lsn - ExtentSt_first x) / 16)).1
            | none => r.1.extentLost (space - 2 ^ 64) lsn stale
    else if s.rebuilding space lsn then s
    else match s.mapEnt space lsn with
      | some (.mapped p) => (let r := (s.chargeLun (s.spaceComp space) (lunOf (psaBlock p)) 0).readNote outcome; if r.2 then r.1.sectorLost space lsn else r.1)
      | _ => s)

/-! ### Buffers and prefetch messages -/

/-- BUF_ALLOC (R335, R482). -/
def execBufAlloc (mb : Nat) (s : State) : Host.Outcome State Fault Refusal :=
  onMsg s mb 0x050B (fun m t =>
    let id := m.p 0 2
    let bytes := m.p 8 8
    let k := objKey m.comp id
    if m.p 2 6 ≠ 0 ∨ m.p 0x11 7 ≠ 0 ∨ id = 0xFFFF ∨ bytes < 65536 ∨ 64 * 2 ^ 30 < bytes ∨ bytes % 65536 ≠ 0 ∨ 15 < m.p 0x10 1 then t.refuse m rField
    else if Tbl.has k t.slc.objs then t.refuse m rInUse
    else if 16384 ≤ t.slc.objs.length then t.refuse m rTableFull
    else match t.allocate m.comp 1 bytes with
      | none => t.refuse m rCapacity
      | some u => (u.slc! (fun x => { x with objs := Tbl.put k ⟨.buffer 1, bytes, [], false, none, [], none⟩ x.objs })).done m [])

/-- OBJ_PREFETCH (R333, R336). -/
def execObjPrefetch (mb : Nat) (s : State) : Host.Outcome State Fault Refusal :=
  onMsg s mb 0x050C (fun m t =>
    let k := objKey m.comp (m.p 0 2)
    match Tbl.find k t.slc.objs with
    | none => t.refuse m rUnknown
    | some o => if o.loading then s else match (if o.dropMsg.isSome then none else match o.kind with | .weight w => some w | _ => none) with
      | none => t.refuse m rUnknown
      | some _ =>
        if m.p 2 6 ≠ 0 ∨ o.bytes < m.p 8 8 + m.p 0x10 8 then t.refuse m rField
        else if o.poisoned then t.reply m stPoisoned (reasonHdr 0)
        else ((pagesOf (m.p 8 8) (m.p 0x10 8)).foldl (fun u p => u.prefetchPage k p m.comp 0) t).done m [])

end Sys2Proof.Machine
end

