-- ==== Sys2Proof/Machine/Jro.lean ====
section
/-! DEFINITION. Jenyen Remote Operations at the issuer and the target, routes, and the transmit side of a link (chapter 12). -/

namespace Sys2Proof

/-- A multiple of 16 with the payload padded: header, padded payload and tag of a packet (R389). -/
def Packet.bytes (p : Packet) : Nat := 48 + roundUp p.data.length 8
/-- Credits of 64 bytes that a packet takes (R398). -/
def Packet.units (p : Packet) : Nat := cdiv p.bytes 64
/-- Flits that a packet takes (R373). -/
def Packet.flits (p : Packet) : Nat := cdiv p.bytes 248
/-- The class and virtual lane of a packet on its next link (R385). -/
def Packet.pair (p : Packet) : Nat := p.cls * 4 + p.hops % 4
/-- The packet carries a request: it belongs to a flow (R401). -/
def Packet.request (p : Packet) : Bool := decide (1 ≤ p.op) && decide (p.op ≤ 5)

/-- NODE of a global address (R386). -/
def gNode (a : Nat) : Nat := a / 2 ^ 52 % 4096
/-- REGION of a global address. -/
def gRegion (a : Nat) : Nat := a / 2 ^ 48 % 16
/-- OFFSET of a global address. -/
def gOff (a : Nat) : Nat := a % 2 ^ 48

/-- Completion statuses (Table TRB-7). -/
abbrev jOK : Nat := 0x00
/-- DENIED. -/
abbrev jDenied : Nat := 0x01
/-- BOUND. -/
abbrev jBound : Nat := 0x02
/-- FORMAT. -/
abbrev jFormat : Nat := 0x03
/-- POISONED. -/
abbrev jPoisoned : Nat := 0x04
/-- NOTIFY_FULL. -/
abbrev jNotifyFull : Nat := 0x05
/-- STALE. -/
abbrev jStale : Nat := 0x06
/-- PATH_LOST. -/
abbrev jPathLost : Nat := 0x07
/-- NO_TARGET. -/
abbrev jNoTarget : Nat := 0x08
/-- NO_OBJECT. -/
abbrev jNoObject : Nat := 0x09

/-- The new value of an atomic subop (Table TRB-6), or `none` for an unknown one. -/
def atomicNew (subop old x y : Nat) : Option Nat :=
  match subop with
  | 0 => some ((old + x) % 2 ^ 64)
  | 1 => some (if old = x then y else old)
  | 2 => some x
  | 3 => some (Nat.max old x)
  | 4 => some (Nat.land old x)
  | 5 => some (Nat.lor old x)
  | _ => none

/-- Replaces the link of a packet's queue entry. -/
def Link.queuePkt (l : Link) (p : Packet) (inl : Nat) : Link := { l with queue := l.queue ++ [(p, inl)] }

/-- Removes element `i`. -/
def dropAt {α : Type} (l : List α) (i : Nat) : List α := l.take i ++ l.drop (i + 1)

end Sys2Proof

namespace Sys2Proof.Machine

/-! ### Links and routes -/

/-- A link. -/
def State.link (s : State) (l : Nat) : Link := (Tbl.find l s.trib.links).getD Link.reset
/-- Updates a link. -/
def State.link! (s : State) (l : Nat) (f : Link → Link) : State := s.trib! (fun t => { t with links := Tbl.upd l f t.links })
/-- The link carries flits. -/
def Link_live (l : Link) : Bool := decide (l.state = .up) || decide (l.state = .trickle)

/-- A local link is usable for a class (R379, R380, R383). -/
def State.usable (s : State) (l cls : Nat) : Bool :=
  let x := s.link l
  (decide (x.state = .up) && (!x.draining || decide (cls = 0))) || (decide (x.state = .trickle) && decide (cls = 0))

/-- Local links that the route entry of a destination lists, in choice order (R383). -/
def State.routeLinks (s : State) (d : Nat) : List Nat :=
  let e := s.raw (Reg.TRB_ROUTE + 8 * d)
  if bit e 63 then ((List.range 4).filter (fun i => bit e (8 * i + 7))).map (fun i => bits e (8 * i) 5) else []

/-- The choices of a destination that a class can use now. -/
def State.choices (s : State) (d cls : Nat) : List Nat := (s.routeLinks d).filter (fun l => s.usable l cls)

/-- The choice of a packet (R384), among the links that its composition may use (R433). -/
def State.choice (s : State) (p : Packet) : Option Nat :=
  match (s.choices p.dst p.cls).filter (fun l => bit p.links l) with
  | [] => none
  | l => l[(p.src * 31 + p.cls) % l.length]?

/-- A CONTROL flit is sent; it carries no SEQ of its own (R374). -/
def State.control (s : State) (l : Nat) (c : Ctl) : State :=
  if Link_live (s.link l) then s.link! l (fun x => { x with out := x.out ++ [.ctl c], lastTxNs := s.now }) else s

/-- Credits of a packet go back to the link that it came on: it has left that receiver's buffer (R398). -/
def State.returnCredit (s : State) (inl pair units : Nat) : State := if inl = 0 then s else s.control (inl - 1) (.credit pair units)

/-- Weights of TRB_ARB as a link holds them; 0 is taken as 1 (R399). -/
def State.weight (s : State) (l c : Nat) : Nat := orIfZero (s.fldFor Reg.TRB_ARB (8 * (c - 1)) 8 l) 1

/-- The pool that pays for a packet (R398): 1 its reserved credits, 2 the shared ones, 0 neither. -/
def Link_pool (l : Link) (p : Packet) : Nat :=
  let u := p.units
  if u ≤ Tbl.getD p.pair 0 l.credits then 1
  else if p.cls ≠ 0 ∧ u ≤ l.shared ∧ Tbl.getD p.cls 0 l.sharedUse + u ≤ 7680 then 2
  else 0

/-- The packet at a queue position can be sent: first of its class and lane, credits and replay buffer hold it. -/
def Link_sendable (l : Link) (i : Nat) : Bool :=
  match l.queue[i]? with
  | none => false
  | some (p, _) =>
    (l.queue.take i).all (fun q => decide (q.1.pair ≠ p.pair)) && decide (Link_pool l p ≠ 0) && decide (l.replay.length + p.flits ≤ 1024)
      && (decide (l.state = .up) || (decide (l.state = .trickle) && decide (p.cls = 0)))

/-- The position of the packet of a class to send next: the higher virtual lane first (R399). -/
def Link_next (l : Link) (cls : Nat) : Option Nat :=
  let c := (List.range l.queue.length).filter (fun i => (match l.queue[i]? with | some (p, _) => decide (p.cls = cls) | none => false) && Link_sendable l i)
  let hops (i : Nat) : Nat := match l.queue[i]? with | some (p, _) => p.hops | none => 0
  (sortBy (fun a b => decide (hops b < hops a)) c).head?

/-- Moves the round robin of a link on by one class; a new cycle is the boundary of TRB_ARB. -/
def State.wrrStep (s : State) (l : Nat) : State :=
  let c := (s.link l).wrrClass % 3 + 1
  let s1 := if c = 1 then ((s.boundary Reg.TRB_ARB 0 8 l).boundary Reg.TRB_ARB 8 8 l).boundary Reg.TRB_ARB 16 8 l else s
  s1.link! l (fun x => { x with wrrClass := c, wrrLeft := s1.weight l c })

/-- Sends the packet at a queue position: its flits go out and into the replay buffer, credits are taken, its link time is charged. -/
def State.transmit (s : State) (l i : Nat) : State :=
  let x := s.link l
  match x.queue[i]? with
  | none => s
  | some (p, inl) =>
    let n := p.flits
    let u := p.units
    let pool := Link_pool x p
    let fl : List Flit := (List.range n).map (fun k => ⟨(x.txSeq + 1 + k) % 2 ^ 32, if k = 0 then 0 else 0xFFF, if k + 1 = n then [(p, true)] else []⟩)
    let s1 := s.link! l (fun y => { y with
      queue := dropAt y.queue i
      txSeq := (y.txSeq + n) % 2 ^ 32
      ackNs := if y.replay = [] then s.now else y.ackNs
      replay := y.replay ++ fl
      txCtr := y.txCtr + 1
      lastTxNs := s.now
      credits := if pool = 1 then Tbl.put p.pair (Tbl.getD p.pair 0 y.credits - u) y.credits else y.credits
      shared := if pool = 2 then y.shared - u else y.shared
      sharedUse := if pool = 2 then Tbl.put p.cls (Tbl.getD p.cls 0 y.sharedUse + u) y.sharedUse else y.sharedUse
      wrrLeft := if p.cls = 0 then y.wrrLeft else y.wrrLeft - u
      out := y.out ++ fl.map (fun f => .data f) })
    let s2 := (s1.count Reg.TRB_CNT0 0 1).returnCredit inl (p.cls * 4 + (p.hops + 3) % 4) u
    if (s2.batch p.batch).isSome then s2.chargeLink p.batch (p.bytes / 50)
    else if p.payer < 64 then s2.chargeComp p.payer 3 (p.bytes / 50)
    else s2

/-- Sends what a link can send (R399): class 0 first, then classes 1 to 3 by weighted round robin; `fuel` bounds the steps. -/
def State.pump (s : State) (l : Nat) : Nat → State
  | 0 => s
  | fuel + 1 =>
    let x := s.link l
    match Link_next x 0 with
    | some i => (s.transmit l i).pump l fuel
    | none =>
      if (List.range 3).all (fun c => (Link_next x (c + 1)).isNone) then s
      else match (if x.wrrLeft = 0 then none else Link_next x x.wrrClass) with
        | some i => (s.transmit l i).pump l fuel
        | none => (s.wrrStep l).pump l fuel

/-- Sends what a link can send. -/
def State.pumpLink (s : State) (l : Nat) : State := s.pump l (4 * (s.link l).queue.length + 4)

/-- Sends held packets that have a usable choice now, in order (R384). -/
def State.flushHeld (s : State) : State :=
  s.trib.held.foldl (fun t h =>
    match t.choice h.1 with
    | none => t
    | some l => ((t.trib! (fun x => { x with held := dropOne (fun y => decide (y = h)) x.held })).link! l (fun x => x.queuePkt h.1 h.2.2)).pumpLink l) s

/-- A link's receive buffer and its credits start anew: packets that came on it owe it no credits any more. -/
def State.forgetIn (s : State) (l : Nat) : State :=
  let f (i : Nat) : Nat := if i = l + 1 then 0 else i
  s.trib! (fun t => { t with
    links := t.links.map (fun x => (x.1, { x.2 with queue := x.2.queue.map (fun (q : Packet × Nat) => (q.1, f q.2)) }))
    held := t.held.map (fun (h : Packet × Nat × Nat) => (h.1, h.2.1, f h.2.2))
    rxFlows := t.rxFlows.map (fun x => (x.1, { x.2 with held := x.2.held.map (fun (h : Packet × Nat × Nat) => (h.1, h.2.1, f h.2.2)) })) })

/-- A link leaves UP or TRICKLE for a state of bring-up (R378, R403): the packets of its unacknowledged flits, then its queue, go on in their original
order on other choices. -/
def State.leaveLink (s : State) (l : Nat) (st : LinkSt) (boundNs : Nat) (resume : Bool) : State :=
  let x := s.link l
  let ps : List (Packet × Nat) := (x.replay.flatMap (fun f => f.packets.map (fun p => (p.1, 0)))) ++ x.queue
  let s1 := s.link! l (fun y => { y with
    state := st, draining := false, replay := [], queue := [], deadline := s.now + boundNs, leftUpNs := s.now
    retrains := if st = .train then Nat.min 255 (y.retrains + 1) else y.retrains
    txSeq := 0, rxNext := 1, rxSince := 0, tagFails := 0, txCtr := if resume then y.txCtr else 0, rxCtr := if resume then y.rxCtr else 0 })
  ((s1.trib! (fun t => { t with held := ps.map (fun p => (p.1, s.now, p.2)) ++ t.held }) |>.forgetIn l).count Reg.TRB_CNT0 5 ps.length).flushHeld

/-- Bound of step 1 of Table TRB-2. -/
def Link_trainNs (l : Link) : Nat := if l.coefs then ms 20 else ms 500

/-- A link in TRICKLE wakes (R380): it comes up from step 1 with stored coefficients and resumes its session. -/
def State.wakeLink (s : State) (l : Nat) (tell : Bool) : State :=
  if (s.link l).state ≠ .trickle then s
  else (if tell then s.control l .wake else s).leaveLink l .train (ms 20) true

/-- Sends a packet (R384): on its choice, or held; a class 1 to 3 packet without a choice wakes the links of its entry that are in TRICKLE (R380). -/
def State.route (s : State) (p : Packet) (inl : Nat) : State :=
  let s1 := (s.trib! (fun t => { t with held := t.held ++ [(p, s.now, inl)] })).flushHeld
  if p.cls = 0 ∨ (s1.choice p).isSome then s1
  else ((s1.routeLinks p.dst).filter (fun l => bit p.links l && decide ((s1.link l).state = .trickle))).foldl (fun t l => t.wakeLink l true) s1

/-! ### Peers -/

/-- A peer that nothing is known of. -/
def Peer_blank : Peer := ⟨0, false, false, 0, 0, 0, [], 0⟩
/-- Updates what this node holds of another. -/
def State.peer! (s : State) (n : Nat) (f : Peer → Peer) : State := s.trib! (fun t => { t with peers := Tbl.put n (f (Tbl.getD n Peer_blank t.peers)) t.peers })
/-- LINKS of a composition (R433); every link for work of none. -/
def State.linkMask (s : State) (comp : Nat) : Nat := match s.comp comp with | some c => c.f 0x1C 4 | none => 2 ^ 32 - 1
/-- Fabric tenant tag of a composition. -/
def State.tenantOf (s : State) (comp : Nat) : Nat := match s.comp comp with | some c => c.tenant | none => 0

/-- A packet of this node. -/
def State.packet (s : State) (op cls dst : Nat) (fw : Bool) (tenant : Nat) : Packet :=
  ⟨op, cls, 0, fw, true, false, dst, 0, s.nodeNo, tenant, 0, 0, 0, 0, 0, [], 2 ^ 32 - 1, 64, 0⟩

/-- A probe starts (R405): PING on every usable choice, PONG within PROBE_TMO_US. -/
def State.probe (s : State) (n : Nat) : State :=
  if n = s.nodeNo ∨ (Tbl.getD n Peer_blank s.trib.peers).lost ∨ (Tbl.getD n Peer_blank s.trib.peers).probeNs ≠ 0 then s
  else
    let s1 := s.peer! n (fun p => { p with probeNs := s.now + us (orIfZero (s.fld Reg.TRB_TIMING 16 16) 1) })
    (s1.choices n 0).foldl (fun t l => (t.link! l (fun x => x.queuePkt (s.packet 0x20 0 n true 0) 0)).pumpLink l) s1

/-! ### Operations at the target -/

/-- The composition and buffer that a BUFFER address names for a tenant (R387). -/
def State.jroBuffer (s : State) (tenant id : Nat) : Option (Nat × Obj) :=
  if tenant = 0 then none
  else match s.slc.comps.find? (fun c => decide (c.2.tenant = tenant) && (match Tbl.find (objKey c.1 id) s.slc.objs with
      | some o => (match o.kind with | .buffer _ => o.dropMsg.isNone | _ => false)
      | none => false)) with
    | some c => (Tbl.find (objKey c.1 id) s.slc.objs).map (fun o => (objKey c.1 id, o))
    | none => none

/-- Where an operation lands. -/
inductive JroPlace where
  | scratch (ctx task off : Nat)
  | buffer (key off : Nat)
  | firmware (off : Nat)
  deriving DecidableEq, Repr

/-- Resolves an address for a length (R386, R387, R414): a place, or the status that refuses it. -/
def State.jroPlace (s : State) (fw : Bool) (tenant addr len : Nat) : Except Nat JroPlace :=
  let r := gRegion addr
  let o := gOff addr
  if 3 ≤ r then (if !fw then .error jDenied else if r < 8 then .error jNoObject else .ok (.firmware (addr % 2 ^ 52)))
  else if r = 0 then
    let c := bits o 32 10
    let off := bits o 0 21
    if bits o 42 6 ≠ 0 ∨ bits o 21 11 ≠ 0 then .error jFormat
    else match Tbl.find c s.slc.ctxs with
      | none => .error jNoObject
      | some x =>
        if x.state = .quiet ∨ x.state = .teardown ∨ tenant = 0 ∨ s.tenantOf x.comp ≠ tenant then .error jNoObject
        else match x.task.bind (fun t => (Tbl.find t s.slc.tasks).map (fun k => (t, k))) with
          | none => .error jNoObject
          | some (t, k) => if k.scratchBytes < off + len then .error jBound else .ok (.scratch c t off)
  else
    let off := if r = 1 then bits o 0 32 else 16 * bits o 0 32
    match s.jroBuffer tenant (bits o 32 16) with
    | none => .error jNoObject
    | some (k, b) => if b.bytes < off + len then .error jBound else .ok (.buffer k off)

/-- Length and alignment of a PUT, GET or NPUT packet (Table TRB-5): a packet is one fragment of at most 4,096 bytes. -/
def jroShape (addr len : Nat) : Bool :=
  let u := if gRegion addr = 0 then 64 else 8
  decide (8 ≤ len) && decide (len ≤ 4096) && decide (len % u = 0) && decide (addr % u = 0)

/-- Reads at a place; `none` when the data is uncorrectable there. What a firmware region holds has an internal layout: its bytes are free. -/
def State.jroRead (s : State) (pl : JroPlace) (n : Nat) : Option (List Byte) × State :=
  match pl with
  | .scratch _ t off => s.readTaskScratch t off n
  | .buffer k off =>
    match Tbl.find k s.slc.objs with
    | none => (some (zeros n), s)
    | some o =>
      let bad := linesMeet ((o.injected.filter (fun x => decide (2 ≤ x.1))).map (fun x => x.2 / 64)) off n
      (if bad then none else some (Mem.readBytes o.data off n), s)
  | .firmware _ => let f := s.free; (some (le n f.1), f.2)

/-- A put for a task's scratch is arriving until its last fragment is in (R249, R390): its first byte is known from any fragment. -/
def State.putSeen (s : State) (p : Packet) (pl : JroPlace) : State :=
  match pl with
  | .scratch _ t off =>
    let key := p.src * 2 ^ 32 + p.opId
    s.task! t (fun k => { k with puts := if p.fragLast then Tbl.erase key k.puts else Tbl.put key (off - 4096 * p.frag) k.puts })
  | _ => s

/-- Writes at a place; firmware messages act through their own commands. -/
def State.jroWrite (s : State) (pl : JroPlace) (bs : List Byte) : State :=
  match pl with
  | .scratch _ t off => s.taskScratch t off bs
  | .buffer k off => s.obj! k (fun o => { o with
      data := Mem.writeBytes o.data off bs
      injected := o.injected.filter (fun x => !(decide (off ≤ x.2 / 64 * 64) && decide (x.2 / 64 * 64 + 64 ≤ off + bs.length))) })
  | .firmware _ => s

/-- The ownership words of R443 stand at the start of firmware region 0x8, 8 bytes each (internal layout). -/
def wordAt (off : Nat) : Option Nat := if off / 2 ^ 48 = 8 then some (off % 2 ^ 48 / 8) else none

/-- What an operation answers: status, the old value of an ATOMIC, the data of a GET. -/
structure JroAns where
  status : Nat
  value : Nat
  data : List Byte
  deriving DecidableEq, Repr

/-- An answer without data. -/
def JroAns.of (st : Nat) : JroAns := ⟨st, 0, []⟩

/-- An ATOMIC (R391). -/
def State.jroAtomic (s : State) (p : Packet) : JroAns × State :=
  let n := if p.subop = 1 then 16 else 8
  if gRegion p.addr = 0 ∨ p.addr % 8 ≠ 0 ∨ p.data.length ≠ n ∨ 5 < p.subop then (.of jFormat, s)
  else match s.jroPlace p.fw p.tenant p.addr 8 with
    | .error e => (.of e, s)
    | .ok pl =>
      let x := natAt p.data 0 8
      let y := natAt p.data 8 8
      match pl with
      | .firmware off => match wordAt off with
        | none => (let f := s.free; (⟨jOK, f.1 % 2 ^ 64, []⟩, f.2))
        | some w =>
          let old := (Tbl.getD w (0 : Word) s.slc.words).toNat
          (⟨jOK, old, []⟩, match atomicNew p.subop old x y with
            | some v => s.slc! (fun z => { z with words := Tbl.put w (BitVec.ofNat 64 v) z.words })
            | none => s)
      | _ =>
        let r := s.jroRead pl 8
        match r.1 with
        | none => (.of jPoisoned, r.2)
        | some bs =>
          let old := leNat bs
          (⟨jOK, old, []⟩, match atomicNew p.subop old x y with | some v => r.2.jroWrite pl (le 8 v) | none => r.2)

/-- The partial list that bytes spell (Table CFL-4, Table CFL-1). -/
def plistOf (aggExp : Bool) (bs : List Byte) : PList :=
  let count := natAt bs 10 2
  let nd := natAt bs 12 1
  let fl := natAt bs 13 1
  let src := natAt bs 8 2
  let sgn32 (n : Nat) : Int := if n < 2 ^ 31 then n else (n : Int) - 2 ^ 32
  let entry (i : Nat) : Entry :=
    let v := natAt bs (128 + 16 * i) 16
    ⟨bits v 0 32, bits v 32 48, bits v 80 12, bits v 96 32, bit v 93, src⟩
  let es := (List.range count).map entry
  let acc := natAt bs 64 64
  { source := src, entries := es, damaged := (List.range nd).map (fun i => entry (count + i)), pruned := bit fl 0, kthKey := natAt bs 16 4
    tie := natAt bs 20 4, dropped := natAt bs 24 4, damagedExtra := natAt bs 28 4, skipped := natAt bs 32 4, scanned := natAt bs 36 4
    minMargin := BitVec.ofNat 32 (natAt bs 40 4)
    acc := ⟨if acc < 2 ^ 511 then acc else (acc : Int) - 2 ^ 512, sgn32 (natAt bs 44 4), if aggExp ∧ (acc ≠ 0 ∨ natAt bs 44 4 ≠ 0) then some (sgn32 (natAt bs 44 4) + 460) else none, bit fl 1, bit fl 2⟩
    bound := ⟨BitVec.ofNat 32 (natAt bs 48 4), BitVec.ofNat 32 (natAt bs 52 4), sgn32 (natAt bs 56 4)⟩ }

/-- A mirror copy of another node's weight object (R235, R436): its key here. -/
def mirrorKey (src obj : Nat) : Nat := src * 2 ^ 22 + obj

/-- Where the packets of a mirror copy go (R235; internal layout): firmware region 0xF, object key in [47:26], 4 KiB page in [25:0]. -/
def mirrorAddr (node key page : Nat) : Nat := node * 2 ^ 52 + 15 * 2 ^ 48 + key * 2 ^ 26 + page

/-- A part of a mirror copy arrives (R235): the copy is named by its source and object and counts against BASIN_GIB of the composition of the TENANT that
the packet's AUX names, which must have MIRROR_OK (R436). -/
def State.mirrorPut (s : State) (p : Packet) : JroAns × State :=
  let key := mirrorKey p.src (p.addr % 2 ^ 48 / 2 ^ 26)
  let old := Tbl.getD key (⟨0, 0, []⟩ : Mirror) s.slc.mirrors
  let off := p.addr % 2 ^ 26 * 4096
  let size := Nat.max old.bytes (off + p.data.length)
  match s.slc.comps.find? (fun c => decide (c.2.tenant = p.aux) && c.2.mirrorOk) with
  | none => (.of jNoObject, s)
  | some c => match s.allocate c.1 1 (size - old.bytes) with
    | none => (.of jNoObject, s)
    | some t => (.of jOK, t.slc! (fun x => { x with mirrors := Tbl.put key ⟨c.1, size, Mem.writeBytes old.data off p.data⟩ x.mirrors }))

/-- A read of a mirror copy (R236). -/
def State.mirrorGet (s : State) (p : Packet) : JroAns :=
  match Tbl.find (mirrorKey p.src (p.addr % 2 ^ 48 / 2 ^ 26)) s.slc.mirrors with
  | none => .of jNoObject
  | some m => ⟨jOK, 0, Mem.readBytes m.data (p.addr % 2 ^ 26 * 4096) p.aux⟩

/-- Where a request for a node's full set of summaries goes (R101; internal layout): firmware region 0xB, TENANT in [46:15], collection id in [14:3]. -/
def resyncOff (tenant coll : Nat) : Nat := 11 * 2 ^ 48 + (tenant % 2 ^ 32 * 4096 + coll % 4096) * 8

/-- The collection that such a request names at this node. -/
def State.resyncKey (s : State) (addr : Nat) : Option Nat :=
  let w := addr % 2 ^ 48 / 8
  (s.slc.comps.find? (fun c => decide (c.2.tenant = w / 4096))).bind (fun c =>
    let k := collKey c.1 (w % 4096)
    (s.coll k).map (fun _ => k))

/-- Its answer: how many summaries follow; NO_OBJECT where the node does not hold the collection (R596). -/
def State.resyncGet (s : State) (p : Packet) : JroAns :=
  match (s.resyncKey p.addr).bind s.coll with
  | none => .of jNoObject
  | some c => ⟨jOK, 0, le 8 c.catches.length⟩

/-- A request is performed at its target (R387, R388, R390 to R393): its answer and the state after it. A list of firmware is gathered in its merge
slot's staging area and merged by TOPK_MERGE once its last fragment is in. -/
def State.jroPerform (s : State) (p : Packet) : JroAns × State :=
  match p.op with
  | 1 =>
    if p.fw ∧ gRegion p.addr = 15 then s.mirrorPut p
    else if !jroShape p.addr p.data.length then (.of (if 3 ≤ gRegion p.addr ∧ !p.fw then jDenied else jFormat), s)
    else (match s.jroPlace p.fw p.tenant p.addr p.data.length with
      | .error e => (.of e, s)
      | .ok pl => (.of jOK, (s.jroWrite pl p.data).putSeen p pl))
  | 2 =>
    if p.fw ∧ gRegion p.addr = 15 then (s.mirrorGet p, s)
    else if p.fw ∧ gRegion p.addr = 11 then (s.resyncGet p, s)
    else if !jroShape p.addr p.aux then (.of (if 3 ≤ gRegion p.addr ∧ !p.fw then jDenied else jFormat), s)
    else (match s.jroPlace p.fw p.tenant p.addr p.aux with
      | .error e => (.of e, s)
      | .ok pl =>
        let r := s.jroRead pl p.aux
        match r.1 with
        | none => (.of jPoisoned, r.2)
        | some bs => (⟨jOK, 0, bs⟩, r.2))
  | 3 => if 3 ≤ gRegion p.addr ∧ !p.fw then (.of jDenied, s) else s.jroAtomic p
  | 4 =>
    if !jroShape p.addr p.data.length then (.of (if 3 ≤ gRegion p.addr ∧ !p.fw then jDenied else jFormat), s)
    else (match s.jroPlace p.fw p.tenant p.addr p.data.length with
      | .error e => (.of e, s)
      | .ok pl =>
        let s1 := (s.jroWrite pl p.data).putSeen p pl
        match pl with
        | .scratch c _ off =>
          if !p.fragLast then (.of jOK, s1)
          else
            let full : Bool := match Tbl.find c s1.slc.ctxs with
              | some x => decide (256 ≤ (x.held.filter (fun h => match h with | .note _ _ => true | _ => false)).length)
              | none => false
            if full then (.of jNotifyFull, s1)
            else (.of jOK, s1.deliver c (.note p.src (le 2 p.src ++ le 1 p.cls ++ le 1 0 ++ le 4 p.aux ++ le 8 off)))
        | _ => (.of jOK, s1))
  | 5 =>
    if !p.fw then (.of jDenied, s)
    else
      let k := p.src * 2 ^ 32 + p.opId
      let got := (Tbl.getD k [] s.trib.merges) ++ p.data
      (.of jOK, s.trib! (fun t => { t with merges := if p.fragLast then Tbl.erase k t.merges else Tbl.put k got t.merges }))
  | _ => (.of jFormat, s)

/-! ### Operations at the issuer -/

/-- A poisoned or refused operation, or one that completed (R390, R395): its task gets the result by WAIT; DENIED ends the task. -/
def State.finishOp (s : State) (id : Nat) (o : JroOp) (status value : Nat) : State :=
  let s1 := s.trib! (fun t => { t with ops := Tbl.erase id t.ops })
  match o.task with
  | none => s1
  | some t =>
    let s2 := s1.task! t (fun k => { k with ops := k.ops.filter (fun x => decide (x ≠ id)) })
    if status = jDenied then s2.faultTask t 0x04 (o.addr % 2 ^ 32) else s2.deliver o.ctx (.op id status value)

/-- The packets of an operation (R390): fragments of at most 4,096 bytes; a mirror copy is addressed in pages of 4 KiB. -/
def jroPackets (base : Packet) (total : Nat) (data : List Byte) : List Packet :=
  let n := Nat.max 1 (cdiv total 4096)
  let step := if base.fw ∧ gRegion base.addr = 15 then 1 else 4096
  (List.range n).map (fun i =>
    let len := Nat.min 4096 (total - 4096 * i)
    { base with
      frag := i, fragLast := decide (i + 1 = n), addr := base.addr + step * i
      data := bytesAt data (4096 * i) (if base.op = 2 then 0 else len)
      aux := if base.op = 2 then len else base.aux })

/-- Gives each request packet its FLOW_SEQ (R400, R404) and sends it. -/
def State.sendFlow (s : State) (ps : List Packet) : State :=
  ps.foldl (fun t p =>
    let k := p.dst * 4 + p.cls
    let f := Tbl.getD k ⟨0, false⟩ t.trib.txFlows
    let seq := (f.last + (if f.resync then 2 ^ 16 else 1)) % 2 ^ 32
    (t.trib! (fun x => { x with txFlows := Tbl.put k ⟨seq, false⟩ x.txFlows })).route { p with flowSeq := seq, resync := f.resync } 0) s

/-- Answers a request packet (R390 to R393): GET_DATA for a GET that succeeds, else COMPLETION with its status, and the old value of an ATOMIC. -/
def State.answerPkt (s : State) (p : Packet) (status : Nat) (a : JroAns) : State :=
  let base : Packet := { (s.packet 0x11 p.cls p.src false p.tenant) with opId := p.opId, frag := p.frag, fragLast := p.fragLast, aux := status }
  let ans : Packet :=
    if p.op = 2 ∧ status = jOK then { base with op := 0x10, aux := a.value, data := a.data }
    else if p.op = 3 ∧ status = jOK then { base with data := le 8 a.value }
    else base
  s.route ans 0

/-- Performs fragments on the mesh, for an operation on the issuer's own node: the first status other than OK, the old value, the data read. -/
def State.meshOp (s : State) : List Packet → JroAns → JroAns × State
  | [], a => (a, s)
  | p :: rest, a =>
    let r := s.jroPerform p
    r.2.meshOp rest ⟨if a.status = 0 then r.1.status else a.status, if p.op = 3 then r.1.value else a.value, a.data ++ r.1.data⟩

/-- A task issues an operation (R386, R390, R394). -/
def State.issueOp (s : State) (t : Nat) (k : Task) (base : Packet) (total : Nat) (data : List Byte) (localAt : Nat) : State :=
  let id := s.trib.nextOp
  let c := k.ctx.getD 0x3FF
  let dst := gNode base.addr
  let o : JroOp := ⟨dst, base.cls, base.op, some t, c, 0, Nat.max 1 (cdiv total 4096), [], 0, localAt, base.addr, s.now, total⟩
  let s1 := (s.trib! (fun x => { x with nextOp := id % (2 ^ 32 - 1) + 1, ops := Tbl.put id o x.ops })).task! t (fun y => { y with ops := y.ops ++ [id] })
  let ps := jroPackets { base with dst := dst, opId := id, src := s.nodeNo, tenant := s.tenantOf k.comp, links := s.linkMask k.comp, payer := k.comp, batch := k.batch } total data
  if 2 ^ 20 < total then s1.finishOp id o jFormat 0
  else if dst = s.nodeNo then
    let r := s1.meshOp ps ⟨0, 0, []⟩
    let s2 := if base.op = 2 ∧ r.1.status = 0 then r.2.taskScratch t localAt r.1.data else r.2
    s2.finishOp id o r.1.status r.1.value
  else if (Tbl.getD dst Peer_blank s1.trib.peers).lost then s1.finishOp id o jNoTarget 0
  else s1.sendFlow ps

/-- An operation of a firmware engine at a place of the firmware regions (Table TRB-3). -/
def State.fwOpAt (s : State) (comp op cls dst off owner a b total : Nat) (data : List Byte) : State :=
  let id := s.trib.nextOp
  let base : Packet := { (s.packet op cls dst true 0) with
    addr := dst * 2 ^ 52 + off, opId := id, links := s.linkMask comp, payer := comp
    batch := if owner = 1 ∨ off = 0xD * 2 ^ 48 then a else 0 }
  let o : JroOp := ⟨dst, cls, op, none, 0x3FF, owner, Nat.max 1 (cdiv total 4096), [], b, a, base.addr, s.now, total⟩
  (s.trib! (fun x => { x with nextOp := id % (2 ^ 32 - 1) + 1, ops := Tbl.put id o x.ops })).sendFlow (jroPackets base total data)

/-- An operation of a firmware engine in a firmware region (Table TRB-3): `owner` is 1 for a gather read (`a` its batch), 2 for a publication (`a` the
collection, `b` its SEQ), 6 for a resync request (`a` the collection), 7 for a message of R191 and R193, 3 for others; regions 0x9 to 0xC hold gather reads, summaries, resync requests and offers (internal layout);
it leaves on the links of the composition that it works for. -/
def State.fwOp (s : State) (comp op cls dst region owner a b total : Nat) (data : List Byte) : State :=
  s.fwOpAt comp op cls dst (region * 2 ^ 48) owner a b total data

/-- A firmware read of `bytes` bytes for a gather: from region 0x9, the batch in [47:32] of the address and the byte in [31:0] (internal layout). -/
def State.fwGet (s : State) (comp dst batch bytes : Nat) : State := s.fwOpAt comp 2 1 dst (9 * 2 ^ 48 + batch % 65536 * 2 ^ 32) 1 batch 0 bytes []

/-! ### JRO instructions -/

/-- A JRO instruction: class 1 to 3, the local range inside the task's scratch, and fewer than MAX_JRO operations outstanding, else it stalls (R243, R260). -/
def onJro (s : State) (core : Nat) (a : JroArgs) (n : Nat) (f : Nat → Task → State) : Host.Outcome State Fault Refusal :=
  onTask s core (fun t k =>
    if a.cls < 1 ∨ 3 < a.cls then s.illegal core
    else if k.scratchBytes < a.off + n then s.taskFault core 0x02 (a.off % 2 ^ 32)
    else if k.maxJro ≤ k.ops.length then s
    else f t k)

/-- An issue is counted (RIL_CNT4) and its operation's number is returned. -/
def State.jroIssue (s : State) (core t : Nat) (k : Task) (base : Packet) (total : Nat) (data : List Byte) (localAt : Nat) : State :=
  let s1 := ((s.pcNext core).count (Reg.RIL_CNT0 + 0x1000 * core) 4 1).setResult t s.trib.nextOp 0 0
  s1.issueOp t k base total data localAt

/-- Issues a put from a task's scratch (R246, R394); a source that reads uncorrectable is not sent (R524): the operation completes POISONED here. -/
def State.jroSend (s : State) (core t : Nat) (k : Task) (base : Packet) (off n : Nat) : State :=
  let s1 := s.touchSegs core k.comp off n
  if linesMeet (s1.core core).badLines off n then
    let id := s1.trib.nextOp
    let s2 := ((s1.pcNext core).count (Reg.RIL_CNT0 + 0x1000 * core) 4 1).setResult t id 0 0
    (s2.trib! (fun x => { x with nextOp := id % (2 ^ 32 - 1) + 1 })).deliver (k.ctx.getD 0x3FF) (.op id jPoisoned 0)
  else s1.jroIssue core t k base n (s1.coreScratch core k.comp off n) 0

/-- JRO_PUT (Table TRB-5). -/
def execJroPut (core : Nat) (a : JroArgs) (s : State) : Host.Outcome State Fault Refusal :=
  onJro s core a a.len (fun t k => s.jroSend core t k { (s.packet 1 a.cls 0 false 0) with addr := a.addr } a.off a.len)

/-- JRO_GET (Table TRB-5). -/
def execJroGet (core : Nat) (a : JroArgs) (s : State) : Host.Outcome State Fault Refusal :=
  onJro s core a a.len (fun t k => s.jroIssue core t k { (s.packet 2 a.cls 0 false 0) with addr := a.addr } a.len [] a.off)

/-- JRO_ATOM (R391). -/
def execJroAtom (core : Nat) (a : JroArgs) (s : State) : Host.Outcome State Fault Refusal :=
  onJro s core a 0 (fun t k =>
    let data := if a.subop = 1 then le 8 a.x ++ le 8 a.y else le 8 a.x
    s.jroIssue core t k { (s.packet 3 a.cls 0 false 0) with addr := a.addr, subop := a.subop } data.length data 0)

/-- JRO_NPUT (R392). -/
def execJroNput (core : Nat) (a : JroArgs) (s : State) : Host.Outcome State Fault Refusal :=
  onJro s core a a.len (fun t k =>
    s.jroSend core t k { (s.packet 4 a.cls 0 false 0) with addr := a.addr, aux := a.aux % 2 ^ 32 } a.off a.len)

/-- JRO_TOPK: a partial list to the merge region, which is reachable by firmware only (Table TRB-3, R387). -/
def execJroTopk (core : Nat) (a : JroArgs) (s : State) : Host.Outcome State Fault Refusal :=
  onJro s core a a.len (fun t k => s.jroSend core t k { (s.packet 5 a.cls 0 false 0) with addr := a.addr } a.off a.len)

end Sys2Proof.Machine
end

