-- ==== Sys2Proof/Machine/Lock.lean ====
section
/-! DEFINITION. Shared operations of Lock and Braid: home nodes, epochs and retention, slots, reaches and balls, planes, publication, the link and
repair queues (chapters 02, 03, 04 and 06). -/

namespace Sys2Proof

/-- The all-ones epoch of Table UPD-5. -/
abbrev allOnes : Nat := 0xFFFFFFFFFFFF

/-- The bucket of a row (R190). -/
def bucketOf (rowId : Nat) : Nat := rowId * 0x9E3779B97F4A7C15 % 2 ^ 64 / 2 ^ 52

/-- A read at epoch `e` sees the slot's content (R186). -/
def Slot.sees (z : Slot) (e : Nat) : Bool := decide (z.state ≠ .free) && decide (z.insEpoch ≤ e) && decide (e < z.delEpoch)

/-- STATE is LIVE with a committed INS_EPOCH. -/
def Slot.current (z : Slot) : Bool := decide (z.state = .live) && decide (z.insEpoch < allOnes)

/-- The slot counts as a row of its reach (R69). -/
def Slot.counts (z : Slot) : Bool := decide (z.state = .live) || decide (z.state = .tombstone)

/-- The slot is a tombstone that its reach counts (R610). -/
def Slot.tomb (z : Slot) : Bool := decide (z.state = .tombstone) && decide (z.link ≠ .unlinked)

/-- A slot with no content; freeing keeps its generation. -/
def Slot.freed (z : Slot) (gen : Nat) : Slot :=
  { rowId := 0, insEpoch := allOnes, delEpoch := allOnes, version := 0, gen := gen, state := .free, link := .unlinked, width := 0, damaged := false,
    payload := 0, fwdNode := 0, fwdSlot := 0, reach := z.reach, ref := [], code := [], side := [], outl := [], codeLost := false, edges := [],
    edgeLost := false, access := 0, recoded := false, lsn := 0 }

/-- The descriptor that codes a slot: the target of a running re-code once its reach has switched (R62). -/
def Coll.descOf (c : Coll) (z : Slot) : Desc := if z.recoded then c.target.getD c.desc else c.desc

/-- Slots of the collection that are not FREE. -/
def Coll.used (c : Coll) : Nat := (c.slots.filter (fun z => decide (z.2.state ≠ .free))).length

/-- Slots of a reach. -/
def Coll.slotsOf (c : Coll) (r : Nat) : Tbl Slot := c.slots.filter (fun z => decide (z.2.reach = r) && decide (z.2.state ≠ .free))

/-- Rows of a reach under R69. -/
def Coll.rowsOf (c : Coll) (r : Nat) : Nat := ((c.slotsOf r).filter (fun z => z.2.counts)).length

/-- Tombstone count of a reach (R610). -/
def Coll.tombs (c : Coll) (r : Nat) : Nat := ((c.slotsOf r).filter (fun z => z.2.tomb)).length

/-- The slot that holds the current content of a row: LIVE and committed. -/
def Coll.currentOf (c : Coll) (rowId : Nat) : Option (Nat × Slot) := c.slots.find? (fun z => decide (z.2.rowId = rowId) && z.2.current)

/-- The slot of a row that a read epoch sees; of two places the one with the newer version (R204, R165). -/
def Coll.seen (c : Coll) (rowId e : Nat) : Option (Nat × Slot) :=
  (c.slots.filter (fun z => decide (z.2.rowId = rowId) && z.2.sees e)).foldl (fun (acc : Option (Nat × Slot)) z => match acc with
    | none => some z
    | some y => if newerVersion z.2.version y.2.version then some z else some y) none

/-- The least slot that is FREE or unused. -/
def Coll.freeSlot (c : Coll) : Nat :=
  ((List.range (c.slots.length + 1)).find? (fun i => match Tbl.find i c.slots with | some z => decide (z.state = .free) | none => true)).getD 0

/-- Updates a slot. -/
def Coll.slot! (c : Coll) (i : Nat) (f : Slot → Slot) : Coll := { c with slots := Tbl.upd i f c.slots }

/-- Updates a reach. -/
def Coll.reach! (c : Coll) (r : Nat) (f : Reach → Reach) : Coll := { c with reaches := Tbl.upd r f c.reaches }

/-- The time at which an epoch became stable here. -/
def Coll.stableAt (c : Coll) (e : Nat) : Option Nat := (c.stableNs.find? (fun x => decide (e ≤ x.1))).map (·.2)

/-! ### Planes (R291, R292) -/

/-- The tombstone plane. -/
abbrev tombPlane : Nat := 0
/-- The damaged plane. -/
abbrev damagedPlane : Nat := 1
/-- The filter plane of a bitmap's generation that commits at epoch `e`. -/
def filterPlane (bitmap e : Nat) : Nat := 2 + bitmap * 2 ^ 48 + e

/-- Writes a bit of a list of ones. -/
def setOne (l : List Nat) (i : Nat) (on : Bool) : List Nat := if on then (if l.contains i then l else l ++ [i]) else l.filter (fun x => decide (x ≠ i))

/-- PLANE_BITS: changes bits in both copies of a plane. -/
def Coll.planeBits (c : Coll) (plane : Nat) (slots : List Nat) (on : Bool) : Coll :=
  let p := Tbl.getD plane ⟨[], []⟩ c.planes
  { c with planes := Tbl.put plane ⟨slots.foldl (fun l i => setOne l i on) p.primary, slots.foldl (fun l i => setOne l i on) p.twin⟩ c.planes }

/-- The bit of a slot in a plane's primary copy. -/
def Coll.planeBit (c : Coll) (plane slot : Nat) : Bool := (Tbl.getD plane ⟨[], []⟩ c.planes).primary.contains slot

/-- Lock's authoritative bit of a plane in Basin (R293). -/
def Coll.basinBit (c : Coll) (plane slot : Nat) : Bool :=
  match Tbl.find slot c.slots with
  | none => false
  | some z =>
    if plane = tombPlane then z.current
    else if plane = damagedPlane then z.damaged
    else c.bitmaps.any (fun b => b.2.gens.any (fun g => decide (filterPlane b.1 g.epoch = plane) && g.ones.contains slot))

/-- The entry of the epoch strip for a slot: all ones in both epochs where none is listed (R291, R295). -/
def Coll.stripAt (c : Coll) (slot : Nat) : Nat × Nat := Tbl.getD slot (allOnes, allOnes) c.strip

/-- The 16 bytes of a strip entry (R291). -/
def Coll.stripBytes (c : Coll) (slot : Nat) : List Byte := le 6 (c.stripAt slot).1 ++ zeros 2 ++ le 6 (c.stripAt slot).2 ++ zeros 2

/-- Writes a strip entry, from the row record in Basin (R295 step 2). -/
def Coll.putStrip (c : Coll) (slot : Nat) : Coll :=
  match Tbl.find slot c.slots with
  | some z => { c with strip := if z.state = .free ∨ z.insEpoch = allOnes then Tbl.erase slot c.strip else Tbl.put slot (z.insEpoch, z.delEpoch) c.strip }
  | none => { c with strip := Tbl.erase slot c.strip }

/-- Lock rewrites the strip from Basin (R293). -/
def Coll.rewriteStrip (c : Coll) : Coll :=
  { c with strip := (c.slots.filter (fun z => decide (z.2.state ≠ .free) && decide (z.2.insEpoch ≠ allOnes))).map (fun z => (z.1, (z.2.insEpoch, z.2.delEpoch))) }

/-- Lock rewrites a plane from Basin (R293). -/
def Coll.rewritePlane (c : Coll) (plane : Nat) : Coll :=
  let l := (Tbl.keys c.slots).filter (fun i => c.basinBit plane i)
  { c with planes := Tbl.put plane ⟨l, l⟩ c.planes }

/-- The generation of a bitmap that is current at an epoch (R93). -/
def Bitmap.genAt (b : Bitmap) (e : Nat) : Option BitGen := b.gens.find? (fun g => decide (g.epoch ≤ e))

/-- The Basin copy of a slot's bit in the generation that is current at an epoch (R92). Where that generation has made room for newer ones before a query at a
retained epoch was admitted, every bit reads 0: the spec does not say (R93; DESIGN CHOICE, log 53). -/
def Coll.filterBit (c : Coll) (bitmap e slot : Nat) : Bool :=
  match (Tbl.find bitmap c.bitmaps).bind (fun b => b.genAt e) with | some g => g.ones.contains slot | none => false

/-- The bit of the Millrace plane of that generation (R296). -/
def Coll.filterPlaneBit (c : Coll) (bitmap e slot : Nat) : Bool :=
  match (Tbl.find bitmap c.bitmaps).bind (fun b => b.genAt e) with | some g => c.planeBit (filterPlane bitmap g.epoch) slot | none => false

/-- Evaluates a filter program on a stack (R95, Table SND-3). -/
def filterEval (bitOf : Nat → Bool) : List (List Byte) → List Bool → Option Bool
  | [], [b] => some b
  | [], _ => none
  | st :: rest, stack =>
    match natAt st 0 1, stack with
    | 1, l => if l.length < 4 then filterEval bitOf rest (bitOf (natAt st 1 1) :: l) else none
    | 2, a :: b :: l => filterEval bitOf rest ((b && a) :: l)
    | 3, a :: b :: l => filterEval bitOf rest ((b || a) :: l)
    | 4, a :: b :: l => filterEval bitOf rest ((b != a) :: l)
    | 5, a :: l => filterEval bitOf rest ((!a) :: l)
    | _, _ => none

/-- The steps of a 32-byte program: up to the first step of four zero bytes (R95). -/
def filterSteps (prog : List Byte) : List (List Byte) :=
  ((List.range 8).map (fun i => bytesAt prog (4 * i) 4)).takeWhile (fun st => decide (st ≠ [0, 0, 0, 0]))

/-- The filter passes a slot; a program of no steps passes all. -/
def filterPass (bitOf : Nat → Bool) (prog : List Byte) : Bool :=
  match filterSteps prog with
  | [] => true
  | l => (filterEval bitOf l []).getD false

/-- A program meets R96 over the defined bitmaps; bytes after the program are zero. -/
def filterValid (defined : Nat → Bool) (prog : List Byte) : Bool :=
  let l := filterSteps prog
  decide (prog.drop (4 * l.length) = zeros (prog.length - 4 * l.length))
    && l.all (fun st => decide (natAt st 2 2 = 0) && (if natAt st 0 1 = 1 then defined (natAt st 1 1) else decide (natAt st 1 1 = 0)))
    && (l.isEmpty || (filterEval (fun _ => false) l []).isSome)

/-! ### Balls -/

/-- The source vector of a slot. -/
def Coll.source (c : Coll) (z : Slot) : List Dy := c.desc.source z.ref

/-- A source vector rounded to BF16, as a centre. -/
def toCentre (x : List Dy) : List F16 := x.map (fun a => BitVec.ofNat 16 (fmtB16.ofDy .rne a))

/-- What a reach adds to its catchment's radius (R71): up(up(‖c_r − c‖) + r). -/
def catchTerm (reachCentre catchCentre : List F16) (r : F32) : F32 := fadd .up (distUp (centreDy reachCentre) (centreDy catchCentre)) r

/-- Grows a reach and its catchment to cover a source vector (R72, R74). -/
def Coll.grow (c : Coll) (r : Nat) (x : List Dy) : Coll :=
  match Tbl.find r c.reaches with
  | none => c
  | some y =>
    let d := distUp x (centreDy y.centre)
    let y' : Reach := { y with radius := fmax y.radius d, tight := fmax y.tight d }
    { c with
      reaches := Tbl.put r y' c.reaches
      catches := Tbl.upd y.catchment (fun k => { k with
        radius := fmax k.radius (catchTerm y.centre k.centre y'.radius)
        tight := fmax k.tight (catchTerm y.centre k.centre y'.tight) }) c.catches }

/-- The nearest of some centres (R196): lower index at a tie. -/
def nearest (x : List Dy) (l : List (Nat × List F16)) : Option Nat :=
  (l.foldl (fun (acc : Option (Nat × F32)) p =>
    let d := distRne x (centreDy p.2)
    match acc with
    | none => some (p.1, d)
    | some (i, e) => if flt d e then some (p.1, d) else some (i, e)) none).map (·.1)

/-- The reach that R196 chooses for a row, or `none` when the collection has no reach. -/
def Coll.place (c : Coll) (x : List Dy) : Option Nat :=
  let live := c.catches.filter (fun k => c.reaches.any (fun r => decide (r.2.catchment = k.1)))
  (nearest x (live.map (fun k => (k.1, k.2.centre)))).bind (fun k =>
    nearest x ((c.reaches.filter (fun r => decide (r.2.catchment = k))).map (fun r => (r.1, r.2.centre))))

/-- A catchment around a centre. -/
def Catch.at (centre : List F16) : Catch := ⟨centre, 0, 0, 0, none, 0, 0, false⟩

/-- A reach around a centre. -/
def Reach.at (catchment cell : Nat) (centre : List F16) : Reach := ⟨catchment, centre, 0, 0, 0, 0, 0, cell, false⟩

/-- Reaches of a catchment. -/
def Coll.reachesOf (c : Coll) (k : Nat) : Tbl Reach := c.reaches.filter (fun r => decide (r.2.catchment = k))

/-- The least unused index below a limit. -/
def leastFree {α : Type} (t : Tbl α) (n : Nat) : Option Nat := Tbl.freeFrom t n 0

/-- Codes a slot's reference copy by a descriptor (R35 to R43). -/
def Slot.coded (z : Slot) (d : Desc) : Slot :=
  let e := encodeRow d (d.bitsOf z.width) z.ref
  { z with code := e.1, side := e.2.1, outl := e.2.2, codeLost := false }

/-- A source that nothing has come from. -/
def SourceSums.none_ : SourceSums := ⟨0, false, false, [], []⟩

end Sys2Proof

namespace Sys2Proof.Machine

/-! ### Nodes and epochs -/

/-- A node has been declared lost. -/
def State.nodeLost (s : State) (n : Nat) : Bool := match Tbl.find n s.trib.peers with | some p => p.lost | none => false

/-- The homes of a composition's map for a collection of a span: none without a map, or for a span of 1 (R190, R191). -/
def State.mapHomes (s : State) (comp span : Nat) : List Nat :=
  match (if span ≤ 1 then none else s.comp comp) with
  | some x => if x.hasMap then x.homes else []
  | none => []

/-- The home of a row under a map; without one, every row is homed here (R190). -/
def State.homeUnder (s : State) (map : List Nat) (rowId : Nat) : Nat := map.getD (bucketOf rowId) s.nodeNo

/-- The home of a row under the composition's current map. -/
def State.homeOf (s : State) (comp span rowId : Nat) : Nat := s.homeUnder (s.mapHomes comp span) rowId

/-- The span nodes of a collection, ascending: those of the composition's current map, or this node alone for a span of 1 (R184, R191). -/
def State.spanNodes (s : State) (comp span : Nat) : List Nat :=
  match (if span ≤ 1 then none else s.comp comp) with
  | some x => if x.hasMap then sortBy (fun a b => decide (a < b)) (dedup x.homes) else [s.nodeNo]
  | none => [s.nodeNo]

/-- The epoch home of a composition's collections of a span (R184). -/
def State.epochHome (s : State) (comp span : Nat) : Nat := ((s.spanNodes comp span).find? (fun n => !s.nodeLost n)).getD s.nodeNo

/-- The other nodes of the span that are not lost. -/
def State.others (s : State) (comp span : Nat) : List Nat := (s.spanNodes comp span).filter (fun n => decide (n ≠ s.nodeNo) && !s.nodeLost n)

/-- SPAN of a collection. -/
def State.spanOf (s : State) (k : Nat) : Nat := match s.coll k with | some c => c.desc.span | none => 1
/-- The epoch home of a collection. -/
def State.homeNode (s : State) (k : Nat) : Nat := s.epochHome (k / 4096) (s.spanOf k)

/-- Sends a firmware message. -/
def State.send (s : State) (node cls : Nat) (f : FwMsg) : State := s.trib! (fun t => { t with fwOut := t.fwOut ++ [(node, cls, f)] })

/-- The head of a note in firmware region 0xC: its kind, the collection and the TENANT of its composition (internal layout, log 122). -/
def State.noteHead (s : State) (kind k : Nat) : List Byte := le 1 kind ++ le 1 0 ++ le 2 (k % 4096) ++ le 4 (s.tenantOf (k / 4096))

/-- The bytes of a message of R191 and R193 (internal layout, log 122); kinds 3 and 4 act on arrival, the others through their own commands. -/
def State.updNote (s : State) (f : FwMsg) : List Byte :=
  match f with
  | .outcomeAsk k coord seq => s.noteHead 3 k ++ le 8 coord ++ le 8 seq
  | .abort k seq => s.noteHead 4 k ++ le 8 seq
  | .part k seq ops => s.noteHead 16 k ++ le 8 seq ++ ops.flatMap (fun o => le 1 (o.op % 256) ++ le 1 o.flags ++ le 6 0 ++ le 8 o.rowId ++ le 8 o.payload ++ le 8 o.data.length
      ++ bytesAt o.data 0 (roundUp o.data.length 8))
  | .epochReq k seq => s.noteHead 17 k ++ le 8 seq
  | .commit k seq e => s.noteHead 18 k ++ le 8 seq ++ le 8 e
  | .epochComplete k e => s.noteHead 19 k ++ le 8 e
  | .outcome k coord seq o => s.noteHead 20 k ++ le 8 coord ++ le 8 seq ++ le 8 (match o with | .epoch e => e | .aborted _ => 0)
  | .partPrepared k seq => s.noteHead 21 k ++ le 8 seq
  | .commitReport k seq => s.noteHead 22 k ++ le 8 seq
  | .epochGrant k seq e => s.noteHead 23 k ++ le 8 seq ++ le 8 e
  | .epochAbort k seq _ => s.noteHead 24 k ++ le 8 seq
  | .epochReroute k seq v => s.noteHead 25 k ++ le 8 seq ++ le 8 v
  | .partReroute k seq v _ => s.noteHead 26 k ++ le 8 seq ++ le 8 v
  | .stable k e => s.noteHead 27 k ++ le 8 e
  | .forwardWrite k r _ => s.noteHead 28 k ++ le 8 r
  | _ => zeros 8

/-- Sends a message of R191 and R193: it is sent again after PATH_LOST until it completes or its target is declared lost (R608). -/
def State.sendUpd (s : State) (node : Nat) (k : Nat) (f : FwMsg) : State :=
  let s1 := s.send node 1 f
  if s.nodeLost node then s1
  else
    let id := s1.trib.nextOp
    let bs := s.updNote f
    (s1.trib! (fun t => { t with fwPend := Tbl.put id (node, k, f) t.fwPend })).fwOp (k / 4096) 4 1 node 0xC 7 k 0 bs.length bs

/-- Such a message has ended with a status. -/
def State.updSent (s : State) (id st : Nat) : State :=
  match Tbl.find id s.trib.fwPend with
  | none => s
  | some (node, k, f) =>
    let s1 := s.trib! (fun t => { t with fwPend := Tbl.erase id t.fwPend })
    if st = jPathLost then s1.sendUpd node k f else s1

/-- RET_EPOCHS and RET_MS of a collection (R188): its own, or LCK_RETAIN's as it adopted them at its last commit. -/
def State.retention (s : State) (k : Nat) (c : Coll) : Nat × Nat :=
  (if c.desc.retEpochs ≠ 0 then c.desc.retEpochs else orIfZero (s.fldFor Reg.LCK_RETAIN 0 32 k) 1,
   if c.desc.retMs ≠ 0 then c.desc.retMs else orIfZero (s.fldFor Reg.LCK_RETAIN 32 16 k) 1)

/-- An epoch is retained (R188). -/
def State.retained (s : State) (k : Nat) (c : Coll) (e : Nat) : Bool :=
  let r := s.retention k c
  decide (c.lastEpoch ≤ e) || decide (c.lastEpoch - e < r.1)
    || (match c.stableAt (e + 1) with | some t => decide (s.now < t + ms r.2) | none => false)

/-- Read epochs of the queries, gathers and bitmap reads of a collection in flight. -/
def State.inFlight (s : State) (k : Nat) : List Nat :=
  (s.search.qbatches.filter (fun b => decide (b.2.coll = k))).map (fun b => b.2.readEpoch)
    ++ (s.search.gathers.filter (fun g => decide (g.2.coll = k))).map (fun g => g.2.readEpoch)
    ++ (s.search.bitWrites.filter (fun w => decide (w.coll = k))).map (fun _ => match s.coll k with | some c => c.lastEpoch | none => 0)

/-- The stable epoch of a collection rises here (R185). -/
def State.raiseStable (s : State) (k e : Nat) : State :=
  s.coll! k (fun c => if c.lastEpoch < e then { c with lastEpoch := e, stableNs := Tbl.put e s.now c.stableNs } else c)

/-- The stable epoch of an epoch home: the greatest E such that every epoch up to E is done (R184); `fuel` bounds the rise. -/
def advance : Nat → EpochHome → EpochHome
  | 0, h => h
  | n + 1, h => if h.done.contains (h.stable + 1) then advance n { h with stable := h.stable + 1, done := h.done.filter (fun e => decide (e ≠ h.stable + 1)) } else h

/-- An epoch is reported complete or void at its home. -/
def EpochHome_finish (h : EpochHome) (e : Nat) : EpochHome :=
  if e ≤ h.stable ∨ h.done.contains e then h else advance (h.done.length + 1) { h with done := h.done ++ [e] }

/-- The epoch home records a batch's epoch until that epoch is no longer retained here (R193). -/
def State.pruneRecs (s : State) (k : Nat) : State :=
  match s.coll k with
  | none => s
  | some c => s.coll! k (fun y => { y with home := y.home.map (fun h => { h with
      recs := h.recs.filter (fun r => match r.outcome with | .epoch e => s.retained k c e | .aborted _ => true) }) })

/-- The epoch home counts an epoch complete, and its own last committed epoch follows (R184, R185). -/
def State.epochDone (s : State) (k e : Nat) : State :=
  match (s.coll k).bind (·.home) with
  | none => s
  | some h =>
    let h' := EpochHome_finish h e
    ((s.coll! k (fun c => { c with home := some h' })).raiseStable k h'.stable).pruneRecs k

/-- A grant of an epoch at its home (R184, R193, R554): the recorded outcome of a repeated request, else the next epoch; at the end of the epochs
the batch is marked aborted. -/
def State.grantEpoch (s : State) (k coord seq : Nat) : Option (Outcome2 × State) :=
  match s.coll k with
  | none => none
  | some c => match c.home with
    | none => none
    | some h =>
      match h.recs.find? (fun r => decide (r.coord = coord) && decide (r.seq = seq)) with
      | some r => some (r.outcome, s)
      | none =>
        let last := 2 ^ 48 - 1
        if h.next = last then
          some (.aborted true, s.coll! k (fun c => { c with home := some { h with recs := h.recs ++ [⟨coord, seq, .aborted true⟩] } }))
        else
          let s1 := s.coll! k (fun c => { c with home := some { h with next := h.next + 1, recs := h.recs ++ [⟨coord, seq, .epoch h.next⟩] } })
          -- EPOCH_NEAR_END once, when the end comes within 2^32 of the last committed epoch (R554)
          let s2 := if last - c.lastEpoch = 2 ^ 32 then s1.logC (unitOf 0x12 0) 0x0048 c.comp 0x3FF c.id (c.lastEpoch + 2 ^ 64 * last) else s1
          some (.epoch h.next, s2)

/-! ### Space and placement -/

/-- Bytes that a collection reserves in Millrace, Basin and flash for `rows` rows (R609); a POPULARITY row is taken at CODE4. The layout of
the records in Basin is internal: a row record and payload handle, an edge list, an epoch-strip entry and plane bits for each row, and a record with a
centre for each reach of 16,384 rows and its catchment (log 23). -/
def Desc_need (d : Desc) (rows : Nat) : Nat × Nat × Nat :=
  let w := d.bitsOf 0
  let side := (if w = 1 then 4 else 6) + (if d.nOut = 0 then 0 else 2)
  let reaches := cdiv rows 16384
  let rec_ := 64 + 2 * d.dim
  (rows * (roundUp (cdiv (d.dn * w) 8) 32 + side + 2 * d.nOut + 16) + cdiv rows 2 + 64 * reaches,
   rows * (24 + (if bit d.flags 0 then 8 else 0) + 192 + 17) + 2 * reaches * rec_,
   4096 * (if d.refBytes ≤ 4096 then cdiv rows (4096 / d.refBytes) else rows * d.rowSectors))

/-- Reserves the three tiers, or none of them. -/
def State.reserve (s : State) (comp : Nat) (n : Nat × Nat × Nat) : Option State :=
  ((s.allocate comp 0 n.1).bind (fun t => t.allocate comp 1 n.2.1)).bind (fun t => t.allocate comp 2 n.2.2)

/-- Releases a reservation. -/
def State.unreserve (s : State) (comp : Nat) (n : Nat × Nat × Nat) : State := ((s.release comp 0 n.1).release comp 1 n.2.1).release comp 2 n.2.2

/-- Bank groups that a collection's reaches may use: those of the slice, within MILLRACE_MASK where it leaves any (R63, R313), off failed stacks. -/
def State.cellsFor (s : State) (c : Coll) : List Nat :=
  let groups := match s.comp c.comp with | some x => x.f 0x10 2 | none => 0
  let all := (List.range 512).filter (fun n => bit groups (n / 32) && s.stackUp 2 (n / 128))
  let hinted := all.filter (fun n => bit c.millMask (n / 128))
  if c.millMask = 0 ∨ hinted = [] then all else hinted

/-- The bank group of the collection's next reach: round robin from the one after that of its newest reach (R313). -/
def State.nextCell (s : State) (c : Coll) : Nat :=
  let l := s.cellsFor c
  match c.reaches.getLast? with
  | none => l.head?.getD 0
  | some r => ((l.find? (fun n => decide (r.2.cell < n))).orElse (fun _ => l.head?)).getD 0

/-! ### Publication (R99, R100) -/

/-- The published RADIUS of a local radius. -/
def State.slack (s : State) (r : F32) : F32 :=
  let n := inRange (s.fld Reg.SND_PUB 32 8) 1 16 16
  if ffinite r then f32OfDy .up (Dy.mul (fdy r) ⟨(2 ^ n : Nat) + 1, -(n : Int)⟩) else r

/-- The summary of a local catchment (Table SND-4). -/
def State.summaryOf (s : State) (c : Coll) (i : Nat) (k : Catch) (seq : Nat) : Summary :=
  { valid := true, empty := (c.reachesOf i).isEmpty, radius := s.slack k.radius, tight := s.slack k.tight, tightEpoch := k.tightEpoch,
    reaches := (c.reachesOf i).length, rows := sumL ((c.reachesOf i).map (fun r => c.rowsOf r.1)), seq := seq, centre := k.centre }

/-- The bytes of a summary (Table SND-4). -/
def Summary_bytes (z : Summary) (node catchment coll : Nat) : List Byte :=
  le 2 node ++ le 2 catchment ++ le 2 coll ++ le 2 (b2n z.valid + 2 * b2n z.empty) ++ le 4 z.radius.toNat ++ le 4 z.tight.toNat ++ le 8 z.tightEpoch
    ++ le 4 z.reaches ++ le 4 0 ++ le 8 z.rows ++ le 8 z.seq ++ zeros 16 ++ z.centre.flatMap (fun a => le 2 a.toNat)

/-- Publishes a catchment to every other node of the span. -/
def State.publish (s : State) (key i : Nat) : State :=
  match s.coll key with
  | none => s
  | some c => match Tbl.find i c.catches with
    | none => s
    | some k =>
      let seq := c.pubSeq + 1
      let sum := s.summaryOf c i k seq
      let dests := s.others c.comp c.desc.span
      let s1 := (s.coll! key (fun c => { c with
        pubSeq := seq
        catches := Tbl.upd i (fun k => { k with pubRadius := sum.radius, pubTight := sum.tight, published := !sum.empty }) c.catches
        pubs := c.pubs ++ (if dests = [] then [] else [⟨i, seq, dests, s.now, false⟩]) })).count Reg.SND_CNT0 5 1
      let bs := Summary_bytes sum s.nodeNo i c.id
      dests.foldl (fun t n => (t.send n 1 (.summary key i sum)).fwOp (key / 4096) 4 1 n 0xA 2 key seq bs.length bs) s1

/-- Publishes every local catchment of a collection (R101). -/
def State.publishAll (s : State) (key : Nat) : State :=
  match s.coll key with
  | none => s
  | some c => if s.others c.comp c.desc.span = [] then s else (Tbl.keys c.catches).foldl (fun t k => t.publish key k) s

/-- A node of the span has acknowledged a publication (R100). -/
def State.pubAck (s : State) (key seq node : Nat) : State :=
  s.coll! key (fun c => { c with
    pubs := (c.pubs.map (fun p => if p.seq = seq then { p with waiting := p.waiting.filter (fun n => decide (n ≠ node)) } else p)).filter (fun p => decide (p.waiting ≠ [])) })

/-- Updates what is held from a source. -/
def State.source! (s : State) (k n : Nat) (f : SourceSums → SourceSums) : State :=
  s.coll! k (fun c => { c with sources := Tbl.put n (f (Tbl.getD n SourceSums.none_ c.sources)) c.sources })

/-- Asks a source to send its full set of summaries again (R101, Table TRB-8: class 3). -/
def State.askResync (s : State) (k n : Nat) : State :=
  ((s.source! k n (fun v => { v with resync := true })).send n 3 (.resync k)).fwOpAt (k / 4096) 2 3 n (resyncOff (s.tenantOf (k / 4096)) (k % 4096)) 6 k 0 8 []

/-- Before a node has heard from a source, as after its restart or when the source joins the span, it holds the source for UNSURE and asks it for its full
set of summaries (R101, log 123). -/
def State.askFirst (s : State) (k n : Nat) : State := (s.source! k n (fun v => { v with unsure := true })).askResync k n

/-- Publishes every local catchment whose radius has grown past what is published (R99). -/
def State.publishGrown (s : State) (key : Nat) : State :=
  match s.coll key with
  | none => s
  | some c =>
    if s.others c.comp c.desc.span = [] then s
    else (c.catches.filter (fun k => !k.2.published || flt k.2.pubRadius k.2.radius || flt k.2.pubTight k.2.tight)).foldl (fun t k => t.publish key k.1) s

/-- A publication of the collection waits for a node that has not been declared lost (R100). -/
def State.pubsWait (s : State) (c : Coll) : Bool := c.pubs.any (fun p => p.waiting.any (fun n => !s.nodeLost n))

/-! ### Link and repair queues -/

/-- REPAIR_PCT. -/
def State.repairPct (s : State) : Nat := inRange (s.fld Reg.BRD_REPAIR 8 8) 1 100 100

/-- Tests a reach for repair (R142). -/
def State.repairTest (s : State) (key r : Nat) : State :=
  match s.coll key with
  | none => s
  | some c => match Tbl.find r c.reaches with
    | none => s
    | some y =>
      let rows := c.rowsOf r
      let t := c.tombs r
      let full := decide (16384 ≤ rows) && decide (0 < t)
      let req : LinkReq := ⟨key, r⟩
      let pct := bit (s.fld Reg.BRD_REPAIR 0 1) 0 && (decide (s.repairPct * rows ≤ 100 * t) || decide (s.repairPct * rows ≤ 100 * y.stale))
      if full then s.search! (fun x => { x with repairQ := req :: x.repairQ.filter (fun y => decide (y ≠ req)) })
      else if s.search.repairQ.contains req then s
      else if pct then s.search! (fun x => { x with repairQ := x.repairQ ++ [req] })
      else s

/-- Queues a slot for linking, or leaves it PENDING when the queue is full (R135). -/
def State.queueLink (s : State) (key i : Nat) : State :=
  let s1 := s.coll! key (fun c => c.slot! i (fun z => { z with link := .pending }))
  if 1048576 ≤ s1.search.linkQ.length then s1.count Reg.BRD_CNT0 6 1
  else if s1.search.linkQ.contains ⟨key, i⟩ then s1
  else s1.search! (fun x => { x with linkQ := x.linkQ ++ [⟨key, i⟩] })

/-- The LIVE, LINKED row of a catchment whose decoded code lies nearest its centre (R125). -/
def Coll_nearestEntry (c : Coll) (k : Nat) : Option Nat :=
  match Tbl.find k c.catches with
  | none => none
  | some y =>
    let centre := c.desc.codedDims.map (fun j => (centreDy y.centre).getD j Dy.zero)
    let l := c.slots.filter (fun z => z.2.current && decide (z.2.link = .linked) && (match Tbl.find z.2.reach c.reaches with | some r => decide (r.catchment = k) | none => false))
    (l.foldl (fun (acc : Option (Nat × F32)) z =>
      let d := distRne (decodeRow (c.descOf z.2) ((c.descOf z.2).bitsOf z.2.width) z.2.code z.2.side) centre
      match acc with
      | none => some (z.1, d)
      | some (i, e) => if flt d e then some (z.1, d) else some (i, e)) none).map (·.1)

/-- Frees a slot: GEN rises, its filter bits and its entry role go, its reference sectors are discarded where no other slot uses them (R123, R189, R360). -/
def State.freeSlot (s : State) (key i : Nat) : State :=
  match s.coll key with
  | none => s
  | some c => match Tbl.find i c.slots with
    | none => s
    | some z =>
      let s1 := s.coll! key (fun c =>
        let c1 := (c.slot! i (fun z => z.freed ((z.gen + 1) % 256))).putStrip i
        let held := c1.slots.any (fun y => decide (y.2.state ≠ .free) && decide (y.2.rowId = z.rowId))
        let c2 : Coll := { c1 with
          index := if held then c1.index else Tbl.erase z.rowId c1.index
          bitmaps := c1.bitmaps.map (fun b => (b.1, { b.2 with gens := b.2.gens.map (fun g => { g with ones := setOne g.ones i false }) }))
          planes := c1.planes.map (fun p => (p.1, ⟨setOne p.2.primary i false, setOne p.2.twin i false⟩)) }
        { c2 with catches := c2.catches.map (fun k => (k.1, if k.2.entry = some i then { k.2 with entry := Coll_nearestEntry c2 k.1 } else k.2)) })
      match s1.coll key with
      | none => s1
      | some c1 =>
        let keep := c1.slots.flatMap (fun y => if y.2.state = .free then [] else c1.desc.slotLsns c1.base y.1)
        s1.discardAll c1.space ((c1.desc.slotLsns c1.base i).filter (fun l => !keep.contains l))

end Sys2Proof.Machine
end

