-- ==== Sys2Proof/Machine/Collections.lean ====
section
/-! DEFINITION. Collection opcodes: creation, freeze, drop, re-code, placement hints and information (chapter 02). -/

namespace Sys2Proof

/-- A collection as COLL_CREATE leaves it: ONLINE at epoch 0 with no rows (Table COL-9). -/
def Coll.fresh (comp id : Nat) (d : Desc) (space base : Nat) (home : Option EpochHome) : Coll :=
  { comp := comp, id := id, desc := d, target := none, state := .online, frozen := false, recoding := false, reaches := [], catches := [], slots := [],
    index := [], bitmaps := [], planes := [], strip := [], sources := [], pubSeq := 0, pubs := [], lastEpoch := 0, stableNs := [], home := home,
    defaultRow := zeros (d.dim * d.elemBytes), defaultPayload := 0, millMask := 0, basinMask := 0, deltaMask := 0, lakeCentres := false,
    promoteDeferred := 0, decayNs := 0, oldStorage := [], scanPos := 0, scanSlot := 0, dropMsg := none, freezeMsgs := [], recodeMsg := none,
    dropWait := [], space := space, base := base, refExt := none }

/-- An epoch home with no epoch granted (R183). -/
def EpochHome.fresh : EpochHome := ⟨1, 0, [], [], false, 0, 0⟩

/-- Why COLL_RECODE refuses a field that it may not change (R61), or 0. -/
def Desc.recodeReason (old new : Desc) : Nat :=
  if old.dim ≠ new.dim then 0x0001
  else if old.metric ≠ new.metric ∨ old.refFmt ≠ new.refFmt then 0x0002
  else if old.raw.take 32 ≠ new.raw.take 32 ∨ old.flags ≠ new.flags ∨ old.span ≠ new.span ∨ old.rowCap ≠ new.rowCap
      ∨ old.retEpochs ≠ new.retEpochs ∨ old.retMs ≠ new.retMs then 0x000B
  else 0

end Sys2Proof

namespace Sys2Proof.Machine

/-- The state byte of a collection, 0 where the sender holds none. -/
def State.collState (s : State) (k : Nat) : Nat := match s.coll k with | some c => c.stateCode | none => 0

/-- A collection opcode is done. -/
def State.collDone (s : State) (m : Msg) (k : Nat) (rest : List Byte) : State := s.reply m stOK (collHdr 0 (s.collState k) ++ rest)

/-- A collection opcode is refused (R58, Table COL-10). -/
def State.collRefuse (s : State) (m : Msg) (k reason : Nat) : State := s.reply m stBad (collHdr reason (s.collState k))

/-- A collection opcode on a collection that its sender holds (R29). -/
def State.onColl (s : State) (m : Msg) (reservedOk : Bool) (f : Nat → Coll → State) : State :=
  let k := collKey m.comp (m.p 0 2)
  match (if m.p 0 2 < 4096 then s.coll k else none) with
  | none => s.reply m stBad (collHdr (if reservedOk ∨ 4096 ≤ m.p 0 2 then 0x0005 else 0x000B) 0)
  | some c => if reservedOk then f k c else s.collRefuse m k 0x000B

/-- COLL_CREATE (R32, R609, R183): the reference area takes the next LSNs of the composition's space (R346). Where several checks fail, the spec gives no
order, and the first in the order written here is reported: FIELD, the descriptor's reason, ID_IN_USE (also for an id that is DROPPING, R65), TABLE_FULL,
CAPACITY (DESIGN CHOICE, log 121). A collection that is DROPPING is not live, so TABLE_FULL does not count it (R28). The node has heard from no other node
of the span, so it asks each for its summaries (R101, log 123). -/
def execCollCreate (mb : Nat) (s : State) : Host.Outcome State Fault Refusal :=
  onMsg s mb 0x0201 (fun m t =>
    let id := m.p 0 2
    let k := collKey m.comp id
    let d : Desc := ⟨m.pb 8 128⟩
    if 4096 ≤ id then t.reply m stBad (collHdr 0x000B 0)
    else if m.p 2 6 ≠ 0 ∨ id = 0xFFF then t.collRefuse m k 0x000B
    else if d.reason ≠ 0 then t.collRefuse m k d.reason
    else if (t.coll k).isSome then t.collRefuse m k 0x0004
    else if 1024 ≤ (t.search.colls.filter (fun c => decide (c.2.state ≠ .dropping))).length then t.collRefuse m k 0x000A
    else
      let need := Desc_need d d.rowCap
      match t.spaceOf m.comp, t.reserve m.comp need with
      | some space, some u =>
        let base := Tbl.getD space 0 u.delta.nextLsn
        let home := if u.epochHome m.comp d.span = u.nodeNo then some EpochHome.fresh else none
        let v := (u.delta! (fun y => { y with nextLsn := Tbl.put space (base + need.2.2 / 4096) y.nextLsn })).search! (fun x =>
          { x with colls := Tbl.put k { (Coll.fresh m.comp id d space base home) with decayNs := u.now } x.colls })
        ((v.others m.comp d.span).foldl (fun w n => w.askFirst k n) v).collDone m k []
      | _, _ => t.collRefuse m k 0x0006)

/-- COLL_FREEZE (R59): FROZEN follows once every update batch admitted before has committed. A collection that is FROZEN already is frozen again, with a
reply of its own: the spec names no refusal for it (DESIGN CHOICE, log 121). -/
def execCollFreeze (mb : Nat) (s : State) : Host.Outcome State Fault Refusal :=
  onMsg s mb 0x0202 (fun m t => t.onColl m (decide (m.p 2 6 = 0)) (fun k c =>
    if c.state ≠ .online then t.collRefuse m k 0x0007
    else
      let before := (t.search.upds.filter (fun u => decide (u.2.coll = k) && u.2.migr.isNone)).map (·.1)
      t.coll! k (fun c => { c with freezeMsgs := c.freezeMsgs ++ [(m, before)] })))

/-- FREEZE_SET (R59, R361): the oldest freeze whose batches are all gone sets FROZEN and replies; the reference area is then sealed as an extent. -/
def execFreezeSet (coll : Nat) (s : State) : Host.Outcome State Fault Refusal :=
  ok (match s.coll coll with
    | none => s
    | some c => match c.freezeMsgs with
      | [] => s
      | (m, before) :: rest =>
        if before.any (fun b => Tbl.has b s.search.upds) then s
        else
          let s1 := s.coll! coll (fun c => { c with frozen := true, freezeMsgs := rest })
          let s2 := if c.refExt.isSome then s1 else match s1.sealColl coll { c with frozen := true } with | some r => r.2 | none => s1
          s2.collDone m coll (le 6 c.lastEpoch))

/-- Batches in progress on a collection. -/
def State.collBatches (s : State) (k : Nat) : List Nat :=
  dedup ((s.slc.batches.filter (fun b => decide (b.2.coll = some k))).map (·.1) ++ (s.search.qbatches.filter (fun b => decide (b.2.coll = k))).map (·.1)
    ++ (s.search.upds.filter (fun b => decide (b.2.coll = k))).map (·.1) ++ (s.search.gathers.filter (fun g => decide (g.2.coll = k))).map (·.1))

/-- A re-code that is abandoned (R60): reaches that switched are coded again by the live descriptor; COLL_RECODE replies STATE (log 24). -/
def State.abandonRecode (s : State) (k : Nat) : State :=
  match s.coll k with
  | none => s
  | some c =>
    if !c.recoding then s
    else
      let s1 := s.coll! k (fun c => { c with
        recoding := false, target := none, recodeMsg := none, oldStorage := []
        reaches := c.reaches.map (fun r => (r.1, { r.2 with switched := false }))
        slots := c.slots.map (fun z => (z.1, if z.2.recoded then { (z.2.coded c.desc) with recoded := false, codeLost := z.2.damaged } else z.2)) })
      let s2 := match c.target with | some d => s1.unreserve c.comp (Desc_need d d.rowCap) | none => s1
      match c.recodeMsg with | some m => s2.collRefuse m k 0x0007 | none => s2

/-- COLL_DROP (R60): DROPPING at admission; the reply waits until the batches admitted earlier have retired. -/
def execCollDrop (mb : Nat) (s : State) : Host.Outcome State Fault Refusal :=
  onMsg s mb 0x0203 (fun m t => t.onColl m (decide (m.p 2 6 = 0)) (fun k c =>
    if c.state = .dropping then t.collRefuse m k 0x0007
    else
      let wait := t.collBatches k
      (t.abandonRecode k).coll! k (fun c => { c with state := .dropping, dropMsg := some m, dropWait := wait })))

/-- A collection that is gone waits for no boundary of LCK_RETAIN. -/
def State.leaveRetain (s : State) (k : Nat) : State := (s.boundary Reg.LCK_RETAIN 0 32 k).boundary Reg.LCK_RETAIN 32 16 k

/-- DROP_COMPLETE (R60, R360): the last batch admitted earlier has retired; storage and reservation are free, the reply goes, with STATE
DROPPING, and the id is free. -/
def execDropComplete (coll : Nat) (s : State) : Host.Outcome State Fault Refusal :=
  ok (match s.coll coll with
    | none => s
    | some c => match c.dropMsg with
      | none => s
      | some m =>
        let live := s.collBatches coll
        if c.dropWait.any (fun b => live.contains b || Tbl.has b s.slc.batches) ∨ s.search.parts.any (fun p => decide (p.coll = coll) && decide (p.state ≠ .aborted)) then s
        else
          let s1 := if c.refExt.isSome then s else s.discardAll c.space (Coll_lsns c)
          let s2 := (s1.unreserve c.comp (Desc_need c.desc c.desc.rowCap)).search! (fun x => { x with
            parts := x.parts.filter (fun p => decide (p.coll ≠ coll))
            linkQ := x.linkQ.filter (fun r => decide (r.coll ≠ coll)), repairQ := x.repairQ.filter (fun r => decide (r.coll ≠ coll)) })
          let s3 := s2.ferry! (fun f => { f with lake := f.lake.filter (fun y => !(y.2.centre && decide (y.2.obj = coll))) })
          let s4 := c.freezeMsgs.foldl (fun t f => t.collRefuse f.1 coll 0x0007) s3
          ((s4.collDone m coll []).search! (fun x => { x with colls := Tbl.erase coll x.colls })).leaveRetain coll)

/-- A re-code is finished once every reach has switched and no old storage is left (R61, R62, R609). -/
def State.finishRecode (s : State) (k : Nat) : State :=
  match s.coll k with
  | none => s
  | some c => match c.target, c.recodeMsg with
    | some d, some m =>
      if c.reaches.all (fun r => r.2.switched) && c.oldStorage.isEmpty then
        let s1 := s.coll! k (fun c => { c with
          desc := d, target := none, recoding := false, recodeMsg := none
          reaches := c.reaches.map (fun r => (r.1, { r.2 with switched := false }))
          slots := c.slots.map (fun z => (z.1, { z.2 with recoded := false })) })
        (s1.unreserve c.comp (Desc_need c.desc c.desc.rowCap)).collDone m k []
      else s
    | _, _ => s

/-- COLL_RECODE (R61, R609). Where several checks fail the spec gives no order, and the first in the order written here is reported: STATE, RECODE_BUSY, a
limit of the descriptor, a field that may not change, CAPACITY (DESIGN CHOICE, log 121). -/
def execCollRecode (mb : Nat) (s : State) : Host.Outcome State Fault Refusal :=
  onMsg s mb 0x0204 (fun m t => t.onColl m (decide (m.p 2 6 = 0)) (fun k c =>
    let d : Desc := ⟨m.pb 8 128⟩
    if c.state ≠ .online then t.collRefuse m k 0x0007
    else if c.recoding then t.collRefuse m k 0x0008
    else if d.reason ≠ 0 then t.collRefuse m k d.reason
    else if c.desc.recodeReason d ≠ 0 then t.collRefuse m k (c.desc.recodeReason d)
    else match t.reserve c.comp (Desc_need d d.rowCap) with
      | none => t.collRefuse m k 0x0006
      | some u => (u.coll! k (fun c => { c with recoding := true, target := some d, recodeMsg := some m, oldStorage := [] })).finishRecode k))

/-- Cells that scan a reach. -/
def State.reachScanned (s : State) (k r : Nat) : Bool := s.mrc.cells.any (fun c => c.2.issues.any (fun i => decide (i.coll = k) && decide (i.reach = r)))

/-- RECODE_REACH_SWITCH (R62): one reach switches, between scans of it (log 25). A row whose reference copy is lost cannot be coded anew. The rows start in
the new format as inserted rows do, at CODE4 with an access count of zero under POPULARITY: the spec does not say what the counts become (DESIGN CHOICE,
log 121). -/
def execRecodeReachSwitch (coll reach : Nat) (s : State) : Host.Outcome State Fault Refusal :=
  ok (match s.coll coll with
    | none => s
    | some c => match c.target, Tbl.find reach c.reaches with
      | some d, some y =>
        if y.switched ∨ s.reachScanned coll reach then s
        else
          let s := s.chargeNode c.comp
          let batches := (s.search.qbatches.filter (fun b => decide (b.2.coll = coll))).map (·.1)
          let s1 := s.coll! coll (fun c => { c with
            reaches := Tbl.upd reach (fun r => { r with switched := true }) c.reaches
            oldStorage := if batches = [] then c.oldStorage else c.oldStorage ++ [(reach, batches)]
            slots := c.slots.map (fun z => (z.1,
              if z.2.reach = reach ∧ z.2.state ≠ .free then
                { ({ z.2 with width := 0, access := 0 }.coded d) with recoded := true, codeLost := z.2.damaged }
              else z.2)) })
          s1.finishRecode coll
      | _, _ => s)

/-- OLD_REACH_STORAGE_FREE (R62): the last query admitted before the switch has retired. -/
def execOldReachStorageFree (coll reach : Nat) (s : State) : Host.Outcome State Fault Refusal :=
  ok (match s.coll coll with
    | none => s
    | some c =>
      if c.oldStorage.any (fun o => decide (o.1 = reach) && o.2.any (fun b => Tbl.has b s.search.qbatches)) then s
      else (s.coll! coll (fun c => { c with oldStorage := c.oldStorage.filter (fun o => decide (o.1 ≠ reach)) })).finishRecode coll)

/-- COLL_PLACE (R63). On a collection that is DROPPING it is refused with STATE: R63 names no refusal, and no allocation is made any more that a hint could
guide (DESIGN CHOICE, log 121). -/
def execCollPlace (mb : Nat) (s : State) : Host.Outcome State Fault Refusal :=
  onMsg s mb 0x0205 (fun m t =>
    let okF := decide (m.p 2 1 < 16) && decide (m.p 3 1 < 16) && decide (m.p 4 4 = 0) && decide (m.p 0x0C 1 ≤ 1) && decide (m.p 0x0D 3 = 0)
    t.onColl m okF (fun k c =>
      if c.state = .dropping then t.collRefuse m k 0x0007
      else (t.coll! k (fun c => { c with
        millMask := m.p 2 1, basinMask := m.p 3 1, deltaMask := m.p 8 4, lakeCentres := decide (m.p 0x0C 1 = 1) })).collDone m k []))

/-- Frames of the Lake pool that hold a collection's centres. -/
def State.centreFrames (s : State) (k : Nat) : Nat := (s.ferry.lake.filter (fun f => f.2.centre && decide (f.2.obj = k))).length

/-- What COLL_INFO carries after its common header (R64). The spec does not say which rows DAMAGED_ROWS counts, and the model counts the DAMAGED slots that
are LIVE and committed; nor what the byte counts take in, and the model gives the live descriptor's reservation (R609) and the pinned centres in Lake,
without the second reservation of a re-code and without promoted codes (DESIGN CHOICE, log 121). -/
def State.collInfo (s : State) (k : Nat) (c : Coll) : List Byte :=
  let n := Desc_need c.desc c.desc.rowCap
  bytesAt c.desc.raw 0 128 ++ (match c.target with | some d => bytesAt d.raw 0 128 | none => zeros 128) ++ le 8 c.lastEpoch
    ++ le 8 (c.slots.filter (fun z => z.2.sees c.lastEpoch)).length ++ le 4 c.reaches.length ++ le 4 c.catches.length
    ++ le 4 (c.reaches.filter (fun r => r.2.switched)).length ++ le 8 (c.slots.filter (fun z => z.2.current && z.2.damaged)).length
    ++ le 8 c.promoteDeferred ++ le 8 n.1 ++ le 8 n.2.1 ++ le 8 (65536 * s.centreFrames k) ++ le 8 n.2.2

/-- COLL_INFO (R64). -/
def execCollInfo (mb : Nat) (s : State) : Host.Outcome State Fault Refusal :=
  onMsg s mb 0x0206 (fun m t => t.onColl m (decide (m.p 2 6 = 0)) (fun k c => t.collDone m k (t.collInfo k c)))

end Sys2Proof.Machine
end

