-- ==== Sys2Proof/Machine/Updates.lean ====
section
/-! DEFINITION. Update batches: admission, parts and their locks, preparing, epochs, commit and completion (chapter 06). -/

namespace Sys2Proof

/-- An update descriptor (Table UPD-2), without its data. -/
def UpdOp.ofBytes (b : List Byte) : UpdOp :=
  { op := natAt b 0 1, flags := natAt b 1 1, reserved := decide (natAt b 2 6 ≠ 0) || decide (natAt b 0x24 28 ≠ 0), rowId := natAt b 8 8,
    payload := natAt b 0x10 8, tag := natAt b 0x20 4, data := [], status := 0, reason := 0, version := 0, cflags := 0, home := 0, done := false }

/-- The operation reads row data. -/
def UpdOp.hasData (o : UpdOp) : Bool := decide (o.op = 1) || decide (o.op = 2)

/-- INT8_CODES. -/
def UpdOp.int8 (o : UpdOp) : Bool := bit o.flags 0
/-- SET_PAYLOAD. -/
def UpdOp.setPayload (o : UpdOp) : Bool := bit o.flags 1

/-- Bytes of an operation's row data (R177). -/
def UpdOp.dataLen (d : Desc) (o : UpdOp) : Nat := if !o.hasData then 0 else if o.int8 && decide (d.refFmt = 2) then d.dim + 4 else d.dim * d.elemBytes

/-- Gives each operation its row data, of the bytes that Ferry pulled in descriptor order. -/
def takeData (d : Desc) : List UpdOp → List Byte → List UpdOp
  | [], _ => []
  | o :: rest, bs => { o with data := bytesAt bs 0 (o.dataLen d) } :: takeData d rest (bs.drop (o.dataLen d))

/-- The operation failed. -/
def UpdOp.fail (o : UpdOp) (status reason : Nat) : UpdOp := { o with status := status, reason := reason, version := 0, done := true }

/-- A completion record (Table UPD-4); `me` is the coordinator: FORWARDED says that the row's home is another node. -/
def UpdOp.record (o : UpdOp) (me epoch : Nat) : List Byte :=
  let good := decide (o.status = 0)
  le 1 o.status ++ le 1 (if o.home = me then o.cflags else setBits o.cflags 1 1 1) ++ le 2 o.reason ++ le 4 (if good then o.version else 0) ++ le 8 (if good then epoch else 0) ++ le 8 o.rowId
    ++ le 4 o.tag ++ le 2 o.home ++ le 2 0

/-- OP of the operation that a migration sends to the new place; no descriptor can hold it. -/
abbrev opMove : Nat := 256

/-- The operation that a migration sends to the new place, with the reference copy, code, side record and outlier values, the version and the filter bits in
`tag`; `cflags` say whether the row is DAMAGED, is coded by the target of a re-code, and has lost its code (R202). -/
def UpdOp.migrate (z : Slot) (filterBits : Nat) : UpdOp :=
  { op := opMove, flags := z.width, reserved := false, rowId := z.rowId, payload := z.payload, tag := filterBits, data := z.ref ++ z.code ++ z.side ++ z.outl
    status := 0, reason := 0, version := z.version, cflags := b2n z.damaged + 2 * b2n z.recoded + 4 * b2n z.codeLost, home := 0, done := false }

/-- The reference copy, code, side record and outlier values that such an operation carries, for codes of the descriptor `d`. -/
def moveParts (d : Desc) (o : UpdOp) : List Byte × List Byte × List Byte × List Byte :=
  let w := d.bitsOf o.flags
  let n := roundUp (cdiv (d.dn * w) 8) 32
  let sd := (if w = 1 then 4 else 6) + (if d.nOut = 0 then 0 else 2)
  (bytesAt o.data 0 d.refBytes, bytesAt o.data d.refBytes n, bytesAt o.data (d.refBytes + n) sd, bytesAt o.data (d.refBytes + n + sd) (2 * d.nOut))

/-- Replaces an element. -/
def listSet {α : Type} (l : List α) (i : Nat) (f : α → α) : List α := ((List.range l.length).zip l).map (fun p => if p.1 = i then f p.2 else p.2)

/-- An operation changes its row's version when it commits (R182). -/
def UpdOp.versions (o : UpdOp) : Bool := o.done && decide (o.status = 0) && (decide (o.op = 1) || decide (o.op = 2) || decide (o.op = 3))

/-- Marks the operations that a later one on the same row overwrites (R198). -/
def supersede (ops : List UpdOp) (i : Nat) (o : UpdOp) : List UpdOp :=
  ((List.range ops.length).zip ops).map (fun p =>
    if p.1 < i ∧ p.2.rowId = o.rowId ∧ p.2.done ∧ p.2.status = 0 ∧ (o.op ≠ 4 ∨ p.2.op = 4) then { p.2 with cflags := setBits p.2.cflags 0 1 1 } else p.2)

end Sys2Proof

namespace Sys2Proof.Machine

/-! ### Admission of batches -/

/-- Gives a waiting batch its root context when it is the first of its composition in level and admission order and R412 allows (R415). -/
def State.tryRoot (s : State) (b : Nat) : State :=
  match s.batch b with
  | none => s
  | some x =>
    let ahead := s.slc.batches.any (fun y => decide (y.2.comp = x.comp) && decide (y.2.stage = .rootWait) && decide (y.2.torn = none)
      && (decide (y.2.level < x.level) || (decide (y.2.level = x.level) && decide (y.1 < b))))
    if x.stage ≠ .rootWait ∨ x.torn ≠ none ∨ ahead ∨ !s.ctxAllowed x.comp then s
    else match s.takeCtx x.comp b none .ready with
      | (some n, s1) => (s1.count Reg.SLC_CNT0 0 1).batch! b (fun y => { y with root := some n, stage := .active })
      | (none, _) => s

/-- Admits a batch: it takes its root context at once, or waits for it. -/
def State.enroll (s : State) (m : Msg) (level tag : Nat) (coll : Option Nat) (objs : List Nat) : Nat × State :=
  let r := s.addBatch (some m) m.comp m.opcode level tag .rootWait coll objs
  (r.1, r.2.tryRoot r.1)

/-- The level of a message's batch. -/
def State.msgLevel (s : State) (m : Msg) (priority : Nat) : Nat := match s.comp m.comp with | some c => levelOf c priority | none => Nat.min priority 3

/-- The map version of a composition. -/
def State.mapVersion (s : State) (comp : Nat) : Nat := match s.comp comp with | some c => c.mapVersion | none => 0

/-- How a map version is judged (R440): accepted, held for a later map, or bounced. -/
inductive MapJudge where
  | accept | hold | bounce
  deriving DecidableEq, Repr

/-- MAP_GRACE_US. -/
def State.mapGrace (s : State) : Nat := us (s.fld Reg.SLC_TIMING 0 16)

/-- Judges the map version that a request carries (R440). -/
def State.judgeMap (s : State) (comp v : Nat) : MapJudge :=
  match s.comp comp with
  | none => .bounce
  | some c =>
    if v = c.mapVersion then .accept
    else if c.hasPrev && decide (v = c.prevVersion) && decide (s.now < c.installNs + s.mapGrace) then .accept
    else if seqGe 32 v c.mapVersion then .hold
    else .bounce

/-- A request waits for a later map, or for the end of a takeover (R440, R607). -/
def State.holdReq (s : State) (r : MapReq) : State := s.trib! (fun t => { t with waits := t.waits ++ [(s.now, r)] })

/-- Takes out of the waiting requests those that `p` names. -/
def State.takeWaits (s : State) (p : MapReq → Bool) : List (Nat × MapReq) × State :=
  (s.trib.waits.filter (fun w => p w.2), s.trib! (fun t => { t with waits := t.waits.filter (fun w => !p w.2) }))

/-- The batch of a coordinator with a sequence. -/
def State.updOf (s : State) (coll seq : Nat) : Option (Nat × UpdBatch) := s.search.upds.find? (fun u => decide (u.2.coll = coll) && decide (u.2.seq = seq))
/-- Updates an update batch. -/
def State.upd! (s : State) (b : Nat) (f : UpdBatch → UpdBatch) : State := s.search! (fun x => { x with upds := Tbl.upd b f x.upds })
/-- A part by its name. -/
def State.part (s : State) (coll coord seq : Nat) : Option Part :=
  s.search.parts.find? (fun p => decide (p.coll = coll) && decide (p.coord = coord) && decide (p.seq = seq))
/-- The parts of a batch here, those of its re-plans included. -/
def State.partsOf (s : State) (coll coord seq : Nat) : List Part :=
  s.search.parts.filter (fun p => decide (p.coll = coll) && decide (p.coord = coord) && decide (p.seq % 2 ^ 64 = seq % 2 ^ 64))
/-- Updates a part. -/
def State.part! (s : State) (coll coord seq : Nat) (f : Part → Part) : State :=
  s.search! (fun x => { x with parts := x.parts.map (fun p => if p.coll = coll ∧ p.coord = coord ∧ p.seq = seq then f p else p) })
/-- Removes the parts of a batch. -/
def State.dropPart (s : State) (coll coord seq : Nat) : State :=
  s.search! (fun x => { x with parts := x.parts.filter (fun p => !(decide (p.coll = coll) && decide (p.coord = coord) && decide (p.seq % 2 ^ 64 = seq % 2 ^ 64))) })
/-- The sequence under which a batch sends its next part to a home (R608): the re-plan's number is added where the home holds a part already. -/
def UpdBatch_partSeq (u : UpdBatch) (home : Nat) : Nat := if u.homes.contains home then u.seq + 2 ^ 64 * u.replans else u.seq

/-- The key under which a migrating row is locked. -/
def migKey (coll rowId : Nat) : Nat := coll * 2 ^ 48 + rowId

/-- Gives every operation its home, and lists the homes in ascending order (R190, R191). -/
def State.withHomes (s : State) (comp span : Nat) (ops : List UpdOp) : List UpdOp :=
  ops.map (fun o => if o.done then o else { o with home := s.homeOf comp span o.rowId })
/-- The homes that operations still go to, ascending. -/
def homesOf (ops : List UpdOp) : List Nat := sortBy (fun a b => decide (a < b)) (dedup ((ops.filter (fun o => !o.done)).map (·.home)))

/-- The payload of UPD_BATCH meets Table UPD-1. -/
def updHeaderOk (m : Msg) : Bool :=
  let n := m.p 2 2
  decide (m.len = 64) && decide (m.p 0 2 < 4096) && decide (1 ≤ n) && decide (n ≤ 4096) && decide (m.p 4 2 = 0) && priorityOk (m.p 6 1) && decide (m.p 7 1 = 0)
    && decide (m.p 0x0C 4 = 0) && decide (m.p 0x10 8 % 64 = 0) && decide (m.p 0x18 8 % 64 = 0) && decide (32 * n ≤ m.p 0x20 8) && decide (m.p 0x28 24 = 0)

/-- The next epoch of a collection, as this node knows it. -/
def Coll_nextEpoch (c : Coll) : Nat := match c.home with | some h => h.next | none => c.lastEpoch + 1

/-- UPD_BATCH (R176, R178, R191): `dma` holds the N_OPS descriptors and then the row data in descriptor order. -/
def execUpdBatch (mb : Nat) (dma : HostRead) (s : State) : Host.Outcome State Fault Refusal :=
  onMsg s mb 0x0401 (fun m t =>
    let n := m.p 2 2
    let tag := m.p 8 4
    let k := collKey m.comp (m.p 0 2)
    if !updHeaderOk m then t.refuseBatch m tag stBad 0x000B
    else match t.coll k with
      | none => t.refuseBatch m tag stBad 0x0005
      | some c =>
        if c.state ≠ .online then t.refuseBatch m tag stOffline 0
        else if c.frozen ∨ Coll_nextEpoch c = 2 ^ 48 - 1 then t.refuseBatch m tag stBad 0x0007
        else match dma with
          | none => t.refuseBatch m tag stInternal 0
          | some bs =>
            let raw := (List.range n).map (fun i => UpdOp.ofBytes (bytesAt bs (64 * i) 64))
            let ops := t.withHomes m.comp c.desc.span (takeData c.desc raw (bs.drop (64 * n)))
            let seq := t.search.updSeq + 1
            let r := t.enroll m (t.msgLevel m (m.p 6 1)) tag (some k) []
            r.2.search! (fun x => { x with
              updSeq := seq
              upds := Tbl.put r.1 ⟨k, seq, ops, .preparing, homesOf ops, none, [], [], 0, t.mapVersion m.comp, m.p 0x18 8, 0, none, 0, 0⟩ x.upds }))

/-! ### Parts at a home -/

/-- Rows of a part: their locks last until it commits or aborts, also where an operation has failed (R192). -/
def Part_rows (p : Part) : List Nat := p.ops.map (·.rowId)

/-- A part holds its locks. -/
def Part_holds (p : Part) : Bool := decide (p.state = .locked) || decide (p.state = .writing) || decide (p.state = .prepared)

/-- A part may take its locks (R192). -/
def State.mayLock (s : State) (p : Part) : Bool :=
  (Part_rows p).all (fun r =>
    !Tbl.has (migKey p.coll r) s.search.migrations
    && !s.search.parts.any (fun q => decide (q.coll = p.coll) && !(decide (q.coord = p.coord) && decide (q.seq = p.seq)) && (Part_rows q).contains r
        && (Part_holds q || (decide (q.state = .waiting) && decide (q.arrival < p.arrival)))))

/-- Waiting parts whose rows are free take their locks, in arrival order (R192). -/
def State.promote (s : State) : State :=
  ((sortBy (fun (a b : Part) => decide (a.arrival < b.arrival)) s.search.parts).filter (fun p => decide (p.state = .waiting))).foldl
    (fun t p => if t.mayLock p then t.part! p.coll p.coord p.seq (fun q => { q with state := .locked }) else t) s

/-- Operations on rows that have moved to another place go on to it (R203); what the other node reports is free (log 1). -/
def State.forwardOps (s : State) (k : Nat) (c : Coll) (ops : List UpdOp) : List UpdOp × State :=
  ops.foldl (fun (acc : List UpdOp × State) o =>
    match (if o.done ∨ (c.currentOf o.rowId).isSome then none else c.slots.find? (fun z => decide (z.2.rowId = o.rowId) && decide (z.2.state = .forward))) with
    | some (_, z) =>
      if z.fwdNode = acc.2.nodeNo then (acc.1 ++ [o], acc.2)
      else
        let f := acc.2.free
        (acc.1 ++ [{ o with done := true, status := 0, version := f.1 % 2 ^ 32, cflags := setBits o.cflags 1 1 1, home := z.fwdNode }],
          f.2.sendUpd z.fwdNode k (.forwardWrite k o.rowId o))
    | none => (acc.1 ++ [o], acc.2)) ([], s)

/-- Writes that wait for rows whose migration to this node was aborted go back to the old place (R203). -/
def State.forwardBack (s : State) (k node : Nat) (rows : List Nat) : State :=
  (s.search.parts.filter (fun p => decide (p.coll = k) && decide (p.state = .waiting) && (Part_rows p).any (fun r => rows.contains r))).foldl (fun t p =>
    let f := p.ops.foldl (fun (acc : List UpdOp × State) o =>
      if o.done ∨ !rows.contains o.rowId then (acc.1 ++ [o], acc.2)
      else
        let f := acc.2.free
        (acc.1 ++ [{ o with done := true, status := 0, version := f.1 % 2 ^ 32, cflags := setBits o.cflags 1 1 1, home := node }],
          f.2.sendUpd node k (.forwardWrite k o.rowId o))) ([], t)
    f.2.part! p.coll p.coord p.seq (fun q => { q with ops := f.1 })) s

/-! ### Failing and aborting -/

/-- The batch's operations that are not done, or all of them, fail. -/
def State.failOps (s : State) (b status reason : Nat) : State := s.upd! b (fun u => { u with ops := u.ops.map (fun o => o.fail status reason) })

/-- An aborted part frees its new slots and releases its locks (R193); a part of another coordinator stays as aborted, for the answer of R608. Writes that
waited for a row whose move here is aborted go back (R203). -/
def State.abortOne (s : State) (p : Part) : State :=
  if p.state = .committed ∨ p.state = .aborted then s
  else
    let s1 := p.newSlots.foldl (fun t i => t.freeSlot p.coll i) s
    let s2 := if p.coord = s.nodeNo then s1.search! (fun x => { x with parts := x.parts.filter (fun q => decide (q ≠ p)) })
      else s1.part! p.coll p.coord p.seq (fun q => { q with state := .aborted, ops := [], newSlots := [], ended := [] })
    ((s2.count Reg.LCK_CNT0 3 1).forwardBack p.coll p.coord ((p.ops.filter (fun o => decide (o.op = opMove))).map (·.rowId))).promote

/-- The parts of a batch here abort. -/
def State.abortPart (s : State) (coll coord seq : Nat) : State := (s.partsOf coll coord seq).foldl (fun t p => t.abortOne p) s

/-- A batch that will not commit: its parts abort everywhere, and it waits only to reply. -/
def State.abortBatch (s : State) (b status reason : Nat) : State :=
  match Tbl.find b s.search.upds with
  | none => s
  | some u =>
    let s1 := (s.failOps b status reason).abortPart u.coll s.nodeNo u.seq
    let s2 := (dedup (u.homes ++ u.sent.toList)).foldl (fun t n => if n = s.nodeNo then t else t.sendUpd n u.coll (.abort u.coll u.seq)) s1
    s2.upd! b (fun u => { u with stage := .stableWait, epoch := 0, parts := [], sent := none })

/-! ### Sending parts -/

/-- The operations of a batch at one home. -/
def opsAt (u : UpdBatch) (home : Nat) : List UpdOp := u.ops.filter (fun o => !o.done && decide (o.home = home))

/-- A batch that waited for a map sends its operations to their homes under the current one (R442). -/
def State.replan (s : State) (b : Nat) : State :=
  match Tbl.find b s.search.upds with
  | none => s
  | some u =>
    let comp := u.coll / 4096
    let kept := dedup u.homes
    let ops := u.ops.map (fun o => if o.done ∨ kept.contains o.home then o else { o with home := s.homeOf comp (s.spanOf u.coll) o.rowId })
    let s1 := s.upd! b (fun u => { u with
      ops := ops, stage := .preparing, sent := none, mapVersion := s.mapVersion comp, replans := u.replans + 1
      parts := (homesOf ops).filter (fun h => !kept.contains h || ops.any (fun o => !o.done && decide (o.home = h) && !(u.ops.any (fun q => decide (q.home = h) && decide (q.rowId = o.rowId))))) })
    s1.batch! b (fun x => { x with charge := { x.charge with reroutes := x.charge.reroutes + 1 } })

/-- The batch has its root context and is not torn down; a migration or BITMAP_WRITE needs none. -/
def State.updRuns (s : State) (b : Nat) (u : UpdBatch) : Bool :=
  u.migr.isSome || s.search.bitWrites.any (fun w => decide (w.seq = u.seq)) || (match s.batch b with | some x => decide (x.stage = .active) && decide (x.torn = none) | none => false)

/-- A BITMAP_WRITE may commit (R94): it makes no third generation that a query in flight could still need. With two live generations the older one goes,
so no query may be left that reads below the commit epoch of the newer one (DEDUCED). -/
def State.bitFits (s : State) (w : BitWrite) : Bool :=
  match (s.coll w.coll).bind (fun c => Tbl.find w.bitmap c.bitmaps) with
  | none => true
  | some b => b.dropMsg.isNone && (match b.gens with
    | g :: _ :: _ => s.search.qbatches.all (fun q => decide (q.2.coll ≠ w.coll) || decide (g.epoch ≤ q.2.readEpoch))
    | _ => true)

/-- An update batch must wait before it asks for its epoch (R93): a BITMAP_WRITE until every update batch of the composition that was admitted earlier
has its epoch, and every later update batch until it has. -/
def State.epochWaits (s : State) (u : UpdBatch) : Bool :=
  let comp := u.coll / 4096
  match s.search.bitWrites.find? (fun w => decide (w.seq = u.seq)) with
  | some w => !s.bitFits w || s.search.upds.any (fun v => decide (v.2.coll / 4096 = comp) && v.2.migr.isNone && decide (v.2.seq < u.seq) && decide (v.2.epoch = 0) && decide (v.2.stage ≠ .stableWait))
  | none => u.migr.isNone && s.search.bitWrites.any (fun w => decide (w.coll / 4096 = comp) && decide (w.seq < u.seq))

/-- The coordinator asks the epoch home for an epoch once every home has prepared (R191 step 3). -/
def State.askEpoch (s : State) (b : Nat) : State :=
  match Tbl.find b s.search.upds with
  | none => s
  | some u =>
    if s.epochWaits u then s
    else
      let h := s.homeNode u.coll
      let s1 := s.upd! b (fun u => { u with stage := .wantEpoch })
      if h = s.nodeNo then s1 else s1.sendUpd h u.coll (.epochReq u.coll u.seq)

/-- A part waits for an earlier batch of this coordinator that writes one of its rows at the same home and is not prepared there yet (R200). -/
def State.sendWaits (s : State) (u : UpdBatch) (h : Nat) : Bool :=
  let rows := (opsAt u h).map (·.rowId)
  s.search.upds.any (fun v => decide (v.2.coll = u.coll) && v.2.migr.isNone && decide (v.2.seq < u.seq) && decide (v.2.epoch = 0) && decide (v.2.stage ≠ .stableWait)
    && v.2.ops.any (fun o => !o.done && decide (o.home = h) && rows.contains o.rowId))

/-- PART_SEND (R191 step 1, R200, R442, R194): one home at a time in ascending id. -/
def execPartSend (batch : Nat) (s : State) : Host.Outcome State Fault Refusal :=
  ok (match Tbl.find batch s.search.upds with
    | none => s
    | some u =>
      let comp := u.coll / 4096
      if !s.updRuns batch u then s
      else if u.stage = .waitMap then
        if seqGe 32 (s.mapVersion comp) u.needMap ∨ u.needNs ≤ s.now then s.replan batch else s
      else if u.stage ≠ .preparing ∨ u.sent.isSome then s
      else match u.parts with
        | [] => s.askEpoch batch
        | h :: rest =>
          if s.nodeLost h then s.abortBatch batch stPeerLost 0x0108
          else if s.sendWaits u h then s
          else
            let s1 := s.upd! batch (fun u => { u with sent := some h, parts := rest })
            if h = s.nodeNo then s1 else (s1.sendUpd h u.coll (.part u.coll (UpdBatch_partSeq u h) (opsAt u h))).count Reg.LCK_CNT0 2 1)

/-! ### Arrival of parts -/

/-- A part is bounced (R440, R442): its coordinator waits for a map as late as `needed`, and then sends its operations anew. -/
def State.partBounced (s : State) (b needed : Nat) : State :=
  s.upd! b (fun u => { u with sent := none, stage := .waitMap, needMap := needed, needNs := s.now + s.mapGrace })

/-- A part of this node's own batch that arrives here: the batch. -/
def State.ownPart (s : State) (part : PartMsg) : Option (Nat × UpdBatch) :=
  if part.coord = s.nodeNo then
    let k := collKey part.comp part.coll
    s.search.upds.find? (fun u => decide (u.2.coll = k) && decide (u.2.sent = some s.nodeNo) && decide (UpdBatch_partSeq u.2 s.nodeNo = part.seq))
  else none

/-- A part is answered REROUTE (R440). -/
def State.bouncePart (s : State) (part : PartMsg) : State :=
  let s1 := s.count Reg.SLC_CNT0 8 1
  match s.ownPart part with
  | some u => s1.partBounced u.1 (s.mapVersion part.comp)
  | none => s1.sendUpd part.coord (collKey part.comp part.coll) (.partReroute (collKey part.comp part.coll) part.seq (s.mapVersion part.comp) false)

/-- A part at its home: a part of this node's own batch takes its operations and its map version from that batch. A part that comes again is answered with
the outcome that the home holds. -/
def State.takePart (s : State) (part : PartMsg) : State :=
  let own := decide (part.coord = s.nodeNo)
  let k := collKey part.comp part.coll
  let mine := s.ownPart part
  let version := match mine with | some u => u.2.mapVersion | none => part.mapVersion
  match s.part k part.coord part.seq with
  | some p =>
    if own then s
    else if p.state = .prepared then s.sendUpd part.coord k (.partPrepared k part.seq)
    else if p.state = .committed then s.sendUpd part.coord k (.commitReport k part.seq)
    else if p.state = .aborted then s.sendUpd part.coord k (.outcome k part.coord part.seq (.aborted false))
    else s
  | none =>
    if own && mine.isNone then s
    else match s.judgeMap part.comp version with
      | .hold => if s.trib.waits.any (fun w => decide (w.2 = .part part)) then s else s.holdReq (.part part)
      | .bounce => s.bouncePart part
      | .accept => match s.coll k with
        | none => s.sendUpd part.coord k (.partReroute k part.seq 0 true)
        | some c =>
          let raw := match mine with | some u => opsAt u.2 s.nodeNo | none => part.ops
          let f := s.forwardOps k c raw
          let p : Part := ⟨k, part.coord, part.seq, f.1, .waiting, f.2.search.arrivals, [], [], 0, 0, none, none, false⟩
          (f.2.search! (fun x => { x with arrivals := x.arrivals + 1, parts := x.parts ++ [p] })).promote

/-- PART_ARRIVE (R190, R192, R200, R203, R440, R608, R612). -/
def execPartArrive (part : PartMsg) (s : State) : Host.Outcome State Fault Refusal := ok (s.takePart part)

/-! ### Preparing a part -/

/-- The reason why a row cannot take a new slot for want of capacity. -/
abbrev rowCapacity : Nat := 0x0106

/-- The slot of a row as an operation of a part meets it: one that the part made, or the current one that the part has not ended. -/
def Coll_rowSlot (c : Coll) (p : Part) (rowId : Nat) : Option (Nat × Slot × Bool) :=
  match c.slots.find? (fun z => decide (z.2.rowId = rowId) && decide (z.2.state = .live) && p.newSlots.contains z.1) with
  | some z => some (z.1, z.2, true)
  | none => (c.slots.find? (fun z => decide (z.2.rowId = rowId) && z.2.current && !p.ended.contains z.1)).map (fun z => (z.1, z.2, false))

/-- The version that the next INSERT, UPSERT or DELETE of a part gives a row (R182). -/
def Coll_nextVersion (c : Coll) (p : Part) (rowId : Nat) : Nat :=
  (Tbl.getD rowId 0 c.index + (p.ops.filter (fun o => decide (o.rowId = rowId) && o.versions)).length + 1) % 2 ^ 32

/-- The payload handle that a row's visible slot holds as an operation meets it: that of the part's last PAYLOAD on the slot, else the slot's own (R611). -/
def Coll_handle (p : Part) (rowId dflt : Nat) : Nat :=
  match (p.ops.filter (fun o => decide (o.rowId = rowId) && o.done && decide (o.status = 0) && decide (o.op = 4))).getLast? with
  | some o => o.payload
  | none => dflt

/-- The slots of a reach whose rows a split moves to a new centre (R197 step 2). -/
def Coll_movers (c : Coll) (r : Nat) (old new : List F16) : List (Nat × Slot) :=
  (c.slotsOf r).filter (fun z => z.2.current && flt (distRne (c.source z.2) (centreDy new)) (distRne (c.source z.2) (centreDy old)))

/-- The centre of the reach that a split makes (R197 step 1). -/
def Coll_splitCentre (c : Coll) (r : Nat) (centre : List F16) (x : List Dy) : List F16 :=
  let far := ((c.slotsOf r).filter (fun z => z.2.current)).foldl (fun (acc : Option (List Dy × F32)) z =>
    let v := c.source z.2
    let d := distRne v (centreDy centre)
    match acc with
    | none => some (v, d)
    | some (_, e) => if flt e d then some (v, d) else acc) none
  match far with
  | none => toCentre x
  | some (v, d) => if flt d (distRne x (centreDy centre)) then toCentre x else toCentre v

/-- Pins the page of a reach's centre in the Lake pool under LAKE_CENTRES, where R326 gives a frame (R63, R325). -/
def State.pinCentre (s : State) (k r : Nat) : State :=
  match s.coll k with
  | none => s
  | some c =>
    let page := r * 2 * c.desc.dim / 65536
    if !c.lakeCentres ∨ s.ferry.lake.any (fun f => f.2.centre && decide (f.2.obj = k) && decide (f.2.page = page)) then s
    else match s.chooseFrame .lake c.comp 0 with
      | some (i, ev) => (if ev then s.evictLake i else s).ferry! (fun y => { y with lake := Tbl.put i ⟨k, page, true, c.comp, 0, false, false⟩ y.lake })
      | none => s

/-- Makes a reach in a catchment. -/
def State.makeReach (s : State) (k r catchment : Nat) (centre : List F16) : State :=
  match s.coll k with
  | none => s
  | some c =>
    let cell := s.nextCell c
    (s.coll! k (fun c => { c with
      catches := if Tbl.has catchment c.catches then c.catches else Tbl.put catchment (Catch.at centre) c.catches
      reaches := Tbl.put r { (Reach.at catchment cell centre) with switched := c.target.isSome } c.reaches })).pinCentre k r

/-- The reach and catchment of a split's new reach, or `none` where R69 forbids it (R196, R197). -/
def Coll_splitPlace (c : Coll) (catchment : Nat) : Option (Nat × Nat) :=
  match leastFree c.reaches 262144 with
  | none => none
  | some r =>
    if (c.reachesOf catchment).length < 256 then some (r, catchment)
    else (leastFree c.catches 1024).map (fun k => (r, k))

/-- Copies a slot to a new place in a reach, prepared and not committed (R202 step 2). -/
def State.copySlot (s : State) (k i r : Nat) : Nat × State :=
  match s.coll k with
  | none => (0, s)
  | some c =>
    let n := c.freeSlot
    match Tbl.find i c.slots with
    | none => (n, s)
    | some z =>
      let gen := match Tbl.find n c.slots with | some y => y.gen | none => 0
      let d := if (match Tbl.find r c.reaches with | some y => y.switched | none => false) then c.target else none
      let z1 : Slot := { z with insEpoch := allOnes, delEpoch := allOnes, gen := gen, state := .live, link := .unlinked, reach := r, edges := [], edgeLost := false }
      let z2 := match d with
        | some t => if z.recoded then z1 else { (({ z1 with width := 0, access := 0 } : Slot).coded t) with recoded := true, codeLost := z.damaged }
        | none => z1
      let s1 := s.coll! k (fun c =>
        let c1 : Coll := { c with slots := Tbl.put n z2 c.slots, bitmaps := c.bitmaps.map (fun b => (b.1, { b.2 with gens := b.2.gens.map (fun g => { g with ones := setOne g.ones n (g.ones.contains i) }) })) }
        let c2 : Coll := { c1 with planes := c1.planes.map (fun p => (p.1, if p.1 = tombPlane then p.2 else ⟨setOne p.2.primary n (p.2.primary.contains i), setOne p.2.twin n (p.2.twin.contains i)⟩)) }
        c2.grow r (c2.source z2))
      (n, (s1.coll! k (fun c => c.reach! r id)))

/-- Raises LAST_CHANGE of a reach (R295 step 1). -/
def Coll_touch (c : Coll) (r e : Nat) : Coll := c.reach! r (fun y => { y with lastChange := Nat.max y.lastChange e })

/-- A slot becomes visible at an epoch (R191 step 4, R295), and waits for linking (R135). -/
def State.commitSlot (s : State) (k i e : Nat) : State :=
  let s1 := s.coll! k (fun c => match Tbl.find i c.slots with
    | none => c
    | some z =>
      let c1 := (Coll_touch (c.slot! i (fun z => { z with insEpoch := e })) z.reach e).putStrip i
      let c2 := c1.planeBits tombPlane [i] true
      if z.damaged then c2.planeBits damagedPlane [i] true else c2)
  s1.queueLink k i

/-- A slot's content ends at an epoch: TOMBSTONE, or FORWARD to a new place (R191, R202, R610). -/
def State.endSlot (s : State) (k i e : Nat) (fwd : Option (Nat × Nat)) : State :=
  let r := match (s.coll k).bind (fun c => Tbl.find i c.slots) with | some z => z.reach | none => 0
  let s1 := s.coll! k (fun c =>
    ((Coll_touch (c.slot! i (fun z => match fwd with
      | none => { z with delEpoch := e, state := .tombstone }
      | some (n, t) => { z with delEpoch := e, state := .forward, fwdNode := n, fwdSlot := t })) r e).putStrip i).planeBits tombPlane [i] false)
  s1.repairTest k r

/-- Tightens a reach by R74: over the rows visible at the last committed epoch and every growth after it. -/
def State.tightenReach (s : State) (k r : Nat) : State :=
  s.coll! k (fun c => match Tbl.find r c.reaches with
    | none => c
    | some y =>
      let rows := (c.slotsOf r).filter (fun z => decide (c.lastEpoch < z.2.delEpoch))
      let v := (rows.map (fun z => distUp (c.source z.2) (centreDy y.centre))).foldl fmax 0
      c.reach! r (fun y => { y with tight := v, tightEpoch := c.lastEpoch }))

/-- Commits a migration's moves at epoch M (R202 step 4): rows that the part of `own` holds keep their lock there. -/
def State.commitMoves (s : State) (k b e : Nat) (moves : List (Nat × Nat)) (node : Nat) : State :=
  let s1 := moves.foldl (fun t mv =>
    let t1 := if node = t.nodeNo then t.commitSlot k mv.2 e else t
    ((t1.endSlot k mv.1 e (some (node, mv.2))).count Reg.LCK_CNT0 5 1).search! (fun x => { x with
      parts := x.parts.map (fun p => if p.coll = k then { p with ended := p.ended.map (fun i => if i = mv.1 ∧ node = s.nodeNo then mv.2 else i) } else p) })) s
  (s1.upd! b (fun u => { u with epoch := e })).count Reg.LCK_CNT0 1 1

/-- The result of asking for room in a reach: room, a wait for another part's lock or for an epoch, or no split possible. -/
inductive Room where
  | have (reach : Nat) (s : State)
  | wait (s : State)
  | full
  deriving DecidableEq, Repr

/-- Splits a full reach for a row (R76, R197, R202): the copies grow the new ball and grown catchments are published (R72). The moves commit at once when this
node is the epoch home and no publication waits, else when EPOCH_GRANT brings M; the row being placed keeps the reach that step 3 of R197 gives it. -/
def State.splitFor (s : State) (k r opIdx coord seq : Nat) (x : List Dy) : Room :=
  match s.coll k with
  | none => .full
  | some c => match Tbl.find r c.reaches with
    | none => .full
    | some y => match Coll_splitPlace c y.catchment with
      | none => .full
      | some (nr, nk) =>
        let centre := Coll_splitCentre c r y.centre x
        let movers := Coll_movers c r y.centre centre
        let mine := match s.part k coord seq with | some p => Part_rows p | none => []
        let held (row : Nat) : Bool := !mine.contains row && (Tbl.has (migKey k row) s.search.migrations
          || s.search.parts.any (fun q => decide (q.coll = k) && Part_holds q && (Part_rows q).contains row))
        let closed := match c.home with | some h => h.takeover | none => false
        if movers.any (fun z => held z.2.rowId) ∨ (!movers.isEmpty && closed) then .wait s
        else
          let goes := movers.isEmpty || (flt (distRne x (centreDy centre)) (distRne x (centreDy y.centre)) && decide (movers.length < 16384))
          let s1 := s.makeReach k nr nk centre
          if movers.isEmpty then .have nr s1
          else
            let cp := movers.foldl (fun (acc : List (Nat × Nat) × State) z => let q := acc.2.copySlot k z.1 nr; (acc.1 ++ [(z.1, q.1)], q.2)) ([], s1)
            let b := cp.2.slc.nextBatch
            let mseq := cp.2.search.updSeq + 1
            let s2 := (cp.2.slc! (fun q => { q with nextBatch := b + 1 })).search! (fun q => { q with
              updSeq := mseq
              upds := Tbl.put b ⟨k, mseq, [], .wantEpoch, [], none, [], [], 0, s.mapVersion (k / 4096), 0, 0, some cp.1, 0, 0⟩ q.upds
              migrations := (movers.filter (fun z => !mine.contains z.2.rowId)).foldl (fun m z => Tbl.put (migKey k z.2.rowId) b m) q.migrations })
            let s3 := s2.publishGrown k
            let nr1 := if goes then nr else r
            let late (t : State) : Room := .wait (t.part! k coord seq (fun p => { p with split := some (b, opIdx), room := some (opIdx, nr1) }))
            if s.homeNode k ≠ s.nodeNo then late (s3.sendUpd (s.homeNode k) k (.epochReq k mseq))
            else if (match s3.coll k with | some c => s3.pubsWait c | none => false) then late s3
            else match s3.grantEpoch k s.nodeNo mseq with
              | some (.epoch e, s4) =>
                let s5 := ((s4.commitMoves k b e cp.1 s.nodeNo).epochDone k e).upd! b (fun u => { u with stage := .stableWait })
                .have nr1 (s5.tightenReach k r)
              | _ => late s3

/-- The reach that takes a row, with room for it (R196). -/
def State.roomFor (s : State) (k opIdx coord seq : Nat) (x : List Dy) : Room :=
  match s.coll k with
  | none => .full
  | some c => match (s.part k coord seq).bind (·.room), c.place x with
    | some (i, r), _ => if i = opIdx then .have r (s.part! k coord seq (fun p => { p with room := none })) else .wait s
    | none, none => .have 0 (s.makeReach k 0 0 (toCentre x))
    | none, some r => if c.rowsOf r < 16384 then .have r s else s.splitFor k r opIdx coord seq x

/-- What preparing one operation came to. -/
inductive Prep where
  | did (o : UpdOp) (p : Part) (s : State)
  | wait (s : State)
  deriving DecidableEq, Repr

/-- The row-independent checks of an operation (Table UPD-3): its reason, or 0. -/
def UpdOp_check (o : UpdOp) (c : Coll) : Nat :=
  if o.op = opMove then 0
  else if o.reserved ∨ o.op < 1 ∨ 4 < o.op ∨ 4 ≤ o.flags ∨ (o.int8 ∧ c.desc.refFmt ≠ 2) then 0x0101
  else if 2 ^ 48 - 1 ≤ o.rowId then 0x0102
  else if o.hasData ∧ (c.desc.refOf o.int8 o.data).isNone then 0x0103
  else if (o.op = 4 ∨ (o.hasData ∧ o.setPayload)) ∧ !bit c.desc.flags 0 then 0x0107
  else 0

/-- A new slot of a part for a row (R191 step 2): coded in the format of its reach, filter bits of the row's old slot, sectors open for its copy. A row that
migrates here brings its code, side record and outlier values, where both nodes code it by one descriptor (R202). -/
def State.newSlot (s : State) (k r : Nat) (o : UpdOp) (ref : List Byte) (version payload width : Nat) (damaged : Bool) (old : Option Nat) (bitsOf : Nat → Bool) : Nat × State :=
  match s.coll k with
  | none => (0, s)
  | some c =>
    let i := c.freeSlot
    let gen := match Tbl.find i c.slots with | some y => y.gen | none => 0
    let sw := match Tbl.find r c.reaches with | some y => y.switched | none => false
    let d := if sw then c.target.getD c.desc else c.desc
    let z0 : Slot := { ((⟨0, 0, 0, 0, 0, .free, .unlinked, 0, false, 0, 0, 0, r, [], [], [], [], false, [], false, 0, false, 0⟩ : Slot).freed gen) with
      rowId := o.rowId, version := version, state := .live, payload := payload, reach := r, ref := ref, damaged := damaged
      width := if sw then 0 else width, recoded := sw && c.target.isSome, lsn := c.desc.slotLsn c.base i }
    let cp := moveParts d o
    let z : Slot := if o.op = opMove ∧ bit o.cflags 1 = z0.recoded then { z0 with code := cp.2.1, side := cp.2.2.1, outl := cp.2.2.2, codeLost := bit o.cflags 2 }
      else { (z0.coded d) with codeLost := damaged }
    let has (b : Nat) (g : BitGen) : Bool := match old with | some j => g.ones.contains j | none => bitsOf b
    -- bits of bitmaps that this node has not defined stay with the row (R92)
    let bms := (List.range 64).foldl (fun t b => if bitsOf b && !Tbl.has b t then Tbl.put b ⟨[⟨0, []⟩], false, 0, none⟩ t else t) c.bitmaps
    let s1 := s.coll! k (fun c =>
      let c1 : Coll := { c with
        slots := Tbl.put i z c.slots
        bitmaps := bms.map (fun b => (b.1, { b.2 with gens := b.2.gens.map (fun g => { g with ones := setOne g.ones i (has b.1 g) }) })) }
      let c2 := c1.bitmaps.foldl (fun c b => b.2.gens.foldl (fun c g => c.planeBits (filterPlane b.1 g.epoch) [i] (g.ones.contains i)) c) c1
      c2.grow r (c2.source z))
    (i, (c.desc.slotLsns c.base i).foldl (fun t l => t.openLsn c.space l) s1)

/-- Prepares operation `idx` of a part (R177, R179, R182, R197 to R201, R611). -/
def State.prepOp (s : State) (k : Nat) (p : Part) (idx : Nat) (o : UpdOp) : Prep :=
  match s.coll k with
  | none => .did (o.fail stBad 0x010B) p s
  | some c =>
    let fail (r : Nat) : Prep := .did { (o.fail stBad r) with home := s.nodeNo } p s
    let row := Coll_rowSlot c p o.rowId
    if UpdOp_check o c ≠ 0 then fail (UpdOp_check o c)
    else if o.op = 1 ∧ row.isSome then fail 0x0104
    else if (o.op = 3 ∨ o.op = 4) ∧ row.isNone then fail 0x0105
    else
      let v := Coll_nextVersion c p o.rowId
      let good (o : UpdOp) : UpdOp := { o with done := true, status := 0, reason := 0, home := s.nodeNo }
      match o.op, row with
      | 4, some (i, z, made) =>
          .did (good { o with version := z.version, cflags := if made then setBits o.cflags 2 1 1 else o.cflags }) p
            (if made then s.coll! k (fun c => c.slot! i (fun z => { z with payload := o.payload })) else s)
      | 3, some (i, _, made) =>
        if made then
          .did (good { o with version := v, cflags := setBits o.cflags 2 1 1 }) { p with newSlots := p.newSlots.filter (fun j => decide (j ≠ i)) } (s.freeSlot k i)
        else .did (good { o with version := v }) { p with ended := p.ended ++ [i] } s
      | _, _ =>
        match (if o.op = opMove then some (moveParts c.desc o).1 else c.desc.refOf o.int8 o.data) with
        | none => fail 0x0103
        | some ref =>
          let x := c.desc.source ref
          match row with
          | some (i, z, true) =>
            -- in place (R199)
            let s1 := s.coll! k (fun c =>
              let d := c.descOf z
              let z' : Slot := { (({ z with ref := ref, version := v, width := 0, payload := if o.setPayload then o.payload else z.payload } : Slot).coded d) with damaged := false }
              (({ c with slots := Tbl.put i z' c.slots }.planeBits damagedPlane [i] false).grow z.reach x))
            .did (good { o with version := v, cflags := setBits o.cflags 2 1 1 }) p ((c.desc.slotLsns c.base i).foldl (fun t l => t.openLsn c.space l) s1)
          | _ =>
            if c.desc.rowCap ≤ c.used then fail rowCapacity
            else match s.roomFor k idx p.coord p.seq x with
              | .full => fail rowCapacity
              | .wait s1 => .wait s1
              | .have r s1 =>
                -- a split may have moved the row's old slot
                let old := match s1.coll k with | some c1 => Coll_rowSlot c1 p o.rowId | none => none
                let handle := if o.setPayload ∨ o.op = opMove then o.payload else match old with
                  | some (_, z, _) => Coll_handle p o.rowId z.payload
                  | none => 0
                let n := s1.newSlot k r o ref (if o.op = opMove then o.version else v) handle (if o.op = opMove then o.flags else 0) (decide (o.op = opMove) && bit o.cflags 0)
                  (old.map (·.1)) (fun b => decide (o.op = opMove) && bit o.tag b)
                .did (good { o with version := if o.op = opMove then o.version else v }) { p with
                  newSlots := p.newSlots ++ [n.1]
                  ended := match old with | some (i, _, false) => if p.ended.contains i then p.ended else p.ended ++ [i] | _ => p.ended } n.2

/-- Prepares the operations of a part that are not done, from the first; `false` when one waits. -/
def State.prepAll (s : State) (k coord seq : Nat) : List Nat → State × Bool
  | [] => (s, true)
  | i :: rest =>
    match s.part k coord seq with
    | none => (s, true)
    | some p => match p.ops[i]? with
      | none => (s, true)
      | some o =>
        if o.done then s.prepAll k coord seq rest
        else match s.prepOp k p i o with
          | .wait s1 => (s1, false)
          | .did o' p' s1 =>
            let ops := listSet (if o'.status = 0 then supersede p.ops i o' else p.ops) i (fun _ => o')
            let more := p'.ended.filter (fun e => !p.ended.contains e)
            let s2 := s1.part! k coord seq (fun q => { q with ops := ops, newSlots := p'.newSlots, ended := q.ended ++ more.filter (fun e => !q.ended.contains e) })
            s2.prepAll k coord seq rest

/-- A part is prepared: its home asks for an outcome PREP_TMO_US later (R193). -/
def State.partPrepared (s : State) (k coord seq : Nat) : State :=
  let s1 := s.part! k coord seq (fun p => { p with state := .prepared, deadline := s.now + us (orIfZero (s.fld Reg.LCK_TIMING 32 16) 1) })
  if coord = s.nodeNo then s1 else s1.sendUpd coord k (.partPrepared k seq)

/-- Reference sectors that a part writes. -/
def Part_lsns (c : Coll) (p : Part) : List Nat := dedup (p.newSlots.flatMap (fun i => c.desc.slotLsns c.base i))

/-- A part whose copies are all programmed is prepared (R349). -/
def State.settleWrites (s : State) (k coord seq : Nat) : State :=
  match s.coll k, s.part k coord seq with
  | some c, some p => if p.state = .writing ∧ !s.flashPending c.space (Part_lsns c p) then s.partPrepared k coord seq else s
  | _, _ => s

/-- PART_PREPARE (R191 step 2, R203, R349): rows that moved away while the part waited take their writes along; then the operations in descriptor order, then a flush of the writer's open sectors. -/
def execPartPrepare (coll coord seq : Nat) (s : State) : Host.Outcome State Fault Refusal :=
  ok (match s.part coll coord seq with
    | none => s
    | some p =>
      if p.state ≠ .locked ∨ p.split.isSome ∨ !s.deltaUp then s
      else
        let f := match s.coll coll with | some c => s.forwardOps coll c p.ops | none => (p.ops, s)
        let r := (f.2.part! coll coord seq (fun q => { q with ops := f.1 })).prepAll coll coord seq (List.range p.ops.length)
        if !r.2 then r.1
        else
          let s1 := (r.1.publishGrown coll).part! coll coord seq (fun q => { q with state := .writing })
          match s1.coll coll with
          | none => s1
          | some c => ((s1.flush c.space (s.flashMask c.comp c.deltaMask)).getD s1).settleWrites coll coord seq)

/-- PROGRAM_COMPLETE (R349, R353): a page program ends; parts whose copies are all programmed are prepared, and sectors still open are flushed. -/
def execProgramComplete (block : Nat) (passed : Bool) (s : State) : Host.Outcome State Fault Refusal :=
  let s1 := s.programDone block passed
  ok ((s1.search.parts.filter (fun p => decide (p.state = .writing))).foldl (fun t p =>
    match t.coll p.coll with
    | none => t
    | some c => ((t.flush c.space (t.flashMask c.comp c.deltaMask)).getD t).settleWrites p.coll p.coord p.seq) s1)

/-- PART_PREPARED (R191): the home that a part was sent to reports it prepared; `ops` are another node's outcomes. -/
def execPartPrepared (batch home : Nat) (ops : List UpdOp) (s : State) : Host.Outcome State Fault Refusal :=
  ok (match Tbl.find batch s.search.upds with
    | none => s
    | some u =>
      if u.sent ≠ some home then s
      else
        let outs := if home = s.nodeNo then (match s.part u.coll s.nodeNo (UpdBatch_partSeq u home) with
          | some p => if p.state = .prepared then some p.ops else none
          | none => none) else some ops
        match outs with
        | none => s
        | some l =>
          -- the outcomes replace the operations of this home, in order
          let merged := u.ops.foldl (fun (acc : List UpdOp × List UpdOp) o =>
            if o.done ∨ o.home ≠ home then (acc.1 ++ [o], acc.2)
            else match acc.2 with | q :: rest => (acc.1 ++ [{ q with done := true }], rest) | [] => (acc.1 ++ [o], [])) ([], l)
          let s1 := s.upd! batch (fun u => { u with
            ops := if u.migr.isSome then u.ops else merged.1, homes := u.homes ++ [home], sent := none })
          if u.parts = [] then s1.askEpoch batch else s1)

/-- UPDATE_PART_REROUTE (R442, R612): a home bounced a part, or does not hold the collection. -/
def execUpdatePartReroute (batch home needed : Nat) (notHeld : Bool) (s : State) : Host.Outcome State Fault Refusal :=
  ok (match Tbl.find batch s.search.upds with
    | none => s
    | some u =>
      if u.sent ≠ some home then s
      else if notHeld then
        let s1 := s.upd! batch (fun u => { u with sent := none, ops := u.ops.map (fun o => if !o.done ∧ o.home = home then o.fail stBad 0x010B else o) })
        if u.parts = [] then s1.askEpoch batch else s1
      else s.partBounced batch needed)

/-! ### Epochs -/

/-- An epoch request at this node (R184, R193, R554, R607): the epoch home grants, repeats what it recorded, or marks the batch aborted; another node
answers REROUTE. One that comes during a takeover, or under a map that this node has yet to install, waits. -/
def State.takeEpochReq (s : State) (coll coord seq version : Nat) : State :=
  match s.coll coll with
  | none => s
  | some c =>
    let wanted := decide (coord ≠ s.nodeNo) || (match s.updOf coll seq with | some u => decide (u.2.stage = .wantEpoch) | none => false)
    let v := if coord = s.nodeNo then s.mapVersion c.comp else version
    let wait := if s.trib.waits.any (fun w => decide (w.2 = .epoch coll coord seq version)) then s else s.holdReq (.epoch coll coord seq version)
    if !wanted then s
    else if s.judgeMap c.comp v = .hold then wait
    else match c.home with
      | none => if coord = s.nodeNo then s else s.sendUpd coord coll (.epochReroute coll seq (s.mapVersion c.comp))
      | some h =>
        if s.epochHome c.comp c.desc.span ≠ s.nodeNo then s
        else if h.takeover then wait
        else match s.grantEpoch coll coord seq with
          | none => s
          | some (o, s1) =>
            if coord = s.nodeNo then s1
            else match o with
              | .epoch e => s1.sendUpd coord coll (.epochGrant coll seq e)
              | .aborted x => (s1.sendUpd coord coll (.epochAbort coll seq x)).abortPart coll coord seq

/-- EPOCH_REQUEST (R184, R193, R554, R607). -/
def execEpochRequest (coll coord seq version : Nat) (s : State) : Host.Outcome State Fault Refusal := ok (s.takeEpochReq coll coord seq version)

/-- Epoch requests of a collection that waited are taken again. -/
def State.resumeEpochs (s : State) (coll : Nat) : State :=
  let r := s.takeWaits (fun w => match w with | .epoch k _ _ _ => decide (k = coll) | _ => false)
  r.1.foldl (fun t w => match w.2 with | .epoch k co sq v => t.takeEpochReq k co sq v | _ => t) r.2

/-- What the epoch home recorded of a batch. -/
def State.recorded (s : State) (k coord seq : Nat) : Option Outcome2 :=
  ((s.coll k).bind (·.home)).bind (fun h => (h.recs.find? (fun r => decide (r.coord = coord) && decide (r.seq = seq % 2 ^ 64))).map (·.outcome))

/-- Copies of an aborted migration are freed; a reach that holds no row goes, and the operation that needed the split fails (R202). -/
def State.abortMoves (s : State) (b : Nat) (u : UpdBatch) (moves : List (Nat × Nat)) : State :=
  let reachOf (t : State) (i : Nat) : Option Nat := ((t.coll u.coll).bind (fun c => Tbl.find i c.slots)).map (·.reach)
  let new := if u.homes = [] then moves.filterMap (fun mv => reachOf s mv.2) else []
  let s1 := if u.homes = [] then moves.foldl (fun t mv => t.freeSlot u.coll mv.2) s else s
  let s2 := s1.coll! u.coll (fun c => { c with reaches := c.reaches.filter (fun r => !(new.contains r.1 && decide ((c.slotsOf r.1).length = 0))) })
  let s3 := s2.search! (fun x => { x with
    upds := Tbl.erase b x.upds, migrations := x.migrations.filter (fun m => decide (m.2 ≠ b))
    parts := x.parts.map (fun p => match p.split with
      | some (bb, i) => if bb = b then { p with split := none, room := none, ops := listSet p.ops i (fun o => o.fail stInternal 0x0109) } else p
      | none => p) })
  s3.promote

/-- The BATCH_ABORT record of R193. -/
def State.logAbort (s : State) (comp : Nat) : State := s.logC (unitOf 0x12 0) 0x0041 comp 0x3FF 0 0

/-- A BITMAP_WRITE becomes current at its epoch (R92, R93, R117, R296): the new generation is a copy of the current one with the listed rows' bits
changed; every slot of a listed row that is not FREE follows. The first write of a bitmap starts from the bits that rows brought with them. -/
def State.commitBitmap (s : State) (w : BitWrite) (e : Nat) : State :=
  match s.coll w.coll with
  | none => s
  | some c =>
    let b := Tbl.getD w.bitmap ⟨[], false, 0, none⟩ c.bitmaps
    let cur := match b.gens with | g :: _ => g.ones | [] => []
    let listed := ((c.slots.filter (fun z => decide (z.2.state ≠ .free) && w.ids.contains z.2.rowId)).map (·.1))
    let ones := match w.mode with
      | 0 => listed.foldl (fun l i => setOne l i true) cur
      | 1 => listed.foldl (fun l i => setOne l i false) cur
      | _ => listed
    let ignored := (w.ids.filter (fun r => (c.currentOf r).isNone)).length
    let old := if b.defined then b.gens.take 1 else []
    let gone := (if b.defined then b.gens.drop 1 else b.gens).map (fun g => filterPlane w.bitmap g.epoch)
    let s1 := s.coll! w.coll (fun c => { c with
      bitmaps := Tbl.put w.bitmap { b with gens := ⟨e, ones⟩ :: old, defined := true, since := if b.defined then b.since else e } c.bitmaps
      planes := Tbl.put (filterPlane w.bitmap e) ⟨ones, ones⟩ (c.planes.filter (fun p => !gone.contains p.1)) })
    s1.reply w.msg stOK (le 2 0 ++ le 6 0 ++ le 8 e ++ le 4 ignored)

/-- A migration's commit at the old place (R202 step 4): the other node is told its epoch. A split's commit waits for the publications of its catchments
(R100), and tightens the old reach (R76). -/
def State.commitMigration (s : State) (b : Nat) (u : UpdBatch) (moves : List (Nat × Nat)) (e : Nat) : State :=
  let wait := match s.coll u.coll with | some c => s.pubsWait c | none => false
  match u.homes with
  | [] =>
    if wait then s.upd! b (fun u => { u with epoch := e })
    else
      let old := match moves with | mv :: _ => ((s.coll u.coll).bind (fun c => Tbl.find mv.1 c.slots)).map (·.reach) | [] => none
      let s1 := ((s.commitMoves u.coll b e moves s.nodeNo).search! (fun x => { x with parts := x.parts.map (fun p => match p.split with
        | some (bb, _) => if bb = b then { p with split := none } else p
        | none => p) })).upd! b (fun u => { u with stage := .reporting })
      let s2 := match old with | some r => s1.tightenReach u.coll r | none => s1
      let h := s.homeNode u.coll
      if h = s.nodeNo then s2 else s2.sendUpd h u.coll (.epochComplete u.coll e)
  | n :: _ => ((s.commitMoves u.coll b e moves n).sendUpd n u.coll (.commit u.coll u.seq e)).upd! b (fun u => { u with stage := .committing })

/-- Splits that had their epoch and waited for a publication commit (R100). -/
def State.resumeMoves (s : State) : State :=
  (s.search.upds.filter (fun u => decide (u.2.stage = .wantEpoch) && decide (u.2.epoch ≠ 0))).foldl (fun t u => match u.2.migr with
    | some mv => t.commitMigration u.1 u.2 mv u.2.epoch
    | none => t) s

/-- Operations of homes that are declared lost after step 3 fail, and those homes count as reported (R194). -/
def State.loseHomes (s : State) (b : Nat) : State :=
  s.upd! b (fun u => { u with
    ops := u.ops.map (fun o => if s.nodeLost o.home && u.homes.contains o.home then o.fail stPeerLost 0x0108 else o)
    reports := u.reports ++ (u.homes.filter (fun h => s.nodeLost h && !u.reports.contains h)) })

/-- A batch has taken its epoch, which is the commit decision (R191 steps 3 and 4, R193, R194). -/
def State.decided (s : State) (b : Nat) (u : UpdBatch) (e : Nat) : State :=
  let s1 := (s.upd! b (fun u => { u with stage := if u.homes = [] then .reporting else .committing, epoch := e })).loseHomes b
  let s2 := u.homes.foldl (fun t n => if n = s.nodeNo ∨ s.nodeLost n then t else t.sendUpd n u.coll (.commit u.coll u.seq e)) s1
  if u.homes = [] ∧ s.homeNode u.coll ≠ s.nodeNo then s2.sendUpd (s.homeNode u.coll) u.coll (.epochComplete u.coll e) else s2

/-- EPOCH_GRANT (R191 step 3, R193, R202, R554, R607): the coordinator has its answer; at the epoch home itself it is the recorded one. After REROUTE it
waits for a map as late as the answer's, and asks the epoch home of that map. -/
def execEpochGrant (batch : Nat) (ans : EpochReply) (s : State) : Host.Outcome State Fault Refusal :=
  ok (match Tbl.find batch s.search.upds with
    | none => s
    | some u =>
      let comp := u.coll / 4096
      if u.stage ≠ .wantEpoch then s
      else
        let o : Option Outcome2 := if u.epoch ≠ 0 then some (.epoch u.epoch)
          else if s.homeNode u.coll = s.nodeNo then s.recorded u.coll s.nodeNo u.seq
          else match ans with | .granted e => some (.epoch e) | .aborted x => some (.aborted x) | .reroute _ => none
        match o with
        | none => (match ans with
          | .reroute v => if seqGe 32 (s.mapVersion comp) v then s.askEpoch batch else s.upd! batch (fun u => { u with needMap := v, needNs := s.now + s.mapGrace })
          | _ => s)
        | some (.aborted x) =>
          let s1 := if x then s else s.logAbort comp
          (match u.migr with
            | some mv => (u.homes.foldl (fun t n => t.sendUpd n u.coll (.abort u.coll u.seq)) s1).abortMoves batch u mv
            | none => match s1.search.bitWrites.find? (fun w => decide (w.seq = u.seq)) with
              | some w =>
                (s1.search! (fun y => { y with bitWrites := y.bitWrites.filter (fun v => decide (v.seq ≠ u.seq)), upds := Tbl.erase batch y.upds })).reply w.msg
                  (if x then stBad else stInternal) (writeHdr (if x then 0x0007 else 0))
              | none => s1.abortBatch batch (if x then stBad else stInternal) (if x then 0x010A else 0x0109))
        | some (.epoch e) =>
          (match u.migr with
            | some mv => s.commitMigration batch u mv e
            | none =>
              match s.search.bitWrites.find? (fun w => decide (w.seq = u.seq)) with
              | some w => if !s.bitFits w then s else
                let s1 := (s.commitBitmap w e).search! (fun x => { x with bitWrites := x.bitWrites.filter (fun y => decide (y.seq ≠ u.seq)), upds := Tbl.erase batch x.upds })
                if s.homeNode u.coll = s.nodeNo then s1.epochDone u.coll e else s1.sendUpd (s.homeNode u.coll) u.coll (.epochComplete u.coll e)
              | none => s.decided batch u e))

/-! ### Commit -/

/-- Commits a prepared part at an epoch (R182, R191 step 4, R295, R135, R142). -/
def State.commitPart (s : State) (k coord seq e : Nat) : State :=
  match s.part k coord seq with
  | none => s
  | some p =>
    -- a PAYLOAD on a slot that the part itself made has changed that slot already
    let pays := p.ops.filter (fun o => o.done && decide (o.status = 0) && decide (o.op = 4) && !bit o.cflags 2)
    let s0 := pays.foldl (fun t o => t.coll! k (fun c => match c.currentOf o.rowId with | some (i, _) => c.slot! i (fun z => { z with payload := o.payload }) | none => c)) s
    let s1 := p.newSlots.foldl (fun t i => t.commitSlot k i e) s0
    let s2 := p.ended.foldl (fun t i => t.endSlot k i e none) s1
    let rows := dedup ((p.ops.filter (fun o => o.versions || decide (o.op = opMove))).map (·.rowId))
    let s3 := s2.coll! k (fun c => { c with index := rows.foldl (fun ix r =>
      let last := p.ops.foldl (fun v o => if o.rowId = r ∧ (o.versions ∨ o.op = opMove) then (if o.op = opMove then Nat.max v o.version else o.version) else v) (Tbl.getD r 0 ix)
      if c.slots.any (fun z => decide (z.2.state ≠ .free) && decide (z.2.rowId = r)) then Tbl.put r last ix else Tbl.erase r ix) c.index })
    let s4 := ((s3.boundary Reg.LCK_RETAIN 0 32 k).boundary Reg.LCK_RETAIN 32 16 k).part! k coord seq (fun q => { q with state := .committed, epoch := e })
    ((s4.count Reg.LCK_CNT0 0 (p.ops.filter (fun o => o.done && decide (o.status = 0))).length).count Reg.LCK_CNT0 4
      (p.ops.filter (fun o => o.done && decide (o.status ≠ 0))).length).promote

/-- PART_COMMIT (R191 step 4, R100, R608): waits while a publication of the collection is unacknowledged. A repeated commit applies nothing twice and is
answered with the outcome that the home holds. -/
def execPartCommit (coll coord seq epoch : Nat) (s : State) : Host.Outcome State Fault Refusal :=
  ok (match s.coll coll, s.partsOf coll coord seq with
    | some c, p :: rest =>
      let e := if coord = s.nodeNo then (match s.updOf coll seq with | some u => u.2.epoch | none => p.epoch) else epoch
      let due := (p :: rest).filter (fun q => decide (q.state = .prepared))
      let report (t : State) : State := if coord = s.nodeNo then t else t.sendUpd coord coll (.commitReport coll seq)
      if due = [] then (if (p :: rest).all (fun q => decide (q.state = .committed)) then report s else s)
      else if e = 0 ∨ s.pubsWait c then s
      else report (due.foldl (fun t q => t.commitPart coll coord q.seq e) s)
    | _, _ => s)

/-- The homes of a batch that still have to report. -/
def State.unreported (s : State) (u : UpdBatch) : List Nat := u.homes.filter (fun h => !u.reports.contains h && !s.nodeLost h)

/-- Once every home has reported, the coordinator reports the epoch complete (R191 step 5). -/
def State.tryReport (s : State) (b : Nat) : State :=
  match Tbl.find b s.search.upds with
  | none => s
  | some u =>
    if u.stage ≠ .committing ∨ s.unreported u ≠ [] then s
    else
      let s1 := s.upd! b (fun u => { u with stage := .reporting })
      let h := s.homeNode u.coll
      if h = s.nodeNo then s1 else s1.sendUpd h u.coll (.epochComplete u.coll u.epoch)

/-- COMMIT_REPORT (R191 step 4). -/
def execCommitReport (batch home : Nat) (s : State) : Host.Outcome State Fault Refusal :=
  ok (match Tbl.find batch s.search.upds with
    | none => s
    | some u =>
      let mine := s.partsOf u.coll s.nodeNo u.seq
      let here := decide (home ≠ s.nodeNo) || (!mine.isEmpty && mine.all (fun p => decide (p.state = .committed)))
      if u.stage ≠ .committing ∨ !u.homes.contains home ∨ u.reports.contains home ∨ !here then s
      else (s.upd! batch (fun u => { u with reports := u.reports ++ [home] })).tryReport batch)

/-- EPOCH_COMPLETE (R184, R191 step 5, R608): the epoch home counts an epoch complete; a batch of this node must have reached that step. -/
def execEpochComplete (coll epoch : Nat) (s : State) : Host.Outcome State Fault Refusal :=
  ok (match (s.coll coll).bind (·.home) with
    | none => s
    | some h =>
      let mine := s.search.upds.find? (fun u => decide (u.2.coll = coll) && decide (u.2.epoch = epoch))
      if h.next ≤ epoch ∨ epoch = 0 ∨ h.takeover then s
      else match mine with
        | some (b, u) => if u.stage = .reporting then (s.epochDone coll epoch).upd! b (fun u => { u with stage := .stableWait }) else s
        | none => s.epochDone coll epoch)

/-- STABLE_EPOCH_PUSH (R185): at most one send per STABLE_PUSH_US. -/
def execStableEpochPush (coll : Nat) (s : State) : Host.Outcome State Fault Refusal :=
  ok (match s.coll coll with
    | none => s
    | some c => match c.home with
      | none => s
      | some h =>
        if h.stable ≤ h.pushed then s
        else
          let s1 := s.reach (h.lastPushNs + us (s.fld Reg.LCK_TIMING 0 16))
          (s.others c.comp c.desc.span).foldl (fun t n => t.sendUpd n coll (.stable coll h.stable))
            (s1.coll! coll (fun c => { c with home := some { h with pushed := h.stable, lastPushNs := s1.now } })))

/-- STABLE_EPOCH_RECEIVE (R185, R608): committed parts of other nodes need no answer any more once their epoch is stable. -/
def execStableEpochReceive (coll epoch : Nat) (s : State) : Host.Outcome State Fault Refusal :=
  ok (match s.coll coll with
    | none => s
    | some c =>
      if c.home.isSome ∨ epoch ≤ c.lastEpoch then s
      else (s.raiseStable coll epoch).search! (fun x => { x with
        parts := x.parts.filter (fun p => !(decide (p.coll = coll) && decide (p.state = .committed) && decide (p.epoch ≤ epoch) && decide (p.coord ≠ s.nodeNo))) }))

/-- The status of an update reply (R180). -/
def updStatus (ops : List UpdOp) : Nat :=
  let has (st : Nat) : Bool := ops.any (fun o => decide (o.status = st))
  if has stPeerLost then stPeerLost else if has stInternal then stInternal else if has stBad then stBad else stOK

/-- UPDATE_COMPLETE (R180, R191 step 5): the completion records, then the reply, once the batch's epoch is stable. A split's migration that holds no
lock of its own any more is over then too. -/
def execUpdateComplete (batch : Nat) (s : State) : Host.Outcome State Fault Refusal :=
  let split := match Tbl.find batch s.search.upds with
    | some u => u.migr.isSome && decide (u.epoch ≠ 0) && !s.search.migrations.any (fun m => decide (m.2 = batch))
        && (match s.coll u.coll with | some c => decide (u.epoch ≤ c.lastEpoch) | none => true)
    | none => false
  ok (if split then s.search! (fun y => { y with upds := Tbl.erase batch y.upds })
    else match Tbl.find batch s.search.upds, s.batch batch with
    | some u, some x => match s.coll u.coll, x.msg with
      | some c, some m =>
        let excess := decide (u.stage = .stableWait) || (decide (u.stage = .reporting) && decide (s.epochHome c.comp c.desc.span ≠ s.nodeNo))
        if u.migr.isSome ∨ x.torn ≠ none ∨ !excess ∨ c.lastEpoch < u.epoch then s
        else
          let good := (u.ops.filter (fun o => decide (o.status = 0))).length
          let s1 := s.output m u.complAddr (u.ops.flatMap (fun o => o.record s.nodeNo u.epoch))
          let s2 := (s1.dropPart u.coll s.nodeNo u.seq).search! (fun y => { y with upds := Tbl.erase batch y.upds })
          let s3 := if u.epoch = 0 then s2 else s2.count Reg.LCK_CNT0 1 1
          s3.replyBatch batch (updStatus u.ops) 0 (le 8 (if good = 0 then 0 else u.epoch) ++ le 2 good ++ le 2 (u.ops.length - good) ++ le 4 0)
      | _, _ => s
    | _, _ => s)

/-! ### Outcomes, takeover, node loss -/

/-- A prepared part learns its batch's outcome (R193). -/
def State.partOutcome (s : State) (coll coord seq : Nat) (o : Outcome2) : State :=
  match o with
  | .aborted _ => s.abortPart coll coord seq
  | .epoch e => match s.coll coll with
    | none => s
    | some c => if s.pubsWait c then s.part! coll coord seq (fun p => { p with epoch := e }) else
        let s1 := s.commitPart coll coord seq e
        if coord = s.nodeNo then s1 else s1.sendUpd coord coll (.commitReport coll seq)

/-- What the epoch home answers to an outcome query (R193): the recorded outcome; a batch without an epoch is marked aborted. During a takeover it answers
nothing yet (R195). -/
def State.judgeOutcome (s : State) (k coord seq : Nat) : Option (Outcome2 × State) :=
  match (s.coll k).bind (·.home) with
  | none => none
  | some h =>
    if h.takeover then none
    else match s.recorded k coord seq with
      | some o => some (o, s)
      | none => some (.aborted false, s.coll! k (fun c => { c with home := some { h with recs := h.recs ++ [⟨coord, seq % 2 ^ 64, .aborted false⟩] } }))

/-- An outcome query of another home arrives at the epoch home. -/
def State.outcomeAsked (s : State) (src k coord seq : Nat) : State :=
  match s.judgeOutcome k coord seq with
  | none => s
  | some (o, s1) => s1.sendUpd src k (.outcome k coord seq o)

/-- PREP_TIMEOUT (R193): a prepared part asks for its outcome; the epoch home marks a batch without an epoch aborted. -/
def execPrepTimeout (coll coord seq : Nat) (s : State) : Host.Outcome State Fault Refusal :=
  ok (match s.part coll coord seq, s.coll coll with
    | some p, some c =>
      if p.state ≠ .prepared ∨ p.askSent then s
      else
        let s0 := s.reach p.deadline
        let s1 := s0.part! coll coord seq (fun p => { p with askSent := true })
        if s.epochHome c.comp c.desc.span ≠ s.nodeNo then s1.sendUpd (s.epochHome c.comp c.desc.span) coll (.outcomeAsk coll coord seq)
        else match s0.judgeOutcome coll coord seq with
          | some (o, s2) => s2.partOutcome coll coord seq o
          | none => s0
    | _, _ => s)

/-- OUTCOME_REPLY (R193). -/
def execOutcomeReply (coll coord seq : Nat) (outcome : Outcome2) (s : State) : Host.Outcome State Fault Refusal :=
  ok (match s.part coll coord seq with
    | some p => if p.state = .prepared ∧ p.askSent then s.partOutcome coll coord seq outcome else s
    | none => s)

/-- After a map or a loss changes the epoch home (R195, R607): the former home stops, the new one starts a takeover, and coordinators ask the new one. -/
def State.rehome (s : State) (comp : Nat) : State :=
  let s1 := s.search! (fun x => { x with colls := x.colls.map (fun k =>
    if k.2.comp ≠ comp then k
    else if s.epochHome comp k.2.desc.span = s.nodeNo then (k.1, { k.2 with home := match k.2.home with | some h => some h | none => some { EpochHome.fresh with takeover := true } })
    else (k.1, { k.2 with home := none })) })
  (s1.search.upds.filter (fun u => decide (u.2.coll / 4096 = comp) && decide (u.2.stage = .wantEpoch) && decide (u.2.epoch = 0))).foldl (fun t u =>
    let h := t.homeNode u.2.coll
    if h = t.nodeNo then t else t.sendUpd h u.2.coll (.epochReq u.2.coll u.2.seq)) s1

/-- What a node declared lost means for update batches (R194): before step 3 the batch aborts, after it only the lost home's operations fail. A batch that
has asked for its epoch waits for the answer. -/
def State.homeLost (s : State) (n : Nat) : State :=
  let s1 := s.search.upds.foldl (fun t u =>
    let used := u.2.homes.contains n || decide (u.2.sent = some n) || u.2.parts.contains n
    if !used then t
    else if u.2.epoch ≠ 0 then (t.loseHomes u.1).tryReport u.1
    else if u.2.stage = .wantEpoch ∨ u.2.stage = .stableWait then t
    else match u.2.migr with
      | some mv => t.abortMoves u.1 u.2 mv
      | none => t.abortBatch u.1 stPeerLost 0x0108) s
  ((s1.slc.comps.foldl (fun t c => t.rehome c.1) s1).promote).resumeMoves

end Sys2Proof.Machine
end

