-- ==== Sys2Proof/Machine/Rows.lean ====
section
/-! DEFINITION. Moving rows, tightening, freeing slots, popularity widths, code rewrites, gathers, default rows and epoch information
(chapters 02, 03, 06 and 09). -/

namespace Sys2Proof

/-- The target width of a POPULARITY row (R44): 0 CODE4, 1 CODE8, 2 CODE2. -/
def Desc.targetWidth (d : Desc) (access : Nat) : Nat := if d.popHot ≤ access then 1 else if access ≤ d.popCold then 2 else 0

/-- The oldest retained epoch (R188), of the retention figures. -/
def Coll.oldestRetained (c : Coll) (now : Nat) (r : Nat × Nat) : Nat :=
  let byCount := c.lastEpoch - (r.1 - 1)
  match c.stableNs.find? (fun x => decide (now < x.2 + 1000000 * r.2)) with
  | none => byCount
  | some x => Nat.min byCount (match (c.stableNs.filter (fun y => decide (y.1 < x.1))).getLast? with | some y => y.1 | none => 0)

/-- Bytes of a gather entry's vector (R206): a reference copy, or BF16 elements. -/
def Desc.gatherVec (d : Desc) (decoded : Bool) : Nat := if decoded then 2 * d.dim else d.refBytes
/-- G of R206. -/
def Desc.gatherStride (d : Desc) (decoded : Bool) : Nat := 32 + roundUp (d.gatherVec decoded) 64

/-- An entry of a gather (R206). -/
def Desc.gatherEntry (d : Desc) (decoded : Bool) (id version status payload source : Nat) (vec : List Byte) : List Byte :=
  le 8 id ++ le 4 version ++ le 1 status ++ zeros 3 ++ le 8 payload ++ le 2 source ++ zeros 6 ++ bytesAt vec 0 (roundUp (d.gatherVec decoded) 64)

/-- Elements as BF16 bytes. -/
def bf16Bytes (l : List Dy) : List Byte := l.flatMap (fun a => le 2 (fmtB16.ofDy .rne a))

/-- The vector of a default row (R207, R208): its reference copy, or its source vector in BF16. -/
def Desc.defaultVec (d : Desc) (decoded : Bool) (row : List Byte) : List Byte :=
  if row.all (fun b => decide (b = 0)) then zeros (d.gatherVec decoded)
  else match d.refOf false row with
    | none => zeros (d.gatherVec decoded)
    | some r => if decoded then bf16Bytes (d.source r) else r

/-- The decoded code of a row in BF16, with outlier dimensions taken from their stored values (R206). -/
def Slot.decodedVec (z : Slot) (d : Desc) : List Byte :=
  let xs := decodeRow d (d.bitsOf z.width) z.code z.side
  let pos (j : Nat) : Nat := (d.codedDims.filter (fun i => decide (i < j))).length
  (List.range d.dim).flatMap (fun j =>
    match (d.outDims.filter (fun i => decide (i < j))).length, d.outDims.contains j with
    | k, true => bytesAt z.outl (2 * k) 2
    | _, false => le 2 (fmtB16.ofDy .rne (xs.getD (pos j) Dy.zero)))

end Sys2Proof

namespace Sys2Proof.Machine

/-! ### Moving rows -/

/-- The newest filter bits of a slot, one bit for each bitmap number. -/
def Coll_filterMask (c : Coll) (i : Nat) : Nat :=
  sumL ((c.bitmaps.filter (fun b => b.2.dropMsg.isNone)).map (fun b => match b.2.gens with | g :: _ => if g.ones.contains i then 2 ^ b.1 else 0 | [] => 0))

/-- MIGRATION_START (R202 steps 1 to 3): a row that the map gives to another node is locked and sent there; the slot that it takes there is the
other node's choice (log 1). -/
def execMigrationStart (coll row node : Nat) (s : State) : Host.Outcome State Fault Refusal :=
  ok (match s.coll coll with
    | none => s
    | some c => match c.currentOf row with
      | none => s
      | some (i, z) =>
        let held := Tbl.has (migKey coll row) s.search.migrations
          || s.search.parts.any (fun q => decide (q.coll = coll) && Part_holds q && (Part_rows q).contains row)
        if held ∨ node = s.nodeNo ∨ s.homeOf c.comp c.desc.span row ≠ node ∨ s.nodeLost node then s
        else
          let b := s.slc.nextBatch
          let seq := s.search.updSeq + 1
          let f := s.free
          let op := UpdOp.migrate z (Coll_filterMask c i)
          (((f.2.slc! (fun q => { q with nextBatch := b + 1 })).search! (fun q => { q with
            updSeq := seq
            upds := Tbl.put b ⟨coll, seq, [op], .preparing, [], some node, [], [], 0, s.mapVersion c.comp, 0, 0, some [(i, f.1 % 2 ^ 40)], 0, 0⟩ q.upds
            migrations := Tbl.put (migKey coll row) b q.migrations }))).sendUpd node coll (.part coll seq [op]))

/-- MIGRATION_RELEASE (R202 step 5): the lock goes once M is stable. -/
def execMigrationRelease (coll row : Nat) (s : State) : Host.Outcome State Fault Refusal :=
  ok (match s.coll coll, Tbl.find (migKey coll row) s.search.migrations with
    | some c, some b =>
      let excess := match Tbl.find b s.search.upds with | some u => decide (u.epoch ≠ 0) && decide (u.epoch ≤ c.lastEpoch) | none => true
      if !excess then s
      else
        let s1 := s.search! (fun q => { q with migrations := Tbl.erase (migKey coll row) q.migrations })
        let left := s1.search.migrations.any (fun m => decide (m.2 = b))
        (if left then s1 else s1.search! (fun q => { q with upds := Tbl.erase b q.upds })).promote
    | _, _ => s)

/-! ### Balls -/

/-- The TIGHT_RADIUS of a catchment from those of its reaches (R71, R74). -/
def Coll_catchTight (c : Coll) (k : Nat) (centre : List F16) : F32 :=
  ((c.reachesOf k).map (fun r => catchTerm r.2.centre centre r.2.tight)).foldl fmax 0

/-- TIGHTEN (R74): a new radius over the rows visible at the last committed epoch and every growth after it; a catchment takes its tightened reaches. -/
def execTighten (coll : Nat) (ball : BallId) (s : State) : Host.Outcome State Fault Refusal :=
  ok (match ball with
    | .reach r => s.tightenReach coll r
    | .catchment k =>
      let rs : List Nat := match s.coll coll with | some c => (c.reachesOf k).map (·.1) | none => []
      (rs.foldl (fun t r => t.tightenReach coll r) s).coll! coll (fun c => { c with
        catches := Tbl.upd k (fun y => { y with tight := Coll_catchTight c k y.centre, tightEpoch := c.lastEpoch }) c.catches })
    | .summary _ _ => s)

/-- A ball's RADIUS may be replaced (R75): TIGHT_EPOCH − 1 is not retained, and no reader below TIGHT_EPOCH is in flight. -/
def State.mayReplace (s : State) (k : Nat) (c : Coll) (e : Nat) : Bool :=
  decide (e ≠ 0) && !s.retained k c (e - 1) && (s.inFlight k).all (fun x => decide (e ≤ x))

/-- RADIUS_REPLACE (R75). -/
def execRadiusReplace (coll : Nat) (ball : BallId) (s : State) : Host.Outcome State Fault Refusal :=
  ok (match s.coll coll with
    | none => s
    | some c => match ball with
      | .reach r => (match Tbl.find r c.reaches with
        | some y => if s.mayReplace coll c y.tightEpoch then s.coll! coll (fun c => c.reach! r (fun y => { y with radius := y.tight, tightEpoch := 0 })) else s
        | none => s)
      | .catchment k => (match Tbl.find k c.catches with
        | some y => if s.mayReplace coll c y.tightEpoch then s.coll! coll (fun c => { c with catches := Tbl.upd k (fun y => { y with radius := y.tight, tightEpoch := 0 }) c.catches }) else s
        | none => s)
      | .summary n k => (match (Tbl.find n c.sources).bind (fun v => Tbl.find k v.sums) with
        | some y => if s.mayReplace coll c y.tightEpoch then s.coll! coll (fun c => { c with
            sources := Tbl.upd n (fun v => { v with sums := Tbl.upd k (fun y => { y with radius := y.tight, tightEpoch := 0 }) v.sums }) c.sources }) else s
        | none => s))

/-! ### Slots -/

/-- SLOT_FREE (R189, R125, R360). -/
def execSlotFree (coll slot : Nat) (s : State) : Host.Outcome State Fault Refusal :=
  ok (match s.coll coll with
    | none => s
    | some c => match Tbl.find slot c.slots with
      | none => s
      | some z =>
        if (z.state ≠ .tombstone ∧ z.state ≠ .forward) ∨ z.link ≠ .unlinked ∨ s.retained coll c (z.delEpoch - 1)
            ∨ (s.inFlight coll).any (fun e => decide (e < z.delEpoch)) then s
        else (s.freeSlot coll slot).count Reg.LCK_CNT0 6 1)

/-- POP_DECAY (R44): every POP_DECAY_MS the counts are halved, rounding down. -/
def execPopDecay (coll : Nat) (s : State) : Host.Outcome State Fault Refusal :=
  ok (match s.coll coll with
    | none => s
    | some c =>
      if c.desc.codeFmt ≠ 4 then s
      else
        let t := c.decayNs + ms c.desc.popDecay
        (s.reach t).coll! coll (fun c => { c with decayNs := t, slots := c.slots.map (fun z => (z.1, { z.2 with access := z.2.access / 2 })) }))

/-- POP_RECODE (R45, R609): a row takes its target width, between scans of its reach (log 25); a wider code without space in the slice is deferred and counted. -/
def execPopRecode (coll slot : Nat) (s : State) : Host.Outcome State Fault Refusal :=
  ok (match s.coll coll with
    | none => s
    | some c => match Tbl.find slot c.slots with
      | none => s
      | some z =>
        let w := c.desc.targetWidth z.access
        if c.desc.codeFmt ≠ 4 ∨ z.recoded ∨ !z.current ∨ z.damaged ∨ w = z.width ∨ s.reachScanned coll z.reach then s
        else if w = 1 ∧ (s.allocate c.comp 0 (promoBytes c.desc.raw)).isNone then s.coll! coll (fun c => { c with promoteDeferred := c.promoteDeferred + 1 })
        else s.coll! coll (fun c => c.slot! slot (fun z => ({ z with width := w } : Slot).coded c.desc)))

/-- CODE_REWRITE (R286, Table DLT-4): a lost code or side record is coded again from the reference copy; when that cannot be read the row is DAMAGED. -/
def execCodeRewrite (coll slot : Nat) (media : Bool) (s : State) : Host.Outcome State Fault Refusal :=
  ok (match s.coll coll with
    | none => s
    | some c => match Tbl.find slot c.slots with
      | none => s
      | some z =>
        if z.state = .free ∨ !z.codeLost ∨ z.damaged then s
        else let s := s.chargeNode c.comp
        if media then
          (match c.desc.slotLsns c.base slot with
            | [] => s
            | l :: _ => match c.refExt with
              | some e => s.extentLost e (l - c.base) false
              | none => s.sectorLost c.space l)
        else s.coll! coll (fun c => c.slot! slot (fun z => z.coded (c.descOf z))))

/-! ### Gather -/

/-- The header of GATHER meets Table UPD-8, but for OUT_LEN. -/
def gatherHeaderOk (m : Msg) : Bool :=
  decide (m.len = 64) && decide (m.p 0 2 < 4096) && decide (m.p 2 2 < 4) && decide (1 ≤ m.p 4 4) && decide (m.p 4 4 ≤ 65536) && decide (m.p 8 8 % 8 = 0)
    && decide (m.p 0x10 8 % 64 = 0) && decide (m.p 0x20 8 < 2 ^ 48) && priorityOk (m.p 0x2C 1) && decide (m.p 0x2D 19 = 0)

/-- What admission makes of a READ_EPOCH (R114, R187, R209): an epoch to run at, a check with the epoch home, or a refusal (status, reason). -/
inductive EpochPick where
  | run (e : Nat)
  | ask (e : Nat)
  | refuse (status reason : Nat)
  deriving DecidableEq, Repr

/-- A refusal for the read epoch is counted (LCK_CNT7). -/
def State.epochRefused (s : State) (status : Nat) : State := if status = stEpochRetired then s.count Reg.LCK_CNT0 7 1 else s

/-- Picks the read epoch of a query batch or gather (R115, R187). An epoch above the last committed at the epoch home is BAD_DESCRIPTOR, and its reason is
FIELD: the spec names none (DESIGN CHOICE, log 121). -/
def State.pickEpoch (s : State) (k : Nat) (c : Coll) (e : Nat) : EpochPick :=
  if e = 0 then .run c.lastEpoch
  else if c.lastEpoch < e then (if decide (s.epochHome c.comp c.desc.span = s.nodeNo) && (match c.home with | some h => !h.takeover | none => true) then .refuse stBad 0x000B else .ask e)
  else if s.retained k c e then .run e else .refuse stEpochRetired 0

/-- An entry that this node serves (R206, R207). -/
def State.gatherLocal (s : State) (k : Nat) (g : Gather) (id : Nat) : Nat × List Byte :=
  match s.coll k with
  | none => (2, [])
  | some c =>
    let d := c.desc
    let dflt (st : Nat) : Nat × List Byte := (st, d.gatherEntry g.decoded id 0 st g.dfltPayload s.nodeNo (d.defaultVec g.decoded g.dfltRow))
    if 2 ^ 48 - 1 ≤ id then dflt 1
    else match c.seen id g.readEpoch with
      | none => dflt 2
      | some (_, z) =>
        if z.damaged ∧ (!g.decoded ∨ z.codeLost) then dflt 3
        else (0, d.gatherEntry g.decoded id z.version 0 z.payload s.nodeNo (if g.decoded then z.decodedVec (c.descOf z) else z.ref))

/-- An entry that no home serves: `st` is 4 LOST for a home that was declared lost, 2 MISSING for one that does not hold the collection (R207, R612). -/
def State.gatherLost (s : State) (k : Nat) (g : Gather) (st id : Nat) : Nat × List Byte :=
  match s.coll k with
  | none => (st, [])
  | some c => (st, c.desc.gatherEntry g.decoded id 0 st g.dfltPayload s.nodeNo (c.desc.defaultVec g.decoded g.dfltRow))

/-- Sends a gather read to a home (R207): its request in notes of kind 6 in firmware region 0xC, 400 ids each, and a JRO get of the entries from region 0x9
(internal layout, log 122). -/
def State.gatherSend (s : State) (b n : Nat) (g : Gather) (ids : List Nat) : State :=
  let stride := match s.coll g.coll with | some c => c.desc.gatherStride g.decoded | none => 64
  let s1 := (List.range (cdiv ids.length 400)).foldl (fun t i =>
    let part := (ids.drop (400 * i)).take 400
    let bs := t.noteHead 6 g.coll ++ le 2 (b % 65536) ++ le 1 (b2n g.decoded) ++ le 1 (b2n (decide (i = 0))) ++ le 4 g.mapVersion ++ le 8 g.readEpoch
      ++ part.flatMap (fun r => le 8 r)
    t.fwOp (g.coll / 4096) 4 1 n 0xC 3 g.coll b bs.length bs) (s.send n 1 (.gatherRead b g.coll ids))
  s1.fwGet (g.coll / 4096) n b (stride * ids.length)

/-- Updates a gather. -/
def State.gather! (s : State) (b : Nat) (f : Gather → Gather) : State := s.search! (fun x => { x with gathers := Tbl.upd b f x.gathers })

/-- A gather with every entry read writes them and replies (R205, R209). -/
def State.finishGather (s : State) (b : Nat) : State :=
  match Tbl.find b s.search.gathers, s.batch b with
  | some g, some x =>
    if g.waiting ≠ [] ∨ g.stalled ≠ [] ∨ g.entries.length < g.ids.length ∨ x.torn ≠ none then s
    else
      let st (n : Nat) : Bool := g.entries.any (fun (e : Nat × Nat × List Byte) => decide (e.2.1 = n))
      let s1 := match x.msg with | some m => s.output m g.outAddr (g.entries.flatMap (fun (e : Nat × Nat × List Byte) => e.2.2)) | none => s
      (s1.search! (fun y => { y with gathers := Tbl.erase b y.gathers })).replyBatch b (if st 4 then stPeerLost else if st 3 then stRowDamaged else stOK) 0 []
  | _, _ => s

/-- Resolves the entries at some indices of a gather at their homes under the gather's map (R207): local ones are read, the others are asked from their homes
with one read for each home. -/
def State.askGather (s : State) (b : Nat) (idx : List Nat) : State :=
  match Tbl.find b s.search.gathers with
  | none => s
  | some g =>
    let id (i : Nat) : Nat := g.ids.getD i 0
    let home (i : Nat) : Nat := if g.localOnly ∨ 2 ^ 48 - 1 ≤ id i then s.nodeNo else s.homeUnder g.map (id i)
    let here := idx.filter (fun i => decide (home i = s.nodeNo))
    let gone := idx.filter (fun i => decide (home i ≠ s.nodeNo) && s.nodeLost (home i))
    let far := idx.filter (fun i => decide (home i ≠ s.nodeNo) && !s.nodeLost (home i))
    let es := here.foldl (fun t i => Tbl.put i (s.gatherLocal g.coll g (id i)) t) g.entries
    let es2 := gone.foldl (fun t i => Tbl.put i (s.gatherLost g.coll g 4 (id i)) t) es
    let s0 := if g.decoded ∨ here = [] then s else s.chargeRead b 0
    let s1 := s0.gather! b (fun g => { g with entries := es2, waiting := g.waiting ++ far.map (fun i => (i, home i)), stalled := g.stalled.filter (fun i => !idx.contains i) })
    (dedup (far.map home)).foldl (fun t n => t.gatherSend b n g ((far.filter (fun i => decide (home i = n))).map id)) s1

/-- Asks stalled entries of a gather again, under the current map (R442). -/
def State.reaskGather (s : State) (b : Nat) (idx : List Nat) : State :=
  (s.gather! b (fun g => { g with mapVersion := s.mapVersion (g.coll / 4096), map := s.mapHomes (g.coll / 4096) (s.spanOf g.coll) })).askGather b idx

/-- Serves a gather that has its root context. -/
def State.serveGather (s : State) (b : Nat) : State :=
  match Tbl.find b s.search.gathers, s.batch b with
  | some g, some x => if x.stage = .active ∧ g.entries = [] ∧ g.waiting = [] ∧ g.stalled = [] then (s.askGather b (List.range g.ids.length)).finishGather b else s
  | _, _ => s

/-- What a home answers to a gather read: entries, that it is lost, that it does not hold the collection (R612), or REROUTE with the map version needed. -/
inductive GatherAns where
  | entries (bytes : List Byte)
  | lost
  | notHeld
  | reroute (needed : Nat)
  deriving DecidableEq, Repr

/-- A home's answer to a gather read (R207, R442): an id bounced twice is LOST; one bounced once waits for a map as late as the answer's. -/
def State.gatherAnswer (s : State) (b home : Nat) (a : GatherAns) : State :=
  match Tbl.find b s.search.gathers with
  | none => s
  | some g =>
    let comp := g.coll / 4096
    let id (i : Nat) : Nat := g.ids.getD i 0
    let mine := (g.waiting.filter (fun w => decide (w.2 = home))).map (·.1)
    let rest := g.waiting.filter (fun w => decide (w.2 ≠ home))
    let without (st : Nat) : State :=
      (s.gather! b (fun g => { g with waiting := rest, entries := mine.foldl (fun t i => Tbl.put i (s.gatherLost g.coll g st (id i)) t) g.entries })).finishGather b
    match a with
    | .lost => without 4
    | .notHeld => without 2
    | .entries bs =>
      let stride := match s.coll g.coll with | some c => c.desc.gatherStride g.decoded | none => 64
      let es := ((List.range mine.length).zip mine).foldl (fun t p => let e := bytesAt bs (stride * p.1) stride; Tbl.put p.2 (natAt e 12 1, e) t) g.entries
      (s.gather! b (fun g => { g with waiting := rest, entries := es })).finishGather b
    | .reroute needed =>
      let twice := mine.filter (fun i => g.bounced.contains i)
      let once := mine.filter (fun i => !g.bounced.contains i)
      let s1 := s.gather! b (fun g => { g with
        waiting := rest, bounced := g.bounced ++ once, stalled := g.stalled ++ once
        entries := twice.foldl (fun t i => Tbl.put i (s.gatherLost g.coll g 4 (id i)) t) g.entries })
      let s2 := s1.batch! b (fun x => { x with charge := { x.charge with reroutes := x.charge.reroutes + 1 } })
      if seqGe 32 (s.mapVersion comp) needed then (s2.reaskGather b once).finishGather b else s2.finishGather b

/-- The stalled entries of a composition's gathers are asked again: a map was installed, or the wait of MAP_GRACE_US is over (R442). -/
def State.resumeGathers (s : State) (comp : Nat) : State :=
  (s.search.gathers.filter (fun g => decide (g.2.coll / 4096 = comp) && decide (g.2.stalled ≠ []))).foldl (fun t g => (t.reaskGather g.1 g.2.stalled).finishGather g.1) s

/-- GATHER (R205 to R209): `dma` holds the N_IDS ids. -/
def execGather (mb : Nat) (dma : HostRead) (s : State) : Host.Outcome State Fault Refusal :=
  onMsg s mb 0x0402 (fun m t =>
    let tag := m.p 0x28 4
    let k := collKey m.comp (m.p 0 2)
    let n := m.p 4 4
    if !gatherHeaderOk m then t.refuseBatch m tag stBad 0x000B
    else match t.coll k with
      | none => t.refuseBatch m tag stBad 0x0005
      | some c =>
        if m.p 0x18 8 < n * c.desc.gatherStride (bit (m.p 2 2) 0) then t.refuseBatch m tag stBad 0x000B
        else if c.state ≠ .online then t.refuseBatch m tag stOffline 0
        else match t.pickEpoch k c (m.p 0x20 8) with
          | .refuse st r => (t.epochRefused st).refuseBatch m tag st r
          | pick => match dma with
            | none => t.refuseBatch m tag stInternal 0
            | some bs =>
              let e := match pick with | .run e => e | .ask e => e | .refuse _ _ => 0
              let g : Gather := ⟨k, bit (m.p 2 2) 0, bit (m.p 2 2) 1, e, m.p 0x10 8, splitNum 8 n bs, t.mapVersion m.comp, t.mapHomes m.comp c.desc.span, c.defaultRow,
                c.defaultPayload, [], [], [], []⟩
              let level := t.msgLevel m (m.p 0x2C 1)
              match pick with
              | .ask e =>
                let r := t.addBatch (some m) m.comp m.opcode level tag .epochCheck (some k) []
                (r.2.search! (fun x => { x with gathers := Tbl.put r.1 g x.gathers })).send (t.homeNode k) 1 (.epochCheck r.1 k e)
              | _ =>
                let r := t.enroll m level tag (some k) []
                (r.2.search! (fun x => { x with gathers := Tbl.put r.1 g x.gathers })).serveGather r.1)

/-! ### Gather reads of other nodes -/

/-- A note of another node's gather read arrives: its ids are kept for the get that follows; the first note starts the list anew. -/
def State.gatherNote (s : State) (src : Nat) (bs : List Byte) : State :=
  let key := src * 65536 + natAt bs 8 2
  s.trib! (fun t => { t with gatherReqs := Tbl.put key (if natAt bs 11 1 = 1 then bs else Tbl.getD key [] t.gatherReqs ++ bs.drop 24) t.gatherReqs })

/-- The get of another node's gather read is served (R204, R206, R207, R440): entries that the source keeps, REROUTE with this node's map version, or NO_OBJECT
where this node does not hold the collection (R612). What a get without a request reads is free. -/
def State.gatherGet (s : State) (src addr len : Nat) : JroAns × State :=
  let off := addr % 2 ^ 48
  match Tbl.find (src * 65536 + off / 2 ^ 32) s.trib.gatherReqs with
  | none => let f := s.free; (⟨jOK, 0, le len f.1⟩, f.2)
  | some bs => match s.slc.comps.find? (fun c => decide (c.2.tenant = natAt bs 4 4)) with
    | none => (.of jNoObject, s)
    | some x =>
      let k := collKey x.1 (natAt bs 2 2)
      match s.coll k, s.judgeMap x.1 (natAt bs 12 4) with
      | none, _ => (.of jNoObject, s)
      | some c, .accept =>
        let g : Gather := ⟨k, decide (natAt bs 10 1 = 1), true, natAt bs 16 8, 0, splitNum 8 ((bs.length - 24) / 8) (bs.drop 24), natAt bs 12 4, [], c.defaultRow, c.defaultPayload, [], [], [], []⟩
        let s1 := if c.lastEpoch < g.readEpoch then s.raiseStable k g.readEpoch else s
        let stride := c.desc.gatherStride g.decoded
        let first := off % 2 ^ 32 / stride
        let rows := (g.ids.drop first).take (cdiv len stride + 1)
        (⟨jOK, 0, bytesAt (rows.flatMap (fun id => (s1.gatherLocal k g id).2)) (off % 2 ^ 32 - first * stride) len⟩, s1)
      | some _, _ => (⟨jOK, s.mapVersion x.1, zeros len⟩, s.count Reg.SLC_CNT0 8 1)

/-- The get of a gather read is held: its composition and the map version that its note carries, which comes after this node's (R440). -/
def State.gatherWaits (s : State) (p : Packet) : Option (Nat × Nat) :=
  match Tbl.find (p.src * 65536 + p.addr % 2 ^ 48 / 2 ^ 32) s.trib.gatherReqs with
  | none => none
  | some bs => match s.slc.comps.find? (fun c => decide (c.2.tenant = natAt bs 4 4)) with
    | none => none
    | some x =>
      let v := natAt bs 12 4
      if (s.coll (collKey x.1 (natAt bs 2 2))).isSome ∧ s.judgeMap x.1 v = .hold then some (x.1, v) else none

/-! ### Default rows and epoch information -/

/-- DEFAULT_ROW (R208, R597). -/
def execDefaultRow (mb : Nat) (dma : HostRead) (s : State) : Host.Outcome State Fault Refusal :=
  onMsg s mb 0x0403 (fun m t =>
    let k := collKey m.comp (m.p 0 2)
    if 4096 ≤ m.p 0 2 ∨ m.p 2 6 ≠ 0 then t.refuse m 0x000B
    else match t.coll k with
      | none => t.refuse m 0x0005
      | some c => match dma with
        | none => t.reply m stInternal (reasonHdr 0)
        | some bs =>
          let row := bytesAt bs 0 (c.desc.dim * c.desc.elemBytes)
          if (c.desc.refOf false row).isNone then t.refuse m 0x0103
          else if m.p 8 8 ≠ 0 ∧ !bit c.desc.flags 0 then t.refuse m 0x0107
          else (t.coll! k (fun c => { c with defaultRow := row, defaultPayload := m.p 8 8 })).done m [])

/-- A refused EPOCH_INFO: the fields of Table UPD-9 follow the head (R597), and no rule says what they hold (log 120). -/
def State.refuseInfo (s : State) (m : Msg) (reason : Nat) : State :=
  let a := s.free
  let b := a.2.free
  let c := b.2.free
  let d := c.2.free
  d.2.reply m stBad (reasonHdr reason ++ le 8 a.1 ++ le 8 b.1 ++ le 8 c.1 ++ le 2 d.1 ++ zeros 6)

/-- EPOCH_INFO (R210, R597). -/
def execEpochInfo (mb : Nat) (s : State) : Host.Outcome State Fault Refusal :=
  onMsg s mb 0x0404 (fun m t =>
    let k := collKey m.comp (m.p 0 2)
    if 4096 ≤ m.p 0 2 ∨ m.p 2 6 ≠ 0 then t.refuseInfo m 0x000B
    else match t.coll k with
      | none => t.refuseInfo m 0x0005
      | some c => t.done m (le 8 c.lastEpoch ++ le 8 (c.oldestRetained t.now (t.retention k c)) ++ le 8 ((minL (t.inFlight k)).getD max64)
          ++ le 2 (t.epochHome c.comp c.desc.span) ++ zeros 6))

end Sys2Proof.Machine
end

