-- ==== Sys2Proof/Machine/Bitmaps.lean ====
section
/-! DEFINITION. Filter bitmaps and catchment summaries (chapter 03). -/

namespace Sys2Proof

/-- A filter program names a bitmap (R95). -/
def filterNames (prog : List Byte) (b : Nat) : Bool := (filterSteps prog).any (fun st => decide (natAt st 0 1 = 1) && decide (natAt st 1 1 = b))

end Sys2Proof

namespace Sys2Proof.Machine

/-! ### Bitmaps -/

/-- The collection that a message names, of those that its sender holds: none for an id of 4,096 or more (R29, R596). -/
def State.held (s : State) (m : Msg) : Option Coll := if m.p 0 2 < 4096 then s.coll (collKey m.comp (m.p 0 2)) else none

/-- BITMAP_WRITE (R92, R93, R94, R117, R596): `dma` holds COUNT row ids; it commits as an update batch of its own. -/
def execBitmapWrite (mb : Nat) (dma : HostRead) (s : State) : Host.Outcome State Fault Refusal :=
  onMsg s mb 0x0302 (fun m t =>
    let k := collKey m.comp (m.p 0 2)
    if m.p 0 2 < 4096 ∧ (63 < m.p 2 1 ∨ 2 < m.p 3 1) then t.reply m stBad (writeHdr 0x000B)
    else match t.held m with
      | none => t.reply m stBad (writeHdr 0x0005)
      | some c =>
        if c.state ≠ .online then t.reply m stOffline (writeHdr 0)
        else if Coll_nextEpoch c = 2 ^ 48 - 1 then t.reply m stBad (writeHdr 0x0007)
        else match dma with
          | none => t.reply m stInternal (writeHdr 0)
          | some bs =>
            let seq := t.search.updSeq + 1
            let b := t.slc.nextBatch
            ((t.slc! (fun x => { x with nextBatch := b + 1 })).search! (fun x => { x with
              updSeq := seq
              bitWrites := x.bitWrites ++ [⟨m, seq, k, m.p 2 1, m.p 3 1, splitNum 8 (m.p 4 4) bs⟩]
              upds := Tbl.put b ⟨k, seq, [], .preparing, [], none, [], [], 0, t.mapVersion m.comp, 0, 0, none, 0, 0⟩ x.upds })).askEpoch b)

/-- Dropped bitmaps that no query in flight names any more are gone, and their drops reply; waiting BITMAP_WRITEs of the collection go on (R92, R94). -/
def State.settleBitmaps (s : State) (k : Nat) : State :=
  match s.coll k with
  | none => s
  | some c =>
    let named (b : Nat) : Bool := s.search.qbatches.any (fun q => decide (q.2.coll = k) && q.2.queries.any (fun y => filterNames y.filter b))
    let s1 := c.bitmaps.foldl (fun t b => match b.2.dropMsg with
      | some m =>
        if named b.1 then t
        else
          let gone := b.2.gens.map (fun g => filterPlane b.1 g.epoch)
          (t.coll! k (fun c => { c with bitmaps := Tbl.erase b.1 c.bitmaps, planes := c.planes.filter (fun p => !gone.contains p.1) })).done m []
      | none => t) s
    (s1.search.upds.filter (fun u => decide (u.2.coll = k) && decide (u.2.stage = .preparing) && s1.search.bitWrites.any (fun w => decide (w.seq = u.2.seq)))).foldl
      (fun t u => t.askEpoch u.1) s1

/-- BITMAP_DROP (R92, R596): replies when no live generation remains. -/
def execBitmapDrop (mb : Nat) (s : State) : Host.Outcome State Fault Refusal :=
  onMsg s mb 0x0303 (fun m t =>
    let k := collKey m.comp (m.p 0 2)
    if m.p 0 2 < 4096 ∧ (63 < m.p 2 1 ∨ m.p 3 5 ≠ 0) then t.refuse m 0x000B
    else match t.held m with
      | none => t.refuse m 0x0005
      | some c => match Tbl.find (m.p 2 1) c.bitmaps with
        | some b =>
          if !b.defined then t.refuse m 0x000B
          else (t.coll! k (fun c => { c with bitmaps := Tbl.upd (m.p 2 1) (fun b => { b with defined := false, dropMsg := some m }) c.bitmaps })).settleBitmaps k
        | none => t.refuse m 0x000B)

/-! ### Summaries -/

/-- A resync request is answered (R101, R596): the set that follows clears UNSURE when it has come, an empty set at once; a node that does not hold the
collection has no summaries, and the opcodes that wait for them are refused with FIELD; after PATH_LOST the request is sent again. -/
def State.resyncEnds (s : State) (k n st count : Nat) : State :=
  match s.coll k with
  | none => s
  | some c =>
    let v := Tbl.getD n SourceSums.none_ c.sources
    let s1 := s.source! k n (fun v => { v with unsure := false, resync := false, sums := [], msgs := [] })
    if st = jNoObject then v.msgs.foldl (fun t m => t.refuse m 0x000B) s1
    else if st = jOK ∧ count = 0 then v.msgs.foldl (fun t m => t.done m []) s1
    else if st = jPathLost then s.askResync k n
    else s

/-- SUMMARY_RESYNC (R101, R596): replies once the source's summaries are not UNSURE; a source that nothing has come from is asked as well. -/
def execSummaryResync (mb : Nat) (s : State) : Host.Outcome State Fault Refusal :=
  onMsg s mb 0x0304 (fun m t =>
    let k := collKey m.comp (m.p 0 2)
    let n := m.p 2 2
    if m.p 0 2 < 4096 ∧ m.p 4 4 ≠ 0 then t.refuse m 0x000B
    else match t.held m with
      | none => t.refuse m 0x0005
      | some c =>
        if !(t.spanNodes c.comp c.desc.span).contains n then t.refuse m 0x000B
        else
          let v := Tbl.getD n SourceSums.none_ c.sources
          if n = t.nodeNo ∨ (!v.unsure ∧ v.lastSeq ≠ 0) then t.done m []
          else (t.source! k n (fun v => { v with msgs := v.msgs ++ [m] })).askResync k n)

/-- A summary of a source's catchment (R98, R101, R440): `last` ends the full set that a source sends again. A gap in SEQ makes the source UNSURE, and the
set is asked for. -/
def State.takeSummary (s : State) (coll source catchment : Nat) (summary : Summary) (version : Nat) (last : Bool) : State :=
  match s.coll coll with
  | none => s
  | some c => match s.judgeMap c.comp version with
    | .hold => s.holdReq (.summary coll source catchment summary version last)
    | .bounce => s.count Reg.SLC_CNT0 8 1
    | .accept =>
      let v := Tbl.getD source SourceSums.none_ c.sources
      if source = s.nodeNo ∨ summary.seq ≤ v.lastSeq then s
      else
        let gap := decide (summary.seq ≠ v.lastSeq + 1) && !v.resync
        let sure := last && v.resync
        let s1 := s.source! coll source (fun v => { v with
          lastSeq := summary.seq, sums := Tbl.put catchment summary v.sums, unsure := (v.unsure || gap) && !sure
          resync := v.resync && !sure, msgs := if sure then [] else v.msgs })
        let s2 := s1.send source 1 (.summaryAck coll summary.seq)
        if sure then v.msgs.foldl (fun t m => t.done m []) s2
        else if gap && !v.unsure then s2.askResync coll source
        else s2

/-- SUMMARY_RECEIVE (R98, R101, R440). -/
def execSummaryReceive (coll source catchment : Nat) (summary : Summary) (version : Nat) (last : Bool) (s : State) : Host.Outcome State Fault Refusal :=
  ok (s.takeSummary coll source catchment summary version last)

/-- PUB_SLOW (R100): a publication unacknowledged for PUB_TMO_US is logged once, and the wait goes on. -/
def execPubSlow (coll seq : Nat) (s : State) : Host.Outcome State Fault Refusal :=
  ok (match s.coll coll with
    | none => s
    | some c => match c.pubs.find? (fun p => decide (p.seq = seq)) with
      | none => s
      | some p =>
        if p.slow ∨ p.waiting.all (fun n => s.nodeLost n) then s
        else
          let s1 := s.reach (p.sentNs + us (s.fld Reg.SND_PUB 0 16))
          (s1.coll! coll (fun c => { c with pubs := c.pubs.map (fun q => if q.seq = seq then { q with slow := true } else q) })).logC
            (unitOf 0x12 0) 0x0034 c.comp 0x3FF c.id 0)

/-- A source whose link path is lost is UNSURE (R101); its summaries are asked for again once it is back. -/
def State.sourceLost (s : State) (n : Nat) : State :=
  s.search! (fun x => { x with colls := x.colls.map (fun k =>
    (k.1, { k.2 with sources := Tbl.upd n (fun v => { v with unsure := true, resync := false, lastSeq := 0 }) k.2.sources })) })

/-- After a reconnection a node sends its full set of summaries again, and asks the other for its own (R101). -/
def State.reconnected (s : State) (n : Nat) : State :=
  (s.search.colls.filter (fun k => (s.others k.2.comp k.2.desc.span).contains n)).foldl (fun t k =>
    let u := t.publishAll k.1
    if (match Tbl.find n k.2.sources with | some v => v.unsure | none => false) then u.askResync k.1 n else u) s

end Sys2Proof.Machine
end

