-- ==== Sys2Proof/Machine/AttView.lean ====
section
/-! DEFINITION. Attention objects as Sounding and Confluence see them: tokens as rows, blocks as reaches, groups as catchments (chapter 07: R215 to R219,
R222, R224). -/

namespace Sys2Proof

/-- A field of Table ATT-2. -/
def AttObj.f (a : AttObj) (off n : Nat) : Nat := natAt a.desc off n
/-- HEAD_DIM. -/
def AttObj.headDim (a : AttObj) : Nat := a.f 2 2
/-- VAL_FMT is INT8. -/
def AttObj.int8 (a : AttObj) : Bool := decide (a.f 4 1 = 1)
/-- MAX_TOKENS. -/
def AttObj.maxToks (a : AttObj) : Nat := a.f 8 4
/-- LOGIT_SCALE. -/
def AttObj.logit (a : AttObj) : F32 := BitVec.ofNat 32 (a.f 0xC 4)
/-- LENGTH. -/
def AttObj.length (a : AttObj) : Nat := a.toks.length

/-- The collection that the keys are coded by (R216): DIM = HEAD_DIM, inner product, CODE4, BF16, the outlier channels and CODE_EXP = KEY_EXP. -/
def AttObj.keyDesc (a : AttObj) : Desc :=
  ⟨zeros 0x20 ++ bytesAt a.desc 2 2 ++ [0, 0, 0] ++ bytesAt a.desc 5 1 ++ bytesAt a.desc 6 1 ++ zeros 0x19 ++ bytesAt a.desc 0x10 16 ++ List.replicate 48 0xFF⟩

/-- A token as a row: token i sits in slot i under row id i, version 0, and is visible from LENGTH i + 1 on. -/
def AttTok.slot (t : AttTok) (i : Nat) : Slot :=
  { rowId := i, insEpoch := i + 1, delEpoch := allOnes, version := 0, gen := 0, state := .live, link := .unlinked, width := 0, damaged := false, payload := 0
    fwdNode := 0, fwdSlot := 0, reach := i / 256, ref := t.key, code := t.code, side := t.side, outl := t.outl, codeLost := false, edges := [], edgeLost := false
    access := 0, recoded := false, lsn := 0 }

/-- Numbers the elements of a list from `n`. -/
def tblFrom {α : Type} : Nat → List α → Tbl α
  | _, [] => []
  | n, a :: t => (n, a) :: tblFrom (n + 1) t

/-- An attention object as a collection of one node. -/
def attView (comp : Nat) (a : AttObj) : Coll :=
  { (Coll.fresh comp 0 a.keyDesc 0 0 none) with
    reaches := (tblFrom 0 a.blocks).map (fun b => (b.1, ⟨b.1 / 256, b.2.centre, b.2.radius, 0, 0, 0, 2 ^ 48, b.2.cell, false⟩))
    catches := (tblFrom 0 a.groups).map (fun g => (g.1, ⟨g.2.centre, g.2.radius, 0, 0, none, 0, 0, false⟩))
    slots := (tblFrom 0 a.toks).map (fun t => (t.1, AttTok.slot t.2 t.1))
    strip := (tblFrom 0 a.toks).map (fun t => (t.1, (t.1 + 1, allOnes))) }

/-- The key under which a query batch names an attention object; keys of collections lie below. -/
abbrev attBase : Nat := 2 ^ 20

/-- The stored value v̂ of a token (R217). -/
def AttTok.stored (t : AttTok) : List F32 := t.vals.map (fun c => f32OfDy .rne (Dy.mul (fmt16.dy t.sigma.toNat) (Dy.ofInt c)))

end Sys2Proof

namespace Sys2Proof.Machine

/-- An attention object. -/
def State.att (s : State) (k : Nat) : Option AttObj := match Tbl.find k s.slc.objs with
  | some o => (match o.kind with | .attention a => some a | _ => none)
  | none => none

/-- What a query batch searches: a collection, or an attention object's view. -/
def State.qcoll (s : State) (k : Nat) : Option Coll := if attBase ≤ k then (s.att (k - attBase)).map (attView ((k - attBase) / 65536)) else s.coll k

end Sys2Proof.Machine
end

