-- ==== Sys2Proof/Machine/Sweep.lean ====
section
/-! DEFINITION. Shared operations of Sounding and Confluence: merge slots, the threshold, candidates, skips, the sweep list, the plan of the rounds, and the
completion of queries (chapters 03 and 05). -/

namespace Sys2Proof

/-- The key of −∞: the threshold of a query with fewer than k lower ends (R79). -/
abbrev noTheta : Nat := 0x007FFFFF

/-- The candidate supplies its lower end to a threshold (R79, R606). -/
def Cand.supplies (c : Cand) : Bool := c.finite && !c.damaged

/-- The k-th greatest lower-end key among the candidates that supply one, or that of −∞. -/
def kthLower (k : Nat) (l : List Cand) : Nat :=
  let keys := sortBy (fun (a b : Nat) => decide (b < a)) ((l.filter (·.supplies)).map (fun c => sortKey c.lo))
  if k = 0 then noTheta else keys.getD (k - 1) noTheta

/-- θ − U, rounded toward −∞ (R82). -/
def marginOf (theta : Nat) (u : F32) : F32 := fsub .down (unKey theta) u

/-- A skip is recorded in a query (R81, R82, R159, R160): the reaches counted, the margin, the contribution of the ball to the bound part. -/
def Query.skip (q : Query) (aggExp : Bool) (reaches n : Nat) (u l : F32) : Query :=
  { q with
    skippedN := q.skippedN + reaches, pruned := true, minMargin := fmin q.minMargin (marginOf q.theta u)
    bound := q.bound.add (ballPart aggExp n u l) }

/-- Row bound N of a reach (Table CFL-3); of a block, its tokens below the token limit (R224). -/
def Coll.rowBound (c : Coll) (limit r : Nat) : Nat := Nat.min 16384 ((c.slotsOf r).filter (fun z => decide (z.1 < limit))).length

/-- The token limit of a query of rows. -/
abbrev noLimit : Nat := 2 ^ 64

/-- A reach is searched for a query: every reach of a collection, the blocks below the token limit (R222, R224). -/
def Coll.inLimit (c : Coll) (limit r : Nat) : Bool := decide (noLimit ≤ limit) || (c.slotsOf r).any (fun z => decide (z.1 < limit))

/-- Skips the reaches of the sweep list that are not yet issued and lie strictly below the threshold (R81, R83): how many. -/
def Query.skipReaches (q : Query) (c : Coll) (aggExp : Bool) : Query × Nat :=
  q.sweep.foldl (fun (acc : Query × Nat) w =>
    if !w.issued ∧ !w.skipped ∧ !w.finished ∧ sortKey w.u < acc.1.theta then
      let q1 := acc.1.skip aggExp 1 (c.rowBound acc.1.limit w.reach) w.u w.l
      ({ q1 with sweep := q1.sweep.map (fun x => if x.reach = w.reach then { x with skipped := true } else x) }, acc.2 + 1)
    else acc) (q, 0)

/-- Settles out the candidates whose upper end has fallen strictly below the threshold (R86). A row's interval enters the bound part once: here when a
cell has delivered the row, else in its reach's tally or ball. -/
def Query.settle (q : Query) (aggExp : Bool) : Query :=
  let out (c : Cand) : Bool := c.open && decide (sortKey c.hi < q.theta)
  { q with
    cands := q.cands.map (fun c => if out c then { c with settledOut := true } else c)
    pruned := q.pruned || q.cands.any out
    bound := (q.cands.filter (fun c => out c && c.drained)).foldl (fun b c => b.add (termBound aggExp 1 c.lo c.hi)) q.bound }

/-- The unsettled candidates of a query (R88). -/
def Query.unsettled (q : Query) : Nat := (q.cands.filter (·.open)).length

/-- CAND_LIMIT holds a query whose open candidates reach it, until they fall below half of it (R88). -/
def Query.hold (q : Query) (limit : Nat) : Query :=
  { q with stopped := if limit ≤ q.unsettled then true else if 2 * q.unsettled < limit then false else q.stopped }

/-- A row becomes a candidate, or the candidate it already is gets its interval cut down to the new one (R79, R80). A row that a cell delivers after it
was settled out enters the bound part now. -/
def Query.addCand (q : Query) (aggExp : Bool) (c : Cand) : Query :=
  match q.cands.find? (fun x => decide (x.rowId = c.rowId)) with
  | none => { q with cands := q.cands ++ [c] }
  | some old =>
    let i := ivMeet (old.lo, old.hi) (c.lo, c.hi)
    let cut : Cand := { old with lo := i.1, hi := i.2, finite := old.finite || c.finite, codeLost := old.codeLost && c.codeLost }
    let new : Cand := { (if old.open && !c.damaged then cut else old) with drained := old.drained || c.drained, damaged := old.damaged || c.damaged }
    { q with
      cands := q.cands.map (fun x => if x.rowId = c.rowId then new else x)
      bound := if old.settledOut && c.drained && !old.drained then q.bound.add (termBound aggExp 1 old.lo old.hi) else q.bound }

/-- The code interval of a slot for a query (R54, R55, R280, R281), with the outlier part `part`: by the query's own codes, or by those of the target
format for a re-coded row (R62). A lost code gives (−∞, +∞) (R286). -/
def Coll.intervalBy (c : Coll) (q : Query) (part : Option Iv) (z : Slot) : F32 × F32 × Bool :=
  if z.codeLost then (f32NegInf, f32Inf, false)
  else
    let d := c.descOf z
    let w := d.bitsOf z.width
    let qc := if z.recoded then codeQuery d w q.ref else match Tbl.find w q.codes with | some x => x | none => codeQuery d w q.ref
    rowInterval d w qc q.logit part z.code z.side

/-- The code interval as the cells form it. -/
def Coll.interval (c : Coll) (q : Query) (z : Slot) : F32 × F32 × Bool := c.intervalBy q none z

/-- The Rill vector unit replaces the outlier part of a candidate's interval by the exact bracket, which never widens it (R85; log 121). -/
def Coll.refine (c : Coll) (q : Query) (x : Cand) : Cand :=
  match Tbl.find x.slot c.slots with
  | none => x
  | some z =>
    if (c.descOf z).nOut = 0 ∨ z.codeLost ∨ x.damaged then x
    else
      let i := c.intervalBy q (some (exactOutliers (c.descOf z) q.ref z.outl)) z
      let m := ivMeet (x.lo, x.hi) (i.1, i.2.1)
      { x with lo := m.1, hi := m.2 }

/-- A slot as a candidate of a query. -/
def Coll.cand (c : Coll) (q : Query) (slot : Nat) (z : Slot) : Cand :=
  let i := c.interval q z
  ⟨slot, z.rowId, i.1, i.2.1, i.2.2, false, z.codeLost, false, false, false⟩

/-- The row of a slot is visible at an epoch and passes the query's filter by the copies in Basin (R129, R605); a token lies below the limit (R222). -/
def Coll.inUniverse (c : Coll) (q : Query) (e slot : Nat) (z : Slot) : Bool := z.sees e && decide (slot < q.limit) && filterPass (fun b => c.filterBit b e slot) q.filter

/-- The radius that a read epoch uses (R75). -/
def radiusAt (radius tight : F32) (tightEpoch e : Nat) : F32 := if tightEpoch ≠ 0 ∧ tightEpoch ≤ e then tight else radius

/-- The place of a status in R110; those of a teardown come first (R452). -/
def statusRank (st : Nat) : Nat :=
  if st = 0x30 ∨ st = 0x31 ∨ st = 0x21 then 0
  else if st = 0x11 ∨ st = 0x13 then 1
  else if st = 0x02 then 2
  else if st = 0x22 then 3
  else 4

/-- A status joins a query; the first of R110 stands. -/
def Query.stop (q : Query) (st : Nat) : Query :=
  { q with status := match q.status with | some old => if statusRank old ≤ statusRank st then some old else some st | none => some st }

/-- A query as admitted, before its search (R102). -/
def Query.fresh (idx leadTag slot : Nat) (ref : RefQuery) (filter : List Byte) (status : Option Nat) (theta mapVersion : Nat) (aggExp : Bool) (node : Nat) : Query :=
  { idx := idx, leadTag := leadTag, slot := slot, ref := ref, codes := [], filter := filter, status := status, theta := theta, start := theta, walk := none
    started := false, vec := [], map := []
    sweep := [], cands := [], sel := PList.empty aggExp node, skippedN := 0, minMargin := f32Inf, bound := BoundPart.empty, pruned := false
    stopped := false, done := false, complete := false, round := 0, expect := [], visited := [], deadline := 0, reroutes := 0, mapVersion := mapVersion
    needMap := none, limit := noLimit, logit := f32One }

/-- A row that became DAMAGED during the query had entered its selection, or had raised the threshold above what the other rows supply, so that rows of the
universe may have been settled out or skipped (R90, R91; log 71). -/
def Query.overRaised (q : Query) (k : Nat) : Bool :=
  q.cands.any (fun c => c.damaged && c.rescored) || (decide (q.start < q.theta) && decide (kthLower k q.cands < q.theta))

/-- The query as it was before its search on this node, with the threshold it started from (log 71). -/
def Query.again (q : Query) (aggExp : Bool) (node : Nat) : Query :=
  { q with theta := q.start, started := false, sweep := [], cands := [], sel := PList.empty aggExp node, skippedN := 0, minMargin := f32Inf
           bound := BoundPart.empty, pruned := false, stopped := false }

/-- The bytes of a partial list: header, entries, damaged side entries (R163). -/
def PList.bytes (p : PList) (tag : Nat) (outliers : Bool) : List Byte :=
  p.header tag (decide (p.damagedExtra ≠ 0)) ++ p.entries.flatMap (fun e => Entry.bytes e false outliers) ++ p.damaged.flatMap (fun e => Entry.bytes { e with damaged := true } false outliers)

end Sys2Proof

namespace Sys2Proof.Machine

/-! ### Merge slots (R169, R171) -/

/-- A merge slot. -/
def State.mslot (s : State) (i : Nat) : MergeSlot := Tbl.getD i ⟨0, none, []⟩ s.search.merge
/-- Updates a merge slot. -/
def State.mslot! (s : State) (i : Nat) (f : MergeSlot → MergeSlot) : State := s.search! (fun x => { x with merge := Tbl.put i (f (s.mslot i)) x.merge })
/-- Merge slots that are free. -/
def State.slotsFree (s : State) : Nat := 4096 - (s.search.merge.filter (fun m => m.2.owner.isSome)).length
/-- The least free merge slot. -/
def State.slotFree (s : State) : Option Nat := (List.range 4096).find? (fun i => (s.mslot i).owner.isNone)
/-- MERGE_TAG of a query: slot index, slot generation, query index (Table CFL-4). -/
def State.mergeTag (s : State) (slot idx : Nat) : Nat := slot + 65536 * (s.mslot slot).gen + 2 ^ 32 * idx
/-- Gives a query a merge slot. -/
def State.giveSlot (s : State) (b q : Nat) : State :=
  match s.slotFree with
  | none => s
  | some i => (s.mslot! i (fun m => { m with owner := some (b, q), lists := [] })).query! b q (fun y => { y with slot := i })
/-- Frees a query's merge slot: its generation rises. -/
def State.freeSlotOf (s : State) (b q : Nat) : State :=
  match s.query b q with
  | none => s
  | some y => if (s.mslot y.slot).owner = some (b, q) then s.mslot! y.slot MergeSlot.freed else s
/-- Gives every query of a batch its merge slot, when enough are free (R169); the batch then waits for its root context. -/
def State.grantSlots (s : State) (b : Nat) : State :=
  match Tbl.find b s.search.qbatches, s.batch b with
  | some qb, some x =>
    if x.stage ≠ .mergeSlots ∨ x.torn ≠ none ∨ s.slotsFree < qb.queries.length then s
    else (((List.range qb.queries.length).foldl (fun t i => t.giveSlot b i) s).batch! b (fun y => { y with stage := .rootWait })).tryRoot b
  | _, _ => s

/-! ### Batches -/

/-- A query batch. -/
def State.qbatch (s : State) (b : Nat) : Option QBatch := Tbl.find b s.search.qbatches

/-- The batch may be worked on: it has its root context and is not torn down. -/
def State.runs (s : State) (b : Nat) : Bool := match s.batch b with | some x => decide (x.stage = .active) && decide (x.torn = none) | none => false

/-- The lanes of a query leave every cell; records queued for them are discarded on drain. -/
def State.haltLanes (s : State) (b q : Nat) : State :=
  s.mrc! (fun x => { x with cells := x.cells.map (fun c =>
    let gone := (c.2.lanes.filter (fun l => decide (l.2.batch = b) && decide (l.2.query = q))).map (·.1)
    if gone = [] then c
    else (c.1, { c.2 with
      lanes := c.2.lanes.filter (fun l => !gone.contains l.1)
      queue := c.2.queue.map (fun r => match r with
        | .cand l _ _ _ _ _ _ => if gone.contains l then .gone else r
        | .tally l _ _ _ => if gone.contains l then .gone else r
        | .gone => r)
      issues := (c.2.issues.map (fun i => { i with lanes := i.lanes.filter (fun l => !gone.contains l) })).filter (fun i => decide (i.lanes ≠ []))
      acts := if c.2.ops = [] then 0 else c.2.acts })) })

/-- A batch whose queries are all complete leaves the node: the lead's batch replies after its last record (R175). -/
def State.batchOver (s : State) (b : Nat) : State :=
  match s.qbatch b with
  | none => s
  | some qb =>
    if qb.queries.all (fun q => q.complete) then
      ((s.search! (fun x => { x with qbatches := Tbl.erase b x.qbatches })).replyBatch b stOK 0 []).settleBitmaps qb.coll
    else s

/-- The access counts of some rows of a POPULARITY collection on this node rise by one, saturating (R44). -/
def State.countRows (s : State) (k : Nat) (ids : List Nat) : State :=
  s.coll! k (fun c =>
    if c.desc.codeFmt ≠ 4 then c
    else { c with slots := c.slots.map (fun z => (z.1, if z.2.current && ids.contains z.2.rowId then { z.2 with access := Nat.min 65535 (z.2.access + 1) } else z.2)) })

/-- Tells a node which of its rows a result holds, by NPUT into firmware region 0xC, at most 500 rows in one (R44; internal layout, log 122). -/
def State.tellAccess (s : State) (k node : Nat) (ids : List Nat) : State :=
  (List.range (cdiv ids.length 500)).foldl (fun t i =>
    let part := (ids.drop (500 * i)).take 500
    let bs := le 1 2 ++ le 1 0 ++ le 2 (k % 4096) ++ le 4 (t.tenantOf (k / 4096)) ++ le 8 part.length ++ part.flatMap (fun r => le 8 r)
    (t.send node 3 (.accessed k part)).fwOp (k / 4096) 4 3 node 0xC 3 k 0 bs.length bs) s

/-- Every row that a result names counts one access, at the node that holds it (R44). -/
def State.countAccess (s : State) (k : Nat) (p : PList) : State :=
  match s.coll k with
  | none => s
  | some c =>
    if c.desc.codeFmt ≠ 4 then s
    else
      let at_ (n : Nat) : List Nat := (p.entries.filter (fun e => decide (e.source = n))).map (·.rowId)
      let far := (dedup (p.entries.map (·.source))).filter (fun n => decide (n ≠ s.nodeNo) && !s.nodeLost n)
      far.foldl (fun t n => t.tellAccess k n (at_ n)) (s.countRows k (at_ s.nodeNo))

/-- The record of an attention query (R225, R226, R229). The outputs are free where a term has no n that STAB_EXP can hold. -/
def State.attRecord (s : State) (qb : QBatch) (y : Query) (ag : AggOut) (outl : Bool) (hd : Nat) (ents : Bool) (good : Nat) (p : PList) : List Byte × State :=
  let toks := match s.att (qb.coll - attBase) with | some a => a.toks | none => []
  let w := p.entries.map (fun e => attWeight ag.stab (unKey e.key))
  let vals := p.entries.map (fun e => match toks[e.rowId]? with | some t => AttTok.stored t | none => [])
  let out := (List.range hd).foldl (fun (acc : List F32 × State) j =>
    if stabOpen true p then (let f := acc.2.free; (acc.1 ++ [BitVec.ofNat 32 f.1], f.2))
    else (acc.1 ++ [attChannel ag.sel w (vals.map (fun v => v.getD j 0))], acc.2)) ([], s)
  let es : List Byte := if ents then resultEntries outl qb.k s.nodeNo p else []
  (resultHeader ag true y.idx y.limit 0 good p ++ attTail (attMass ag p) y.limit out.1 es (qb.stride - 128 - 4 * hd - es.length), out.2)

/-- The merged list of a query at its lead, under the query's map version (R164, R165). -/
def State.merged (s : State) (qb : QBatch) (y : Query) : PList :=
  PList.merge qb.aggExp qb.k qb.damagedCap (fun id => s.homeUnder y.map id) s.nodeNo (s.mslot y.slot).lists

/-- The lead completes a query (R110, R172 to R175): its record is written, its merge slot freed; the batch replies after the last. -/
def State.finishQuery (s : State) (b q : Nat) : State :=
  match s.qbatch b, s.query b q with
  | some qb, some y =>
    if y.complete ∨ qb.lead ≠ s.nodeNo then s
    else
      let p := s.merged qb y
      let seen := damagedSeen p
      let outl := match s.qcoll qb.coll with | some c => decide (c.desc.nOut ≠ 0) | none => false
      let good := if seen.1 ≠ 0 then stRowDamaged else if p.entries.length < qb.k then stShort else stOK
      let r := match y.status with
        | some st => (qb.failBytes y st, s)
        | none =>
          let o : Int × State := if stabOpen qb.aggExp p then (let f := s.free; (((f.1 % 2 ^ 32 : Nat) : Int) - 2 ^ 31, f.2)) else (0, s)
          let ag := aggregates qb.aggExp o.1 p
          match qb.att with
          | none => (resultRecord ag qb.aggExp outl qb.k y.idx s.nodeNo qb.readEpoch y.mapVersion good p, o.2)
          | some (hd, ents) => o.2.attRecord qb y ag outl hd ents good p
      let s1 := match s.outMsg b with | some m => r.2.output m (qb.resultAddr + y.idx * qb.stride) r.1 | none => r.2
      let s2 := ((s1.haltLanes b q).freeSlotOf b q).query! b q (fun z => { z with complete := true, done := true, walk := none, cands := [], sweep := [] })
      let s3 := s2.count Reg.SND_CNT0 0 1
      let beyond := p.damagedExtra - sumSat (s.mslot y.slot).lists (fun l => l.damagedExtra)
      let s4 := if y.status.isNone then ((s3.count Reg.SND_CNT0 4 seen.1).count Reg.CFL_CNT0 6 beyond).countAccess qb.coll p else s3
      s4.batchOver b
  | _, _ => s

/-- A status ends a query at its lead. -/
def State.stopQuery (s : State) (b q st : Nat) : State := (s.query! b q (fun y => y.stop st)).finishQuery b q

/-- A visited node's part of a query ends with a status: the lead is told, and the slot is freed. -/
def State.refusePart (s : State) (b q st : Nat) : State :=
  match s.qbatch b, s.query b q with
  | some qb, some y =>
    if qb.lead = s.nodeNo ∨ y.complete then s
    else (((((s.haltLanes b q).freeSlotOf b q).send qb.lead 1 (.refused qb.leadBatch y.idx st)).query! b q (fun z => { z with
      status := some st, complete := true, done := true, walk := none, cands := [], sweep := [] })).batchOver b)
  | _, _ => s

/-! ### Thresholds and candidates -/

/-- A query's threshold is pushed to every lane that serves it (R84, R282). -/
def State.pushTheta (s : State) (b q : Nat) : State :=
  match s.query b q with
  | none => s
  | some y => s.mrc! (fun x => { x with cells := x.cells.map (fun c => (c.1, { c.2 with
      lanes := c.2.lanes.map (fun l => (l.1, if l.2.batch = b ∧ l.2.query = q then { l.2 with key := Nat.max l.2.key y.theta } else l.2)) })) })

/-- After the candidates of a query changed: the threshold rises to the k-th greatest lower end (R79, R80), candidates and reaches below it go (R81, R86),
CAND_LIMIT is applied (R88), and a risen threshold is pushed (R84). -/
def State.rethreshold (s : State) (b q : Nat) : State :=
  match s.qbatch b, s.query b q with
  | some qb, some y =>
    match s.qcoll qb.coll with
    | none => s
    | some c =>
      let theta := Nat.max y.theta (kthLower qb.k y.cands)
      let r := (({ y with theta := theta }).settle qb.aggExp).skipReaches c qb.aggExp
      let s1 := (s.query! b q (fun _ => r.1.hold qb.candLimit)).count Reg.SND_CNT0 1 r.2
      if y.theta < theta then s1.pushTheta b q else s1
  | _, _ => s

/-- A row is delivered to a query: as a candidate, its outlier part taken exactly (R85), or as a DAMAGED row. -/
def State.offerCand (s : State) (b q : Nat) (cand : Cand) : State :=
  match s.qbatch b with
  | none => s
  | some qb => match s.qcoll qb.coll with
    | none => s
    | some c => s.query! b q (fun y => y.addCand qb.aggExp (c.refine y cand))

/-- CAND_LIMIT leaves room for a row: it is a candidate already, or fewer than the limit are unsettled (R88). -/
def Query_room (y : Query) (limit rowId : Nat) : Bool := decide (y.unsettled < limit) || y.cands.any (fun c => decide (c.rowId = rowId))

/-- A row that a walk delivers, unless CAND_LIMIT leaves no room for it: the sweep then finds it (R88, log 121). -/
def State.offerOpen (s : State) (b q : Nat) (cand : Cand) : State :=
  match s.qbatch b, s.query b q with
  | some qb, some y => if Query_room y qb.candLimit cand.rowId then s.offerCand b q cand else s
  | _, _ => s

/-- A cell's tally of a reach is taken in (R159, R284, R278): dropped rows prune the query; the reach is scanned once its last width is. -/
def State.takeTally (s : State) (b q reach : Nat) (bound : BoundPart) (dropped : Nat) : State :=
  s.query! b q (fun y => { y with
    bound := y.bound.add bound
    pruned := y.pruned || decide (dropped ≠ 0)
    sweep := y.sweep.map (fun w => if w.reach = reach then
      (if w.widths.length ≤ 1 then { w with finished := true, widths := [] } else { w with issued := false, widths := w.widths.drop 1 }) else w) })

/-! ### The sweep list -/

/-- Widths of a POPULARITY reach that must be issued one by one, when a lane's codes at all three widths exceed 4 KiB (R278). -/
def Coll_widths (c : Coll) (r : Nat) : List Nat :=
  if c.desc.codeFmt = 4 ∧ 2340 < c.desc.dn then [0, 1, 2].filter (fun w => (c.slotsOf r).any (fun z => decide (z.2.width = w))) else []

/-- A block holds a key, below the token limit, to which R39 applies: its residual is unbounded, and every query whose limit covers it re-scores it (R216). -/
def Coll_unbounded (c : Coll) (limit r : Nat) : Bool :=
  decide (limit < noLimit) && (c.slotsOf r).any (fun z => decide (z.1 < limit) && decide ((sideFields (c.descOf z.2) ((c.descOf z.2).bitsOf z.2.width) z.2.side).2.2.1 = f32Inf))

/-- An upper ball bound that covers such a key too. -/
def Coll_upper (c : Coll) (limit : Nat) (rs : List Nat) (u : F32) : F32 := if rs.any (Coll_unbounded c limit) then f32Inf else u

/-- Bounds a catchment for a query, and its reaches unless it is skipped (R77, R81, R83): the query, the reaches skipped, and whether the catchment was. -/
def boundCatch (c : Coll) (aggExp : Bool) (e : Nat) (q : Query) (k : Nat) (y : Catch) : Query × Nat × Bool :=
  let d := c.desc
  let reaches := (c.reachesOf k).filter (fun r => c.inLimit q.limit r.1)
  let u0 := ballBounds d q.ref q.logit y.centre (radiusAt y.radius y.tight y.tightEpoch e)
  let u := (Coll_upper c q.limit (reaches.map (·.1)) u0.1, u0.2)
  if sortKey u.1 < q.theta then
    (q.skip aggExp reaches.length (sumL (reaches.map (fun r => c.rowBound q.limit r.1))) u.1 u.2, reaches.length, true)
  else
    let r := reaches.foldl (fun (acc : Query × Nat) r =>
      let v0 := ballBounds d q.ref q.logit r.2.centre (radiusAt r.2.radius r.2.tight r.2.tightEpoch e)
      let v := (Coll_upper c q.limit [r.1] v0.1, v0.2)
      if sortKey v.1 < acc.1.theta then
        let q1 := acc.1.skip aggExp 1 (c.rowBound q.limit r.1) v.1 v.2
        ({ q1 with sweep := q1.sweep ++ [⟨r.1, v.1, v.2, false, false, true, []⟩] }, acc.2 + 1)
      else ({ acc.1 with sweep := acc.1.sweep ++ [⟨r.1, v.1, v.2, false, false, false, Coll_widths c r.1⟩] }, acc.2)) (q, 0)
    (r.1, r.2, false)

/-- The catchments of a collection that hold reaches. -/
def Coll_catches (c : Coll) (limit : Nat) : Tbl Catch := c.catches.filter (fun k => (c.reachesOf k.1).any (fun r => c.inLimit limit r.1))

/-- Steps 1 and 2 of R83 on this node: the query coded, every catchment and reach bounded; and the catchments not skipped, with their U. -/
def State.boundAll (s : State) (b q : Nat) : State × List (Nat × F32) :=
  match s.qbatch b, s.query b q with
  | some qb, some y =>
    match s.qcoll qb.coll with
    | none => (s, [])
    | some c =>
      let d := c.desc
      let ws := if d.codeFmt = 4 then [4, 8, 2] else [d.bitsOf 0]
      let y0 : Query := { y with started := true, codes := ws.foldl (fun t w => Tbl.put w (codeQuery d w y.ref) t) [] }
      let r := (Coll_catches c y.limit).foldl (fun (acc : Query × Nat × List (Nat × F32)) k =>
        let x := boundCatch c qb.aggExp qb.readEpoch acc.1 k.1 k.2
        let u := (ballBounds d y.ref y.logit k.2.centre (radiusAt k.2.radius k.2.tight k.2.tightEpoch qb.readEpoch)).1
        (x.1, acc.2.1 + x.2.1, if x.2.2 then acc.2.2 else acc.2.2 ++ [(k.1, u)])) (y0, 0, [])
      ((s.query! b q (fun _ => r.1)).count Reg.SND_CNT0 1 r.2.1, r.2.2)
  | _, _ => (s, [])

/-- The queries of the group of 32 that a query belongs to (R118). -/
def groupOf32 (n q : Nat) : List Nat := (List.range n).filter (fun i => decide (i / 32 = q / 32))

/-- The groups before a query's own have finished on this node (R118). -/
def QBatch_ready (qb : QBatch) (q : Nat) : Bool := ((List.range qb.queries.length).zip qb.queries).all (fun p => decide (q / 32 ≤ p.1 / 32) || !p.2.live)

/-- The greatest U of a reach among the queries that have not skipped it (R83, step 3). -/
def reachU (qs : List Query) (r : Nat) : Nat :=
  maxL (qs.flatMap (fun q => (q.sweep.filter (fun w => decide (w.reach = r) && !w.skipped)).map (fun w => sortKey w.u)))

/-- The reach of a bank group that comes next in sweep order (R83): the greatest U, ties in ascending index, among the reaches that a query which is not
held by CAND_LIMIT still needs. -/
def nextReach (c : Coll) (qs : List Query) (cell : Nat) : Option Nat :=
  let need (r : Nat) : Bool := qs.any (fun q => !q.stopped && q.sweep.any (fun w => decide (w.reach = r) && !w.issued && !w.skipped && !w.finished))
  ((c.reaches.filter (fun r => decide (r.2.cell = cell) && need r.1)).foldl (fun (acc : Option (Nat × Nat)) r =>
    let u := reachU qs r.1
    match acc with
    | none => some (r.1, u)
    | some (_, v) => if v < u then some (r.1, u) else acc) none).map (·.1)

/-! ### The plan of the rounds (R103 to R106) -/

/-- A node's bounds for a query: the greatest U and least L over its summaries, +∞ and −∞ when the source is UNSURE; its reaches and catchments. -/
def State.nodeBound (c : Coll) (ref : RefQuery) (e n : Nat) : Option (F32 × F32 × Nat × Nat) :=
  match Tbl.find n c.sources with
  | none => none
  | some v =>
    let l := v.sums.filter (fun y => y.2.valid)
    let reaches := sumL (l.map (fun y => y.2.reaches))
    if v.unsure then some (f32Inf, f32NegInf, reaches, l.length)
    else match l with
      | [] => none
      | _ => some (l.foldl (fun (acc : F32 × F32 × Nat × Nat) y =>
          let z := if y.2.empty then (f32NegInf, f32NegInf) else ballBounds c.desc ref f32One y.2.centre (radiusAt y.2.radius y.2.tight y.2.tightEpoch e)
          (fmax acc.1 z.1, fmin acc.2.1 z.2, acc.2.2)) (f32NegInf, f32Inf, reaches, l.length))

/-- The nodes of round one (R103): the greatest bounds, ties to the lower id; the lead always when it holds the collection. -/
def roundOne (self r1 : Nat) (nodes : List Nat) (bound : Nat → Option F32) : List Nat :=
  let others := (nodes.filter (fun n => decide (n ≠ self))).filterMap (fun n => (bound n).map (fun u => (n, sortKey u)))
  let ranked := sortBy (fun (a b : Nat × Nat) => decide (b.2 < a.2) || (decide (a.2 = b.2) && decide (a.1 < b.1))) others
  if nodes.contains self then self :: (ranked.take (r1 - 1)).map (·.1) else (ranked.take r1).map (·.1)

/-- The part of a query that its lead sends to a node (R104, R105): the batch with a lane mask of this query, k, flags, read epoch, map version, the query's
MERGE_TAG, vector, filter and threshold; `round` two is sent without a walk. -/
def State.fanPart (s : State) (b : Nat) (qb : QBatch) (y : Query) : FanPart :=
  { comp := qb.coll / 4096, coll := qb.coll % 4096, lead := s.nodeNo, leadBatch := b, mapVersion := y.mapVersion, k := qb.k
    flags := b2n qb.aggExp + 4 * b2n qb.noWarm, readEpoch := qb.readEpoch, level := match s.batch b with | some x => x.level | none => 0, round := y.round
    queries := [(y.idx, s.mergeTag y.slot y.idx, y.vec, y.filter, y.theta)] }

/-- The bytes of a part (internal layout). -/
def FanPart_bytes (p : FanPart) : List Byte :=
  le 2 p.comp ++ le 2 p.coll ++ le 2 p.lead ++ le 2 p.k ++ le 8 p.leadBatch ++ le 4 p.mapVersion ++ le 1 p.flags ++ le 1 p.level ++ le 1 p.round ++ le 1 0
    ++ le 8 p.readEpoch ++ p.queries.flatMap (fun (q : Nat × Nat × List Byte × List Byte × Nat) => le 8 q.1 ++ le 8 q.2.1 ++ le 8 q.2.2.2.2 ++ q.2.2.2.1 ++ q.2.2.1)

/-- Sends a query to nodes (R104, R105), by notify-put into the firmware region. -/
def State.sendParts (s : State) (b q : Nat) (nodes : List Nat) : State :=
  match s.qbatch b, s.query b q with
  | some qb, some y =>
    let part := s.fanPart b qb y
    let bs := FanPart_bytes part
    nodes.foldl (fun t n => (t.send n 1 (.fanout part)).fwOp (qb.coll / 4096) 4 1 n 0xD 3 b q bs.length bs) s
  | _, _ => s

/-- The lead of a query plans and sends a round: the nodes are expected to answer within PEER_TMO_US; one that is declared lost ends the query (R108). -/
def State.visit (s : State) (b q round : Nat) (nodes : List Nat) : State :=
  match s.qbatch b with
  | none => s
  | some qb =>
    let far := nodes.filter (fun n => decide (n ≠ s.nodeNo))
    let s1 := s.query! b q (fun y => { y with round := round, expect := y.expect ++ nodes, visited := y.visited ++ nodes, deadline := s.now + us qb.peerTmoUs })
    if far.any (fun n => s.nodeLost n) then s1.stopQuery b q stPeerLost else s1.sendParts b q far

/-- Round two (R105): with the merged k-th key as the threshold every node not yet visited is visited or skipped. -/
def State.roundTwo (s : State) (b q : Nat) : State :=
  match s.qbatch b, s.query b q with
  | some qb, some y =>
    if y.round ≠ 1 ∨ y.expect ≠ [] ∨ y.status.isSome then s
    else match s.qcoll qb.coll with
      | none => s
      | some c =>
        let p := s.merged qb y
        let theta := if p.entries.length < qb.k then noTheta else p.kthKey
        let rest := (s.spanNodes c.comp c.desc.span).filter (fun n => !y.visited.contains n)
        let bnd (n : Nat) := State.nodeBound c y.ref qb.readEpoch n
        let visit := if qb.localOnly then [] else rest.filter (fun n => match bnd n with | some v => decide (theta ≤ sortKey v.1) | none => false)
        let skip := if qb.localOnly then [] else rest.filter (fun n => !visit.contains n)
        -- the nodes that the lead skips stand in the merge as one list without entries
        let none_ := skip.foldl (fun (p : PList) n => match bnd n with
          | none => { p with pruned := true }
          | some v => { p with
              pruned := true, skipped := sat32 p.skipped v.2.2.1, minMargin := fmin p.minMargin (marginOf theta v.1)
              bound := p.bound.add (ballPart qb.aggExp (4194304 * v.2.2.2) v.1 v.2.1) }) (PList.empty qb.aggExp s.nodeNo)
        let s1 := (s.mslot! y.slot (fun m => { m with lists := if skip = [] then m.lists else m.lists ++ [none_] })).query! b q (fun z => { z with round := 2, theta := theta })
        if visit = [] then s1 else (s1.count Reg.SND_CNT0 6 visit.length).visit b q 2 visit
  | _, _ => s

/-- The DIVERGENCE records of a merge (R165). -/
def State.logDiverge (s : State) (comp : Nat) (l : List (Entry × Entry)) : State :=
  l.foldl (fun t p =>
    let a := p.1
    let e := p.2
    (t.count Reg.CFL_CNT0 3 1).logC (unitOf 0x11 0) 0x0040 comp 0x3FF 0 (a.collId + 2 ^ 16 * a.source + 2 ^ 32 * e.source + 2 ^ 64 * a.rowId
      + 2 ^ 128 * a.version + 2 ^ 160 * e.version + 2 ^ 192 * a.key + 2 ^ 224 * e.key)) s

/-- A partial list arrives at a merge slot (R164, R170, R171): merged, or discarded when its tag names a free or older slot or its node is not expected. -/
def State.mergeList (s : State) (tag : Nat) (p : PList) : State :=
  let i := tag % 65536
  let m := s.mslot i
  match m.owner with
  | none => s.count Reg.CFL_CNT0 4 1
  | some (b, q) =>
    match s.qbatch b, s.query b q with
    | some qb, some y =>
      if tag / 65536 % 65536 ≠ m.gen ∨ bits tag 32 8 ≠ y.idx ∨ !y.expect.contains p.source ∨ y.complete then s.count Reg.CFL_CNT0 4 1
      else
        let homeOf (id : Nat) : Nat := s.homeUnder y.map id
        let u := unionEntries homeOf (unionOf homeOf m.lists).1 p.entries
        let s1 := (s.mslot! i (fun m => { m with lists := m.lists ++ [p] })).query! b q (fun z => { z with expect := z.expect.filter (fun n => decide (n ≠ p.source)) })
        ((s1.count Reg.CFL_CNT0 2 u.2.2).logDiverge (qb.coll / 4096) u.2.1).roundTwo b q
    | _, _ => s.count Reg.CFL_CNT0 4 1

/-- The partial list of a query on this node (R163, R167, R90): a DAMAGED row counts when a cell has delivered it, so that one in a skipped ball does not. -/
def QBatch_list (qb : QBatch) (q : Query) (node collId : Nat) : PList :=
  let kth := lastKey q.sel.entries
  let side := (q.cands.filter (fun c => c.damaged && c.drained)).map (fun (c : Cand) => (⟨sortKey c.hi, c.rowId, collId, 0, true, node⟩ : Entry))
  let dm := keepDamaged qb.damagedCap kth side
  { q.sel with
    source := node, damaged := dm.1, damagedExtra := sat32 0 dm.2, pruned := q.pruned, skipped := sat32 0 q.skippedN
    scanned := sat32 0 (q.sweep.filter (fun w => w.finished)).length, minMargin := q.minMargin, bound := if q.pruned then q.bound else BoundPart.empty }

/-- A query has met R87 on this node. -/
def Query_localDone (q : Query) : Bool :=
  q.started && q.walk.isNone && q.live && q.sweep.all (fun w => w.skipped || w.finished) && q.cands.all (fun c => !c.open)

end Sys2Proof.Machine
end

