-- ==== Sys2Proof/Machine/Braid.lean ====
section
/-! DEFINITION. Braid: warm-start walks, linking and repair (chapter 04). -/

namespace Sys2Proof

/-- An edge is stale (R124): its target's generation differs, or the target is FREE. -/
def Coll.stale (c : Coll) (e : Edge) : Bool :=
  match Tbl.find e.slot c.slots with
  | none => true
  | some z => decide (z.state = .free) || decide (z.gen ≠ e.gen)

/-- The edge to a slot as it is now. -/
def Coll.edgeTo (c : Coll) (i : Nat) : Edge := ⟨(match Tbl.find i c.slots with | some z => z.gen | none => 0), i⟩

/-- The 48 bits of an edge (Table BRD-1). -/
def Edge.word (e : Edge) : Nat := e.slot + 2 ^ 40 * e.gen

/-- An edge as its 6 bytes (R120). -/
def Edge.bytes (e : Edge) : List Byte := le 6 e.word

/-- The null edge (R120). -/
def nullEdge : List Byte := le 6 0xFFFFFFFFFFFF

/-- The edge that 6 bytes spell, none for the null edge. -/
def Edge.ofBytes (l : List Byte) : Option Edge := if l = nullEdge then none else some ⟨natAt l 5 1, natAt l 0 5⟩

/-- A slot's edge list as Basin holds it: 32 edges in 192 bytes, the non-null edges first and null edges after them (R121). -/
def Slot.edgeBytes (z : Slot) : List Byte := z.edges.flatMap Edge.bytes ++ (List.replicate (32 - z.edges.length) nullEdge).flatten

/-- The edges that the 192 bytes of a list hold. -/
def edgesOfBytes (l : List Byte) : List Edge := (List.range 32).filterMap (fun i => Edge.ofBytes (bytesAt l (6 * i) 6))

/-- Where the edge list of a slot stands in Basin: EDGE_BASE + 192 × slot (R121). The spec gives no EDGE_BASE: it is free (log 124). -/
def edgePlace (coll slot : Nat) : Nat := Config.edgeBase coll + 192 * slot

/-- The decoded code of a slot, in its own width, each value with its dimension (R136). -/
def Coll.decoded (c : Coll) (i : Nat) : List (Nat × Dy) :=
  match Tbl.find i c.slots with
  | none => []
  | some z => (c.descOf z).codedDims.zip (decodeRow (c.descOf z) ((c.descOf z).bitsOf z.width) z.code z.side)

/-- The distance of two slots for navigation and pruning over the coded dimensions (R136); during a re-code that changes them, over those that both codes
hold (log 124). -/
def Coll.navDist (c : Coll) (i j : Nat) : F32 :=
  let a := c.decoded i
  let b := c.decoded j
  if a.map (·.1) = b.map (·.1) then distRne (a.map (·.2)) (b.map (·.2))
  else
    let both (l m : List (Nat × Dy)) : List Dy := (l.filter (fun x => m.any (fun y => decide (y.1 = x.1)))).map (·.2)
    distRne (both a b) (both b a)

/-- STATE is LIVE. -/
def Coll.isLive (c : Coll) (i : Nat) : Bool := match Tbl.find i c.slots with | some z => decide (z.state = .live) | none => false

/-- Slots in ascending distance from one, ties to the lower slot. -/
def Coll.byDist (c : Coll) (s : Nat) (l : List Nat) : List Nat :=
  (sortBy (fun (a b : Nat × Nat) => decide (a.2 < b.2) || (decide (a.2 = b.2) && decide (a.1 < b.1))) (l.map (fun i => (i, sortKey (c.navDist s i))))).map (·.1)

/-- The out-edges of a slot from candidates (R137, step 2): at most 32, each nearer to the slot than α times its distance from every one chosen. -/
def Coll.choose (c : Coll) (alpha s : Nat) (cands : List Nat) : List Nat :=
  (c.byDist s cands).foldl (fun chosen x =>
    let d := fdy (c.navDist s x)
    if chosen.length < 32 ∧ chosen.all (fun e => Dy.lt (Dy.mul (Dy.ofInt 256) d) (Dy.mul (Dy.ofInt (alpha : Int)) (fdy (c.navDist e x)))) then chosen ++ [x] else chosen) []

/-- The slot that a FORWARD marker on this node names, none when the slot is no marker, leads to another node or names a FREE slot. -/
def Coll.markerTo (c : Coll) (node i : Nat) : Option Nat :=
  match Tbl.find i c.slots with
  | none => none
  | some z =>
    if z.state ≠ .forward ∨ z.fwdNode ≠ node then none
    else match Tbl.find z.fwdSlot c.slots with
      | some y => if y.state = .free then none else some z.fwdSlot
      | none => none

/-- The slots met from a slot along FORWARD markers, one hop after another, up to one that was met before (R122, R131). -/
def Coll.hops (c : Coll) (node : Nat) (met : Nat → Bool) : Nat → Nat → List Nat
  | 0, _ => []
  | fuel + 1, i => match c.markerTo node i with
    | none => []
    | some t => if met t then [] else t :: c.hops node met fuel t

/-- The slot at the end of a slot's FORWARD markers on this node, when it is LIVE (R122, R143). -/
def Coll.forwardOf (c : Coll) (node i : Nat) : Option Nat := ((c.hops node (fun _ => false) c.slots.length i).getLast?).filter c.isLive

/-- Frontier order (R131): descending upper end, ties to the lower slot. -/
def Cand.wider (a b : Cand) : Bool := decide (sortKey b.hi < sortKey a.hi) || (decide (a.hi = b.hi) && decide (a.slot < b.slot))

/-- τ of a walk (R131). -/
def Walk.tau (w : Walk) (k : Nat) : Nat := kthLower k w.emitted

/-- The frontier slots that a round expands (R131, step 1). -/
def Walk.pick (w : Walk) (k width : Nat) : List Cand :=
  (sortBy Cand.wider (w.frontier.filter (fun c => decide (w.tau k ≤ sortKey c.hi)))).take width

/-- The walk ends between rounds (Table BRD-3): EXHAUSTED, CONVERGED, ROUNDS or VISITED_FULL. -/
def Walk.ends (w : Walk) (k width maxRounds : Nat) : Bool := (w.pick k width).isEmpty || decide (maxRounds ≤ w.rounds) || decide (4096 ≤ w.visited.length)

end Sys2Proof

namespace Sys2Proof.Machine

/-! ### Reading edge lists -/

/-- Braid counts a stale edge of a slot's list (R124, R142). -/
def State.countStale (s : State) (k i : Nat) : State :=
  match (s.coll k).bind (fun c => Tbl.find i c.slots) with
  | none => s
  | some z => (((s.count Reg.BRD_CNT0 3 1).coll! k (fun c => c.reach! z.reach (fun y => { y with stale := y.stale + 1 }))).repairTest k z.reach)

/-- An uncorrectable edge list is empty for every reader; the first read logs it and has the slot linked again (R134). -/
def State.edgeList (s : State) (k i : Nat) : List Edge × State :=
  match s.coll k with
  | none => ([], s)
  | some c => match Tbl.find i c.slots with
    | none => ([], s)
    | some z =>
      if !z.edgeLost then (z.edges, s)
      else
        let s1 := (s.coll! k (fun c => c.slot! i (fun z => { z with edges := [], edgeLost := false }))).count Reg.BRD_CNT0 9 1
        ([], (s1.logC (unitOf 0x10 0) 0x0012 c.comp 0x3FF 0 0).queueLink k i)

/-- A walk reaches a slot: the slot, then each slot that a FORWARD marker leads on to, counting each marker (R122, R131); what was reached before is left
out. -/
def State.reachSlot (s : State) (k : Nat) (visited acc : List Nat) (i : Nat) : List Nat × State :=
  match s.coll k with
  | none => (acc, s)
  | some c =>
    let met (x : Nat) : Bool := visited.contains x || acc.contains x
    if met i then (acc, s)
    else
      let h := c.hops s.nodeNo met c.slots.length i
      (dedup (acc ++ i :: h), s.count Reg.BRD_CNT0 4 h.length)

/-- The slots that a walk reaches by the edges of a slot that are not stale, none of them visited (R122, R124, R131, R137). -/
def State.neighbours (s : State) (k i : Nat) (visited : List Nat) : List Nat × State :=
  let r := s.edgeList k i
  r.1.foldl (fun (acc : List Nat × State) e =>
    match acc.2.coll k with
    | none => acc
    | some c => if c.stale e then (acc.1, acc.2.countStale k i) else acc.2.reachSlot k visited acc.1 e.slot) ([], r.2)

/-- The slots that a walk starts from. -/
def State.reachSeeds (s : State) (k : Nat) (seeds : List Nat) : List Nat × State :=
  seeds.foldl (fun (acc : List Nat × State) i => acc.2.reachSlot k [] acc.1 i) ([], s)

/-- The prefetch of R132: the slots that the edges of some slots name, whose edge lists, codes and side records Braid reads into Lake. -/
def State.prefetch (s : State) (k : Nat) (lead : List Nat) : List Nat × State :=
  lead.foldl (fun (acc : List Nat × State) i =>
    let r := acc.2.edgeList k i
    match r.2.coll k with
    | none => (acc.1, r.2)
    | some c => (dedup (acc.1 ++ (r.1.filter (fun e => !c.stale e)).map (·.slot)), r.2)) ([], s)

/-! ### The warm-start walk (R126 to R133) -/

/-- A slot may be emitted as a candidate (R129). -/
def Coll_emittable (c : Coll) (q : Query) (e : Nat) (w : Walk) (i : Nat) (z : Slot) : Bool :=
  decide (z.state = .live) && c.inUniverse q e i z && !z.damaged && !w.emitted.any (fun x => decide (x.rowId = z.rowId))

/-- A walk scores slots (R128), emits those that may be, and puts all into its frontier; the visited set holds at most 4,096 (R130). -/
def walkScore (c : Coll) (q : Query) (e : Nat) (w : Walk) (slots : List Nat) : Walk :=
  slots.foldl (fun (w : Walk) i =>
    if 4096 ≤ w.visited.length ∨ w.visited.contains i then w
    else match Tbl.find i c.slots with
      | none => w
      | some z =>
        let x := c.cand q i z
        { w with visited := w.visited ++ [i], frontier := w.frontier ++ [x], emitted := if Coll_emittable c q e w i z then w.emitted ++ [x] else w.emitted }) w

/-- A walk's state is stored, its new candidates are offered to Sounding while CAND_LIMIT leaves room (R88), and it ends where Table BRD-3 says so. -/
def State.storeWalk (s : State) (b q : Nat) (w : Walk) (old : Nat) : State :=
  match s.qbatch b with
  | none => s
  | some qb =>
    let s1 := (w.emitted.drop old).foldl (fun t c => t.offerOpen b q c) (s.query! b q (fun y => { y with walk := some w }))
    let s2 := s1.rethreshold b q
    if w.ends qb.k qb.width qb.maxRounds then (s2.query! b q (fun y => { y with walk := none })).count Reg.BRD_CNT0 0 1 else s2

/-- A walk starts from the entries of the SEEDS catchments with the greatest U (R126, R127); without a seed it ends at once. -/
def State.startWalk (s : State) (b q : Nat) (catches : List (Nat × F32)) : State :=
  match s.qbatch b, s.query b q with
  | some qb, some y =>
    if qb.noWarm ∨ !y.live then s
    else match s.qcoll qb.coll with
      | none => s
      | some c =>
        let best := (sortBy (fun (a b : Nat × F32) => decide (sortKey b.2 < sortKey a.2) || (decide (a.2 = b.2) && decide (a.1 < b.1))) catches).take qb.seeds
        let seeds := best.filterMap (fun k => (Tbl.find k.1 c.catches).bind (·.entry))
        let r := s.reachSeeds qb.coll seeds
        r.2.storeWalk b q (walkScore c y qb.readEpoch ⟨[], [], [], 0, s.now + us qb.walkTmoUs, []⟩ r.1) 0
  | _, _ => s

/-- One round of a walk (R131), with the prefetch for the next (R132): for the frontier slots that lead it if nothing better arrives. -/
def State.walkRound (s : State) (b q : Nat) (w : Walk) : State :=
  match s.qbatch b, s.query b q with
  | some qb, some y =>
    if w.ends qb.k qb.width qb.maxRounds then (s.query! b q (fun y => { y with walk := none })).count Reg.BRD_CNT0 0 1
    else
      let pick := w.pick qb.k qb.width
      let r := pick.foldl (fun (acc : Walk × State) x =>
        let n := acc.2.neighbours qb.coll x.slot acc.1.visited
        match n.2.qcoll qb.coll with
        | none => (acc.1, n.2)
        | some c =>
          let w1 := walkScore c y qb.readEpoch acc.1 n.1
          ({ w1 with frontier := w1.frontier.filter (fun z => decide (z.slot ≠ x.slot)) }, n.2)) (w, s)
      let lead := ({ w with frontier := w.frontier.filter (fun z => !pick.contains z) } : Walk).pick qb.k qb.width
      let p := r.2.prefetch qb.coll (lead.map (·.slot))
      (p.2.count Reg.BRD_CNT0 1 1).storeWalk b q { r.1 with rounds := w.rounds + 1, lake := p.1 } w.emitted.length
  | _, _ => s

/-- WALK_ROUND (R131). -/
def execWalkRound (batch query : Nat) (s : State) : Host.Outcome State Fault Refusal :=
  ok (match s.query batch query with
    | none => s
    | some y => match y.walk with
      | none => s
      | some w => if !s.runs batch ∨ !y.live ∨ w.deadline ≤ s.now then s else s.walkRound batch query w)

/-- WALK_TIMEOUT (R133): the walk ends with reason TIME; what it has emitted stands. -/
def execWalkTimeout (batch query : Nat) (s : State) : Host.Outcome State Fault Refusal :=
  ok (match s.query batch query with
    | none => s
    | some y => match y.walk with
      | none => s
      | some w => (((s.reach w.deadline).query! batch query (fun y => { y with walk := none })).count Reg.BRD_CNT0 0 1).count Reg.BRD_CNT0 2 1)

/-! ### Linking (R135 to R139) -/

/-- ALPHA_X256. -/
def State.alpha (s : State) : Nat := inRange (s.fld Reg.BRD_LINK 32 16) 256 1024 256

/-- The rounds of a link walk (R137, step 1): visited slots, and the frontier of slots not yet expanded. -/
def State.linkWalk (s : State) (k i width : Nat) : Nat → List Nat → List Nat → List Nat × State
  | 0, visited, _ => (visited, s)
  | n + 1, visited, frontier =>
    match s.coll k with
    | none => (visited, s)
    | some c =>
      let pick := (c.byDist i frontier).take width
      if pick = [] then (visited, s)
      else
        let r := pick.foldl (fun (acc : List Nat × List Nat × State) x =>
          let m := acc.2.2.neighbours k x acc.1
          (acc.1 ++ m.1, acc.2.1 ++ m.1, m.2)) (visited, frontier.filter (fun x => !pick.contains x), s)
        r.2.2.linkWalk k i width n r.1 r.2.1

/-- Adds the edge c → s (R137, step 4): in the first null place, or by step 2 over the present targets and s. An older edge to the same slot goes (R121),
and stale edges met in a full list are counted (R124). -/
def State.backEdge (s : State) (k i x : Nat) : State :=
  let r := s.edgeList k x
  match r.2.coll k with
  | none => r.2
  | some c =>
    let kept := r.1.filter (fun e => decide (e.slot ≠ i))
    if r.1.contains (c.edgeTo i) then r.2
    else if kept.length < 32 then r.2.coll! k (fun c => c.slot! x (fun z => { z with edges := kept ++ [c.edgeTo i] }))
    else
      let targets := (kept.filter (fun e => !c.stale e)).map (·.slot)
      ((kept.filter c.stale).foldl (fun t _ => t.countStale k x) r.2).coll! k (fun c =>
        c.slot! x (fun z => { z with edges := (c.choose s.alpha x (targets ++ [i])).map c.edgeTo }))

/-- Braid links a slot (R137, R138, R139). -/
def State.linkSlot (s : State) (k i : Nat) : State :=
  match s.coll k with
  | none => s
  | some c => match Tbl.find i c.slots with
    | none => s
    | some z =>
      if z.state = .free then s
      else if z.state ≠ .live then s.coll! k (fun c => c.slot! i (fun z => { z with link := .unlinked }))
      else match Tbl.find z.reach c.reaches with
        | none => s
        | some r => match (Tbl.find r.catchment c.catches).bind (·.entry) with
          | none =>
            (s.coll! k (fun c => { (c.slot! i (fun z => { z with link := .linked, edges := [], edgeLost := false })) with
              catches := Tbl.upd r.catchment (fun y => { y with entry := some i }) c.catches })).count Reg.BRD_CNT0 5 1
          | some e =>
            let width := inRange (s.fld Reg.BRD_LINK 24 8) 1 32 32
            let rounds := inRange (s.fld Reg.BRD_LINK 16 8) 1 64 64
            let keep := Nat.max 32 (s.fld Reg.BRD_LINK 0 8)
            let a := s.reachSeeds k [e]
            let w := a.2.linkWalk k i width rounds a.1 a.1
            match w.2.coll k with
            | none => w.2
            | some c1 =>
              let cands := (c1.byDist i (w.1.filter (fun x => decide (x ≠ i) && c1.isLive x))).take keep
              let out := c1.choose s.alpha i cands
              let s1 := w.2.coll! k (fun c => c.slot! i (fun z => { z with link := .linked, edges := out.map c.edgeTo, edgeLost := false }))
              (out.foldl (fun t x => t.backEdge k i x) s1).count Reg.BRD_CNT0 5 1

/-- LINK_SLOT (R135, R137): the slot that has waited longest. -/
def execLinkSlot (engine : Nat) (s : State) : Host.Outcome State Fault Refusal :=
  onUnit (decide (engine < 4)) (match s.search.linkQ with
    | [] => s
    | r :: rest => (s.search! (fun x => { x with linkQ := rest })).linkSlot r.coll r.slot)

/-- LINK_SCAN (R135): the background scan goes on at the next slot it has not visited, and queues PENDING slots while the queue is below half full. -/
def execLinkScan (coll : Nat) (s : State) : Host.Outcome State Fault Refusal :=
  ok (match s.coll coll with
    | none => s
    | some c =>
      let all := (Tbl.keys c.reaches).flatMap (fun r => ((c.slotsOf r).filter (fun z => decide (z.2.link = .pending))).map (fun z => (r, z.1)))
      let before (p : Nat × Nat) : Bool := decide (p.1 < c.scanPos) || (decide (p.1 = c.scanPos) && decide (p.2 < c.scanSlot))
      let l := all.filter (fun p => !before p) ++ all.filter before
      let r := l.foldl (fun (acc : State × Option (Nat × Nat)) p =>
        match acc.2 with
        | some _ => acc
        | none => if 524288 ≤ acc.1.search.linkQ.length then (acc.1, some p) else (acc.1.queueLink coll p.2, none)) (s, none)
      match r.2 with
      | some p => r.1.coll! coll (fun c => { c with scanPos := p.1, scanSlot := p.2 })
      | none => r.1)

/-! ### Repair (R142 to R144) -/

/-- The LIVE targets of a TOMBSTONE's list (R143, step 1); its stale edges are counted (R124). -/
def State.tombTargets (s : State) (k i : Nat) : List Nat × State :=
  let t := s.edgeList k i
  match t.2.coll k with
  | none => ([], t.2)
  | some c =>
    ((t.1.filter (fun y => !c.stale y && c.isLive y.slot)).map (·.slot), (t.1.filter c.stale).foldl (fun u _ => u.countStale k i) t.2)

/-- The pool of a slot under repair (R143, step 1). -/
def State.repairPool (s : State) (k i : Nat) : List Nat × State :=
  let r := s.edgeList k i
  let p := r.1.foldl (fun (acc : List Nat × State) e =>
    match acc.2.coll k with
    | none => acc
    | some c =>
      if c.stale e then (acc.1, acc.2.countStale k i)
      else match Tbl.find e.slot c.slots with
        | none => acc
        | some z =>
          if z.state = .live then (acc.1 ++ [e.slot], acc.2)
          else if z.state = .forward then (acc.1 ++ (c.forwardOf s.nodeNo e.slot).toList, acc.2)
          else
            let t := acc.2.tombTargets k e.slot
            (acc.1 ++ t.1, t.2)) ([], r.2)
  (dedup (p.1.filter (fun x => decide (x ≠ i))), p.2)

/-- Repairs a reach (R143, R125). -/
def State.repairReach (s : State) (k r : Nat) : State :=
  match s.coll k with
  | none => s
  | some c =>
    let live := ((c.slotsOf r).filter (fun z => decide (z.2.state = .live))).map (·.1)
    let s1 := live.foldl (fun (t : State) i =>
      let p := t.repairPool k i
      (p.2.coll! k (fun c => c.slot! i (fun z => { z with edges := (c.choose s.alpha i p.1).map c.edgeTo }))).count Reg.BRD_CNT0 8 1) s
    (s1.coll! k (fun c =>
      let c1 : Coll := { c with slots := c.slots.map (fun z => (z.1, if z.2.reach = r ∧ (z.2.state = .tombstone ∨ z.2.state = .forward) then { z.2 with link := .unlinked } else z.2)) }
      let c2 := c1.reach! r (fun y => { y with stale := 0 })
      match Tbl.find r c2.reaches with
      | none => c2
      | some y =>
        let fix (x : Catch) : Catch := match x.entry with
          | some e => if c2.isLive e then x else { x with entry := Coll_nearestEntry c2 y.catchment }
          | none => x
        { c2 with catches := Tbl.upd y.catchment fix c2.catches })).count Reg.BRD_CNT0 7 1

/-- REPAIR_REACH (R143): the engine of the quadrant whose Millrace stack holds the reach's codes, in the order of its queue. The reach stays queued until it
is repaired, so that no test queues it again (R142). -/
def execRepairReach (engine : Nat) (s : State) : Host.Outcome State Fault Refusal :=
  onUnit (decide (engine < 4)) (
    let here (r : LinkReq) : Bool := match (s.coll r.coll).bind (fun c => Tbl.find r.slot c.reaches) with
      | some y => decide (y.cell / 128 = engine)
      | none => decide (engine = 0)
    match s.search.repairQ.find? here with
    | none => s
    | some r => (s.repairReach r.coll r.slot).search! (fun x => { x with repairQ := x.repairQ.filter (fun y => decide (y ≠ r)) }))

end Sys2Proof.Machine
end

