-- ==== Sys2Proof/Machine/Rill.lean ====
section
/-! DEFINITION. Rill cores: the scalar, matrix, vector, bound-path, selection and scratch instructions, and kernels (chapter 08). -/

namespace Sys2Proof

/-- Element `i` of `w` bits of a vector register. -/
def velem (v w i : Nat) : Nat := bits v (w * i) w
/-- The elements of a vector register. -/
def velems (v w : Nat) : List Nat := (List.range (16384 / w)).map (velem v w)
/-- Packs elements into a vector register. -/
def vpack (w : Nat) (l : List Nat) : Nat := l.reverse.foldl (fun a e => a * 2 ^ w + e % 2 ^ w) 0

/-- The format of a floating-point element type. -/
def VTy.fmt : VTy → Fmt
  | .bf16 => fmtB16 | .f16 => fmt16 | _ => fmt32
/-- Bits of an element. -/
def VTy.bits : VTy → Nat
  | .bf16 => 16 | .f16 => 16 | _ => 32
/-- The type is floating-point. -/
def VTy.fp : VTy → Bool
  | .i32 => false | _ => true

/-- The registers that an arithmetic instruction writes: 1,024 FP32 results of 16-bit sources take two (log 126). -/
def VTy.dst (ty : VTy) (r : Nat) : List Nat := if ty.bits = 16 then [r, r + 1] else [r]

/-- A 32-bit two's complement number. -/
def i32of (n : Nat) : Int := if n < 2 ^ 31 then n else (n : Int) - 2 ^ 32
/-- The bits of an INT32, where it fits. -/
def i32pat (i : Int) : Nat := (i % ((2 ^ 32 : Nat) : Int)).toNat
/-- An integer lies in the INT32 range. -/
def i32fits (i : Int) : Bool := decide (-(2 ^ 31 : Int) ≤ i) && decide (i < 2 ^ 31)

/-- Code of an array mode in a stationary buffer. -/
def MxMode.code : MxMode → Nat
  | .int4 => 0 | .int2 => 1 | .binary => 2 | .int8 => 3
/-- Bits of an element of an array mode (Table RIL-2). -/
def MxMode.bits : MxMode → Nat
  | .int4 => 4 | .int2 => 2 | .binary => 1 | .int8 => 8
/-- Elements of a line. -/
def MxMode.line : MxMode → Nat
  | .int2 => 256 | .binary => 512 | _ => 128
/-- Bytes of a line. -/
def MxMode.lineBytes : MxMode → Nat
  | .int8 => 128 | _ => 64
/-- Registers that MX.LOAD reads (R251). -/
def MxMode.regs : MxMode → Nat
  | .int8 => 4 | _ => 2

/-- The number that an element code stands for (R250). -/
def MxMode.val (m : MxMode) (unsigned : Bool) (c : Nat) : Int :=
  match m with
  | .binary => if c = 1 then 1 else -1
  | .int4 => if unsigned then c else if c < 8 then c else (c : Int) - 16
  | .int2 => if c < 2 then c else (c : Int) - 4
  | .int8 => if c < 128 then c else (c : Int) - 256

/-- The elements of a line held in `n` bits. -/
def lineCodes (m : MxMode) (v : Nat) : List Nat := (List.range m.line).map (fun i => Sys2Proof.bits v (m.bits * i) m.bits)

/-- Adds into an INT32 accumulator entry with saturation (R253): the value, and whether it saturated. -/
def accAdd (a b : Int) : Int × Bool :=
  let s := a + b
  if s < -(2 ^ 31) then (-(2 ^ 31), true) else if 2 ^ 31 - 1 < s then (2 ^ 31 - 1, true) else (s, false)

/-- Row products of a streamed line against a stationary line. -/
def lineDot (m : MxMode) (su lu : Bool) (stat line : List Nat) (active : Nat) : Int :=
  ((List.zipWith (fun a b => m.val su a * m.val lu b) stat line).take active).foldl (· + ·) 0

/-- The key, collection and row of a 128-bit entry, in result order (R148): a ranks before b. -/
def entryBefore (a b : Nat) : Bool :=
  let key (x : Nat) := Sys2Proof.bits x 0 32
  let row (x : Nat) := Sys2Proof.bits x 32 48
  let coll (x : Nat) := Sys2Proof.bits x 80 12
  decide (key b < key a) || (decide (key a = key b) && (decide (coll a < coll b) || (decide (coll a = coll b) && decide (row a < row b))))

/-- One compare-exchange stage of the selection network over 128 entries: pairs at distance `j`, in blocks of `k` of alternating order. -/
def cxStage (k j : Nat) (l : List Nat) : List Nat :=
  (List.range l.length).map (fun i =>
    let p := if bit i (Nat.log2 j) then i - j else i + j
    let a := l.getD i 0
    let b := l.getD p 0
    let up := !bit i (Nat.log2 k)
    let first := decide (i < p)
    -- the first of a pair keeps the entry that ranks first in an ascending block
    if first = up then (if entryBefore b a then b else a) else (if entryBefore b a then a else b))

/-- The compare of a sorted block against the reversed resident set: the entry of each pair that ranks first. -/
def mergeStage (a b : List Nat) : List Nat :=
  List.zipWith (fun x y => if entryBefore y x then y else x) a b.reverse

/-- 2^x rounded once to a format (R257), for numbers and infinities. -/
def Fmt.exp2 (F : Fmt) (a : Nat) : Nat :=
  match F.dec a with
  | .nan => F.nanPat
  | .inf s => if s then 0 else F.infPat
  | .fin s m e =>
    let x : Dy := ⟨if s then -(m : Int) else m, e⟩
    let n := Dy.floor x
    let f := Dy.sub x (Dy.ofInt n)
    if 4000 < n then F.infPat
    else if n < -4000 then 0
    else if f.m = 0 then F.round .rne false 1 1 n
    else F.round .rne false (2 * exp2Fix f + 1) 2 (n - 128)

/-- An INT32 result, open when it leaves the range (log 11). -/
def i32res (op : Nat) (xs : List Nat) (i : Int) : Nat := if i32fits i then i32pat i else Config.vecOpen op xs % 2 ^ 32

/-- A result that is NaN is a quiet NaN, whose sign and payload are open (log 9). -/
def Fmt.quiet (F : Fmt) (op : Nat) (xs : List Nat) (r : Nat) : Nat :=
  if F.isNan r then F.infPat + 2 ^ (F.mb - 1) + Config.vecOpen op xs % 2 ^ (F.mb - 1) + Config.vecOpen op xs / 2 ^ (F.mb - 1) % 2 * F.signW else r

/-- The greater of two patterns; open where one is NaN, and between the two zeros (log 10). -/
def Fmt.greater (F : Fmt) (x y : Nat) : Nat :=
  if F.isNan x || F.isNan y then Config.vecOpen 3 [x, y] % (2 * F.signW)
  else if F.lt x y then y
  else if F.lt y x then x
  else if Config.vecOpen 3 [x, y] % 2 = 0 then x else y

end Sys2Proof

namespace Sys2Proof.Machine

/-! ### Registers of a core -/

/-- A vector register. -/
def State.vreg (s : State) (n r : Nat) : Nat := Tbl.getD r 0 (s.core n).regs.v
/-- Writes part of a vector register: what is left of it stays poisoned (R259). -/
def State.vpart! (s : State) (n r v : Nat) : State :=
  s.core! n (fun c => { c with regs := { c.regs with v := if v = 0 then Tbl.erase r c.regs.v else Tbl.put r v c.regs.v } })
/-- Writes a whole vector register; it is no longer poisoned (R259), and no word of it uncorrectable. -/
def State.vreg! (s : State) (n r v : Nat) : State :=
  (s.vpart! n r v).core! n (fun c => { c with regs := { c.regs with
    poison := c.regs.poison.filter (fun p => decide (p ≠ r)), bad := c.regs.bad.filter (fun p => decide (p ≠ r)) } })
/-- A scalar register. -/
def State.xreg (s : State) (n r : Nat) : Nat := (Tbl.getD r (0 : Word) (s.core n).regs.x).toNat
/-- Writes a scalar register; scalar register r is number 32 + r among the poisoned ones. -/
def State.xreg! (s : State) (n r v : Nat) : State :=
  s.core! n (fun c => { c with regs := { c.regs with
    x := Tbl.put r (BitVec.ofNat 64 v) c.regs.x, poison := c.regs.poison.filter (fun p => decide (p ≠ 32 + r)) } })

/-- Poisons a register (R259). -/
def State.poison! (s : State) (n r : Nat) : State := s.core! n (fun c => { c with regs := { c.regs with poison := c.regs.poison ++ [r] } })
/-- A vector register keeps an uncorrectable word until it is written (R258). -/
def State.badReg! (s : State) (n r : Nat) : State := s.core! n (fun c => { c with regs := { c.regs with bad := c.regs.bad ++ [r] } })

/-- The record of a word of scratch (tier 0) or of a register (tier 6) that read corrected, which is repaired in place, or uncorrectable (R520, R258). -/
def State.eccNote (s : State) (n : Nat) (k : Task) (tier : Nat) (o : EccOutcome) : State :=
  match o with
  | .corrected i => s.memRaiseAt i (unitOf 1 n) 0x0005 .c tier 0 0 0 k.comp (k.ctx.getD 0x3FF) none 0
  | .clean | .poisoned => s
  | .uncorrectable => s.memRaise (unitOf 1 n) 0x0006 .d tier 0 0 0 k.comp (k.ctx.getD 0x3FF) (some k.batch) stTorn

/-- What the reads of some vector registers meet, where the flipped bits of a word of the first of them are `e` (R520): a word that was uncorrectable still is. -/
def State.regEcc (s : State) (n : Nat) (reads : List Nat) (e : List Nat) : EccOutcome :=
  if reads.any (fun r => (s.core n).regs.bad.contains r) then .uncorrectable else bitOutcome false e

/-- The first register of a list that is poisoned. -/
def State.poisoned? (s : State) (n : Nat) (l : List Nat) : Option Nat := l.find? (fun r => (s.core n).regs.poison.contains r)

/-- An instruction whose operand form `okForm` accepts and whose register operands `reads` (scalars from 32 on) are not poisoned; else ILLEGAL or
REG_POISON (R259, Table RIL-7). -/
def onRegs (s : State) (n : Nat) (okForm : Bool) (reads : List Nat) (f : Nat → Task → State) : Host.Outcome State Fault Refusal :=
  onTask s n (fun t k =>
    if !okForm then s.illegal n
    else match s.poisoned? n reads with
      | some r => s.taskFault n 0x03 (if r < 32 then r else r - 32)
      | none => f t k)

/-- A counter of a core's block. -/
def State.rilCount (s : State) (n i d : Nat) : State := s.count (Reg.RIL_CNT0 + 0x1000 * n) i d

/-! ### Scalar -/

/-- An integer function on 64-bit registers; a shift by the width or more gives a free value. -/
def State.aluOf (s : State) (f : Alu) (a b : Nat) : Nat × State :=
  let x := BitVec.ofNat 64 a
  let y := BitVec.ofNat 64 b
  match f with
  | .add => ((x + y).toNat, s)
  | .sub => ((x - y).toNat, s)
  | .mul => ((x * y).toNat, s)
  | .and => ((x &&& y).toNat, s)
  | .or => ((x ||| y).toNat, s)
  | .xor => ((x ^^^ y).toNat, s)
  | .shl => if b < 64 then ((x <<< b).toNat, s) else s.free
  | .shr => if b < 64 then ((x >>> b).toNat, s) else s.free

/-- A branch condition. -/
def condOf (c : BrCond) (a b : Nat) : Bool :=
  match c with | .always => true | .eq => decide (a = b) | .ne => decide (a ≠ b) | .ltu => decide (a < b)

/-- SCALAR (R262): integer, address, branch. -/
def execScalar (core : Nat) (op : ScalarOp) (s : State) : Host.Outcome State Fault Refusal :=
  match op with
  | .alu f xd xa xb => onRegs s core (decide (xd < 64) && decide (xa < 64) && decide (xb < 64)) [32 + xa, 32 + xb] (fun _ _ =>
      let r := s.aluOf f (s.xreg core xa) (s.xreg core xb)
      (r.2.xreg! core xd r.1).pcNext core)
  | .imm xd v => onRegs s core (decide (xd < 64)) [] (fun _ _ => (s.xreg! core xd v).pcNext core)
  | .addr xd xa off => onRegs s core (decide (xd < 64) && decide (xa < 64)) [32 + xa] (fun _ _ => (s.xreg! core xd (s.xreg core xa + off)).pcNext core)
  | .branch c xa xb target => onRegs s core (decide (xa < 64) && decide (xb < 64)) (if c = .always then [] else [32 + xa, 32 + xb]) (fun _ k =>
      let len := match Tbl.find (k.kernel % 65536) s.slc.kernels with | some x => natAt x.image 8 4 | none => 0
      if condOf c (s.xreg core xa) (s.xreg core xb) then
        (if target % 8 = 0 ∧ target < len then s.core! core (fun y => { y with regs := { y.regs with pc := target } }) else s.illegal core)
      else s.pcNext core)

/-! ### The matrix array -/

/-- The array reads a vector register: a word that reads uncorrectable is a poisoned operand, as the array has no destination register to poison (R259, log 126). -/
def State.arrayReads (s : State) (n : Nat) (k : Task) (reads : List Nat) (ecc : List Nat) (f : State → State) : State :=
  let e := s.regEcc n reads ecc
  if e = .uncorrectable then ((s.badReg! n (reads.headD 0)).eccNote n k 6 e).taskFault n 0x03 (reads.headD 0) else (f s).eccNote n k 6 e

/-- MX_LOAD (R251): fills a stationary buffer from a pair of registers, or four for INT8. -/
def execMxLoad (core buf : Nat) (mode : MxMode) (reg : SramRead) (s : State) : Host.Outcome State Fault Refusal :=
  onRegs s core (decide (buf < 2) && decide (reg.src + mode.regs ≤ 32)) ((List.range mode.regs).map (fun i => reg.src + i)) (fun _ k =>
   s.arrayReads core k ((List.range mode.regs).map (fun i => reg.src + i)) reg.ecc (fun s =>
    let per := 2048 / mode.lineBytes
    let lines := (List.range 64).map (fun l => lineCodes mode (bits (s.vreg core (reg.src + l / per)) (8 * mode.lineBytes * (l % per)) (8 * mode.lineBytes)))
    (s.core! core (fun c => { c with regs := { c.regs with stat := Tbl.put buf (mode.code, lines) c.regs.stat } })).pcNext core))

/-- The stationary lines of a buffer; a buffer that nothing has filled since it was cleared holds zeros. -/
def State.statOf (s : State) (n buf : Nat) (m : MxMode) : Nat × List (List Nat) :=
  (Tbl.find buf (s.core n).regs.stat).getD (m.code, List.replicate 64 (List.replicate m.line 0))

/-- An accumulator slot. -/
def State.accOf (s : State) (n i : Nat) : List Int := (Tbl.find i (s.core n).regs.acc).getD (List.replicate 64 0)

/-- Adds row sums into a slot, or overwrites it (R253). -/
def State.accPut (s : State) (n i : Nat) (excess : Bool) (sums : List Int) : State :=
  let r := if excess then sums.map (fun v => accAdd 0 v) else List.zipWith accAdd (s.accOf n i) sums
  s.core! n (fun c => { c with
    regs := { c.regs with acc := Tbl.put i (r.map (·.1)) c.regs.acc }
    accSat := c.accSat || r.any (·.2) })

/-- The operand forms of a stream (R250 to R254). -/
def mxForm (a : MxArgs) (slots : Nat) : Bool :=
  decide (a.buf < 2) && decide (a.reg < 32) && decide (a.line < 2048 / a.mode.lineBytes) && decide (a.slot + slots ≤ 64)
    && (decide (a.mode = .int4) || (!a.statU && !a.lineU))
    && (decide (a.mode ≠ .binary) || (decide (1 ≤ a.active) && decide (a.active ≤ 512)))

/-- The row sums of one stream over elements `[from, from + n)` of the line. -/
def State.rowSums (s : State) (core : Nat) (a : MxArgs) (lo n : Nat) : List Int :=
  let line := lineCodes a.mode (bits (s.vreg core a.reg) (8 * a.mode.lineBytes * a.line) (8 * a.mode.lineBytes))
  let act := if a.mode = .binary then a.active else a.mode.line
  (s.statOf core a.buf a.mode).2.map (fun row =>
    lineDot a.mode a.statU a.lineU ((row.take act).drop lo |>.take n) ((line.take act).drop lo |>.take n) n)

/-- A stream: modes of buffer and line agree; a residue mismatch faults before any sum is readable (R255). -/
def State.stream (s : State) (core : Nat) (a : MxArgs) (put : State → State) : State :=
  if (s.statOf core a.buf a.mode).1 ≠ a.mode.code then s.illegal core
  else match a.residue with
    | some row => s.taskFault core 0x09 row
    | none => (put (s.rilCount core 1 (if a.mode = .int8 then 4 else 1))).pcNext core

/-- MX_MMA (R250, R252, R253). -/
def execMxMma (core : Nat) (a : MxArgs) (s : State) : Host.Outcome State Fault Refusal :=
  onRegs s core (mxForm a 1) [a.reg] (fun _ k => s.arrayReads core k [a.reg] a.ecc (fun s => s.stream core a (fun t => t.accPut core a.slot a.overwrite (s.rowSums core a 0 a.mode.line))))

/-- MX_MMA_G32 (R254): four sums, one for each 32-element quarter, into four consecutive slots. -/
def execMxMmaG32 (core : Nat) (a : MxArgs) (s : State) : Host.Outcome State Fault Refusal :=
  onRegs s core (mxForm a 4 && (decide (a.mode = .int4) || decide (a.mode = .int8))) [a.reg] (fun _ k => s.arrayReads core k [a.reg] a.ecc (fun s => s.stream core a (fun t =>
    (List.range 4).foldl (fun u q => u.accPut core (a.slot + q) a.overwrite (s.rowSums core a (32 * q) 32)) t)))

/-- ACC_MOV (R253): slots to registers, eight slots to a register; register elements beyond the slots moved keep their values and their poison. -/
def execAccMov (core slot n vd : Nat) (s : State) : Host.Outcome State Fault Refusal :=
  onRegs s core (decide (1 ≤ n) && decide (slot + n ≤ 64) && decide (vd + cdiv n 8 ≤ 32)) [] (fun _ _ =>
    let t := (List.range (cdiv n 8)).foldl (fun u r =>
      let old := velems (u.vreg core (vd + r)) 32
      let part := (List.range 8).flatMap (fun j =>
        let i := 8 * r + j
        if i < n then (s.accOf core (slot + i)).map i32pat else (old.drop (64 * j)).take 64)
      if 8 * r + 8 ≤ n then u.vreg! core (vd + r) (vpack 32 part) else u.vpart! core (vd + r) (vpack 32 part)) s
    (t.rilCount core 2 1).pcNext core)

/-- ACC_CLR (R253). -/
def execAccClr (core slot n : Nat) (s : State) : Host.Outcome State Fault Refusal :=
  onRegs s core (decide (1 ≤ n) && decide (slot + n ≤ 64)) [] (fun _ _ =>
    ((s.core! core (fun c => { c with regs := { c.regs with
      acc := c.regs.acc.filter (fun x => decide (x.1 < slot) || decide (slot + n ≤ x.1)) } })).rilCount core 2 1).pcNext core)

/-! ### The vector unit and the bound path -/

/-- The end of a vector instruction that has written its registers `dst`, where its sources met `e`: what an uncorrectable word went into is poisoned and that
word stays bad unless it was written (R258, R259), RIL_CNT2 counts, the pc moves on, and the error is recorded. -/
def State.vecEnd (t : State) (core : Nat) (k : Task) (reads dst : List Nat) (e : EccOutcome) : State :=
  let u := if e = .uncorrectable then
      dst.foldl (fun v r => v.poison! core r) (if dst.contains (reads.headD 0) then t else t.badReg! core (reads.headD 0))
    else t
  ((u.rilCount core 2 1).pcNext core).eccNote core k 6 e

/-- A vector instruction that writes the registers `dst`: registers exist and are not poisoned; a parity mismatch faults (R257); a source word that reads
uncorrectable poisons the destination (R259). -/
def onVec (s : State) (core : Nat) (okForm : Bool) (reads dst : List Nat) (par : Option Nat) (ecc : List Nat) (f : State → State) : Host.Outcome State Fault Refusal :=
  onRegs s core (okForm && dst.all (fun r => decide (r < 32)) && reads.all (fun r => decide (r < 32))) reads (fun _ k =>
    match par with
    | some lane => s.taskFault core 0x0A lane
    | none =>
      (f s).vecEnd core k reads dst (s.regEcc core reads ecc))

/-- Maps elements with a function that may leave a value open (`none`), which is then free. -/
def State.fillFree (s : State) (l : List (Option Nat)) : List Nat × State :=
  l.foldl (fun (acc : List Nat × State) x => match x with
    | some v => (acc.1 ++ [v], acc.2)
    | none => let f := acc.2.free; (acc.1 ++ [f.1], f.2)) ([], s)

/-- The source elements of an arithmetic instruction: BF16 and FP16 widen to FP32 exactly (R256). -/
def State.vsrc (s : State) (core : Nat) (ty : VTy) (r : Nat) : List Nat :=
  let l := velems (s.vreg core r) ty.bits
  match ty with
  | .bf16 => l.map (fmtB16.conv fmt32 .rne)
  | .f16 => l.map (fmt16.conv fmt32 .rne)
  | _ => l

/-- Writes the 32-bit results of an arithmetic instruction. -/
def State.vdst (s : State) (core : Nat) (ty : VTy) (r : Nat) (l : List Nat) : State :=
  let t := s.vreg! core r (vpack 32 (l.take 512))
  if ty.bits = 16 then t.vreg! core (r + 1) (vpack 32 (l.drop 512)) else t

/-- An arithmetic instruction of one source. -/
def onVec1 (s : State) (core : Nat) (a : VArgs) (f : Nat → Nat) : Host.Outcome State Fault Refusal :=
  onVec s core a.ty.fp [a.va] (a.ty.dst a.vd) a.parity a.ecc (fun t => t.vdst core a.ty a.vd ((t.vsrc core a.ty a.va).map f))

/-- An arithmetic instruction of two sources, by element type. -/
def onVec2 (s : State) (core : Nat) (okForm : Bool) (a : VArgs) (fp int : Nat → Nat → Nat) : Host.Outcome State Fault Refusal :=
  onVec s core okForm [a.va, a.vb] (a.ty.dst a.vd) a.parity a.ecc (fun t =>
    t.vdst core a.ty a.vd (List.zipWith (if a.ty.fp then fp else int) (t.vsrc core a.ty a.va) (t.vsrc core a.ty a.vb)))

/-- V_ADD (R256). -/
def execVAdd (core : Nat) (a : VArgs) (s : State) : Host.Outcome State Fault Refusal :=
  onVec2 s core true a (fun x y => fmt32.quiet 1 [x, y] (fmt32.add .rne x y)) (fun x y => i32res 1 [x, y] (i32of x + i32of y))
/-- V_MUL (R256). -/
def execVMul (core : Nat) (a : VArgs) (s : State) : Host.Outcome State Fault Refusal :=
  onVec2 s core true a (fun x y => fmt32.quiet 2 [x, y] (fmt32.mul .rne x y)) (fun x y => i32res 2 [x, y] (i32of x * i32of y))
/-- V_MAX (R256). -/
def execVMax (core : Nat) (a : VArgs) (s : State) : Host.Outcome State Fault Refusal :=
  onVec2 s core true a fmt32.greater (fun x y => i32pat (max (i32of x) (i32of y)))
/-- V_FMA (R256): rounds once. -/
def execVFma (core : Nat) (a : VArgs) (s : State) : Host.Outcome State Fault Refusal :=
  onVec s core true [a.va, a.vb, a.vc] (a.ty.dst a.vd) a.parity a.ecc (fun t =>
    let xs := List.zipWith (fun x y => (x, y)) (t.vsrc core a.ty a.va) (t.vsrc core a.ty a.vb)
    t.vdst core a.ty a.vd (List.zipWith (fun (p : Nat × Nat) z =>
      if a.ty.fp then fmt32.quiet 4 [p.1, p.2, z] (fmt32.fma .rne p.1 p.2 z) else i32res 4 [p.1, p.2, z] (i32of p.1 * i32of p.2 + i32of z))
      xs (t.vsrc core a.ty a.vc)))

/-- CONVERT (R256, R262): widening gives two registers of FP32, narrowing takes two. -/
def execConvert (core : Nat) (k : Conv) (a : VArgs) (s : State) : Host.Outcome State Fault Refusal :=
  let widen (F : Fmt) (t : State) : State :=
    let l := (velems (t.vreg core a.va) 16).map (fun x => fmt32.quiet 5 [x] (F.conv fmt32 .rne x))
    (t.vreg! core a.vd (vpack 32 (l.take 512))).vreg! core (a.vd + 1) (vpack 32 (l.drop 512))
  let narrow (F : Fmt) (t : State) : State :=
    let l := velems (t.vreg core a.va) 32 ++ velems (t.vreg core (a.va + 1)) 32
    t.vreg! core a.vd (vpack 16 (l.map (fun x => F.quiet 5 [x] (fmt32.conv F .rne x))))
  match k with
  | .widenBf16 => onVec s core true [a.va] [a.vd, a.vd + 1] a.parity a.ecc (widen fmtB16)
  | .widenF16 => onVec s core true [a.va] [a.vd, a.vd + 1] a.parity a.ecc (widen fmt16)
  | .narrowBf16 => onVec s core true [a.va, a.va + 1] [a.vd] a.parity a.ecc (narrow fmtB16)
  | .narrowF16 => onVec s core true [a.va, a.va + 1] [a.vd] a.parity a.ecc (narrow fmt16)
  | .i32ToF32 => onVec s core true [a.va] [a.vd] a.parity a.ecc (fun t =>
      t.vreg! core a.vd (vpack 32 ((velems (t.vreg core a.va) 32).map (fun x => (f32OfInt .rne (i32of x)).toNat))))

/-- V_CMP (R262): a mask register, with all bits of an element set where the comparison holds. -/
def execVCmp (core : Nat) (c : Cmp) (a : VArgs) (s : State) : Host.Outcome State Fault Refusal :=
  onVec s core true [a.va, a.vb] [a.vd] a.parity a.ecc (fun t =>
    let w := a.ty.bits
    let F := a.ty.fmt
    let hold (x y : Nat) : Bool :=
      if a.ty.fp then (match c with | .lt => F.lt x y | .le => F.le x y | .eq => F.le x y && F.le y x)
      else (match c with | .lt => decide (i32of x < i32of y) | .le => decide (i32of x ≤ i32of y) | .eq => decide (x = y))
    t.vreg! core a.vd (vpack w (List.zipWith (fun x y => if hold x y then 2 ^ w - 1 else 0) (velems (t.vreg core a.va) w) (velems (t.vreg core a.vb) w))))

/-- V_SEL (R262): va where the mask vc is not zero, else vb. -/
def execVSel (core : Nat) (a : VArgs) (s : State) : Host.Outcome State Fault Refusal :=
  onVec s core true [a.va, a.vb, a.vc] [a.vd] a.parity a.ecc (fun t =>
    let w := a.ty.bits
    let xs := List.zipWith (fun x y => (x, y)) (velems (t.vreg core a.va) w) (velems (t.vreg core a.vb) w)
    t.vreg! core a.vd (vpack w (List.zipWith (fun (p : Nat × Nat) m => if m ≠ 0 then p.1 else p.2) xs (velems (t.vreg core a.vc) w))))

/-- The rounding of a bound-path direction. -/
def Dir_rm (d : Dir) : Rm := match d with | .up => .up | .down => .down
/-- An end that is NaN becomes +∞ or −∞ (R53). -/
def boundEnd (d : Dir) (F : Fmt) (x : Nat) : Nat := if F.isNan x then (match d with | .up => F.infPat | .down => F.signW + F.infPat) else x

/-- B_ADD (R256). -/
def execBAdd (core : Nat) (d : Dir) (a : VArgs) (s : State) : Host.Outcome State Fault Refusal :=
  onVec2 s core a.ty.fp a (fun x y => boundEnd d fmt32 (fmt32.add (Dir_rm d) x y)) (fun x _ => x)
/-- B_MUL (R256). -/
def execBMul (core : Nat) (d : Dir) (a : VArgs) (s : State) : Host.Outcome State Fault Refusal :=
  onVec2 s core a.ty.fp a (fun x y => boundEnd d fmt32 (fmt32.mul (Dir_rm d) x y)) (fun x _ => x)
/-- B_SQRT (R256). -/
def execBSqrt (core : Nat) (d : Dir) (a : VArgs) (s : State) : Host.Outcome State Fault Refusal :=
  onVec1 s core a (fun x => boundEnd d fmt32 (fmt32.sqrt (Dir_rm d) x))
/-- B_DIV (R256). -/
def execBDiv (core : Nat) (d : Dir) (a : VArgs) (s : State) : Host.Outcome State Fault Refusal :=
  onVec2 s core a.ty.fp a (fun x y => boundEnd d fmt32 (fmt32.div (Dir_rm d) x y)) (fun x _ => x)

/-- V_EXP2 (R257): 2^f correctly rounded to FP32. -/
def execVExp2 (core : Nat) (a : VArgs) (s : State) : Host.Outcome State Fault Refusal := onVec1 s core a (fun x => fmt32.quiet 6 [x] (fmt32.exp2 x))
/-- V_SQRT (R256). -/
def execVSqrt (core : Nat) (a : VArgs) (s : State) : Host.Outcome State Fault Refusal := onVec1 s core a (fun x => fmt32.quiet 7 [x] (fmt32.sqrt .rne x))
/-- V_DIV (R256). -/
def execVDiv (core : Nat) (a : VArgs) (s : State) : Host.Outcome State Fault Refusal :=
  onVec2 s core a.ty.fp a (fun x y => fmt32.quiet 8 [x, y] (fmt32.div .rne x y)) (fun x _ => x)

/-- V_REDP (R257): the pairwise sum of n FP32 elements in up to eight registers, in element 0 of the destination, whose other elements stay. -/
def execVRedp (core n : Nat) (a : VArgs) (s : State) : Host.Outcome State Fault Refusal :=
  onVec s core (decide (a.ty = .f32) && decide (1 ≤ n) && decide (n ≤ 4096)) ((List.range (cdiv n 512)).map (fun i => a.va + i)) [a.vd] a.parity a.ecc (fun t =>
    let l := ((List.range (cdiv n 512)).flatMap (fun i => velems (t.vreg core (a.va + i)) 32)).take n
    let r := fmt32.quiet 9 l (pairwise .rne (l.map (BitVec.ofNat 32))).toNat
    t.vpart! core a.vd (setBits (t.vreg core a.vd) 0 32 r))

/-! ### The selection network -/

/-- C_CX (R262): one compare-exchange stage on 128 entries. -/
def execCCx (core : Nat) (reg : SramRead) (k j : Nat) (s : State) : Host.Outcome State Fault Refusal :=
  onVec s core ((List.range 7).any (fun i => decide (k = 2 ^ (i + 1))) && (List.range 7).any (fun i => decide (j = 2 ^ i)) && decide (j < k)) [reg.src] [reg.src] none reg.ecc
    (fun t => t.vreg! core reg.src (vpack 128 (cxStage k j (velems (t.vreg core reg.src) 128))))
/-- C_MERGE (R262): a sorted block against the reversed resident set; the flipped bits are those of a word of the first source. -/
def execCMerge (core vd va : Nat) (vb : SramRead) (s : State) : Host.Outcome State Fault Refusal :=
  onVec s core true [va, vb.src] [vd] none vb.ecc (fun t => t.vreg! core vd (vpack 128 (mergeStage (velems (t.vreg core va) 128) (velems (t.vreg core vb.src) 128))))

/-! ### Scratch -/

/-- The scratch bytes that a move, a put or a GET of the task may still be writing (R249): offset and length. What a put that is arriving will write beyond
the bytes that are in is not known here, so it may be as long as an operation can be. -/
def State.openRanges (s : State) (k : Task) : List (Nat × Nat) :=
  k.moves.filterMap (fun id => (Tbl.find id s.ferry.moves).bind (fun m =>
      let d : FDesc := ⟨m.desc⟩
      if d.op = 1 ∧ m.status = 0 ∧ d.dstKind = 0 then some (d.dst, d.len) else none))
    ++ k.puts.map (fun p => (p.2, 2 ^ 20))
    ++ k.ops.filterMap (fun id => (Tbl.find id s.trib.ops).bind (fun o => if o.op = 2 then some (o.localAt, o.len) else none))

/-- An access lies in the task's scratch; whole lines for vectors (R260). -/
def scratchOk (k : Task) (off n : Nat) : Bool := decide (off + n ≤ k.scratchBytes)

/-- A load from scratch: segments of another composition read as zeros (R246), and each byte that is still being written as a free value (R249); also what
the read met: a line that was uncorrectable still is. -/
def State.loadScratch (s : State) (core : Nat) (k : Task) (addr n : Nat) (ecc : List Nat) : Nat × EccOutcome × State :=
  let s1 := s.touchSegs core k.comp addr n
  let open_ := (s1.openRanges k).filter (fun r => decide (r.1 < addr + n) && decide (addr < r.1 + r.2))
  let bs := s1.coreScratch core k.comp addr n
  let e := if linesMeet (s1.core core).badLines addr n then .uncorrectable else bitOutcome false ecc
  let r : Nat × State := if open_ = [] then (leNat bs, s1) else
    let f := s1.free
    let fb := le n f.1
    (leNat ((List.range n).map (fun i => if open_.any (fun r => decide (r.1 ≤ addr + i) && decide (addr + i < r.1 + r.2)) then fb.getD i 0 else bs.getD i 0)), f.2)
  (r.1, e, if bitOutcome false ecc = .uncorrectable then r.2.core! core (fun c => { c with badLines := c.badLines ++ [addr / 64] }) else r.2)

/-- LD_V (R259, R260): a register of 2 KiB. -/
def execLdV (core vd : Nat) (addr : SramRead) (s : State) : Host.Outcome State Fault Refusal :=
  onRegs s core (decide (vd < 32) && decide (addr.src % 64 = 0)) [] (fun _ k =>
    if !scratchOk k addr.src 2048 then s.taskFault core 0x02 addr.src
    else
      let r := s.loadScratch core k addr.src 2048 addr.ecc
      let s1 := (r.2.2.rilCount core 3 2048).vreg! core vd r.1
      ((if r.2.1 = .uncorrectable then s1.poison! core vd else s1).pcNext core).eccNote core k 0 r.2.1)

/-- ST_V (R259, R260): an uncorrectable word of the register is stored as one. -/
def execStV (core : Nat) (vs : SramRead) (addr : Nat) (s : State) : Host.Outcome State Fault Refusal :=
  onRegs s core (decide (vs.src < 32) && decide (addr % 64 = 0)) [vs.src] (fun _ k =>
    if !scratchOk k addr 2048 then s.taskFault core 0x02 addr
    else
      let e := s.regEcc core [vs.src] vs.ecc
      let s1 := s.core! core (fun c => Core.scratchWrite c k.comp addr (le 2048 (s.vreg core vs.src)))
      let s2 := if e = .uncorrectable then (s1.badReg! core vs.src).core! core (fun c => { c with badLines := c.badLines ++ (List.range 32).map (fun i => addr / 64 + i) }) else s1
      ((s2.rilCount core 3 2048).pcNext core).eccNote core k 6 e)

/-- LD_S (R259, R260): 8 bytes of one line into a scalar register. -/
def execLdS (core xd : Nat) (addr : SramRead) (s : State) : Host.Outcome State Fault Refusal :=
  onRegs s core (decide (xd < 64) && decide (addr.src % 8 = 0)) [] (fun _ k =>
    if !scratchOk k addr.src 8 then s.taskFault core 0x02 addr.src
    else
      let r := s.loadScratch core k addr.src 8 addr.ecc
      let s1 := (r.2.2.rilCount core 3 64).xreg! core xd r.1
      ((if r.2.1 = .uncorrectable then s1.poison! core (32 + xd) else s1).pcNext core).eccNote core k 0 r.2.1)

/-! ### Kernels -/

/-- The image of KERNEL_LOAD keeps Table RIL-5, and the SDK's structural check (log 3). -/
def kernelImageOk (img : List Byte) : Bool :=
  let f (o n : Nat) : Nat := natAt img o n
  decide (64 ≤ img.length) && decide (f 0 4 = 0x534B524E) && decide (f 4 2 ≤ 1) && decide (f 6 2 ≤ 64) && decide (8 ≤ f 8 4) && decide (f 8 4 ≤ 65536)
    && decide (f 8 4 % 8 = 0) && decide (f 0x0C 4 % 8 = 0) && decide (f 0x0C 4 < f 8 4) && decide (f 0x10 4 ≤ 2 ^ 21) && decide (f 0x10 4 % 65536 = 0)
    && decide (1 ≤ f 0x14 2) && decide (f 0x14 2 ≤ 64) && decide (f 0x18 8 = 0) && decide (64 + f 8 4 ≤ img.length)
    && Config.codeOk ((img.drop 64).take (f 8 4))

/-- Index and generation of the next kernel handle (R266): the least index that is free and whose handle may be issued. -/
def State.kernelSlot (s : State) : Option (Nat × Nat) :=
  ((List.range 65536).find? (fun i =>
    let g := Tbl.getD i 0 s.slc.kernelGens
    !Tbl.has i s.slc.kernels && decide (g * 65536 + i ≠ 0) && decide (g * 65536 + i ≠ 0xFFFFFFFF))).map (fun i => (i, Tbl.getD i 0 s.slc.kernelGens))

/-- KERNEL_LOAD (R265 to R267). -/
def execKernelLoad (mb : Nat) (dma : HostRead) (s : State) : Host.Outcome State Fault Refusal :=
  onMsg s mb 0x0509 (fun m t =>
    let mine := (t.slc.kernels.filter (fun k => decide (k.2.comp = m.comp))).length
    if m.p 0 8 ≠ 0 then t.refuse m rField
    else if 256 ≤ mine ∨ 4096 ≤ t.slc.kernels.length then t.refuse m rTableFull
    else match dma with
      | none => t.reply m stInternal (reasonHdr 0)
      | some bytes =>
        let img := bytes.take (m.p 0x10 8)
        if !kernelImageOk img then t.refuse m rImage
        else match t.kernelSlot with
          | none => t.refuse m rTableFull
          | some (i, g) =>
            (t.slc! (fun x => { x with kernels := Tbl.put i ⟨m.comp, g, img.take (64 + natAt img 8 4), none⟩ x.kernels })).done m
              (le 4 (g * 65536 + i) ++ le 4 0))

/-- KERNEL_DROP (R267, R268). -/
def execKernelDrop (mb : Nat) (s : State) : Host.Outcome State Fault Refusal :=
  onMsg s mb 0x050A (fun m t =>
    match t.kernel m.comp (m.p 0 4) with
    | none => t.refuse m rUnknown
    | some _ =>
      if m.p 4 4 ≠ 0 then t.refuse m rField
      else (t.slc! (fun x => { x with kernels := Tbl.upd (m.p 0 4 % 65536) (fun k => { k with dropMsg := some m }) x.kernels })).freeKernels)

end Sys2Proof.Machine
end

