-- ==== Sys2Proof/Machine/Millrace.lean ====
section
/-! DEFINITION. The Millrace cells and the vendor commands of their base dies (chapter 09). -/

namespace Sys2Proof

/-- Both copies of a plane agree on a slot (R292, R293). -/
def Coll.twinOk (c : Coll) (plane slot : Nat) : Bool :=
  match Tbl.find plane c.planes with
  | none => true
  | some p => decide (p.primary.contains slot = p.twin.contains slot)

/-- A slot lies in a bank group: its reach's codes do. -/
def Coll.slotIn (c : Coll) (cell slot : Nat) : Bool :=
  match (Tbl.find slot c.slots).bind (fun z => Tbl.find z.reach c.reaches) with
  | some r => decide (r.cell = cell)
  | none => false

/-- Both copies of a row of a plane in a bank group agree: 8,192 slots in slot order (R291, R292, R293). -/
def Coll.rowOk (c : Coll) (cell plane row : Nat) : Bool :=
  match Tbl.find plane c.planes with
  | none => true
  | some p => (dedup ((p.primary ++ p.twin).filter (fun i => decide (i / 8192 = row) && c.slotIn cell i))).all (fun i => c.twinOk plane i)

/-- A row of a plane as its 8,192 bits. -/
def planeWord (ones : List Nat) (row : Nat) : Nat := (ones.filter (fun i => decide (i / 8192 = row))).foldl (fun w i => Nat.lor w (2 ^ (i % 8192))) 0

/-- The rows of planes that some slots lie in. -/
def planeRows (slots : List Nat) : List Nat := dedup (slots.map (fun i => i / 8192))

/-- The mask sources beyond every plane: epoch strip and reach header. -/
abbrev stripSource : Nat := 2 + 64 * 2 ^ 48

/-- A mask source is the plane of a bitmap. -/
def isFilterPlane (p : Nat) : Bool := decide (2 ≤ p) && decide (p < stripSource)

/-- The plane that a cell reads for a bitmap at an epoch (R296). -/
def Coll.planeOf (c : Coll) (bitmap e : Nat) : Option Nat := ((Tbl.find bitmap c.bitmaps).bind (fun b => b.genAt e)).map (fun g => filterPlane bitmap g.epoch)

/-- The planes that a lane with this filter reads. -/
def Coll.planesOf (c : Coll) (filter : List Byte) (e : Nat) : List Nat :=
  (filterSteps filter).filterMap (fun st => if natAt st 0 1 = 1 then c.planeOf (natAt st 1 1) e else none)

/-- Visibility of a slot in a reach issue (R294): the tombstone plane on the fast path, the epoch strip on the slow path. -/
def Coll.cellSees (c : Coll) (reach e slot : Nat) : Bool :=
  match Tbl.find reach c.reaches with
  | none => false
  | some r => if r.lastChange ≤ e then c.planeBit tombPlane slot else let x := c.stripAt slot; decide (x.1 ≤ e) && decide (e < x.2)

/-- Bytes that a cell reads for a row (R273): code, side record, and the strip entry on the slow path. -/
def Coll.rowBytes (c : Coll) (reach e : Nat) (z : Slot) : Nat :=
  let slow : Bool := match Tbl.find reach c.reaches with | some r => decide (e < r.lastChange) | none => false
  z.code.length + z.side.length + (if slow then 16 else 0)

/-- What a lane makes of an admitted row (R283, R286): a record, or the lane with the row in its tally. -/
def laneRow (c : Coll) (q : Query) (aggExp : Bool) (l slot : Nat) (z : Slot) (ln : Lane) : Lane × List CellRec :=
  let damaged := c.planeBit damagedPlane slot
  if z.codeLost then (ln, [.cand l slot f32NegInf f32Inf false true damaged])
  else
    let i := c.interval q z
    if ln.key ≤ sortKey i.2.1 then (ln, [.cand l slot i.1 i.2.1 i.2.2 false damaged])
    else if damaged then (ln, [])
    else ({ ln with bound := ln.bound.add (termBound aggExp 1 i.1 i.2.1), dropped := ln.dropped + 1 }, [])

/-- The issue in work goes on to its next row. -/
def nextRow (i : Issue) (rest : List Nat) : List Issue → List Issue
  | [] => []
  | h :: m => if h.reach = i.reach ∧ h.coll = i.coll then { h with rest := rest } :: m else h :: m

/-- A cell has work for a bundle: a row operation or a reach issue. -/
def Cell.busy (c : Cell) : Bool := decide (c.issues ≠ []) || decide (c.ops ≠ [])

/-- Waits for a token: work to do, none held, the queue not waited for. -/
def Cell.settled (c : Cell) : Cell :=
  let c1 := if c.draining ∧ c.queue.length < 512 then { c with draining := false } else c
  { c1 with waiting := !c1.fenced && !c1.token && !c1.draining && c1.busy }

/-- A lane holds the codes that an issue of a width, or of every width, needs (R278). -/
def LaneCodes.serve (c : LaneCodes) (width : Option Nat) : Bool := match c, width with
  | .all, none => true
  | .width w, some v => decide (w = v)
  | _, _ => false

/-- The lane of a record. -/
def CellRec.lane : CellRec → Option Nat
  | .cand l _ _ _ _ _ _ => some l
  | .tally l _ _ _ => some l
  | .gone => none

/-- A record as its 16 bytes (R285, Table MRC-3). AGG_OVERFLOW of a tally is set by an end that is not finite. -/
def CellRec.bytes : CellRec → List Byte
  | .cand l slot lo hi fin lost dam => le 3 (b2n dam + 2 * b2n lost + 4 * b2n fin + 2 ^ 16 * l) ++ le 5 slot ++ le 4 lo.toNat ++ le 4 hi.toNat
  | .tally l _ b n => le 3 (n % 2 ^ 15 + 2 ^ 16 * l + 2 ^ 21 * b2n (!ffinite b.lo || !ffinite b.hi) + 2 ^ 22) ++ le 1 0
      ++ le 4 (b.e % 2 ^ 32).toNat ++ le 4 b.lo.toNat ++ le 4 b.hi.toNat
  | .gone => zeros 16

/-- The rows of one bank: 91,552 (Table MRC-1). -/
abbrev bankRows : Nat := 91552
/-- The rows of one bank group. -/
abbrev groupRows : Nat := 4 * bankRows
/-- The twin of a row of a bank group: bank n XOR 2 (R292). -/
def twinRow (n : Nat) : Nat := (n / bankRows + 2) % 4 * bankRows + n % bankRows

/-- The row of a bank group that holds row `row` of a plane of a collection (R291, R292): all planes of the collection and the work rows lie, for one `row`, in
one subarray of one bank; the twin is `twinRow` of it. Which subarray is Ferry's placement: free (log 124). -/
def planePlace (coll cell row index : Nat) : Nat :=
  let sub := Config.planeSub coll cell row % 716
  sub / 179 * bankRows + sub % 179 * 512 + index % 416

/-- Operation, destination, sources and activations of a row operation (Table MRC-5). -/
def RowOp.parts : RowOp → Nat × List Nat × Nat
  | .copy d a => (d, [a], 2)
  | .not d a => (d, [a], 2)
  | .and d a b => (d, [a, b], 3)
  | .or d a b => (d, [a, b], 3)
  | .xor d a b => (d, [a, b], 5)

/-- The result of a row operation on 8,192-bit rows. -/
def RowOp.eval (o : RowOp) (x y : Nat) : Nat :=
  match o with
  | .copy _ _ => x
  | .not _ _ => 2 ^ 8192 - 1 - x
  | .and _ _ _ => Nat.land x y
  | .or _ _ _ => Nat.lor x y
  | .xor _ _ _ => Nat.xor x y

/-- Evaluates a filter program by row operations over rows of planes (R296): `row b` is the row of bitmap `b`. -/
def filterRow (row : Nat → Nat) : List (List Byte) → List Nat → Nat
  | [], [w] => w
  | [], _ => 0
  | st :: rest, stack =>
    match natAt st 0 1, stack with
    | 1, l => filterRow row rest (row (natAt st 1 1) :: l)
    | 2, a :: b :: l => filterRow row rest ((RowOp.and 0 0 0).eval b a :: l)
    | 3, a :: b :: l => filterRow row rest ((RowOp.or 0 0 0).eval b a :: l)
    | 4, a :: b :: l => filterRow row rest ((RowOp.xor 0 0 0).eval b a :: l)
    | 5, a :: l => filterRow row rest ((RowOp.not 0 0).eval a 0 :: l)
    | _, _ => 0

/-- The row operations and activations of a filter program on one copy (Table MRC-5); a program of one PUSH is one COPY into the work row. -/
def filterCost (steps : List (List Byte)) : Nat × Nat :=
  let r := steps.foldl (fun (acc : Nat × Nat) st => match natAt st 0 1 with
    | 2 => (acc.1 + 1, acc.2 + 3)
    | 3 => (acc.1 + 1, acc.2 + 3)
    | 4 => (acc.1 + 1, acc.2 + 5)
    | 5 => (acc.1 + 1, acc.2 + 2)
    | _ => acc) (0, 0)
  if r.1 = 0 then (1, 2) else r

/-- The filter result that an issue holds for a program and a plane row. -/
def Issue.workRow (i : Issue) (prog : List Byte) (row : Nat) : Option WorkRow := i.work.find? (fun w => decide (w.prog = prog) && decide (w.row = row))

end Sys2Proof

namespace Sys2Proof.Machine

/-- A cell. -/
def State.cell (s : State) (n : Nat) : Cell := Tbl.getD n Cell.reset s.mrc.cells

/-- Counts at a Millrace stack (Table MRC-9). -/
def State.mrcCount (s : State) (cell i n : Nat) : State := s.count (Reg.MRC_CNT0 + 0x40 * (cell / 128)) i n

/-- The unit of a cell. -/
def cellUnit (n : Nat) : Nat := unitOf (2 + n / 128) (n % 128)
/-- The unit of a cell's channel. -/
def chanUnit (n : Nat) : Nat := unitOf (2 + n / 128) (0x80 + n % 128 / 4)

/-- A vendor command's cell exists. -/
def onCell (cell : Nat) (s : State) : Host.Outcome State Fault Refusal := onUnit (decide (cell < 512)) s

/-! ### Loading and issuing -/

/-- CELL_PROG (R272, Table MRC-8): during start-up only, up to 64 beats. -/
def execCellProg (cell off : Nat) (bytes : List Byte) (s : State) : Host.Outcome State Fault Refusal :=
  onCell cell (
    if s.host.nodeState ≠ .boot ∨ 2048 < bytes.length ∨ 65536 < off + bytes.length then s
    else s.cell! cell (fun c => { c with program :=
      (c.program ++ zeros (off - c.program.length)).take off ++ bytes ++ c.program.drop (off + bytes.length) }))

/-- The queries of a lane's group that are live on this node. -/
def QBatch_groupLive (qb : QBatch) (q : Nat) : List Query := (groupOf32 qb.queries.length q).filterMap (fun i => (qb.queries[i]?).filter (·.live))

/-- The item of a reach in a query's sweep list that is still to be issued. -/
def Query_needs (q : Query) (reach : Nat) : Option SweepItem :=
  q.sweep.find? (fun w => decide (w.reach = reach) && !w.issued && !w.skipped && !w.finished)

/-- The codes that QLOAD brings to a lane (R277, R278): every width, or where they do not fit, those of the width in which the query is issued next in this
bank group. -/
def State.loadCodes (s : State) (cell b : Nat) (q : Query) : LaneCodes :=
  match s.qbatch b with
  | none => .all
  | some qb => match s.qcoll qb.coll with
    | none => .all
    | some c =>
      if c.desc.codeFmt ≠ 4 ∨ c.desc.dn ≤ 2340 then .all
      else match ((nextReach c [q] cell).bind (Query_needs q)).bind (fun w => w.widths.head?) with
        | some w => .width w
        | none => .spent

/-- QLOAD (R277): a query's codes, constants and threshold key enter a lane that no issue uses and no record waits for. -/
def execQload (cell lane batch query : Nat) (s : State) : Host.Outcome State Fault Refusal :=
  onCell cell (match s.query batch query with
    | none => s
    | some q =>
      let c := s.cell cell
      let used := c.issues.any (fun i => i.lanes.contains lane) || c.queue.any (fun r => decide (r.lane = some lane))
      if 32 ≤ lane ∨ used ∨ !q.live ∨ !q.started ∨ !s.runs batch then s
      else s.cell! cell (fun c => { c with lanes := Tbl.put lane ⟨batch, query, q.theta, BoundPart.empty, 0, s.loadCodes cell batch q⟩ c.lanes }))

/-- The rows that a lane's mask leaves out when a reach is issued (R604): those of the reach that a cell has already delivered to its query. -/
def maskedOf (c : Coll) (q : Query) (reach : Nat) : List Nat :=
  (q.cands.filter (fun x => x.drained && (match Tbl.find x.slot c.slots with | some z => decide (z.reach = reach) | none => false))).map (·.slot)

/-- Sounding has re-scored a row for a query: its score is in the aggregate, and no tally counts it again (R156, log 121). -/
def Query_scored (q : Query) (slot : Nat) : Bool := q.cands.any (fun x => decide (x.slot = slot) && x.rescored)

/-- Rill cores score a reach of a fenced cell (R305); for a failed stack every row is a CODE_LOST candidate (R605). -/
def State.rillScan (s : State) (b q : Nat) (c : Coll) (reach : Nat) (width : Option Nat) (stackDown : Bool) : State :=
  match s.qbatch b, s.query b q with
  | some qb, some y =>
    let masked := maskedOf c y reach
    let slots := (c.slotsOf reach).filter (fun z => c.inUniverse y qb.readEpoch z.1 z.2 && !masked.contains z.1 && !Query_scored y z.1 && (match width with | some w => decide (z.2.width = w) | none => true))
    let r := slots.foldl (fun (acc : Query × Lane) z =>
      let zs : Slot := if stackDown then { z.2 with codeLost := true } else z.2
      let x := laneRow c acc.1 qb.aggExp 0 z.1 zs acc.2
      match x.2 with
      | .cand _ slot lo hi fin lost _ :: _ => (acc.1.addCand qb.aggExp ⟨slot, zs.rowId, lo, hi, fin, zs.damaged, lost, true, false, false⟩, x.1)
      | _ => (acc.1, x.1)) (y, ⟨b, q, y.theta, BoundPart.empty, 0, .all⟩)
    ((s.query! b q (fun _ => r.1)).takeTally b q reach r.2.bound r.2.dropped).rethreshold b q
  | _, _ => s

/-- The lanes of a cell that a REACH_ISSUE with this mask can serve: those of the first lane's group of 32 queries whose query lives and needs the reach. -/
def issueLanes (x : Cell) (qb : QBatch) (first : Lane) (reach mask : Nat) : List (Nat × Lane) :=
  x.lanes.filter (fun l => bit mask l.1 && decide (l.2.batch = first.batch) && decide (l.2.query / 32 = first.query / 32)
    && (match qb.queries[l.2.query]? with | some q => q.live && !q.stopped && (Query_needs q reach).isSome | none => false))

/-- The width of codes that a lane's query needs next in a reach (R278). -/
def issueWidth (qb : QBatch) (reach : Nat) (l : Lane) : Option Nat :=
  ((qb.queries[l.query]?).bind (fun q => Query_needs q reach)).bind (fun w => w.widths.head?)

/-- Of those lanes, the ones that need this width and hold codes that serve it. -/
def issueUse (x : Cell) (qb : QBatch) (first : Lane) (reach mask : Nat) (width : Option Nat) : List (Nat × Lane) :=
  (issueLanes x qb first reach mask).filter (fun l => decide (issueWidth qb reach l.2 = width) && l.2.codes.serve width)

/-- REACH_ISSUE (R83, R279): the bank group's next reach in sweep order, for the lanes of one batch that still need it and are not held by CAND_LIMIT. -/
def execReachIssue (cell coll reach mask readEpoch : Nat) (s : State) : Host.Outcome State Fault Refusal :=
  onCell cell (
    let x := s.cell cell
    match s.qcoll coll, (x.lanes.filter (fun l => bit mask l.1)).head? with
    | some c, some (_, first) => (match s.qbatch first.batch with
      | none => s
      | some qb =>
        let group := QBatch_groupLive qb first.query
        let ready := group.all (fun q => q.started && q.walk.isNone)
        match issueLanes x qb first reach mask with
        | [] => s
        | l0 :: _ =>
          let width := issueWidth qb reach l0.2
          let use := issueUse x qb first reach mask width
          if use = [] ∨ qb.coll ≠ coll ∨ qb.readEpoch ≠ readEpoch ∨ !s.runs first.batch ∨ !ready ∨ nextReach c group cell ≠ some reach then s
          else
            let s1 := use.foldl (fun t l => t.query! first.batch l.2.query (fun q => { q with
              sweep := q.sweep.map (fun w => if w.reach = reach then { w with issued := true } else w) })) (s.count Reg.SND_CNT0 2 1)
            let down := !s.stackUp 2 (cell / 128)
            if x.fenced ∨ down then (use.foldl (fun t l => t.rillScan first.batch l.2.query c reach width down) s1).cell! cell (fun y => { y with
              lanes := y.lanes.map (fun l => (l.1, if width.isSome ∧ use.any (fun u => decide (u.1 = l.1)) then { l.2 with codes := .spent } else l.2)) })
            else
              let rest := ((c.slotsOf reach).filter (fun z => match width with | some w => decide (z.2.width = w) | none => true)).map (·.1)
              let masked := use.map (fun l => (l.1, match qb.queries[l.2.query]? with | some q => maskedOf c q reach | none => []))
              s1.cell! cell (fun y => ({ y with issues := y.issues ++ [⟨coll, reach, readEpoch, use.map (·.1), rest, width, masked, [], none, 0⟩] } : Cell).settled))
    | _, _ => s)

/-- THETA_PUSH (R282): a lower key is ignored; what Sounding pushes never exceeds the query's current θ (R84). -/
def execThetaPush (cell lane key : Nat) (s : State) : Host.Outcome State Fault Refusal :=
  let most (l : Lane) : Nat := match s.query l.batch l.query with | some y => y.theta | none => 0
  onCell cell (s.cell! cell (fun c => { c with lanes := Tbl.upd lane (fun l => { l with key := Nat.max l.key (Nat.min (key % 2 ^ 32) (most l)) }) c.lanes }))

/-! ### Tokens and bundles -/

/-- Cells of a stack that hold a token. -/
def State.tokens (s : State) (stack : Nat) : Nat := ((s.stackCells stack).filter (fun c => c.2.token)).length

/-- TOKEN_GRANT (R302, R303): the next waiting cell in round-robin order, while fewer than EFFECTIVE tokens are held; the stack's boundary of QUOTA. -/
def execTokenGrant (stack : Nat) (s : State) : Host.Outcome State Fault Refusal :=
  onUnit (decide (stack < 4)) (
    let s1 := s.boundary (Reg.MRC_QUOTA0 + 8 * stack) 0 8 stack
    if s1.effective stack ≤ s1.tokens stack then s
    else
      let last := match s1.mrc.hbmStacks[stack]? with | some y => y.lastGrant | none => 127
      let order := (List.range 128).map (fun i => (last + 1 + i) % 128)
      match order.find? (fun i => (s1.cell (128 * stack + i)).waiting) with
      | none => s
      | some i => (s1.cell! (128 * stack + i) (fun c => { c with token := true, waiting := false })).mrc! (fun x => { x with
          hbmStacks := updAt x.hbmStacks stack (fun y => { y with lastGrant := i }) }))

/-- BUNDLE_START (R274, R300): with a token, no ordinary access queued, and the output queue drained; the cell's boundary of MRC_CFG. -/
def execBundleStart (cell : Nat) (s : State) : Host.Outcome State Fault Refusal :=
  onCell cell (
    let c := s.cell cell
    if !c.token ∨ c.bundle.isSome ∨ c.ordinary ≠ [] ∨ c.fenced ∨ c.draining then s
    else (((s.boundary Reg.MRC_CFG 0 8 cell).boundary Reg.MRC_CFG 16 16 cell).cell! cell (fun c => { c with bundle := some s.now })))

/-- Of some planes, or the strip, those whose rows cannot be used: both copies differ in a row that the cell reads, or a read failed (R293). -/
def badMasks (c : Coll) (cell : Nat) (planes rows : List Nat) (faults : List RowFault) : List Nat :=
  planes.filter (fun p => rows.any (fun r => !c.rowOk cell p r) || faults.contains (.mask p))

/-- A lane's query. -/
def State.laneQuery (s : State) (ln : Lane) : Option (QBatch × Query) := match s.qbatch ln.batch, s.query ln.batch ln.query with
  | some qb, some q => some (qb, q)
  | _, _ => none

/-- The lanes of an issue with their queries. -/
def State.issueLanes (s : State) (x : Cell) (i : Issue) : List (Nat × Query) :=
  i.lanes.filterMap (fun l => ((Tbl.find l x.lanes).bind s.laneQuery).map (fun r => (l, r.2)))

/-- A MASK_MISMATCH (R293): logged and counted; the issue is abandoned for the lanes that the source serves, and Lock rewrites it from Basin. -/
def State.maskMismatch (s : State) (cell : Nat) (i : Issue) (planes : List Nat) : State :=
  match s.qcoll i.coll with
  | none => s
  | some c =>
    let hit (q : Nat × Query) : Bool := planes.any (fun p => !isFilterPlane p || (c.planesOf q.2.filter i.readEpoch).contains p)
    let s1 := ((s.mrcCount cell 7 1).logC (cellUnit cell) 0x0011 c.comp 0x3FF 0 0).abandon cell i (((s.issueLanes (s.cell cell) i).filter hit).map (·.1))
    planes.foldl (fun t p => t.coll! i.coll (fun c => if p < stripSource then c.rewritePlane p else c.rewriteStrip)) s1

/-- An uncorrectable code or side record (R286, R521): the codeword's record, then CODE_LOST once for the row; the row waits for its rewrite. An attention
object is poisoned (R237). -/
def State.codeLostAt (s : State) (cell : Nat) (i : Issue) (slot : Nat) (batch : Option Nat) : State :=
  match (s.qcoll i.coll).bind (fun c => (Tbl.find slot c.slots).map (fun z => (c, z))) with
  | none => s
  | some (c, z) =>
    if z.codeLost then s
    else if attBase ≤ i.coll then s.poisonObj (i.coll - attBase)
    else ((s.coll! i.coll (fun c => c.slot! slot (fun z => { z with codeLost := true }))).memRaise (chanUnit cell) 0x0002 .d 3 1 c.id slot c.comp 0x3FF batch stTorn).logC
      (cellUnit cell) 0x0010 c.comp 0x3FF 0 0

/-- A reach issue ends: one tally for each lane, whose bound part is cleared (R284). -/
def State.endIssue (s : State) (cell : Nat) (i : Issue) : State :=
  s.cell! cell (fun c => { c with
    queue := c.queue ++ i.lanes.filterMap (fun l => (Tbl.find l c.lanes).map (fun ln => CellRec.tally l i.reach ln.bound ln.dropped))
    lanes := c.lanes.map (fun l => (l.1, if i.lanes.contains l.1 then { l.2 with
      bound := BoundPart.empty, dropped := 0, codes := if i.width.isSome then .spent else l.2.codes } else l.2))
    issues := c.issues.drop 1 })

/-- Updates the issue in work. -/
def State.issue! (s : State) (cell : Nat) (f : Issue → Issue) : State := s.cell! cell (fun x => { x with issues := updAt x.issues 0 f })

/-- The filter programs and plane rows of an issue whose results are still to be formed (R296): each program once for all lanes that share it. -/
def State.filterDue (s : State) (x : Cell) (i : Issue) : Option (List Byte × Nat) :=
  let progs := (s.issueLanes x i).foldl (fun (acc : List (List Byte)) q =>
    if filterSteps q.2.filter = [] ∨ acc.contains q.2.filter then acc else acc ++ [q.2.filter]) []
  (progs.flatMap (fun f => (planeRows i.rest).map (fun r => (f, r)))).find? (fun p => (i.workRow p.1 p.2).isNone)

/-- A filter program is evaluated over one plane row of the generation current at the read epoch, on both copies, into a work row (R296). -/
def State.formFilter (s : State) (cell : Nat) (c : Coll) (i : Issue) (prog : List Byte) (row : Nat) : State :=
  let word (side : Plane → List Nat) (b : Nat) : Nat := match (c.planeOf b i.readEpoch).bind (fun p => Tbl.find p c.planes) with
    | some p => planeWord (side p) row
    | none => 0
  let w : WorkRow := ⟨prog, row, filterRow (word (·.primary)) (filterSteps prog) [], filterRow (word (·.twin)) (filterSteps prog) []⟩
  s.issue! cell (fun y => { y with work := y.work ++ [w] })

/-- The planes that an issue reads for visibility and damage: the damaged plane, and the tombstone plane on the fast path (R294, R296). -/
def Coll_issuePlanes (c : Coll) (i : Issue) : List Nat :=
  match Tbl.find i.reach c.reaches with
  | some r => if r.lastChange ≤ i.readEpoch then [tombPlane, damagedPlane] else [damagedPlane]
  | none => [damagedPlane]

/-- Activations that forming an issue's masks takes: the reach header, both copies of each plane row, and on the slow path the strip's rows of 64 entries. -/
def Coll_maskActs (c : Coll) (i : Issue) : Nat :=
  1 + 2 * (Coll_issuePlanes c i).length * (planeRows i.rest).length + (if (Coll_issuePlanes c i).length = 1 then cdiv i.rest.length 64 else 0)

/-- The masks of an issue (R279, R294, R296): for each lane the slots that are visible, lie below the token limit and pass the filter. -/
def State.formMasks (s : State) (cell : Nat) (c : Coll) (i : Issue) : State :=
  let seen := i.rest.filter (fun slot => c.cellSees i.reach i.readEpoch slot)
  let m := (s.issueLanes (s.cell cell) i).map (fun q => (q.1, seen.filter (fun slot => decide (slot < q.2.limit)
    && (decide (filterSteps q.2.filter = []) || (match i.workRow q.2.filter (slot / 8192) with | some w => w.primary.testBit (slot % 8192) | none => false)))))
  s.issue! cell (fun y => { y with mask := some m })

/-- One row of the issue in work (R279, R283): scored for every lane that admits it. Gives whether the bundle goes on: it ends where the output queue has
no room for the records of the next row (R275). -/
def State.scanRow (s : State) (cell : Nat) (faults : List RowFault) : State × Bool :=
  let x := s.cell cell
  match x.issues with
  | [] => (s, false)
  | i :: _ =>
    match i.rest, s.qcoll i.coll with
    | slot :: rest, some _ =>
      if 1024 < x.queue.length + (if rest = [] then 2 else 1) * i.lanes.length then (s.cell! cell (fun c => { c with draining := true }), false)
      else
        let batch := (Tbl.find (i.lanes.headD 0) x.lanes).map (·.batch)
        let s1 := if faults.contains (.code slot) then s.codeLostAt cell i slot batch else s
        match s1.qcoll i.coll, s1.qcoll i.coll |>.bind (fun c => Tbl.find slot c.slots) with
        | some c, some z =>
          if z.state = .free then (s1.cell! cell (fun y => { y with issues := nextRow i rest y.issues }), true)
          else
            let r := i.lanes.foldl (fun (acc : Tbl Lane × List CellRec × Nat) l =>
              match (Tbl.find l acc.1).bind (fun ln => (s1.laneQuery ln).map (fun q => (ln, q))) with
              | none => acc
              | some (ln, qb, q) =>
                let inMask := ((i.mask.getD []).find? (fun m => decide (m.1 = l))).any (fun m => m.2.contains slot)
                let masked := (i.masked.find? (fun m => decide (m.1 = l))).any (fun m => m.2.contains slot)
                if inMask ∧ !masked ∧ !Query_scored q slot then
                  let v := laneRow c q qb.aggExp l slot z ln
                  (Tbl.put l v.1 acc.1, acc.2.1 ++ v.2, acc.2.2 + 1)
                else acc) ((s1.cell cell).lanes, [], 0)
            let s2 := s1.cell! cell (fun y => { y with lanes := r.1, queue := y.queue ++ r.2.1, issues := nextRow i rest y.issues })
            ((s2.mrcCount cell 2 r.2.2).mrcCount cell 3 r.2.1.length, !(s2.cell cell).fenced && decide ((s2.cell cell).issues ≠ []))
        | _, _ => (s1, false)
    | _, _ => (s, false)

/-- Up to `n` rows of one issue. -/
def State.scanRows (s : State) (cell : Nat) (faults : List RowFault) : Nat → State
  | 0 => s
  | n + 1 =>
    let r := s.scanRow cell faults
    if r.2 then r.1.scanRows cell faults n else r.1

/-- A class change takes effect, in the base die's table and then in the controller's copy (R289): rows that become DATA hold zeros and valid check bytes; rows that become SCRATCH hold undefined contents. -/
def State.setClass (s : State) (block : Nat) (scratch : Bool) : State :=
  let keep := s.mrc.rows.filter (fun r => decide (r.1 / 16 ≠ block))
  if !scratch then s.mrc! (fun x => { x with scratch := x.scratch.filter (fun y => decide (y ≠ block)), ctrl := x.ctrl.filter (fun y => decide (y ≠ block)), rows := keep })
  else
    let r := (List.range 16).foldl (fun (acc : Tbl Nat × State) i =>
      let w := (List.range 128).foldl (fun (a : Nat × State) _ => let f := a.2.free; (a.1 * 2 ^ 64 + f.1 % 2 ^ 64, f.2)) (0, acc.2)
      (Tbl.put (16 * block + i) w.1 acc.1, w.2)) (keep, s)
    r.2.mrc! (fun x => { x with scratch := setOne x.scratch block true, ctrl := setOne x.ctrl block true, rows := r.1 })

/-- Class changes that waited for a cell's bundle (R289). -/
def State.lateRct (s : State) (cell : Nat) : State :=
  let mine := s.mrc.pendingRct.filter (fun p => decide (p.1 / (groupRows / 16) = cell))
  mine.foldl (fun t p => t.setClass p.1 p.2) (s.mrc! (fun x => { x with pendingRct := x.pendingRct.filter (fun p => decide (p.1 / (groupRows / 16) ≠ cell)) }))

/-- BUNDLE_ACT and BUNDLE_NS as a cell acts on them. -/
def State.bundleLimits (s : State) (cell : Nat) : Nat × Nat := (inRange (s.fldFor Reg.MRC_CFG 0 8 cell) 1 64 64, inRange (s.fldFor Reg.MRC_CFG 16 16 cell) 200 1500 1500)

/-- A residue or parity mismatch, or an uncorrectable word of cell memory, found by a cell (R304): the cell is fenced. -/
def State.cellCheck (s : State) (cell : Nat) (faults : List RowFault) : Option State :=
  if faults.contains .check then some (s.raise (cellUnit cell) 0x0022 .u none 0xFF 0x3FF 0 0 0)
  else if faults.contains .sram then some (s.memRaise (cellUnit cell) 0x0006 .u 6 5 0 0 0xFF 0x3FF none 0)
  else none

/-! ### Draining -/

/-- A drained record goes to its lane's query. -/
def State.takeRecord (s : State) (lanes : Tbl Lane) (r : CellRec) : State :=
  match r with
  | .gone => s
  | .tally l reach bound dropped => (match Tbl.find l lanes with
    | some ln => s.takeTally ln.batch ln.query reach bound dropped
    | none => s)
  | .cand l slot lo hi fin lost damaged => (match Tbl.find l lanes with
    | none => s
    | some ln => match (s.qbatch ln.batch).bind (fun qb => (s.qcoll qb.coll).bind (fun c => Tbl.find slot c.slots)) with
      | none => s
      | some z => s.offerCand ln.batch ln.query ⟨slot, z.rowId, lo, hi, fin, damaged, lost, true, false, false⟩)

/-- Sounding has room for a record: CAND_LIMIT of its query leaves room for the row (R88, log 121). -/
def State.recordFits (s : State) (lanes : Tbl Lane) (r : CellRec) : Bool :=
  match r with
  | .cand l slot _ _ _ _ damaged => (match (Tbl.find l lanes).bind s.laneQuery with
    | none => true
    | some (qb, y) => damaged || (match (s.qcoll qb.coll).bind (fun c => Tbl.find slot c.slots) with
      | some z => Query_room y qb.candLimit z.rowId
      | none => true))
  | _ => true

/-- Takes records while they fit: how many, and the state. -/
def State.drain (s : State) (lanes : Tbl Lane) : List CellRec → Nat → Nat × State
  | [], n => (n, s)
  | r :: rest, n => if s.recordFits lanes r then (s.takeRecord lanes r).drain lanes rest (n + 1) else (n, s)

/-- The cell is the next of its channel in round-robin order whose queue holds records (R603). -/
def State.drainTurn (s : State) (cell : Nat) : Bool :=
  let base := cell / 4 * 4
  let last := match s.mrc.hbmStacks[cell / 128]? with | some y => Tbl.getD (cell % 128 / 4) 3 y.lastRead | none => 3
  ((List.range 4).map (fun i => base + (last + 1 + i) % 4)).find? (fun n => decide ((s.cell n).queue ≠ [])) = some cell

/-- OUT_READ (R285, R603, R604): four records of the channel's next cell; thresholds rise, and candidates and reaches below them go. -/
def execOutRead (cell : Nat) (s : State) : Host.Outcome State Fault Refusal :=
  onCell cell (
    let x := s.cell cell
    if !s.drainTurn cell then s
    else
      let d := s.drain x.lanes (x.queue.take 4) 0
      let out := x.queue.take d.1
      let s1 := (d.2.cell! cell (fun c => ({ c with queue := c.queue.drop d.1, beats := out.flatMap CellRec.bytes } : Cell).settled)).mrc! (fun y => { y with
        hbmStacks := updAt y.hbmStacks (cell / 128) (fun k => { k with lastRead := Tbl.put (cell % 128 / 4) (cell % 4) k.lastRead }) })
      (dedup (out.filterMap CellRec.lane)).foldl (fun t l => match Tbl.find l x.lanes with | some ln => t.rethreshold ln.batch ln.query | none => t) s1)

/-- CELL_HALT (Table MRC-8): the cell's work for the named lanes is abandoned, and the records queued for them are discarded on drain. -/
def execCellHalt (cell mask : Nat) (s : State) : Host.Outcome State Fault Refusal :=
  onCell cell (
    let x := s.cell cell
    let lanes := (Tbl.keys x.lanes).filter (fun l => bit mask l)
    let s1 := x.issues.foldl (fun t i => t.abandon cell i (i.lanes.filter (fun l => lanes.contains l))) s
    -- a reach whose tally is discarded is issued again
    let s2 := x.queue.foldl (fun t r => match r with
      | .tally l reach _ _ => (match Tbl.find l x.lanes with
        | some ln => if lanes.contains l then t.query! ln.batch ln.query (fun q => { q with
            sweep := q.sweep.map (fun w => if w.reach = reach ∧ !w.finished then { w with issued := false } else w) }) else t
        | none => t)
      | _ => t) s1
    s2.cell! cell (fun c => ({ c with
      lanes := c.lanes.filter (fun l => !lanes.contains l.1)
      queue := c.queue.map (fun r => match r with
        | .cand l _ _ _ _ _ _ => if lanes.contains l then .gone else r
        | .tally l _ _ _ => if lanes.contains l then .gone else r
        | .gone => r) } : Cell).settled))

/-- CELL_STATUS (Table MRC-8): one beat with the cell's state, queue occupancy and token; its layout is internal (log 124). -/
def execCellStatus (cell : Nat) (s : State) : Host.Outcome State Fault Refusal :=
  onCell cell (s.cell! cell (fun c => { c with
    beats := le 1 (if c.fenced then 2 else if c.bundle.isSome then 1 else 0) ++ le 2 c.queue.length ++ le 1 (b2n c.token) ++ zeros 28 }))

/-! ### Rows and planes -/

/-- A row of a bank group is SCRATCH. -/
def State.isScratch (s : State) (cell n : Nat) : Bool := s.mrc.scratch.contains ((cell * groupRows + n) / 16)

/-- The rows of a row operation lie in one subarray, and they and their twins are SCRATCH (R297, R298). -/
def State.rowLegal (s : State) (cell : Nat) (op : RowOp) : Bool :=
  let p := op.parts
  let sub (n : Nat) : Nat := n / bankRows * 179 + n % bankRows / 512
  (p.1 :: p.2.1).all (fun n => decide (n < groupRows) && decide (sub n = sub p.1) && s.isScratch cell n && s.isScratch cell (twinRow n))

/-- A row operation completes: on both copies, or with status CLASS, logged, when its rows do not allow it (R297, R298). -/
def State.rowDone (s : State) (cell : Nat) (op : RowOp) : State :=
  if !s.rowLegal cell op then (s.cell! cell (fun c => { c with opStatus := some .class_ })).logC (cellUnit cell) 0x0044 0xFF 0x3FF 0 0
  else
    let p := op.parts
    let key (n : Nat) : Nat := cell * groupRows + n
    let get (n : Nat) : Nat := Tbl.getD (key n) 0 s.mrc.rows
    let val (f : Nat → Nat) : Nat := op.eval (get (f (p.2.1.getD 0 0))) (get (f (p.2.1.getD 1 0)))
    let s1 := s.mrc! (fun y => { y with rows := Tbl.put (key (twinRow p.1)) (val twinRow) (Tbl.put (key p.1) (val (fun n => n)) y.rows) })
    (s1.cell! cell (fun c => { c with opStatus := some .ok })).mrcCount cell 4 2

/-- ROWOP (R276, R297, R298): it waits for a bundle of its own; one that names rows of different subarrays, or a DATA row, completes with CLASS at once. -/
def execRowop (cell : Nat) (op : RowOp) (s : State) : Host.Outcome State Fault Refusal :=
  onCell cell (
    if (s.cell cell).fenced then s
    else if !s.rowLegal cell op then s.rowDone cell op
    else s.cell! cell (fun c => ({ c with ops := c.ops ++ [op] } : Cell).settled))

/-- PLANE_BITS (R292, R295): changes bits of a plane in both copies. -/
def execPlaneBits (coll plane : Nat) (slots : List Nat) (set : Bool) (s : State) : Host.Outcome State Fault Refusal :=
  ok (s.coll! coll (fun c => if (Tbl.find plane c.planes).isSome ∨ plane < 2 then c.planeBits plane slots set else c))

/-- The class that a row block has, or will have once the changes that wait have taken effect. -/
def State.classOf (s : State) (block : Nat) : Bool :=
  match (s.mrc.pendingRct.filter (fun p => decide (p.1 = block))).getLast? with
  | some p => p.2
  | none => s.mrc.scratch.contains block

/-- Something is allocated in a bank group: codes of a collection or of an attention object. -/
def State.groupUsed (s : State) (cell : Nat) : Bool :=
  s.search.colls.any (fun k => k.2.reaches.any (fun r => decide (r.2.cell = cell)))
    || s.slc.objs.any (fun o => match o.2.kind with | .attention a => a.blocks.any (fun b => decide (b.cell = cell)) | _ => false)

/-- RCT_SET (R289): the class of a row block that no allocation holds, at once or when the bundle of its bank group has ended. Which rows of a bank group an
allocation holds is Ferry's placement, which the spec does not give: free (log 124). -/
def execRctSet (block : Nat) (scratch : Bool) (s : State) : Host.Outcome State Fault Refusal :=
  onUnit (decide (block < 512 * (groupRows / 16))) (
    if s.classOf block = scratch then s
    else
      let f := if s.groupUsed (block / (groupRows / 16)) then s.free else (0, s)
      if f.1 % 2 = 1 then f.2
      else if (s.cell (block / (groupRows / 16))).bundle.isSome then f.2.mrc! (fun x => { x with pendingRct := x.pendingRct ++ [(block, scratch)] })
      else f.2.setClass block scratch)

end Sys2Proof.Machine
end

