-- ==== Sys2Proof/Machine/Sounding.lean ====
section
/-! DEFINITION. Query batches: admission, the search on a node, the rounds and their completion (chapters 03 and 05). -/

namespace Sys2Proof.Machine

/-- The header of QRY_BATCH meets Table SND-6, but for K, the collection and the epoch. A message that is longer than the header and its filters is refused as
one that is shorter: the spec names neither (R113; DESIGN CHOICE, log 121). -/
def qryHeaderOk (m : Msg) (len : Nat) : Bool :=
  let n := m.p 2 2
  let fl := m.p 6 2
  decide (m.p 0 2 < 4096) && decide (1 ≤ n) && decide (n ≤ 256) && decide (fl < 16) && priorityOk (m.p 8 1) && decide (m.p 9 1 ≤ 32)
    && decide (m.p 0xA 2 % 64 = 0) && decide (m.p 0x10 8 % 64 = 0) && decide (m.p 0x18 8 % 64 = 0) && decide (m.p 0x28 8 < 2 ^ 48) && decide (m.p 0x30 16 = 0)
    && decide (len = 96 + (if bit fl 3 then 32 * n else 0))

/-- A bitmap is defined at admission, as of the node's last committed epoch (R92). -/
def Coll_definedBitmap (c : Coll) (b : Nat) : Bool := match Tbl.find b c.bitmaps with | some y => y.defined && decide (y.since ≤ c.lastEpoch) | none => false

/-- The class S fields of the search blocks reach their boundary, a batch's admission (R16). -/
def State.searchBoundary (s : State) : State :=
  let cand := s.boundary Reg.SND_CFG 32 16 0
  let r1 := cand.boundary Reg.SND_CFG 24 8 0
  let tmo := r1.boundary Reg.SND_CFG 0 16 0
  let w := (((tmo.boundary Reg.BRD_CFG 32 16 0).boundary Reg.BRD_CFG 24 8 0).boundary Reg.BRD_CFG 16 8 0).boundary Reg.BRD_CFG 0 8 0
  w.boundary Reg.CFL_CFG 8 8 0

/-- The query batch of this node with the fields in force now; `queries` as admitted. -/
def State.newQBatch (s : State) (coll lead leadBatch k flags readEpoch resultAddr r1 : Nat) (queries : List Query) : QBatch :=
  let r := s.fld Reg.SND_CFG 24 8
  { coll := coll, lead := lead, leadBatch := leadBatch, k := k, aggExp := bit flags 0, localOnly := bit flags 1, noWarm := bit flags 2
    readEpoch := readEpoch, resultAddr := resultAddr, r1 := if r1 ≠ 0 then r1 else if r = 0 then 1 else Nat.min r 32
    peerTmoUs := orIfZero (s.fld Reg.SND_CFG 0 16) 1, candLimit := inRange (s.fld Reg.SND_CFG 32 16) 1024 65535 1024
    damagedCap := orIfZero (s.fld Reg.CFL_CFG 8 8) 1, walkTmoUs := orIfZero (s.fld Reg.BRD_CFG 32 16) 1, seeds := inRange (s.fld Reg.BRD_CFG 24 8) 1 16 16
    maxRounds := inRange (s.fld Reg.BRD_CFG 16 8) 1 64 64, width := inRange (s.fld Reg.BRD_CFG 0 8) 1 16 16, att := none, queries := queries }

/-- The queries of a batch as admitted: one that breaks R48, R49 or R96 stops alone (R115). -/
def admitQueries (c : Coll) (m : Msg) (bs : List Byte) (version : Nat) (map : List Nat) (node : Nat) : List Query :=
  let fl := m.p 6 2
  (List.range (m.p 2 2)).map (fun i =>
    let filter := if bit fl 3 then m.pb (96 + 32 * i) 32 else m.pb 0x40 32
    let vec := bytesAt bs (m.p 0xA 2 * i) (c.desc.dim * c.desc.elemBytes)
    let ref := c.desc.refQuery vec
    let st : Option Nat := if ref.isNone then some stBad else if bit fl 3 && !filterValid (Coll_definedBitmap c) filter then some stFilter else none
    { (Query.fresh i 0 0 (ref.getD ⟨[], [], 0⟩) filter st noTheta version (bit fl 0) node) with vec := vec, map := map })

/-- A query that stopped alone at admission completes when the batch runs (R115). -/
def State.finishStopped (s : State) (b : Nat) : State :=
  match s.qbatch b with
  | none => s
  | some qb => if !s.runs b then s else (List.range qb.queries.length).foldl (fun t i => match t.query b i with
      | some q => if q.status.isSome ∧ !q.complete then t.finishQuery b i else t
      | none => t) s

/-- A query batch is refused whole: it replies, or the MODEL_RUN that chains it does (R233). -/
def State.qryRefuse (s : State) (m : Msg) (tag : Nat) (parent : Option Nat) (st r : Nat) : State :=
  match parent with | none => s.refuseBatch m tag st r | some p => s.replyOne p st r []

/-- Admission of a query batch (R114, R115, R169, R187): `m` holds its header, `len` its bytes, `bs` the query vectors, QSTRIDE bytes apart.
Where several checks fail the spec gives no order, and the first in the order written here is reported: K, the header, the collection, OFFLINE, QSTRIDE and
RESULT_LEN, the epoch, the filter (before the epoch home has answered), host memory. A field of the header, QSTRIDE or RESULT_LEN out of range is
BAD_DESCRIPTOR with reason FIELD (DESIGN CHOICE, log 121). -/
def State.qryAdmit (t : State) (m : Msg) (len : Nat) (parent : Option Nat) (bs : HostRead) : State :=
  let k := m.p 4 2
  let tag := m.p 0xC 4
  let key := collKey m.comp (m.p 0 2)
  let no := t.qryRefuse m tag parent
  if k = 0 ∨ 16384 < k then no stKRange 0
  else if !qryHeaderOk m len then no stBad 0x000B
  else match t.coll key with
    | none => no stBad 0x0005
    | some c =>
      if c.state ≠ .online then no stOffline 0
      else if m.p 0xA 2 < c.desc.dim * c.desc.elemBytes ∨ m.p 0x20 8 < m.p 2 2 * recordStride k then no stBad 0x000B
      else match t.pickEpoch key c (m.p 0x28 8) with
        | .refuse st r => (t.epochRefused st).qryRefuse m tag parent st r
        | pick =>
          if !bit (m.p 6 2) 3 && !filterValid (Coll_definedBitmap c) (m.pb 0x40 32) then no stFilter 0
          else match bs with
            | none => no stInternal 0
            | some bs =>
              let e := match pick with | .run e => e | .ask e => e | .refuse _ _ => 0
              let t1 := t.searchBoundary
              let qb := t1.newQBatch key t.nodeNo 0 k (m.p 6 2 % 8) e (m.p 0x18 8) (m.p 9 1) (admitQueries c m bs (t.mapVersion m.comp) (t.mapHomes m.comp c.desc.span) t.nodeNo)
              let level := t1.msgLevel m (m.p 8 1)
              let asks : Bool := match pick with | .ask _ => true | _ => false
              let r := t1.addBatch (if parent.isNone then some m else none) m.comp 0x0301 level tag (if asks then .epochCheck else .mergeSlots) (some key) []
              let t2 := (r.2.batch! r.1 (fun y => { y with parent := parent })).search! (fun x => { x with qbatches := Tbl.put r.1 qb x.qbatches })
              if asks then t2.send (t2.homeNode key) 1 (.epochCheck r.1 key e) else (t2.grantSlots r.1).finishStopped r.1

/-- QRY_BATCH (R114, R115). -/
def execQryBatch (mb : Nat) (dma : HostRead) (s : State) : Host.Outcome State Fault Refusal :=
  onMsg s mb 0x0301 (fun m t => t.qryAdmit m m.len none dma)

/-- The read epoch of a batch that waits for the epoch home's check. -/
def State.checkedEpoch (s : State) (b : Nat) : Nat :=
  match Tbl.find b s.search.gathers, s.qbatch b with | some g, _ => g.readEpoch | none, some q => q.readEpoch | none, none => 0

/-- The epoch home's stable epoch answers a batch's check (R114, R187): it goes on at its read epoch, or is refused. -/
def State.epochAnswered (s : State) (b home : Nat) : State :=
  match s.batch b with
  | none => s
  | some x =>
    if x.stage ≠ .epochCheck ∨ x.torn ≠ none then s
    else
      let key := x.coll.getD 0
      let e := s.checkedEpoch b
      let refuse (st r : Nat) : State := ((s.epochRefused st).search! (fun y => { y with gathers := Tbl.erase b y.gathers, qbatches := Tbl.erase b y.qbatches })).replyBatch b st r []
      let s1 := s.raiseStable key home
      match s1.coll key with
      | none => refuse stBad 0x0005
      | some c =>
        if home < e then refuse stBad 0x000B
        else if !s1.retained key c e then refuse stEpochRetired 0
        else if (s.qbatch b).isSome then ((s1.batch! b (fun y => { y with stage := .mergeSlots })).grantSlots b).finishStopped b
        else ((s1.batch! b (fun y => { y with stage := .rootWait })).tryRoot b).serveGather b

/-- READ_EPOCH_CHECK_REPLY (R187): the epoch home's stable epoch; the check is sent again when the get completed PATH_LOST. -/
def execReadEpochCheckReply (batch : Nat) (ans : EpochAns) (s : State) : Host.Outcome State Fault Refusal :=
  ok (match s.batch batch with
    | none => s
    | some x =>
      if x.stage ≠ .epochCheck ∨ x.torn ≠ none then s
      else match ans with
        | .pathLost => s.send (s.homeNode (x.coll.getD 0)) 1 (.epochCheck batch (x.coll.getD 0) (s.checkedEpoch batch))
        | .stable home => s.epochAnswered batch home)

/-- Batches that wait for the check of an epoch of a collection whose epoch home this node is. -/
def State.answerChecks (s : State) (k : Nat) : State :=
  match (s.coll k).bind (·.home) with
  | none => s
  | some h =>
    if h.takeover ∨ s.homeNode k ≠ s.nodeNo then s
    else (s.slc.batches.filter (fun b => decide (b.2.stage = .epochCheck) && decide (b.2.coll = some k))).foldl (fun t b => t.epochAnswered b.1 h.stable) s

/-- After a loss or a map has changed an epoch home since the state `t`, the checks that wait are made against the new one (R187). -/
def State.recheck (s t : State) : State :=
  (s.slc.batches.filter (fun b => decide (b.2.stage = .epochCheck) && decide (b.2.torn = none))).foldl (fun u b =>
    let k := b.2.coll.getD 0
    if u.homeNode k = t.homeNode k then u
    else if u.homeNode k = u.nodeNo then u.answerChecks k
    else u.send (u.homeNode k) 1 (.epochCheck b.1 k (u.checkedEpoch b.1))) s

/-- EPOCH_HOME_TAKEOVER (R195, R607): the new epoch home gathers what the survivors and it itself hold, resolves the batches, and declares the rest void;
epoch checks that waited for it are answered (R187). -/
def execEpochHomeTakeover (coll : Nat) (survivors : List Survivor) (s : State) : Host.Outcome State Fault Refusal :=
  ok (match s.coll coll with
    | none => s
    | some c => match c.home with
      | none => s
      | some h =>
        if !h.takeover ∨ s.epochHome c.comp c.desc.span ≠ s.nodeNo then s
        else
          let ownUpd := (s.search.upds.filter (fun u => decide (u.2.coll = coll) && decide (u.2.epoch ≠ 0))).map (fun u => (s.nodeNo, u.2.seq, u.2.epoch))
          let ownParts := (s.search.parts.filter (fun p => decide (p.coll = coll) && decide (p.epoch ≠ 0))).map (fun p => (p.coord, p.seq % 2 ^ 64, p.epoch))
          let granted := survivors.flatMap (fun v => v.granted) ++ ownUpd ++ ownParts
          let unresolved := survivors.flatMap (fun v => v.prepared)
            ++ (s.search.parts.filter (fun p => decide (p.coll = coll) && decide (p.state = .prepared))).map (fun p => (p.coord, p.seq % 2 ^ 64))
          let stable := Nat.max c.lastEpoch (maxL (survivors.map (fun v => v.stable)))
          let top := Nat.max stable (maxL (granted.map (fun g => g.2.2)))
          let recs := granted.map (fun g => (⟨g.1, g.2.1, .epoch g.2.2⟩ : EpochRec))
            ++ (unresolved.filter (fun u => !granted.any (fun g => decide (g.1 = u.1) && decide (g.2.1 = u.2)))).map (fun u => (⟨u.1, u.2, .aborted false⟩ : EpochRec))
          let tied := granted.map (fun g => g.2.2)
          let void_ := ((List.range (top - stable)).map (fun i => stable + 1 + i)).filter (fun e => !tied.contains e)
          let h0 : EpochHome := ⟨top + 1, stable, void_, recs, false, 0, 0⟩
          let h1 := advance (void_.length + 1) h0
          (((s.coll! coll (fun c => { c with home := some h1 })).raiseStable coll h1.stable).answerChecks coll).resumeEpochs coll)

/-- MERGE_SLOT_GRANT (R169). -/
def execMergeSlotGrant (batch : Nat) (s : State) : Host.Outcome State Fault Refusal := ok ((s.grantSlots batch).finishStopped batch)

/-! ### Starting -/

/-- The search on this node starts (R83, R126): catchments and reaches bounded, the walk started. -/
def State.startLocal (s : State) (b q : Nat) : State :=
  let r := s.boundAll b q
  r.1.startWalk b q r.2

/-- QUERY_START (R83, R103, R104, R118): the lead chooses and sends round one, and starts its own search when it holds the collection. -/
def execQueryStart (batch query : Nat) (s : State) : Host.Outcome State Fault Refusal :=
  ok (match s.qbatch batch, s.query batch query with
    | some qb, some q =>
      if !s.runs batch ∨ !q.live ∨ q.started ∨ !QBatch_ready qb query ∨ q.needMap.isSome then s
      else if qb.lead ≠ s.nodeNo then s.startLocal batch query
      else match s.qcoll qb.coll with
        | none => s
        | some c =>
          let self := s.nodeNo
          let nodes := if qb.localOnly then [self] else roundOne self qb.r1 (s.spanNodes c.comp c.desc.span) (fun n => (State.nodeBound c q.ref qb.readEpoch n).map (·.1))
          let s1 := s.query! batch query (fun y => { y with started := true, done := !nodes.contains self })
          let s2 := s1.visit batch query 1 nodes
          if nodes = [] then s2.roundTwo batch query
          else if nodes.contains self && (match s2.query batch query with | some y => y.live | none => false) then s2.startLocal batch query else s2
    | _, _ => s)

/-- A query part is answered REROUTE, one answer for each of its queries (R440, R441). -/
def State.bounceFan (s : State) (part : FanPart) : State :=
  part.queries.foldl (fun t (q : Nat × Nat × List Byte × List Byte × Nat) => t.send part.lead 1 (.reroute part.leadBatch q.1 (s.mapVersion part.comp)))
    (s.count Reg.SLC_CNT0 8 1)

/-- A visited node takes its part at the given read epoch and under the given map, or answers REROUTE or EPOCH_RETIRED (R104, R109, R440). The part belongs to
a batch that its lead has admitted, so a collection that has gone OFFLINE here since serves it (R31). Round two has no walk. The queries of the first group
start once the root context is there. -/
def State.takeFan (s : State) (part : FanPart) : State :=
  let key := collKey part.comp part.coll
  match s.judgeMap part.comp part.mapVersion, s.coll key with
  | .hold, _ => s.holdReq (.fanout part)
  | .bounce, _ => s.bounceFan part
  | .accept, none => s
  | .accept, some c0 =>
    let s1 := if c0.lastEpoch < part.readEpoch then s.raiseStable key part.readEpoch else s
    match s1.coll key with
    | none => s
    | some c =>
      if !s1.retained key c part.readEpoch then
        part.queries.foldl (fun t (q : Nat × Nat × List Byte × List Byte × Nat) => t.send part.lead 1 (.refused part.leadBatch q.1 stEpochRetired))
          (s1.epochRefused stEpochRetired)
      else
        let s2 := s1.searchBoundary
        let qs := part.queries.map (fun (q : Nat × Nat × List Byte × List Byte × Nat) =>
          { (Query.fresh q.1 q.2.1 0 ((c.desc.refQuery q.2.2.1).getD ⟨[], [], 0⟩) q.2.2.2.1 none q.2.2.2.2 part.mapVersion (bit part.flags 0) s.nodeNo) with
            vec := q.2.2.1 })
        let qb0 := s2.newQBatch key part.lead part.leadBatch part.k part.flags part.readEpoch 0 0 qs
        let qb : QBatch := { qb0 with noWarm := qb0.noWarm || decide (part.round = 2) }
        let r := s2.addBatch none part.comp 0x0301 part.level 0 .mergeSlots (some key) []
        let s3 := (r.2.search! (fun x => { x with qbatches := Tbl.put r.1 qb x.qbatches })).grantSlots r.1
        if s3.runs r.1 then (List.range (Nat.min 32 qs.length)).foldl (fun t i => t.startLocal r.1 i) s3 else s3

/-- FANOUT_PART_RECEIVE (R104, R105, R106, R109, R118, R440). -/
def execFanoutPartReceive (part : FanPart) (s : State) : Host.Outcome State Fault Refusal := ok (s.takeFan part)

/-! ### Re-scores -/

/-- Rows that have become DAMAGED leave the candidates of every query (R79, R90); a query that had re-scored one is searched again (log 71). -/
def State.dropDamaged (s : State) (k : Nat) : State :=
  match s.coll k with
  | none => s
  | some c =>
    let bad (i : Nat) : Bool := match Tbl.find i c.slots with | some z => z.damaged | none => false
    s.search! (fun x => { x with qbatches := x.qbatches.map (fun b => (b.1, if b.2.coll = k then { b.2 with
      queries := b.2.queries.map (fun q => { q with cands := q.cands.map (fun y => if !y.settledOut && bad y.slot then { y with damaged := true } else y) }) } else b.2)) })

/-- The reference score of a row is absorbed by its query's selection (R79, R89, R149, R155). -/
def State.absorbRow (s : State) (b q : Nat) (qb : QBatch) (c : Coll) (cand : Cand) (z : Slot) : State :=
  let score (y : Query) : F32 := refScore c.desc y.ref y.logit z.ref
  let s1 := s.query! b q (fun y =>
    let v := score y
    { y with
      sel := y.sel.absorb qb.aggExp qb.k v ⟨sortKey v, z.rowId, c.id, z.version, false, s.nodeNo⟩
      cands := y.cands.map (fun x => if x.slot = cand.slot then { x with lo := v, hi := v, finite := ffinite v, rescored := true } else x) })
  let fin : Bool := match s.query b q with | some y => ffinite (score y) | none => true
  let s2 := ((s1.count Reg.SND_CNT0 3 1).count Reg.CFL_CNT0 0 1).count Reg.CFL_CNT0 1 (if fin then 0 else 1)
  s2.rethreshold b q

/-- RESCORE_COMPLETE (R86, R89, R90), once its LUN serves the read (R342): `media`: the reference read failed uncorrectably, and its rows become DAMAGED (R357). -/
def execRescoreComplete (batch query slot : Nat) (media : Bool) (s : State) : Host.Outcome State Fault Refusal :=
  ok (match s.qbatch batch, s.query batch query with
    | some qb, some q =>
      if !s.runs batch ∨ !q.live then s
      else match s.qcoll qb.coll with
        | none => s
        | some c => match Query_next q, Tbl.find slot c.slots with
          | some x, some z =>
            if decide (x.slot ≠ slot) || s.readWaits (s.refLun c slot) .demand then s
            else let s := match s.refLun c slot with | some l => s.chargeRead batch l | none => s
            if media && decide (attBase ≤ qb.coll) then s.poisonObj (qb.coll - attBase)
            else if media then
              (match c.desc.slotLsns c.base slot with
                | [] => s
                | l :: _ =>
                  let s1 := match c.refExt with
                    | some e => s.extentLost e (l - c.base) false
                    | none => s.sectorLost c.space l
                  (s1.dropDamaged qb.coll).rethreshold batch query)
            else if z.damaged then (s.dropDamaged qb.coll).rethreshold batch query
            else s.absorbRow batch query qb c x z
          | _, _ => s
    | _, _ => s)

/-! ### Completion -/

/-- A completed selection is counted when its k is above 128, and its damaged rows beyond the cap (CFL_CNT5, CFL_CNT6). -/
def State.countSelection (s : State) (k extra : Nat) : State := (s.count Reg.CFL_CNT0 5 (if 128 < k then 1 else 0)).count Reg.CFL_CNT0 6 extra

/-- QUERY_LOCAL_COMPLETE (R87, R163, R167, R106): the selection is drained; the lead merges its own list, a visited node sends its list by TOPK-MERGE.
A query whose threshold a damaged row had raised too far is searched again first, so that its entries are exact over its universe (R67, R91; log 71). -/
def execQueryLocalComplete (batch query : Nat) (s : State) : Host.Outcome State Fault Refusal :=
  ok (match s.qbatch batch, s.query batch query with
    | some qb, some q =>
      if !s.runs batch ∨ !Query_localDone q then s
      else if q.overRaised qb.k then
        ((s.haltLanes batch query).query! batch query (fun y => y.again qb.aggExp s.nodeNo)).startLocal batch query
      else match s.qcoll qb.coll with
        | none => s
        | some c =>
          let p := QBatch_list qb q s.nodeNo c.id
          let s1 := ((s.haltLanes batch query).query! batch query (fun y => { y with done := true })).countSelection qb.k p.damagedExtra
          if qb.lead = s.nodeNo then s1.mergeList (s.mergeTag q.slot q.idx) p
          else
            let bs := p.bytes q.leadTag (decide (c.desc.nOut ≠ 0))
            let s2 := (((s1.freeSlotOf batch query).send qb.lead 2 (.topk q.leadTag p)).fwOp (qb.coll / 4096) 5 2 qb.lead 0xE 3 q.leadTag 0 bs.length bs).count Reg.SND_CNT0 0 1
            (s2.query! batch query (fun y => { y with complete := true, cands := [], sweep := [] })).batchOver batch
    | _, _ => s)

/-- TOPK_MERGE (R164, R170, R171, R105). -/
def execTopkMerge (tag : Nat) (list : PList) (s : State) : Host.Outcome State Fault Refusal := ok (s.mergeList tag list)

/-- QUERY_COMPLETE (R109, R110, R172): `refusal` is a status with which a visited node's part ended (R109, R452); else the last expected list has merged. -/
def execQueryComplete (batch query : Nat) (refusal : Option Nat) (s : State) : Host.Outcome State Fault Refusal :=
  ok (match s.qbatch batch, s.query batch query with
    | some qb, some q =>
      if qb.lead ≠ s.nodeNo ∨ !s.runs batch ∨ q.complete then s
      else match refusal with
        | some st => if q.visited = [] then s else s.stopQuery batch query st
        | none => if q.status.isSome ∨ (q.round = 2 ∧ q.expect = []) then s.finishQuery batch query else s
    | _, _ => s)

/-- PEER_TIMEOUT (R108): a visited node has not returned its list within PEER_TMO_US of the send. -/
def execPeerTimeout (batch query : Nat) (s : State) : Host.Outcome State Fault Refusal :=
  ok (match s.qbatch batch, s.query batch query with
    | some qb, some q =>
      if qb.lead ≠ s.nodeNo ∨ q.complete ∨ q.status.isSome ∨ !q.expect.any (fun n => decide (n ≠ s.nodeNo)) then s
      else (s.reach q.deadline).stopQuery batch query stPeerLost
    | _, _ => s)

/-- A node is declared lost: the queries that visit it complete with PEER_LOST, also when its list has merged (R108). -/
def State.queriesLose (s : State) (n : Nat) : State :=
  s.search.qbatches.foldl (fun t b => (List.range b.2.queries.length).foldl (fun t i => match t.query b.1 i with
    | some q => if q.visited.contains n ∧ !q.complete ∧ b.2.lead = s.nodeNo then t.stopQuery b.1 i stPeerLost else t
    | none => t) t) s

/-- A query is admitted again under the current map (R441): another merge slot, and its search from the start at the same read epoch. -/
def State.readmit (s : State) (b q : Nat) : State :=
  match s.qbatch b, s.query b q with
  | some qb, some y =>
    let s1 := ((s.haltLanes b q).freeSlotOf b q).query! b q (fun z =>
      { (Query.fresh z.idx 0 0 z.ref z.filter none noTheta (s.mapVersion (qb.coll / 4096)) qb.aggExp s.nodeNo) with
        vec := z.vec, map := s.mapHomes (qb.coll / 4096) (s.spanOf qb.coll), reroutes := y.reroutes + 1 })
    (s1.giveSlot b q).batch! b (fun x => { x with charge := { x.charge with reroutes := x.charge.reroutes + 1 } })
  | _, _ => s

/-- QUERY_REROUTE (R107, R441): after two re-admissions the query completes REROUTE; else it waits for a map as late as the answer's. -/
def execQueryReroute (batch query needed : Nat) (s : State) : Host.Outcome State Fault Refusal :=
  ok (match s.qbatch batch, s.query batch query with
    | some qb, some q =>
      if qb.lead ≠ s.nodeNo ∨ q.complete ∨ q.visited = [] ∨ q.status.isSome ∨ q.needMap.isSome then s
      else if 2 ≤ q.reroutes then s.stopQuery batch query stReroute
      else if seqGe 32 (s.mapVersion (qb.coll / 4096)) needed then s.readmit batch query
      else (s.haltLanes batch query).query! batch query (fun y => { y with needMap := some needed, expect := [], walk := none, round := 0 })
    | _, _ => s)

/-- Queries that wait for a map are admitted again: it was installed, or `always` the wait of MAP_GRACE_US is over (R441). -/
def State.resumeQueries (s : State) (comp : Nat) (always : Bool) : State :=
  s.search.qbatches.foldl (fun t b => if b.2.coll / 4096 ≠ comp then t else (List.range b.2.queries.length).foldl (fun t i =>
    match (t.query b.1 i).bind (·.needMap) with
    | some v => if always || seqGe 32 (t.mapVersion comp) v then t.readmit b.1 i else t
    | none => t) t) s

end Sys2Proof.Machine
end

