-- ==== Sys2Proof/Machine/Models.lean ====
section
/-! DEFINITION. Attention objects, weight objects and model runs (chapter 07: R212 to R240). -/

namespace Sys2Proof

/-! ### Attention objects -/

/-- Entry `i` of OUTLIER_CH. -/
def AttObj.outCh (a : AttObj) (i : Nat) : Nat := a.f (0x10 + 2 * i) 2

/-- Why a descriptor of Table ATT-2 is refused, or 0. -/
def AttObj.reason (a : AttObj) : Nat :=
  let n := a.f 5 1
  let ascending := (List.range n).all (fun i => decide (a.outCh i < a.headDim) && (decide (i = 0) || decide (a.outCh (i - 1) < a.outCh i)))
  let padded := (List.range 8).all (fun i => decide (i < n) || decide (a.outCh i = 0xFFFF))
  let e := sbyte (a.f 6 1)
  if a.headDim < 64 ∨ 256 < a.headDim ∨ a.headDim % 32 ≠ 0 ∨ 8 < n ∨ !ascending ∨ !padded ∨ a.maxToks < 1 ∨ 4194304 < a.maxToks then 0x0503
  else if !ffinite a.logit ∨ !flt 0 a.logit then 0x0504
  else if a.f 0 2 = 0xFFFF ∨ 1 < a.f 4 1 ∨ e < -64 ∨ 63 < e ∨ a.f 7 1 ≠ 0 ∨ a.f 0x20 32 ≠ 0 then 0x050B
  else 0

/-- Q (R217). -/
def AttObj.q (a : AttObj) : Nat := if a.int8 then 127 else 7

/-- The greatest magnitude of BF16 elements. -/
def maxAbs (v : List F32) : Dy := v.foldl (fun m x => Dy.max m (Dy.abs (fdy x))) Dy.zero

/-- A value can be stored (R217): its elements are finite and its scale stays in the FP16 range. -/
def AttObj.valueOk (a : AttObj) (v : List F32) : Bool := v.all ffinite && Dy.le (maxAbs v) (Dy.ofInt ((65504 * a.q : Nat) : Int))

/-- The scale and the codes of a value (R217). -/
def AttObj.value (a : AttObj) (v : List F32) : F16 × List Int :=
  let m := maxAbs v
  let sig : Nat := if m.m = 0 then 0x3C00 else fmt16.ofDyDiv .up m a.q
  (BitVec.ofNat 16 sig, v.map (fun x => clampI (-(a.q : Int)) a.q (Dy.rneQuot (fdy x) (fmt16.dy sig))))

/-- A token as stored (R216, R217); `val` holds the value's elements. -/
def AttObj.token (a : AttObj) (key : List Byte) (val : List F32) : AttTok :=
  let c := encodeRow a.keyDesc 4 key
  let v := a.value val
  ⟨key, c.1, c.2.1, c.2.2, v.1, v.2⟩

/-- Bytes of a token in Millrace: code, side record, outlier values, scale and value codes (R216, R217). -/
def AttObj.tokBytes (a : AttObj) (t : AttTok) : Nat := t.code.length + t.side.length + t.outl.length + 2 + (if a.int8 then a.headDim else a.headDim / 2)

/-- The BF16 elements of bytes. -/
def bf16s (n : Nat) (bs : List Byte) : List F16 := (splitNum 2 n bs).map (BitVec.ofNat 16)

/-- The BF16 mean of keys: the exact mean, rounded once. -/
def meanKey (n : Nat) (keys : List (List F16)) : List F16 :=
  (List.range n).map (fun j => BitVec.ofNat 16 (fmtB16.ofDyDiv .rne (Dy.sum (keys.map (fun k => fdy (bf16to32 (k.getD j 0))))) (Nat.max 1 keys.length)))

/-- The radius of a ball over keys (R71). -/
def radiusOf (centre : List F16) (keys : List (List F16)) : F32 := keys.foldl (fun r k => fmax r (distUp (centreDy k) (centreDy centre))) 0

/-- A token joins an object (R219 to R221): it is stored, the ball of its block and then that of its group grow to cover it, VABS rises; a block that holds 256
tokens gets its closing ball, after the group's radius covers that, and so does a group whose 256th block closes. `cell` takes a new block. -/
def AttObj.push (a : AttObj) (cell : Nat) (t : AttTok) : AttObj :=
  let i := a.toks.length
  let hd := a.headDim
  let key := bf16s hd t.key
  let b := i / 256
  let g := i / 65536
  let blocks := if i % 256 = 0 then a.blocks ++ [⟨key, 0, false, cell⟩] else a.blocks
  let groups := if i % 65536 = 0 then a.groups ++ [⟨key, 0, false, 0⟩] else a.groups
  let grow (x : Ball) : Ball := { x with radius := fmax x.radius (distUp (centreDy key) (centreDy x.centre)) }
  let blocks1 := Machine.updAt blocks b grow
  let centre := match blocks1[b]? with | some x => x.centre | none => key
  let radius := match blocks1[b]? with | some x => x.radius | none => 0
  let cover (c : List F16) (r : F32) (x : Ball) : Ball := { x with radius := fmax x.radius (catchTerm c x.centre r) }
  let groups1 := Machine.updAt groups g (cover centre radius)
  let toks := a.toks ++ [t]
  let keys (lo n : Nat) : List (List F16) := ((toks.drop lo).take n).map (fun y => bf16s hd y.key)
  let a1 : AttObj := { a with
    toks := toks, blocks := blocks1, groups := groups1
    vabs := List.zipWith (fun m v => fmax m (fabs v)) a.vabs t.stored }
  if i % 256 ≠ 255 then a1
  else
    let ks := keys (256 * b) 256
    let c := meanKey hd ks
    let r := radiusOf c ks
    let a2 : AttObj := { a1 with groups := Machine.updAt a1.groups g (cover c r), blocks := Machine.updAt a1.blocks b (fun x => { x with centre := c, radius := r, closed := true }) }
    if i % 65536 ≠ 65535 then a2
    else
      let gs := keys (65536 * g) 65536
      let gc := meanKey hd gs
      let gr := ((a2.blocks.drop (256 * g)).take 256).foldl (fun m x => fmax m (catchTerm x.centre gc x.radius)) (0 : F32)
      { a2 with groups := Machine.updAt a2.groups g (fun x => { x with centre := gc, radius := gr, closed := true }) }

/-! ### Weight images -/

/-- A tensor entry (Table ATT-4). -/
structure Tensor where
  rows : Nat
  cols : Nat
  fmt : Nat
  off : Nat
  len : Nat
  deriving DecidableEq, Repr

/-- The tensor entries of an image. -/
def imageTensors (img : List Byte) : List Tensor :=
  (List.range (natAt img 4 2)).map (fun i =>
    let o := 64 + 32 * i
    ⟨natAt img o 4, natAt img (o + 4) 4, natAt img (o + 8) 1, natAt img (o + 0x10) 8, natAt img (o + 0x18) 8⟩)

/-- Elements that share a scale (Table ATT-4). -/
def Tensor.group (t : Tensor) : Nat := if t.fmt = 1 then 128 else 32
/-- Scales of a row. -/
def Tensor.scales (t : Tensor) : Nat := cdiv t.cols t.group
/-- Bytes of the codes, which come first in the tensor's data. -/
def Tensor.codeBytes (t : Tensor) : Nat := if t.fmt = 2 then t.rows * t.cols else t.rows * t.cols / 2
/-- Bytes of a scale. -/
def Tensor.scaleBytes (t : Tensor) : Nat := if t.fmt ≤ 1 then 2 else 1

/-- Why an image is refused (R230, R231), or 0. -/
def imageReason (img : List Byte) (len : Nat) : Nat :=
  let ts := imageTensors img
  let n := natAt img 4 2
  if img.length < len ∨ len < 64 ∨ natAt img 0 4 ≠ 0x53574731 ∨ n < 1 ∨ 4096 < n ∨ natAt img 6 58 ≠ 0 ∨ len < 64 + 32 * n then Machine.rImage
  else if ts.any (fun t => decide (t.rows < 1) || decide (65536 < t.rows) || decide (t.cols < 32) || decide (65536 < t.cols) || decide (t.cols % 32 ≠ 0) || decide (3 < t.fmt)) then 0x0503
  else if (List.range n).any (fun i => decide (natAt img (64 + 32 * i + 9) 7 ≠ 0)) then Machine.rImage
  else if ts.any (fun t => decide (t.off % 64 ≠ 0) || decide (t.off < 64 + 32 * n) || decide (len < t.off + t.len) || decide (t.len ≠ t.codeBytes + t.rows * t.scales * t.scaleBytes)) then Machine.rImage
  else if ts.any (fun t => decide (2 ≤ t.fmt) && (bytesAt img (t.off + t.codeBytes) (t.rows * t.scales)).contains 0xFF) then Machine.rImage
  else 0

/-- An E2M1 element doubled (R231). -/
def e2m1Twice (c : Nat) : Int :=
  let m : Int := match c % 8 with | 0 => 0 | 1 => 1 | 2 => 2 | 3 => 3 | 4 => 4 | 5 => 6 | 6 => 8 | _ => 12
  if 8 ≤ c then -m else m

/-- The stored code of an element, as a bit pattern of the tile's element width (R231). -/
def Tensor.code (t : Tensor) (img : List Byte) (r c : Nat) : Nat :=
  if t.rows ≤ r ∨ t.cols ≤ c then 0
  else
    let i := r * t.cols + c
    if t.fmt = 2 then natAt img (t.off + i) 1
    else
      let x := natAt img (t.off + i / 2) 1 / (if i % 2 = 0 then 1 else 16) % 16
      if t.fmt = 3 then (e2m1Twice x % 256).toNat else x

/-- The FP16 scale of group `j` of a row: as the image gives it, or the power of two of an E8M0 scale, lowered by one for MXFP4 (R231); `none` where
FP16 does not hold that power. -/
def Tensor.scale (t : Tensor) (img : List Byte) (r j : Nat) : Option Nat :=
  if t.rows ≤ r ∨ t.scales ≤ j then some 0
  else
    let at_ := t.off + t.codeBytes + (r * t.scales + j) * t.scaleBytes
    if t.fmt ≤ 1 then some (natAt img at_ 2)
    else
      let e : Int := (natAt img at_ 1 : Int) - 127 - (if t.fmt = 3 then 1 else 0)
      if e < -24 ∨ 15 < e then none else some (fmt16.round .rne false 1 1 e)

/-- The tiles of a tensor (R315): T4 or T8, in row-block-major order. -/
def Tensor.tiles (t : Tensor) (img : List Byte) : List Byte :=
  let w := if t.fmt ≤ 1 then 4 else 8
  (List.range (cdiv t.rows 64)).flatMap (fun b => (List.range (cdiv t.cols 128)).flatMap (fun k =>
    (List.range 64).flatMap (fun l => packLine w ((List.range 128).map (fun e => t.code img (64 * b + l) (128 * k + e))))))

/-- The TSC scales of a tensor in the same order (R315): four of a line, or one and three zeros. -/
def Tensor.scaleTiles (t : Tensor) (img : List Byte) : List (Option Nat) :=
  (List.range (cdiv t.rows 64)).flatMap (fun b => (List.range (cdiv t.cols 128)).flatMap (fun k =>
    (List.range 64).flatMap (fun l => if t.fmt = 1 then [t.scale img (64 * b + l) k, some 0, some 0, some 0]
      else (List.range 4).map (fun q => t.scale img (64 * b + l) (4 * k + q)))))

end Sys2Proof

namespace Sys2Proof.Machine

/-- An attention object or weight object of the sender that is not being dropped or loaded. -/
def State.liveObj (s : State) (comp id : Nat) : Option Obj :=
  match Tbl.find (objKey comp id) s.slc.objs with
  | none => none
  | some o => if o.dropMsg.isSome || o.loading then none else some o

/-- A weight object of the sender is being loaded: its mirror has not acknowledged every tile. Messages that name it wait in the mailbox (R214, R235; log 125). -/
def State.objLoading (s : State) (comp id : Nat) : Bool :=
  match Tbl.find (objKey comp id) s.slc.objs with | some o => o.loading | none => false

/-- Updates an attention object. -/
def State.att! (s : State) (k : Nat) (f : AttObj → AttObj) : State := s.obj! k (fun o => { o with kind := match o.kind with | .attention a => .attention (f a) | x => x })

/-- ATT_CREATE (R215, R212). -/
def execAttCreate (mb : Nat) (s : State) : Host.Outcome State Fault Refusal :=
  onMsg s mb 0x0501 (fun m t =>
    let a : AttObj := ⟨m.pb 0 64, [], List.replicate (m.p 2 2) 0, [], []⟩
    let k := objKey m.comp (m.p 0 2)
    let r := a.reason
    if Tbl.has k t.slc.objs then t.refuse m rInUse
    else if 16384 ≤ t.slc.objs.length then t.refuse m rTableFull
    else if r ≠ 0 then t.refuse m r
    else (t.slc! (fun x => { x with objs := Tbl.put k ⟨.attention a, 0, [], false, none, [], none⟩ x.objs })).done m [])

/-- Tokens as an append carries them: the key's bytes, and the elements of the value. -/
def appendToks (hd n : Nat) (bs : List Byte) : List (List Byte × List F32) :=
  (List.range n).map (fun i => (bytesAt bs (4 * hd * i) (2 * hd), (bf16s hd (bytesAt bs (4 * hd * i + 2 * hd) (2 * hd))).map bf16to32))

/-- ATT_APPEND (R220): `dma` holds COUNT tokens; the append is refused whole, or every token is stored and LENGTH rises. -/
def execAttAppend (mb : Nat) (dma : HostRead) (s : State) : Host.Outcome State Fault Refusal :=
  onMsg s mb 0x0502 (fun m t =>
    let k := objKey m.comp (m.p 0 2)
    match t.liveObj m.comp (m.p 0 2) with
    | none => t.refuse m rUnknown
    | some o => match o.kind with
      | .attention a =>
        let n := m.p 4 4
        if m.p 2 2 ≠ 0 then t.refuse m rField
        else if o.poisoned then t.reply m stPoisoned (reasonHdr 0)
        else if a.maxToks < a.length + n then t.refuse m rCapacity
        else match dma with
          | none => t.reply m stInternal (reasonHdr 0)
          | some bs =>
            let l := appendToks a.headDim n bs
            if l.any (fun x => ((bf16s a.headDim x.1).map bf16to32).any (fun v => !ffinite v) || !a.valueOk x.2) then t.refuse m 0x0506
            else
              let toks := l.map (fun x => a.token x.1 x.2)
              let mill := sumL (toks.map a.tokBytes)
              let bas := 2 * a.headDim * n
              match (t.allocate m.comp 0 mill).bind (fun u => u.allocate m.comp 1 bas) with
              | none => t.refuse m rCapacity
              | some u =>
                let v := toks.foldl (fun (w : State) x => w.att! k (fun b => b.push (w.nextCell (attView m.comp b)) x)) u
                (v.obj! k (fun o => { o with bytes := o.bytes + mill + bas })).done m (le 4 (a.length + n) ++ le 4 0)
      | _ => t.refuse m rUnknown)

/-- The header of ATT_QUERY meets Table ATT-3, but for K and the object. -/
def attHeaderOk (a : AttObj) (m : Msg) : Bool :=
  let n := m.p 2 2
  decide (1 ≤ n) && decide (n ≤ 256) && decide (m.p 6 1 < 4) && priorityOk (m.p 7 1) && decide (m.p 0x10 8 % 64 = 0) && decide (m.p 0x18 8 % 64 = 0)
    && decide (m.p 0x30 2 % 64 = 0) && decide (2 * a.headDim ≤ m.p 0x30 2) && decide (m.p 0x32 14 = 0)
    && decide (n * attStride a.headDim (m.p 4 2) (bit (m.p 6 1) 0) ≤ m.p 0x20 8)

/-- The queries of an attention batch as admitted (R222, R228): one whose token limit or elements break their rules stops alone. -/
def attQueries (a : AttObj) (m : Msg) (bs lims : List Byte) (node : Nat) : List Query :=
  (List.range (m.p 2 2)).map (fun i =>
    let lim := if bit (m.p 6 1) 1 then natAt lims (4 * i) 4 else if m.p 8 4 = 0 then a.length else m.p 8 4
    let ref := a.keyDesc.refQuery (bytesAt bs (m.p 0x30 2 * i) (2 * a.headDim))
    let st : Option Nat := if ref.isNone ∨ lim = 0 ∨ a.length < lim then some stBad else none
    { (Query.fresh i 0 0 (ref.getD ⟨[], [], 0⟩) (zeros 32) st noTheta 0 true node) with limit := lim, logit := a.logit })

/-- ATT_QUERY (R227, R228): `dma` holds the query vectors, QSTRIDE bytes apart, and `lims` the token limits of PER_QUERY_LIMIT. -/
def execAttQuery (mb : Nat) (dma lims : HostRead) (s : State) : Host.Outcome State Fault Refusal :=
  onMsg s mb 0x0503 (fun m t =>
    let k := m.p 4 2
    let tag := m.p 0xC 4
    let per := bit (m.p 6 1) 1
    let key := objKey m.comp (m.p 0 2)
    if k = 0 ∨ 16384 < k then t.refuseBatch m tag stKRange 0
    else match t.liveObj m.comp (m.p 0 2) with
      | none => t.refuseBatch m tag stBad rUnknown
      | some o => match o.kind with
        | .attention a =>
          if !attHeaderOk a m then t.refuseBatch m tag stBad rField
          else if o.poisoned then t.refuseBatch m tag stPoisoned 0
          else if a.length < m.p 8 4 ∨ (!per ∧ m.p 8 4 = 0 ∧ a.length = 0) then t.refuseBatch m tag stBad 0x0507
          else match dma, (if per then lims else some []) with
            | some bs, some ls =>
              let t1 := t.searchBoundary
              let qb : QBatch := { (t1.newQBatch (attBase + key) t.nodeNo 0 k 7 a.length (m.p 0x18 8) 1 (attQueries a m bs ls t.nodeNo)) with
                att := some (a.headDim, bit (m.p 6 1) 0) }
              let r := t1.addBatch (some m) m.comp m.opcode (t1.msgLevel m (m.p 7 1)) tag .mergeSlots none [key]
              ((r.2.search! (fun x => { x with qbatches := Tbl.put r.1 qb x.qbatches })).grantSlots r.1).finishStopped r.1
            | _, _ => t.refuseBatch m tag stInternal 0
        | _ => t.refuseBatch m tag stBad rUnknown)

/-! ### Drops and reports -/

/-- OBJ_DROP (R214): from now on, new batches that name the object are refused. -/
def execObjDrop (mb : Nat) (s : State) : Host.Outcome State Fault Refusal :=
  onMsg s mb 0x0504 (fun m t =>
    if t.objLoading m.comp (m.p 0 2) then s
    else if m.p 2 6 ≠ 0 then t.refuse m rField
    else match t.liveObj m.comp (m.p 0 2) with
      | none => t.refuse m rUnknown
      | some _ => t.obj! (objKey m.comp (m.p 0 2)) (fun o => { o with dropMsg := some m }))

/-- Frees an object: its allocations, its frames in the pool, the binding of its extent, whose blocks stay until EXT_RELEASE (R214, R365). -/
def State.freeObj (s : State) (k : Nat) : State :=
  match Tbl.find k s.slc.objs with
  | none => s
  | some o =>
    let comp := k / 65536
    let s1 := match o.kind with
      | .attention a =>
        let bas := 2 * a.headDim * a.length
        (s.release comp 1 bas).release comp 0 (o.bytes - bas)
      | .weight w => if o.extent.isSome then s else s.release comp w.tier o.bytes
      | .buffer _ => s.release comp 1 o.bytes
      | .refExtent _ => s
    let s2 := match o.extent with
      | some e => s1.delta! (fun d => { d with extents := Tbl.upd e (fun y => { y with attached := none }) d.extents })
      | none => s1
    (s2.ferry! (fun f => { f with
      lake := f.lake.filter (fun x => x.2.centre || decide (x.2.obj ≠ k)), basin := f.basin.filter (fun x => x.2.centre || decide (x.2.obj ≠ k)) })).slc!
      (fun x => { x with objs := Tbl.erase k x.objs })

/-- OBJ_DROP_COMPLETE (R214): every batch and message admitted earlier that names the object has replied. -/
def execObjDropComplete (obj : Nat) (s : State) : Host.Outcome State Fault Refusal :=
  ok (match Tbl.find obj s.slc.objs with
    | none => s
    | some o => match o.dropMsg with
      | none => s
      | some m => if s.slc.batches.any (fun b => b.2.objs.contains obj) ∨ o.mirroring then s else (s.freeObj obj).done m [])

/-- OBJ_INFO (R240). -/
def execObjInfo (mb : Nat) (s : State) : Host.Outcome State Fault Refusal :=
  onMsg s mb 0x0508 (fun m t =>
    if t.objLoading m.comp (m.p 0 2) then s
    else if m.p 2 6 ≠ 0 then t.refuse m rField
    else match t.liveObj m.comp (m.p 0 2) with
      | none => t.refuse m rUnknown
      | some o =>
        let kind := match o.kind with | .attention _ => 0 | .weight _ => 1 | .buffer _ => 2 | .refExtent _ => 3
        let st := b2n o.poisoned + (match o.kind with | .weight w => 2 * b2n w.mirror.isSome + 4 * b2n w.mirrorLost | _ => 0)
        let len := match o.kind with | .attention a => a.length | _ => 0
        let vabs := match o.kind with | .attention a => a.vabs.flatMap (fun v => le 4 v.toNat) | _ => []
        t.done m (le 1 kind ++ le 1 st ++ le 2 0 ++ le 4 len ++ le 8 o.bytes ++ vabs))

/-! ### Weight objects -/

/-- Writes a full copy of a weight object to a node (R235): JRO puts of at most 1 MiB, by firmware, to its place there. -/
def State.mirrorWrite (s : State) (k n : Nat) : State :=
  match Tbl.find k s.slc.objs with
  | none => s
  | some o =>
    (List.range (cdiv o.bytes (2 ^ 20))).foldl (fun (t : State) i =>
      let len := Nat.min (2 ^ 20) (o.bytes - i * 2 ^ 20)
      let id := t.trib.nextOp
      let base : Packet := { (t.packet 1 2 n true 0) with
        addr := mirrorAddr n k (256 * i), opId := id, aux := t.tenantOf (k / 65536), links := t.linkMask (k / 65536), payer := k / 65536 }
      let x : JroOp := ⟨n, 2, 1, none, 0x3FF, 4, cdiv len 4096, [], i, k, base.addr, t.now, len⟩
      (t.trib! (fun y => { y with nextOp := id % (2 ^ 32 - 1) + 1, ops := Tbl.put id x y.ops })).sendFlow (jroPackets base len (Mem.readBytes o.data (i * 2 ^ 20) len))) s

/-- A mirror write has ended (R235, R239): with every tile acknowledged the object is mirrored, and the load or WEIGHT_MIRROR replies; when it failed they
reply PEER_LOST, and a load leaves no object. -/
def State.mirrorDone (s : State) (k : Nat) (good : Bool) : State :=
  match Tbl.find k s.slc.objs with
  | none => s
  | some o => match o.kind with
    | .weight w => (match w.pendingMirror with
      | none => s
      | some (n, m) =>
        let s1 := s.trib! (fun t => { t with ops := t.ops.filter (fun x => !(decide (x.2.fw = 4) && decide (x.2.localAt = k))) })
        if good then
          (s1.obj! k (fun o => { o with kind := .weight { w with mirror := some n, mirrorLost := false, pendingMirror := none, loadMsg := none } })).done m []
        else if w.loadMsg.isSome then (s1.freeObj k).reply m stPeerLost (reasonHdr 0)
        else (s1.obj! k (fun o => { o with kind := .weight { w with pendingMirror := none } })).reply m stPeerLost (reasonHdr 0))
    | _ => s

/-- MIRROR_NODE is a peer reachable over Tributary (R234). -/
def State.reachable (s : State) (n : Nat) : Bool := decide (n ≠ s.nodeNo) && !s.nodeLost n && decide (s.choices n 1 ≠ [])

/-- MIRROR_OK of the composition, and `peerOk`: the mirror node holds a composition of the same TENANT with MIRROR_OK (R436). -/
def State.mirrorAllowed (s : State) (comp : Nat) (peerOk : Bool) : Bool := peerOk && (match s.comp comp with | some c => c.mirrorOk | none => false)

/-- The stored bytes of an image's tensors (R315), each from a page boundary. -/
def State.weightBytes (s : State) (img : List Byte) : List Byte × State :=
  (imageTensors img).foldl (fun (acc : List Byte × State) t =>
    let sc := acc.2.fillFree (t.scaleTiles img)
    let b := t.tiles img ++ sc.1.flatMap (fun v => le 2 v)
    (acc.1 ++ b ++ zeros (roundUp b.length 65536 - b.length), sc.2)) ([], s)

/-- The object of a load, in Basin, or in flash as one extent that holds the header and the tensor table first (R312, R361); `none`: no space. -/
def State.placeWeight (s : State) (comp id tier hdr : Nat) (img data : List Byte) : Option (Nat × Option Nat × State) :=
  let n := data.length
  let flash : Option (Nat × Option Nat × State) :=
    match s.spaceOf comp with
    | none => none
    | some sp =>
      let first := cdiv hdr 4096
      let bytes := first * 4096 + n
      (s.allocate comp 2 bytes).bind (fun t =>
        (t.sealExtent sp (t.flashMask comp 0) 0 id bytes (Mem.writeBytes (Mem.writeBytes [] 0 (img.take hdr)) (first * 4096) data) n []).map (fun r => (2, some r.1, r.2)))
  let basin := (s.allocate comp 1 n).map (fun t => ((1, none, t) : Nat × Option Nat × State))
  match tier with
  | 0 => basin.orElse (fun _ => flash)
  | 1 => basin
  | _ => flash

/-- WEIGHT_LOAD (R230, R231, R234, R235, R312, R315, R436): `dma` is the image; `peerOk` what the mirror node answers (R436). -/
def execWeightLoad (mb : Nat) (dma : HostRead) (peerOk : Bool) (s : State) : Host.Outcome State Fault Refusal :=
  onMsg s mb 0x0505 (fun m t =>
    let id := m.p 0 2
    let k := objKey m.comp id
    let mir := bit (m.p 2 1) 0
    let node := m.p 4 2
    let len := m.p 0x10 8
    if t.objLoading m.comp id then s
    else if mir ∧ !m.admin then t.refuse m 0x0508
    else if id = 0xFFFF ∨ 1 < m.p 2 1 ∨ 2 < m.p 3 1 ∨ m.p 6 2 ≠ 0 then t.refuse m rField
    else if Tbl.has k t.slc.objs then t.refuse m rInUse
    else if 16384 ≤ t.slc.objs.length then t.refuse m rTableFull
    else if mir ∧ !t.mirrorAllowed m.comp peerOk then t.refuse m 0x0508
    else if mir ∧ !t.reachable node then t.refuse m rField
    else match dma with
      | none => t.reply m stInternal (reasonHdr 0)
      | some bytes =>
        let img := bytes.take len
        let r := imageReason img len
        if r ≠ 0 then t.refuse m r
        else
          let w := t.weightBytes img
          match w.2.placeWeight m.comp id (m.p 3 1) (64 + 32 * natAt img 4 2) img w.1 with
          | none => t.refuse m rCapacity
          | some (tier, ext, u) =>
            let wo : WeightObj := ⟨none, false, tier, [], if mir then some (node, m) else none, if mir then some m else none⟩
            let u1 := u.slc! (fun x => { x with objs := Tbl.put k ⟨.weight wo, w.1.length, Mem.writeBytes [] 0 w.1, false, none, [], ext⟩ x.objs })
            let u2 := match ext with
              | some e => u1.delta! (fun d => { d with extents := Tbl.upd e (fun y => { y with attached := some k }) d.extents })
              | none => u1
            if mir then u2.mirrorWrite k node else u2.done m [])

/-- WEIGHT_MIRROR (R239, R436): only of an object that was loaded MIRRORED (R234); another is refused with FIELD (log 125). One whose mirror is being written
waits (R214). -/
def execWeightMirror (mb : Nat) (peerOk : Bool) (s : State) : Host.Outcome State Fault Refusal :=
  onMsg s mb 0x0507 (fun m t =>
    let k := objKey m.comp (m.p 0 2)
    let node := m.p 4 2
    if t.objLoading m.comp (m.p 0 2) then s
    else if m.p 2 2 ≠ 0 ∨ m.p 6 2 ≠ 0 then t.refuse m rField
    else match t.liveObj m.comp (m.p 0 2) with
      | none => t.refuse m rUnknown
      | some o => match o.kind with
        | .weight w =>
          if w.pendingMirror.isSome then s
          else if !t.mirrorAllowed m.comp peerOk then t.refuse m 0x0508
          else if !t.reachable node ∨ w.mirror.isNone then t.refuse m rField
          else if o.poisoned then t.reply m stPoisoned (reasonHdr 0)
          else (t.obj! k (fun o => { o with kind := .weight { w with pendingMirror := some (node, m) } })).mirrorWrite k node
        | _ => t.refuse m rUnknown)

/-- A tile of an object is no longer stalled: moves and fills that need it go on. -/
def State.releaseTile (s : State) (k tile : Nat) : State :=
  (s.obj! k (fun o => { o with kind := match o.kind with
    | .weight w => .weight { w with refetch := Tbl.erase tile w.refetch }
    | x => x })).ferry! (fun y => { y with moves := y.moves.map (fun z =>
      let d : FDesc := ⟨z.2.desc⟩
      let filling := y.fills.any (fun f => decide (f.obj = k) && decide (f.page = tile))
      (z.1, if d.srcKind = 1 ∧ objKey z.2.comp (FDesc.objId d.src) = k ∧ !filling then { z.2 with waiting := z.2.waiting.filter (fun q => decide (q ≠ tile)) } else z.2)) })

/-- The tile of an object in flash is rewritten: its sectors are lost no more (R236 step 3). -/
def State.rewriteTile (s : State) (o : Obj) (tile : Nat) : State :=
  match o.extent with
  | none => s
  | some e => s.delta! (fun d => { d with extents := Tbl.upd e (fun x => { x with
      lost := x.lost.filter (fun i => !(decide (ExtentSt_first x ≤ i) && decide ((i - ExtentSt_first x) / 16 = tile))) }) d.extents })

/-- MIRROR_REFETCH_COMPLETE (R236, R237): the mirror's tile is rewritten locally and the stalled requests go on; `readable` false: the mirror's copy could
not be read, and the object is poisoned. -/
def execMirrorRefetchComplete (obj tile : Nat) (readable : Bool) (s : State) : Host.Outcome State Fault Refusal :=
  ok (match Tbl.find obj s.slc.objs with
    | none => s
    | some o => match o.kind with
      | .weight w =>
        if !Tbl.has tile w.refetch then s
        else if !readable then s.poisonObj obj
        else ((s.obj! obj (fun o => { o with injected := o.injected.filter (fun x => decide (x.2 / 65536 ≠ tile)) })).rewriteTile o tile).releaseTile obj tile
      | _ => s)

/-- MIRROR_REFETCH_TIMEOUT (R237): the first of the object's fetches that has not come within PEER_TMO_US. -/
def execMirrorRefetchTimeout (obj : Nat) (s : State) : Host.Outcome State Fault Refusal :=
  ok (match Tbl.find obj s.slc.objs with
    | none => s
    | some o => match o.kind with
      | .weight w => (match minL (w.refetch.map (·.2)) with | none => s | some t => (s.reach t).poisonObj obj)
      | _ => s)

/-- A node is declared lost (R237, R239): objects mirrored on it run unmirrored, MIRROR_LOST is logged; one with a tile being refetched is poisoned. -/
def State.mirrorLost (s : State) (n : Nat) : State :=
  s.slc.objs.foldl (fun t x => match x.2.kind with
    | .weight w =>
      let t1 := match w.pendingMirror with | some (p, _) => if p = n then t.mirrorDone x.1 false else t | none => t
      if w.mirror = some n ∧ !w.mirrorLost then
        let t2 := (t1.obj! x.1 (fun o => { o with kind := match o.kind with | .weight y => .weight { y with mirrorLost := true } | z => z })).logC
          (unitOf 0x0E 0) 0x0015 (x.1 / 65536) 0x3FF 0 (x.1 % 65536)
        if w.refetch ≠ [] then t2.poisonObj x.1 else t2
      else t1
    | _ => t) s

/-! ### Model runs -/

/-- The weights that a MODEL_RUN header names. -/
def modelWeights (m : Msg) : List Nat := (List.range (m.p 6 1)).map (fun i => m.p (8 + 2 * i) 2)

/-- The header of MODEL_RUN meets Table ATT-5, but for kernel and objects. -/
def modelHeaderOk (m : Msg) : Bool :=
  let n := m.p 4 2
  let nw := m.p 6 1
  decide (1 ≤ n) && decide (n ≤ 4096) && decide (1 ≤ nw) && decide (nw ≤ 8) && priorityOk (m.p 7 1)
    && (List.range 8).all (fun i => decide (i < nw) || decide (m.p (8 + 2 * i) 2 = 0xFFFF)) && decide (m.p 0x34 12 = 0)

/-- The root task of a MODEL_RUN starts with the arguments of Table RIL-1 (R244). -/
def State.startModel (s : State) (b : Nat) : State :=
  match s.batch b with
  | none => s
  | some x => match x.msg with
    | none => s
    | some m =>
      let out := if x.chain.isSome then x.stageAt else m.p 0x20 8
      s.startRoot b (m.p 0 4) (m.pb 0x18 8 ++ le 8 out ++ le 4 (m.p 4 2) ++ le 2 (m.p 6 1) ++ le 2 0 ++ m.pb 8 16 ++ m.pb 0x30 4 ++ zeros 20) x.objs

/-- MODEL_RUN (R232, R233, R244): with CHAIN_ADDR, `dma` is the query batch header there; its staging place is a free value. -/
def execModelRun (mb : Nat) (dma : HostRead) (s : State) : Host.Outcome State Fault Refusal :=
  onMsg s mb 0x0506 (fun m t =>
    let tag := m.p 0x30 4
    let ws := modelWeights m
    let chained := decide (m.p 0x28 8 ≠ 0)
    let objs := ws.map (fun id => t.liveObj m.comp id)
    let isWeight (o : Option Obj) : Bool := match o with | some o => (match o.kind with | .weight _ => true | _ => false) | none => false
    if ws.any (fun id => t.objLoading m.comp id) then s
    else if !modelHeaderOk m then t.refuseBatch m tag stBad rField
    else if (t.kernel m.comp (m.p 0 4)).isNone ∨ !objs.all isWeight then t.refuseBatch m tag stBad rUnknown
    else if objs.any (fun o => match o with | some o => o.poisoned | none => false) then t.refuseBatch m tag stPoisoned 0
    else match (if chained then dma else some []) with
      | none => t.refuseBatch m tag stInternal 0
      | some h =>
        let f := t.free
        let r := f.2.addBatch (some m) m.comp m.opcode (f.2.msgLevel m (m.p 7 1)) tag .rootWait none (ws.map (objKey m.comp))
        let t1 := r.2.batch! r.1 (fun x => { x with chain := if chained then some h else none, stageAt := f.1 * 64 % 2 ^ 64 })
        let t2 := t1.tryRoot r.1
        if t2.runs r.1 then t2.startModel r.1 else t2)

/-- A MODEL_RUN's task tree has retired (R244): it replies, or admits the query batch that it chains, whose vectors are the outputs (R233). -/
def State.modelOver (s : State) (b : Nat) : State :=
  match s.batch b with
  | none => s
  | some x => match x.chain, x.msg with
    | some h, some m => s.qryAdmit { m with payload := h } h.length (some b) (some (Mem.readBytes x.staged 0 (natAt h 2 2 * natAt h 0xA 2)))
    | _, _ => s.replyBatch b stOK 0 []

end Sys2Proof.Machine
end

