-- ==== Sys2Proof/Machine/Pipes.lean ====
section
/-! DEFINITION. Pipelines and the handover of requests between nodes (chapter 13: R443 to R449). -/

namespace Sys2Proof

/-- An ownership word (Table SLC-7): STATE 0 OWNED, 1 OFFERED, 2 GONE. -/
def ownWord (state node epoch : Nat) : Word := BitVec.ofNat 64 (state * 2 ^ 62 + node * 2 ^ 48 + epoch % 2 ^ 32)

/-- The stages of a PIPE_DEFINE payload. -/
def stagesOf (n : Nat) (bs : List Byte) : List Stage :=
  (List.range n).map (fun i => ⟨natAt bs (16 * i) 2, natAt bs (16 * i + 4) 4, natAt bs (16 * i + 8) 2, natAt bs (16 * i + 12) 4⟩)

/-- The bytes of an offer: the notification that the sender puts into firmware region 0xC (internal layout). -/
def Offer.bytes (o : Offer) (tenant : Nat) : List Byte :=
  le 1 0 ++ le 1 o.stage ++ le 1 o.stages.length ++ le 1 o.level ++ le 4 o.epoch ++ le 8 o.word ++ le 4 o.mapVersion ++ le 4 o.slot ++ le 4 o.nItems ++ le 4 o.tag
    ++ le 8 o.homeRun ++ le 2 o.home ++ le 2 tenant ++ le 4 0 ++ o.stages.flatMap (fun s => le 2 s.node ++ le 2 0 ++ le 4 s.kernel ++ le 2 s.buf ++ le 2 0 ++ le 4 s.stateBytes)

/-- The offer that bytes from a node spell, for a composition of this node. -/
def offerOf (src comp now : Nat) (bs : List Byte) : Offer :=
  ⟨src, natAt bs 8 8, natAt bs 4 4, comp, natAt bs 16 4, natAt bs 20 4, natAt bs 1 1, stagesOf (natAt bs 2 1) (bs.drop 48), natAt bs 24 4, natAt bs 28 4, natAt bs 3 1
   , natAt bs 40 2, natAt bs 32 8, now⟩

/-- The bytes that tell stage 0's node of a failure (R449): its run, status, reason. -/
def pipeFailBytes (run status reason : Nat) : List Byte := le 1 1 ++ le 1 status ++ le 2 reason ++ le 4 0 ++ le 8 run

/-- The BUFFER or BUFFER_WIDE address of a place in a buffer (Table TRB-3). -/
def bufferAddr (node buf off : Nat) : Nat :=
  if off < 2 ^ 32 then node * 2 ^ 52 + 2 ^ 48 + buf * 2 ^ 32 + off else node * 2 ^ 52 + 2 * 2 ^ 48 + buf * 2 ^ 32 + off / 16

/-- The stage that a run is in. -/
def PipeRun.at_ (r : PipeRun) : Stage := r.stages.getD r.stage ⟨0, 0, 0, 0⟩
/-- Where a stage's region of a slot starts in its buffer. -/
def Stage.off (x : Stage) (slot : Nat) : Nat := slot * x.stateBytes
/-- The stage that comes after: stage 0 again after the last, as the place that the result goes to. -/
def PipeRun.nextStage (r : PipeRun) : Stage := if r.stage + 1 < r.stages.length then r.stages.getD (r.stage + 1) ⟨0, 0, 0, 0⟩ else r.stages.getD 0 ⟨0, 0, 0, 0⟩

end Sys2Proof

namespace Sys2Proof.Machine

/-- A run. -/
def State.run (s : State) (r : Nat) : Option PipeRun := Tbl.find r s.slc.runs
/-- Updates a run. -/
def State.run! (s : State) (r : Nat) (f : PipeRun → PipeRun) : State := s.slc! (fun x => { x with runs := Tbl.upd r f x.runs })
/-- Sets an ownership word. -/
def State.word! (s : State) (w : Nat) (v : Word) : State := s.slc! (fun x => { x with words := Tbl.put w v x.words })
/-- An ownership word. -/
def State.word (s : State) (w : Nat) : Word := Tbl.getD w 0 s.slc.words

/-- A buffer of a composition that holds a slot's region of a stage. -/
def State.stageBuf (s : State) (comp : Nat) (x : Stage) (slot : Nat) : Bool :=
  match Tbl.find (objKey comp x.buf) s.slc.objs with
  | some o => o.dropMsg.isNone && (match o.kind with | .buffer _ => decide (x.off (slot + 1) ≤ o.bytes) | _ => false)
  | none => false

/-- SLOTS of a stage of this node (R447). -/
def State.stageSlots (s : State) (comp : Nat) (x : Stage) : Nat :=
  match Tbl.find (objKey comp x.buf) s.slc.objs with
  | some o => (match o.kind with | .buffer _ => o.bytes / x.stateBytes | _ => 0)
  | none => 0

/-- SEM_INIT (R425). -/
def execSemInit (mb : Nat) (s : State) : Host.Outcome State Fault Refusal :=
  onMsg s mb 0x0607 (fun m t =>
    let k := subKey m.comp (m.p 0 1)
    if m.p 1 1 ≠ 0 ∨ m.p 6 2 ≠ 0 then t.refuse m rField
    else if (match Tbl.find k t.slc.sems with | some x => !x.holders.isEmpty || !x.waiters.isEmpty | none => false) then t.refuse m 0x0606
    else (t.slc! (fun x => { x with sems := Tbl.put k ⟨m.p 2 2, m.p 4 2, false, [], []⟩ x.sems })).done m [])

/-- PIPE_DEFINE (R447); `remote` holds the SLOTS that the nodes of the other stages report, by stage. -/
def execPipeDefine (mb : Nat) (remote : List Nat) (s : State) : Host.Outcome State Fault Refusal :=
  onMsg s mb 0x0608 (fun m t =>
    let n := m.p 1 1
    let st := stagesOf n (m.payload.drop 8)
    let gap : Bool := (List.range n).any (fun i => decide (m.p (8 + 16 * i + 2) 2 ≠ 0) || decide (m.p (8 + 16 * i + 10) 2 ≠ 0))
    if n < 1 ∨ 16 < n ∨ m.p 2 6 ≠ 0 ∨ gap ∨ m.len < 8 + 16 * n
        ∨ st.any (fun x => decide (x.stateBytes % 64 ≠ 0) || decide (x.stateBytes < 64) || decide (2 ^ 24 < x.stateBytes) || decide (4096 ≤ x.node)) then t.refuse m rField
    else if (st.getD 0 ⟨4096, 0, 0, 0⟩).node ≠ t.nodeNo then t.refuse m 0x0607
    else
      let slots := (List.range n).map (fun i => let x := st.getD i ⟨0, 0, 0, 0⟩; if x.node = t.nodeNo then t.stageSlots m.comp x else remote.getD i 0)
      (t.slc! (fun x => { x with pipes := Tbl.put (subKey m.comp (m.p 0 1)) ⟨st, (minL slots).getD 0⟩ x.pipes })).done m [])

/-! ### Runs -/

/-- Slots of a pipeline that runs of this node hold. -/
def State.slotsUsed (s : State) (pipe : Nat) : List Nat :=
  s.slc.runs.filterMap (fun r => if r.2.pipe = pipe ∧ r.2.home = s.nodeNo ∧ r.2.homeRun = r.1 then r.2.slot else none)

/-- A run leaves this node: its batch, if it is not the one that replies, is gone. -/
def State.dropRun (s : State) (r : Nat) : State :=
  match s.run r with
  | none => s
  | some x => (if (s.batch x.batch).isSome then (s.endTasks x.batch).endBatch x.batch x.comp else s).slc! (fun y => { y with
      runs := Tbl.erase r y.runs })

/-- A stage's task tree starts (R448 step 3): a root task whose arguments follow Table RIL-1. -/
def State.stageRoot (s : State) (r : Nat) : State :=
  match s.run r with
  | none => s
  | some x =>
    let st := x.at_
    let a := bufferAddr s.nodeNo st.buf (st.off (x.slot.getD 0))
    s.startRoot x.batch st.kernel (le 8 a ++ le 8 a ++ le 4 x.nItems ++ le 2 0 ++ le 2 0 ++ List.replicate 16 0xFF ++ le 4 x.tag ++ zeros 20)
      [objKey (x.pipe / 256) st.buf]

/-- A run at stage 0 replies and leaves (R448 step 6, R449). -/
def State.replyRun (s : State) (r status reason : Nat) : State :=
  match s.run r with
  | none => s
  | some x => ((s.endTasks x.batch).replyBatch x.batch status reason []).slc! (fun y => { y with runs := Tbl.erase r y.runs })

/-- A run fails on this node (R449): at stage 0 it replies; a stage's node tells stage 0 by firmware NPUT. -/
def State.failRun (s : State) (r status reason : Nat) : State :=
  match s.run r with
  | none => s
  | some x =>
    if x.home = s.nodeNo ∧ x.homeRun = r then s.replyRun r status reason
    else if x.home = s.nodeNo then (s.dropRun r).replyRun x.homeRun status reason
    else
      let bs := pipeFailBytes x.homeRun status reason
      (((s.dropRun r).send x.home 1 (.pipeDone x.pipe (x.slot.getD 0) reason status)).fwOp x.comp 4 1 x.home 0xC 3 r 0 bs.length bs)

/-- A run starts its stage once its batch has its root context; its kernel and its buffer must be there (R449). -/
def State.startStage (s : State) (r : Nat) : State :=
  match s.run r with
  | none => s
  | some x =>
    if !s.runs x.batch ∨ x.phase ≠ .wait then s
    else if (s.kernel x.comp x.at_.kernel).isNone ∨ !s.stageBuf x.comp x.at_ (x.slot.getD 0) then s.failRun r stBad 0x0607
    else (s.run! r (fun y => { y with phase := .run })).stageRoot r

/-- Runs of a pipeline that wait get free slots in admission order (R448 step 1): the input is copied into the slot's region of stage 0. -/
def State.fillSlots (s : State) (pipe : Nat) : State :=
  match Tbl.find pipe s.slc.pipes with
  | none => s
  | some p =>
    (s.slc.runs.filter (fun r => decide (r.2.pipe = pipe) && decide (r.2.slot = none))).foldl (fun (t : State) r =>
      match (List.range p.count).find? (fun i => !(t.slotsUsed pipe).contains i) with
      | none => t
      | some i =>
        let st := r.2.stages.getD 0 ⟨0, 0, 0, 0⟩
        let t1 := t.run! r.1 (fun y => { y with slot := some i })
        if !t.stageBuf r.2.comp st i then t1.failRun r.1 stBad 0x0607
        else
          let t2 := t1.obj! (objKey r.2.comp st.buf) (fun o => { o with data := Mem.writeBytes o.data (st.off i) r.2.input })
          ((t2.batch! r.2.batch (fun y => { y with stage := .rootWait })).tryRoot r.2.batch).startStage r.1) s

/-- PIPE_RUN (R448); `dma` is the input. The run is known by the number of its batch. -/
def execPipeRun (mb : Nat) (dma : HostRead) (s : State) : Host.Outcome State Fault Refusal :=
  onMsg s mb 0x0609 (fun m t =>
    let tag := m.p 4 4
    let key := subKey m.comp (m.p 0 1)
    if !priorityOk (m.p 1 1) then t.refuseBatch m tag stBad rField
    else match Tbl.find key t.slc.pipes with
      | none => t.refuseBatch m tag stBad 0x0608
      | some p =>
        let sb := (p.stages.getD 0 ⟨0, 0, 0, 0⟩).stateBytes
        if sb < m.p 0x10 8 ∨ sb < m.p 0x20 8 then t.refuseBatch m tag stBad 0x0608
        else if p.count = 0 then t.refuseBatch m tag stBad 0x0607
        else match dma with
          | none => t.refuseBatch m tag stInternal 0
          | some bs =>
            let level := t.msgLevel m (m.p 1 1)
            let r := t.addBatch (some m) m.comp m.opcode level tag .pipeSlot none []
            let run : PipeRun :=
              { batch := r.1, pipe := key, comp := m.comp, slot := none, phase := .wait, stage := 0, stages := p.stages, nItems := m.p 2 2, tag := tag, level := level
                home := t.nodeNo, homeRun := r.1, outAddr := m.p 0x18 8, outLen := m.p 0x20 8, input := bytesAt bs 0 (m.p 0x10 8), receiver := 0, epoch := 0
                offers := 0, deadline := 0 }
            ((r.2.slc! (fun x => { x with runs := Tbl.put r.1 run x.runs })).word! r.1 (ownWord 0 t.nodeNo 0)).fillSlots key)

/-- The result of a run is at stage 0's node (R448 step 6): it is written, the slot is free for the next run, and the run replies. -/
def State.finishRun (s : State) (r : Nat) : State :=
  match s.run r with
  | none => s
  | some x =>
    let st := x.stages.getD 0 ⟨0, 0, 0, 0⟩
    let bs := match Tbl.find (objKey x.comp st.buf) s.slc.objs with | some o => Mem.readBytes o.data (st.off (x.slot.getD 0)) x.outLen | none => zeros x.outLen
    let s1 := match (s.batch x.batch).bind (·.msg) with | some m => s.output m x.outAddr bs | none => s
    (s1.replyRun r stOK 0).fillSlots x.pipe

/-! ### Handover (R443 to R446) -/

/-- The state of a run is put to the next node (R444 step 1): PUTs of at most 1 MiB in ascending offset, of the bytes that both regions hold. -/
def State.pushState (s : State) (r : Nat) : State :=
  match s.run r with
  | none => s
  | some x =>
    let a := x.at_
    let b := x.nextStage
    let n := Nat.min a.stateBytes b.stateBytes
    let slot := x.slot.getD 0
    let data := match Tbl.find (objKey x.comp a.buf) s.slc.objs with | some o => Mem.readBytes o.data (a.off slot) n | none => zeros n
    (List.range (cdiv n (2 ^ 20))).foldl (fun (t : State) i =>
      let len := Nat.min (2 ^ 20) (n - i * 2 ^ 20)
      let id := t.trib.nextOp
      let base : Packet := { (t.packet 1 1 b.node false (t.tenantOf x.comp)) with
        addr := bufferAddr b.node b.buf (b.off slot + i * 2 ^ 20), opId := id, links := t.linkMask x.comp, payer := x.comp, batch := x.batch }
      let o : JroOp := ⟨b.node, 1, 1, none, 0x3FF, 5, cdiv len 4096, [], i, r, base.addr, t.now, len⟩
      (t.trib! (fun y => { y with nextOp := id % (2 ^ 32 - 1) + 1, ops := Tbl.put id o y.ops })).sendFlow (jroPackets base len (bytesAt data (i * 2 ^ 20) len)))
      (s.run! r (fun y => { y with phase := .push, receiver := b.node }))

/-- A run arrives at a node whose batch admits its next stage (R444, R448): a batch of the receiving composition at the run's level. -/
def State.arrive (s : State) (o : Offer) : State :=
  let r := s.addBatch none o.comp 0x0609 o.level o.tag .rootWait none []
  let st := o.stages.getD o.stage ⟨0, 0, 0, 0⟩
  let pipe := if o.home = s.nodeNo then (match s.run o.homeRun with | some x => x.pipe | none => subKey o.comp 0) else subKey o.comp 0
  let run : PipeRun :=
    { batch := r.1, pipe := pipe, comp := o.comp, slot := some o.slot, phase := .wait, stage := o.stage, stages := o.stages, nItems := o.nItems, tag := o.tag, level := o.level
      home := o.home, homeRun := o.homeRun, outAddr := 0, outLen := 0, input := [], receiver := 0, epoch := o.epoch, offers := 0, deadline := 0 }
  let s1 := (r.2.slc! (fun x => { x with runs := Tbl.put r.1 run x.runs })).word! r.1 (ownWord 0 s.nodeNo o.epoch)
  if st.stateBytes = 0 then s1.failRun r.1 stBad 0x0607 else (s1.tryRoot r.1).startStage r.1

/-- The receiver owns the state of an offer: the next stage starts, or the run is over at stage 0. -/
def State.own (s : State) (o : Offer) : State := if o.stage < o.stages.length then s.arrive o else s.finishRun o.homeRun

/-- The offer that a run's stage makes. -/
def PipeRun_offer (x : PipeRun) (node word mapVersion : Nat) : Offer :=
  ⟨node, word, (x.epoch + 1) % 2 ^ 32, x.comp, mapVersion, x.slot.getD 0, x.stage + 1, x.stages, x.nItems, x.tag, x.level, x.home, x.homeRun, 0⟩

/-- A stage's owner is rid of a run: stage 0's own entry stays until the result is back. A handover to another node is counted by the caller. -/
def State.handed (s : State) (r : Nat) : State :=
  match s.run r with
  | none => s
  | some x => if x.home = s.nodeNo ∧ x.homeRun = r then s.run! r (fun y => { y with phase := .away }) else s.dropRun r

/-- PIPE_STAGE_DONE (R448): the stage's task tree has retired. A next stage on this node takes the state over the mesh; else the state is put to its node. -/
def execPipeStageDone (run : Nat) (s : State) : Host.Outcome State Fault Refusal :=
  ok (match s.run run with
    | none => s
    | some x =>
      if x.phase ≠ .run ∨ !s.runs x.batch ∨ s.slc.tasks.any (fun t => decide (t.2.batch = x.batch)) then s
      else if x.nextStage.node = s.nodeNo then
        let a := x.at_
        let b := x.nextStage
        let n := Nat.min a.stateBytes b.stateBytes
        let slot := x.slot.getD 0
        if !s.stageBuf x.comp b slot then s.failRun run stBad 0x0607
        else
          let data := match Tbl.find (objKey x.comp a.buf) s.slc.objs with | some o => Mem.readBytes o.data (a.off slot) n | none => zeros n
          let s1 := s.obj! (objKey x.comp b.buf) (fun o => { o with data := Mem.writeBytes o.data (b.off slot) data })
          ((s1.word! run (ownWord 2 s.nodeNo (x.epoch + 1))).handed run).own (PipeRun_offer x s.nodeNo run (s.mapVersion x.comp))
      else s.pushState run)

/-- HANDOVER_OFFER (R444): every PUT has completed; the word becomes OFFERED and the offer goes. -/
def execHandoverOffer (run : Nat) (s : State) : Host.Outcome State Fault Refusal :=
  ok (match s.run run with
    | none => s
    | some x =>
      if x.phase ≠ .push ∨ s.trib.ops.any (fun o => decide (o.2.fw = 5) && decide (o.2.localAt = run)) then s
      else
        let o := PipeRun_offer x s.nodeNo run (s.mapVersion x.comp)
        let bs := o.bytes (s.tenantOf x.comp)
        let s1 := (s.word! run (ownWord 1 x.receiver o.epoch)).run! run (fun y => { y with
          phase := .offered, offers := y.offers + 1, deadline := s.now + us (orIfZero (s.fld Reg.SLC_TIMING 16 16) 1) })
        (s1.send x.receiver 1 (.offer run o.epoch x.comp)).fwOp x.comp 4 1 x.receiver 0xC 3 run 0 bs.length bs)

/-- HANDOVER_ACCEPT (R412, R440, R444, R446): the receiver tries an offer under R412, and `old` is what its CAS on the sender's word returns. A PATH_LOST CAS is
sent again, and returns through this command. -/
def execHandoverAccept (offer old : Nat) (s : State) : Host.Outcome State Fault Refusal :=
  ok (match s.slc.offers[offer]? with
    | none => s
    | some o =>
      let rest (t : State) : State := t.slc! (fun x => { x with offers := x.offers.eraseIdx offer })
      let last := decide (o.stages.length ≤ o.stage)
      match s.judgeMap o.comp o.mapVersion with
      | .hold => s
      | .bounce => (rest (s.count Reg.SLC_CNT0 8 1)).send o.fromNode 1 (.reroute 0 o.word (s.mapVersion o.comp))
      | .accept =>
        if !last ∧ !s.ctxAllowed o.comp then s
        else
          let good := BitVec.ofNat 64 old = ownWord 1 s.nodeNo o.epoch ∨ BitVec.ofNat 64 old = ownWord 2 s.nodeNo o.epoch
          let s1 := (rest s).send o.fromNode 1 (.acceptCas o.word o.epoch)
          if good then s1.own o else s1.logC (unitOf 0x13 0) 0x0035 o.comp 0x3FF 0 0)

/-- Offers under a map that has not come within MAP_GRACE_US are bounced (R440). -/
def State.bounceOffers (s : State) (comp : Nat) : State :=
  let late (o : Offer) : Bool := decide (o.comp = comp) && decide (s.judgeMap comp o.mapVersion = .hold)
  (s.slc.offers.filter late).foldl (fun t o =>
      ((t.reach (o.gotNs + t.mapGrace)).count Reg.SLC_CNT0 8 1).send o.fromNode 1 (.reroute 0 o.word (s.mapVersion comp)))
    (s.slc! (fun x => { x with offers := x.offers.filter (fun o => !late o) }))

/-- HANDOVER_TIMEOUT (R445): the local CAS reclaims the word, and the request is offered anew, at most three times in all; a word that is GONE means that the
handover has succeeded. -/
def execHandoverTimeout (run : Nat) (s : State) : Host.Outcome State Fault Refusal :=
  ok (match s.run run with
    | none => s
    | some x =>
      if x.phase ≠ .offered then s
      else
        let s1 := s.reach x.deadline
        if s1.word run = ownWord 1 x.receiver (x.epoch + 1) then
          let s2 := (s1.word! run (ownWord 0 s.nodeNo (x.epoch + 2))).run! run (fun y => { y with epoch := (y.epoch + 2) % 2 ^ 32 })
          if x.offers < 3 then s2.pushState run else s2.failRun run stPeerLost 0
        else s1.handed run)

/-- A notification in firmware region 0xC (R444, R449): an offer for the composition of its tenant, or a stage's failure. -/
def State.pipeNote (s : State) (src : Nat) (bs : List Byte) : State :=
  if natAt bs 0 1 = 1 then s.replyRun (natAt bs 8 8) (natAt bs 1 1) (natAt bs 2 2)
  else match s.slc.comps.find? (fun c => decide (c.2.tenant = natAt bs 42 2)) with
    | none => s
    | some c => s.slc! (fun x => { x with offers := x.offers ++ [offerOf src c.1 s.now bs] })

/-- A PUT of a run's state has ended (R444, R449): sent again after PATH_LOST; a buffer that is absent or too small fails the run. -/
def State.pushEnded (s : State) (r status : Nat) : State :=
  if status = jOK then s
  else
    let s1 := s.trib! (fun t => { t with ops := t.ops.filter (fun o => !(decide (o.2.fw = 5) && decide (o.2.localAt = r))) })
    if status = jPathLost then s1.pushState r else s1.failRun r (if status = jNoTarget then stPeerLost else stBad) (if status = jNoTarget then 0 else 0x0607)

/-- A node is declared lost (R449): runs with a stage on it fail at stage 0; a stage of a run whose stage 0 is lost is dropped. -/
def State.runsLose (s : State) (n : Nat) : State :=
  s.slc.runs.foldl (fun t r =>
    if r.2.home = n then t.dropRun r.1
    else if r.2.home = s.nodeNo ∧ r.2.homeRun = r.1 ∧ r.2.stages.any (fun x => decide (x.node = n)) then t.replyRun r.1 stPeerLost 0
    else t) s

end Sys2Proof.Machine
end

