-- ==== Sys2Proof/Machine/TaskDone.lean ====
section
/-! DEFINITION. Tasks that end, batches that get their root context, and the end of a teardown (chapters 08 and 13: R243, R244, R412 to R415, R427, R450 to
R452). -/

namespace Sys2Proof.Machine

/-- A batch's task tree has lost its last task: a MODEL_RUN is over (R244); a pipeline's stage goes on at PIPE_STAGE_DONE. -/
def State.treeOver (s : State) (b : Nat) : State :=
  match s.batch b with
  | none => s
  | some x => if x.opcode = 0x0506 ∧ x.torn = none ∧ !s.slc.tasks.any (fun t => decide (t.2.batch = b)) then s.modelOver b else s

/-- A task that has reached END retires (R243, R414, R427): units that it still holds are released without POISON and logged, its context is QUIET. -/
def State.retireTask (s : State) (t : Nat) : State :=
  match Tbl.find t s.slc.tasks with
  | none => s
  | some k =>
    let s1 := match k.ctx with
      | none => s
      | some c => ((if s.holdsSem c then s.logC (unitOf 0x13 0) 0x0042 k.comp c 0 0 else s).releaseSems c false).quietCtx c
    ((s1.dropTask t).treeOver k.batch).settleModifies

/-- Tasks that reached END and whose operations and moves have all completed retire (R243). -/
def State.settleTasks (s : State) : State :=
  s.slc.tasks.foldl (fun t k => match Tbl.find k.1 t.slc.tasks with
    | some x => if x.state = .draining ∧ x.moves = [] ∧ x.ops = [] then t.retireTask k.1 else t
    | none => t) s

/-- END (R241, R243). -/
def execEndTask (core : Nat) (s : State) : Host.Outcome State Fault Refusal :=
  onTask s core (fun t k =>
    if k.moves = [] ∧ k.ops = [] then s.retireTask t
    else s.task! t (fun y => { y with state := .draining }))

/-- FERRY_MOVE_COMPLETE (R320, R330, R236, R237, R243). -/
def execFerryMoveComplete (move : Nat) (outcome : MoveOutcome) (s : State) : Host.Outcome State Fault Refusal :=
  ok (s.moveEnds move outcome).settleTasks

/-- What a batch does once it has its root context; of a query batch the first group starts (R118). -/
def State.begin (s : State) (b : Nat) : State :=
  match s.batch b with
  | none => s
  | some x =>
    if x.opcode = 0x0301 ∨ x.opcode = 0x0503 then
      match s.qbatch b with
      | none => s
      | some qb => if qb.lead = s.nodeNo then s.finishStopped b else (List.range (Nat.min 32 qb.queries.length)).foldl (fun t i => t.startLocal b i) s
    else if x.opcode = 0x0402 then s.serveGather b
    else if x.opcode = 0x0506 then s.startModel b
    else if x.opcode = 0x0609 then s.startStage b
    else s

/-- ROOT_CONTEXT_GRANT (R412, R415). -/
def execRootContextGrant (batch : Nat) (s : State) : Host.Outcome State Fault Refusal :=
  ok (
    let s1 := s.tryRoot batch
    if s.runs batch || !s1.runs batch then s1 else s1.begin batch)

/-- An update batch that is torn down (R451): before its epoch is taken it aborts and every operation carries the status; after it, it commits and completes
under R180. -/
def State.tearUpdate (s : State) (b st : Nat) (u : UpdBatch) : State :=
  let taken := decide (u.epoch ≠ 0) || decide (u.stage = .committing) || decide (u.stage = .reporting) || decide (u.stage = .stableWait)
  if taken then (s.batch! b (fun x => { x with torn := none })).quietBatch b
  else
    let s1 := s.abortBatch b st 0
    let ops := match Tbl.find b s1.search.upds with | some y => y.ops | none => u.ops
    let s2 := match (s1.batch b).bind (·.msg) with | some m => s1.output m u.complAddr (ops.flatMap (fun (o : UpdOp) => o.record s.nodeNo 0)) | none => s1
    (s2.search! (fun y => { y with upds := Tbl.erase b y.upds })).replyBatch b st 0 (le 8 0 ++ le 2 0 ++ le 2 ops.length ++ le 4 0)

/-- TEARDOWN_COMPLETE (R244, R450 to R452): the moves of the batch have ended; its contexts become QUIET and it replies, by its kind. -/
def execTeardownComplete (batch : Nat) (s : State) : Host.Outcome State Fault Refusal :=
  ok (match s.batch batch with
    | none => s
    | some x => match x.torn with
      | none => s
      | some st =>
        if s.ferry.moves.any (fun m => decide (m.2.batch = batch)) then s
        else if (s.run batch).isSome then s.failRun batch st 0
        else match s.qbatch batch, Tbl.find batch s.search.upds with
          | some qb, _ =>
            if qb.lead = s.nodeNo then (s.failQueries batch st).replyBatch batch st 0 []
            else (List.range qb.queries.length).foldl (fun t i => t.refusePart batch i st) s
          | none, some u => s.tearUpdate batch st u
          | none, none =>
            let s1 := match s.childOf batch with
              | some c => ((s.failQueries c st).endTasks c).endBatch c x.comp
              | none => s
            (s1.search! (fun y => { y with gathers := Tbl.erase batch y.gathers })).replyBatch batch st 0 [])

end Sys2Proof.Machine
end

