-- ==== Sys2Proof/Machine/Comps.lean ====
section
/-! DEFINITION. Compositions: slices, maps, meters and the charging log (chapter 13: R429 to R442, R453, R598). -/

namespace Sys2Proof

/-- Fields of a slice record lie within the limits of Table SLC-4; reserved fields are zero (R430). SHARED names groups of CORE_GROUPS. -/
def sliceFieldsOk (b : List Byte) : Bool :=
  let f (o n : Nat) : Nat := natAt b o n
  decide (f 0 1 ≤ 63) && decide (f 1 1 / 16 = 0) && decide (f 2 2 ≠ 0) && decide (f 6 2 &&& f 4 2 = f 6 2) && decide (f 8 1 ≠ 0) && decide (f 9 1 = 0)
    && decide (1 ≤ f 0x0A 2) && decide (f 0x0A 2 ≤ 1023) && decide (f 0x0C 2 ≤ f 0x0A 2) && decide (f 0x0E 2 = 0)
    && decide (f 0x28 4 / 2 ^ 24 = 0) && decide (f 0x2C 4 / 2 ^ 24 = 0) && decide (f 0x30 8 = 0) && decide (f 0x38 8 = 0)

end Sys2Proof

namespace Sys2Proof.Machine

/-- A sum of a slice field over every composition but `c`, with `v` for `c` itself. -/
def State.sliceSum (s : State) (c off n v : Nat) : Nat := v + sumL ((s.slc.comps.filter (fun x => decide (x.1 ≠ c))).map (fun x => x.2.f off n))

/-- A slice record breaks a condition of R430 against the other compositions, the grade and the usable capacities of R598. -/
def State.sliceConflict (s : State) (b : List Byte) : Bool :=
  let c := natAt b 0 1
  let groups := natAt b 4 2
  let shared := natAt b 6 2
  let sum (off n : Nat) : Nat := s.sliceSum c off n (natAt b off n)
  decide (groups = 0) || decide (groups / 2 ^ (s.coresEnabled / 16) ≠ 0)
    || s.slc.comps.any (fun o => decide (o.1 ≠ c) && (decide (o.2.tenant = natAt b 2 2)
        || (List.range 16).any (fun g => bit groups g && bit o.2.groups g && !(bit shared g && bit (o.2.f 6 2) g))))
    || decide (1023 < sum 0x0C 2) || decide (2560 < sum 0x26 2) || decide (s.basinFrames < sum 0x2C 4)
    || decide (s.usableMill < sum 0x14 2) || decide (s.usableBasin < sum 0x16 2) || decide (s.usableFlash < sum 0x20 4)

/-- Channel groups of the Millrace mask that hold reaches, or blocks of attention objects, of a composition (R313, R432). -/
def State.millHeld (s : State) (c : Nat) : List Nat :=
  let grp (cell : Nat) : Nat := 4 * (cell / 128) + cell % 128 / 32
  dedup (s.search.colls.flatMap (fun k => if k.2.comp = c then k.2.reaches.map (fun r => grp r.2.cell) else [])
    ++ s.slc.objs.flatMap (fun o => if o.1 / 65536 = c then (match o.2.kind with | .attention a => a.blocks.map (fun b => grp b.cell) | _ => []) else []))

/-- Flash channels that hold blocks of a composition's space (R432). -/
def State.flashHeld (s : State) (c : Nat) : List Nat :=
  match s.spaceOf c with
  | none => []
  | some k => dedup ((s.delta.blocks.filter (fun b => decide (b.2.space = k) && decide (b.2.sectors ≠ []))).map (fun b => b.1 / 2 ^ 21))

/-- The record lies below what the composition uses, or takes a channel group or flash channel that holds its allocations (R434). Basin space is striped
over every stack that the masks permit (R313), so each of its groups is held while any is. -/
def State.belowUse (s : State) (c : Nat) (x : Comp) (b : List Byte) : Bool :=
  let n : Comp := { x with slice := b }
  decide (n.ctxLimit < s.ctxHeld c) || decide (n.f 0x24 2 < s.lakeHeld c) || decide (n.f 0x28 4 < s.basinHeld c)
    || decide (Comp.quotaBytes n 0 < s.quotaUse c x 0) || decide (Comp.quotaBytes n 1 < s.quotaUse c x 1) || decide (Comp.quotaBytes n 2 < s.quotaUse c x 2)
    || (s.millHeld c).any (fun g => bit (x.f 0x10 2) g && !bit (n.f 0x10 2) g)
    || (decide (x.usedBasin ≠ 0) && (List.range 16).any (fun g => bit (x.f 0x12 2) g && !bit (n.f 0x12 2) g))
    || (s.flashHeld c).any (fun k => bit (x.f 0x18 4) k && !bit (n.f 0x18 4) k)

/-- COMP_CREATE (R429, R430, R437, R472): the composition exists, its meters are zeroed, and once the reply is written its mailbox is FREE. -/
def execCompCreate (mb : Nat) (s : State) : Host.Outcome State Fault Refusal :=
  onMsg s mb 0x0601 (fun m t =>
    let b := m.pb 0 64
    let c := m.p 0 1
    if !sliceFieldsOk b then t.refuse m rField
    else if (t.comp c).isSome then t.refuse m 0x0602
    else if t.sliceConflict b then t.refuse m 0x0603
    else
      let s1 := t.slc! (fun x => { x with
        comps := Tbl.put c ⟨b, 0, [], false, 0, false, 0, 0, 0, 0, none, none, natAt b 1 1 % 8⟩ x.comps
        meters := Tbl.put c [0, 0, 0, 0, 0] x.meters })
      (s1.done m []).box! c (fun x => { x with state := .free }))

/-- COMP_MODIFY (R430, R434): it replies when no task is left on removed core groups. A new limit may let waiting work start at its own command. -/
def execCompModify (mb : Nat) (s : State) : Host.Outcome State Fault Refusal :=
  onMsg s mb 0x0602 (fun m t =>
    let b := m.pb 0 64
    let c := m.p 0 1
    match t.comp c with
    | none => if sliceFieldsOk b then t.refuse m 0x0601 else t.refuse m rField
    | some x =>
      if !sliceFieldsOk b ∨ natAt b 2 2 ≠ x.tenant then t.refuse m rField
      else if t.sliceConflict b then t.refuse m 0x0603
      else if t.belowUse c x b then t.refuse m 0x0604
      else
        -- an earlier COMP_MODIFY that still waits is overtaken by this one: its changes are in effect as far as they still apply
        let s0 := match x.modify with | some e => (t.comp! c Comp.modified).done e [] | none => t
        (s0.comp! c (fun y => { y with slice := b, modify := some m })).settleModify c)

/-- COMP_DESTROY (R435, R472): the mailbox closes at admission; the rest goes on once no batch is left. -/
def execCompDestroy (mb : Nat) (s : State) : Host.Outcome State Fault Refusal :=
  onMsg s mb 0x0603 (fun m t =>
    let c := m.p 0 1
    if m.p 1 7 ≠ 0 ∨ 63 < c then t.refuse m rField
    else match t.comp c with
      | none => t.refuse m 0x0601
      | some x =>
        if x.destroy.isSome then t.refuse m 0x0601
        else ((t.comp! c (fun y => { y with destroy := some m })).box! c (fun y => { y with state := .closed, window := [] })).checkDestroy c)

/-- Nodes that a map adds to a collection's span get the summaries of this node's catchments, and are asked for their own (R98, R101); `t` is the state
before the map. -/
def State.spanGrown (s t : State) (comp : Nat) : State :=
  (s.search.colls.filter (fun k => decide (k.2.comp = comp))).foldl (fun u k =>
    let new := (u.others comp k.2.desc.span).filter (fun n => !(t.others comp k.2.desc.span).contains n)
    if new = [] then u else new.foldl (fun v n => v.askFirst k.1 n) (u.publishAll k.1)) s

/-- A request that waited for a map is taken, or answered REROUTE where none came (R440); an epoch request goes on waiting. -/
def State.resumeReq (s : State) (bounce : Bool) : MapReq → State
  | .part p => if bounce then s.bouncePart p else s.takePart p
  | .fanout p => if bounce then s.bounceFan p else s.takeFan p
  | .summary k n c x v l => if bounce then s.count Reg.SLC_CNT0 8 1 else s.takeSummary k n c x v l
  | .gather _ _ p => let r := s.gatherGet p.src p.addr p.aux; r.2.answerPkt p r.1.status r.1
  | .epoch k co sq v => s.takeEpochReq k co sq v

/-- A map was installed: what waited for it goes on, in order of arrival (R440). -/
def State.resumeWaits (s : State) (comp : Nat) : State :=
  let r := s.takeWaits (fun w => decide ((MapReq_at w).1 = comp) && decide (s.judgeMap comp (MapReq_at w).2 ≠ .hold))
  r.1.foldl (fun t w => t.resumeReq false w.2) r.2

/-- Requests that have waited MAP_GRACE_US for a map are bounced (R440). -/
def State.bounceWaits (s : State) (comp : Nat) : State :=
  let r := s.takeWaits (fun w => decide ((MapReq_at w).1 = comp) && (match w with | .epoch _ _ _ _ => false | _ => true))
  (r.1.foldl (fun t w => (t.reach (w.1 + t.mapGrace)).resumeReq true w.2) r.2).bounceOffers comp

/-- MAP_SET (R439 to R442, R607): `dma` holds the 4,096 node ids. Epoch homes move at installation, and what waited for this map goes on. -/
def execMapSet (mb : Nat) (dma : HostRead) (s : State) : Host.Outcome State Fault Refusal :=
  onMsg s mb 0x0604 (fun m t =>
    let c := m.p 0 1
    if m.p 1 3 ≠ 0 ∨ 63 < c then t.refuse m rField
    else match t.comp c with
      | none => t.refuse m 0x0601
      | some x =>
        let v := m.p 4 4
        if !(seqGe 32 v x.mapVersion && decide (v ≠ x.mapVersion)) then t.refuse m 0x0605
        else match dma with
          | none => t.reply m stInternal (reasonHdr 0)
          | some bs =>
            let homes := (List.range 4096).map (fun i => natAt bs (2 * i) 2)
            if homes.any (fun h => decide (4096 ≤ h)) then t.refuse m rField
            else
              let s1 := t.comp! c (fun y => { y with
                mapVersion := v, homes := homes, hasMap := true, prevVersion := y.mapVersion, hasPrev := true, installNs := t.now })
              ((((((s1.rehome c).spanGrown t c).recheck t).done m []).resumeGathers c).resumeQueries c false).resumeWaits c)

/-- MAP_GRACE_EXPIRY (R440 to R442): MAP_GRACE_US has passed since the installation; PREVIOUS is no longer accepted, and whatever waited for a map goes on
under the current one. -/
def execMapGraceExpiry (comp : Nat) (s : State) : Host.Outcome State Fault Refusal :=
  ok (match s.comp comp with
    | none => s
    | some x =>
      let s1 := if x.hasPrev then s.reach (x.installNs + s.mapGrace) else s
      let late := s1.search.upds.filter (fun u => decide (u.2.coll / 4096 = comp) && decide (u.2.stage = .waitMap))
      let s2 := late.foldl (fun t u => t.reach u.2.needNs) s1
      let s3 := late.foldl (fun t u => t.replan u.1) s2
      ((s3.resumeGathers comp).resumeQueries comp true).bounceWaits comp)

/-- COMP_INFO (R453, R598): a composition asks only for itself; the usable capacities are for the admin role. -/
def execCompInfo (mb : Nat) (s : State) : Host.Outcome State Fault Refusal :=
  onMsg s mb 0x0605 (fun m t =>
    let c := m.p 0 1
    if m.p 1 7 ≠ 0 ∨ 63 < c then t.refuse m rField
    else if !m.admin && decide (c ≠ m.comp) then t.refuse m 0x0508
    else match t.comp c with
      | none => t.refuse m 0x0601
      | some x =>
        let meters := (List.range 5).flatMap (fun i => le 8 ((Tbl.getD c [0, 0, 0, 0, 0] t.slc.meters).getD i 0 / 1000))
        let caps := if m.admin then [t.usableMill, t.usableBasin, t.usableFlash, 2560, t.basinFrames] else [0, 0, 0, 0, 0]
        t.done m (x.slice ++ meters ++ le 4 x.mapVersion ++ le 4 x.prevVersion ++ caps.flatMap (fun v => le 8 v)))

/-- CHARGE_LOG (R438): the log is set or stopped, and SLC_CHARGE is zeroed. -/
def execChargeLog (mb : Nat) (s : State) : Host.Outcome State Fault Refusal :=
  onMsg s mb 0x0606 (fun m t =>
    if m.p 4 4 ≠ 0 ∨ m.p 8 8 % 64 ≠ 0 then t.refuse m rField
    else
      let s1 := t.slc! (fun x => { x with produced := 0, chargeLog := if m.p 0 4 = 0 then none else some ⟨m.p 0 4, m.p 8 8⟩ })
      (s1.setFld Reg.SLC_CHARGE 0 32 0).done m [])

end Sys2Proof.Machine
end

