-- ==== Sys2Proof/Machine/Fabric.lean ====
section
/-! DEFINITION. Packets at their destination and on their way, operations that end, and nodes that are lost (chapter 12: R384 to R407). -/

namespace Sys2Proof.Machine

/-! ### Operations that end at their issuer -/

/-- An operation of this node ends with a status (R390, R395). A task gets it by WAIT. Firmware: a gather read goes to its batch, and is sent again after
PATH_LOST (R207); a publication is acknowledged, and what waited for it goes on (R100); a message of R191 or R193 is sent again (R608); a mirror copy is complete with its last part and is written again after PATH_LOST (R235); a run's state
goes on to its offer (R444). -/
def State.opEnds (s : State) (id : Nat) (o : JroOp) (st : Nat) : State :=
  match o.task with
  | some _ => (s.finishOp id o st o.value).settleTasks
  | none =>
    let data := (List.range o.frags).flatMap (fun i => Tbl.getD (id * 65536 + i) [] s.trib.getData)
    let s1 := (s.finishOp id o st 0).trib! (fun t => { t with getData := t.getData.filter (fun g => decide (g.1 / 65536 ≠ id)) })
    match o.fw with
    | 1 =>
      if st = jOK then s1.gatherAnswer o.localAt o.dst (if o.value = 0 then .entries data else .reroute o.value)
      else if st = jPathLost then (match Tbl.find o.localAt s1.search.gathers with
        | some g =>
          s1.gatherSend o.localAt o.dst g ((g.waiting.filter (fun w => decide (w.2 = o.dst))).map (fun w => g.ids.getD w.1 0))
        | none => s1)
      else if st = jNoObject then s1.gatherAnswer o.localAt o.dst .notHeld
      else s1.gatherAnswer o.localAt o.dst .lost
    | 2 => if st = jOK then (s1.pubAck o.localAt o.value o.dst).resumeMoves else s1
    | 4 =>
      let mine (x : Nat × JroOp) : Bool := decide (x.2.fw = 4) && decide (x.2.localAt = o.localAt)
      if st = jOK then (if s1.trib.ops.any mine then s1 else s1.mirrorDone o.localAt true)
      else if st = jPathLost then (s1.trib! (fun t => { t with ops := t.ops.filter (fun x => !mine x) })).mirrorWrite o.localAt o.dst
      else s1.mirrorDone o.localAt false
    | 5 => s1.pushEnded o.localAt st
    | 7 => s1.updSent id st
    | 6 => s1.resyncEnds o.localAt o.dst st (leNat data)
    | _ => s1

/-- A GET_DATA or COMPLETION arrives at the issuer (R390, R395, R396): one without an outstanding operation is ignored. -/
def State.opAnswer (s : State) (p : Packet) : State :=
  match Tbl.find p.opId s.trib.ops with
  | none => s
  | some o =>
    if o.dst ≠ p.src ∨ o.frags ≤ p.frag ∨ Tbl.has p.frag o.statuses then s
    else
      let s1 := if p.op ≠ 0x10 then s else match o.task with
        | some t => s.taskScratch t (o.localAt + 4096 * p.frag) p.data
        | none => s.trib! (fun t => { t with getData := Tbl.put (p.opId * 65536 + p.frag) p.data t.getData })
      let v := if p.op = 0x11 ∧ o.op = 3 then leNat p.data else if p.op = 0x10 ∧ p.aux ≠ 0 then p.aux else o.value
      let o1 : JroOp := { o with statuses := Tbl.put p.frag (if p.op = 0x10 then jOK else p.aux % 256) o.statuses, value := v }
      let s2 := s1.trib! (fun t => { t with ops := Tbl.put p.opId o1 t.ops })
      if o1.statuses.length < o1.frags then s2
      else s2.opEnds p.opId o1 ((List.range o1.frags).foldl (fun a i => if a ≠ 0 then a else Tbl.getD i 0 o1.statuses) 0)

/-! ### Nodes declared lost -/

/-- The directly attached peers. -/
def State.attached (s : State) : List Nat := dedup ((s.trib.links.filter (fun l => Link_live l.2)).map (fun l => l.2.peerNode))

/-- A peer master secret is discarded (R511). -/
def State.dropSecret (s : State) (n : Nat) : State := (s.peer! n (fun p => { p with secretNs := 0 })).zeroSlot (slotCode 5 n)

/-- A packet has left its receive buffer: its credits go back (R398). -/
def State.taken (s : State) (p : Packet) (inl : Nat) : State := s.returnCredit inl (p.cls * 4 + (p.hops + 3) % 4) p.units

/-- Discards the flows with a node (R406). -/
def State.dropFlows (s : State) (n : Nat) : State :=
  let mine := s.trib.rxFlows.filter (fun f => decide (f.1 / 4 = n))
  let s1 := s.trib! (fun t => { t with
    txFlows := t.txFlows.filter (fun f => decide (f.1 / 4 ≠ n)), rxFlows := t.rxFlows.filter (fun f => decide (f.1 / 4 ≠ n)) })
  mine.foldl (fun t f => f.2.held.foldl (fun (u : State) (h : Packet × Nat × Nat) => u.taken h.1 h.2.2) t) s1

/-- A node is declared lost (R405, R406): its operations complete NO_TARGET, its flows are discarded, each directly attached peer is told, and the owners whose
rules depend on loss are informed. The manual names no link for the record's UNIT: it is free. -/
def State.declareLost (s : State) (n : Nat) : State :=
  if n = s.nodeNo ∨ s.nodeLost n then s
  else
    let inc := (Tbl.getD n Peer_blank s.trib.peers).incarnation
    let f := s.free
    let s1 := ((f.2.peer! n (fun p => { p with lost := true, probeNs := 0 })).dropSecret n).count Reg.TRB_CNT0 8 1
    let s2 := s1.logC (unitOf 0x0D (f.1 % 32)) 0x0033 0xFF 0x3FF n 0
    let s3 := s2.dropFlows n
    let s4 := (s3.trib.ops.filter (fun o => decide (o.2.dst = n))).foldl (fun t o => match Tbl.find o.1 t.trib.ops with
      | some x => t.opEnds o.1 x jNoTarget
      | none => t) s3
    let s5 := (s4.attached.filter (fun m => decide (m ≠ n))).foldl (fun t m =>
      t.route { (t.packet 0x21 0 m true 0) with data := le 2 n ++ le 2 0 ++ le 4 inc } 0) s4
    (((((s5.sourceLost n).queriesLose n).homeLost n).recheck s).mirrorLost n).runsLose n

/-! ### Requests at their target -/

/-- R171 discards this list: its slot serves no such query, or the query does not expect a list from its node. -/
def State.listStale (s : State) (tag : Nat) (p : PList) : Bool :=
  let m := s.mslot (tag % 65536)
  match m.owner with
  | none => true
  | some (b, q) => match s.query b q with
    | some y => decide (tag / 65536 % 65536 ≠ m.gen) || decide (bits tag 32 8 ≠ y.idx) || !y.expect.contains p.source || y.complete
    | none => true

/-- A note in firmware region 0xC (internal layout, log 122): a pipeline's, the rows of a result (R44), an outcome query or an abort (R193), the ids of a gather
read (R207). -/
def State.fwNote (s : State) (src : Nat) (bs : List Byte) : State :=
  if natAt bs 0 1 < 2 then s.pipeNote src bs
  else match s.slc.comps.find? (fun c => decide (c.2.tenant = natAt bs 4 4)) with
    | none => s
    | some x =>
      let k := collKey x.1 (natAt bs 2 2)
      match natAt bs 0 1 with
      | 2 => s.countRows k (splitNum 8 (natAt bs 8 8) (bs.drop 16))
      | 3 => s.outcomeAsked src k (natAt bs 8 8) (natAt bs 16 8)
      | 4 => s.abortPart k src (natAt bs 8 8)
      | 6 => s.gatherNote src bs
      | _ => s

/-- What firmware does with a request that has been performed (R393, R101, R444, R449): a list whose last fragment is in is merged, an ownership word that a
CAS turns GONE ends a handover, a resync request has every catchment published again, and a note is taken. Firmware requests of the other
regions act through their own commands. -/
def State.fwEffect (s : State) (p : Packet) (staged : List Byte) (a : JroAns) : Nat × State :=
  if a.status ≠ jOK then (a.status, s)
  else if p.op = 5 ∧ p.fragLast then
    let bs := staged ++ p.data
    let tag := natAt bs 0 8
    let agg := match (s.mslot (tag % 65536)).owner.bind (fun o => s.qbatch o.1) with | some b => b.aggExp | none => false
    let l := plistOf agg bs
    (if s.listStale tag l then jStale else jOK, s.mergeList tag l)
  else if p.op = 3 ∧ p.fw then
    match wordAt (p.addr % 2 ^ 52) with
    | some w => if (s.word w).toNat / 2 ^ 62 = 2 ∧ a.value / 2 ^ 62 ≠ 2 then (jOK, (s.handed w).count Reg.SLC_CNT0 7 1) else (jOK, s)
    | none => (jOK, s)
  else if p.op = 4 ∧ p.fw ∧ gRegion p.addr = 0xC then (jOK, s.fwNote p.src p.data)
  else if p.op = 2 ∧ p.fw ∧ gRegion p.addr = 0xB then
    match s.resyncKey p.addr with
    | some k => (jOK, s.publishAll k)
    | none => (jOK, s)
  else (jOK, s)

/-- A request is performed at this node and answered (R387 to R393); the get of a gather read under a map that is yet to come waits (R440). -/
def State.perform (s : State) (p : Packet) (inl : Nat) : State :=
  let gather := decide (p.fw ∧ p.op = 2 ∧ gRegion p.addr = 9)
  match (if gather then s.gatherWaits p else none) with
  | some w => ((s.taken p inl).count Reg.TRB_CNT0 1 1).holdReq (.gather w.1 w.2 p)
  | none =>
    let staged := Tbl.getD (p.src * 2 ^ 32 + p.opId) [] s.trib.merges
    let r := if gather then s.gatherGet p.src p.addr p.aux else s.jroPerform p
    let e := ((r.2.taken p inl).count Reg.TRB_CNT0 1 1).fwEffect p staged r.1
    e.2.answerPkt p e.1 r.1

/-- Performs the early packets of a flow that are next in order; `fuel` bounds them. -/
def State.flowDrain (s : State) (key : Nat) : Nat → State
  | 0 => s
  | fuel + 1 =>
    match Tbl.find key s.trib.rxFlows with
    | none => s
    | some f =>
      match f.held.find? (fun (h : Packet × Nat × Nat) => decide (h.1.flowSeq = (f.last + 1) % 2 ^ 32)) with
      | none => s
      | some h =>
        let s1 := s.trib! (fun t => { t with rxFlows := Tbl.put key { f with last := h.1.flowSeq, held := dropOne (fun x => decide (x = h)) f.held } t.rxFlows })
        (s1.perform h.1 h.2.2).flowDrain key fuel

/-- A request packet of a flow arrives (R400, R401, R404): performed in FLOW_SEQ order, held when early, discarded when it is a replay or the flow waits for
RESYNC, which sets a new base. -/
def State.flowArrive (s : State) (p : Packet) (inl : Nat) : State :=
  let key := p.src * 4 + p.cls
  let f := Tbl.getD key (⟨0, [], false⟩ : RxFlow) s.trib.rxFlows
  let setF (t : State) (g : RxFlow) : State := t.trib! (fun x => { x with rxFlows := Tbl.put key g x.rxFlows })
  if seqGe 32 f.last p.flowSeq then (s.taken p inl).count Reg.TRB_CNT0 6 1
  else if p.resync then
    let old := f.held.filter (fun (h : Packet × Nat × Nat) => seqGe 32 p.flowSeq h.1.flowSeq)
    let s1 := old.foldl (fun (t : State) (h : Packet × Nat × Nat) => t.taken h.1 h.2.2) s
    ((setF s1 { f with last := p.flowSeq, dropping := false, held := f.held.filter (fun h => !old.contains h) }).perform p inl).flowDrain key f.held.length
  else if f.dropping then s.taken p inl
  else if p.flowSeq = (f.last + 1) % 2 ^ 32 then
    ((setF s { f with last := p.flowSeq }).perform p inl).flowDrain key f.held.length
  else setF s { f with held := f.held ++ [(p, s.now, inl)] }

/-! ### Packets that arrive -/

/-- A LOSS_NOTICE for a node at the incarnation held for it starts a probe (R405). -/
def State.lossNotice (s : State) (p : Packet) : State :=
  let n := natAt p.data 0 2
  let x := Tbl.getD n Peer_blank s.trib.peers
  if x.known ∧ x.incarnation = natAt p.data 4 4 ∧ n < 4096 then s.probe n else s

/-- Answers a lost node with LOST_YOU on a link to it (R406). -/
def State.tellLost (s : State) (n : Nat) : State :=
  match (s.trib.links.filter (fun l => Link_live l.2 && decide (l.2.peerNode = n))).head? with
  | some l => s.control l.1 .lostYou
  | none => s

/-- A packet for this node (R390, R405, R406); `inl` is the link it came on plus one, 0 for none. -/
def State.receive (s : State) (p : Packet) (inl : Nat) : State :=
  if p.cls ≠ 0 ∧ s.nodeLost p.src then (s.taken p inl).tellLost p.src
  else
    let s0 := if p.cls = 0 then s else s.spw! (fun x => { x with idleSinceNs := s.now })
    let got := (s0.taken p inl).count Reg.TRB_CNT0 1 1
    if p.op = 0x20 then
      (if p.subop = 0 then got.route { (got.packet 0x20 0 p.src true 0) with subop := 1 } 0
       else got.peer! p.src (fun x => { x with probeNs := 0 }))
    else if p.op = 0x21 then got.lossNotice p
    else if p.op = 0x10 ∨ p.op = 0x11 then got.opAnswer p
    else s0.flowArrive p inl

/-- A packet arrives on a link (R385): HOPS rises; it is for this node, or is sent on, or has crossed four links. -/
def State.deliverPkt (s : State) (p : Packet) (l : Nat) : State :=
  let q : Packet := { p with hops := p.hops + 1, links := 2 ^ 32 - 1, payer := 64, batch := 0 }
  if q.dst = s.nodeNo then s.receive q (l + 1)
  else if 4 ≤ q.hops then ((s.taken q (l + 1)).count Reg.TRB_CNT0 6 1).logC (unitOf 0x0D l) 0x0032 0xFF 0x3FF 0 0
  else (s.count Reg.TRB_CNT0 2 1).route q (l + 1)

/-- The node hears nothing from its links: held in reset, quarantined, or not RUNNING (R407, R502, R564). -/
def State.deaf (s : State) : Bool := s.cru.held || decide (s.weir.state = .quarantined) || decide (s.host.nodeState ≠ .running)

/-- A packet of one kind, as it stands at this node. -/
def State.arrives (s : State) (kind : Bool) (p : Packet) : State := if s.deaf || !kind || decide (p.dst ≠ s.nodeNo) then s else s.receive p 0

/-- PUT (R390). -/
def execPutPacket (pkt : Packet) (s : State) : Host.Outcome State Fault Refusal := ok (s.arrives (decide (pkt.op = 1)) pkt)
/-- GET (R390). -/
def execGetPacket (pkt : Packet) (s : State) : Host.Outcome State Fault Refusal := ok (s.arrives (decide (pkt.op = 2)) pkt)
/-- ATOMIC (R391). -/
def execAtomic (pkt : Packet) (s : State) : Host.Outcome State Fault Refusal := ok (s.arrives (decide (pkt.op = 3)) pkt)
/-- NPUT (R392). -/
def execNput (pkt : Packet) (s : State) : Host.Outcome State Fault Refusal := ok (s.arrives (decide (pkt.op = 4)) pkt)
/-- GET_DATA (R390, R396). -/
def execGetData (pkt : Packet) (s : State) : Host.Outcome State Fault Refusal := ok (s.arrives (decide (pkt.op = 0x10)) pkt)
/-- COMPLETION (R395, R396). -/
def execCompletion (pkt : Packet) (s : State) : Host.Outcome State Fault Refusal := ok (s.arrives (decide (pkt.op = 0x11)) pkt)
/-- PING (R405). -/
def execPing (pkt : Packet) (s : State) : Host.Outcome State Fault Refusal := ok (s.arrives (decide (pkt.op = 0x20) && decide (pkt.subop = 0)) pkt)
/-- PONG (R405). -/
def execPong (pkt : Packet) (s : State) : Host.Outcome State Fault Refusal := ok (s.arrives (decide (pkt.op = 0x20) && decide (pkt.subop = 1)) pkt)
/-- LOSS_NOTICE (R405). -/
def execLossNotice (pkt : Packet) (s : State) : Host.Outcome State Fault Refusal := ok (s.arrives (decide (pkt.op = 0x21)) pkt)

/-! ### Times that pass -/

/-- UNREACH_MS. -/
def State.unreachNs (s : State) : Nat := ms (orIfZero (s.fld Reg.TRB_TIMING 8 8) 1)
/-- OP_TMO_US. -/
def State.opTmoUs (s : State) : Nat := orIfZero (s.fld Reg.TRB_TIMING 48 16) 1
/-- FLOW_HOLD_US: a value not below OP_TMO_US is taken as half of it. -/
def State.flowHoldNs (s : State) : Nat := let h := s.fld Reg.TRB_TIMING 32 16; us (if s.opTmoUs ≤ h then s.opTmoUs / 2 else h)

/-- UNREACH_TIMEOUT (R384, R405): the oldest held packet of a destination has waited UNREACH_MS; the packets that have waited so long are discarded. Where no
choice is usable for any packet the node is lost; else the operations of the discarded packets end with NO_TARGET. -/
def execUnreachTimeout (dst : Nat) (s : State) : Host.Outcome State Fault Refusal :=
  ok (match s.trib.held.find? (fun (h : Packet × Nat × Nat) => decide (h.1.dst = dst) && (s.choice h.1).isNone) with
    | none => s
    | some o =>
      let s1 := s.reach (o.2.1 + s.unreachNs)
      let late (h : Packet × Nat × Nat) : Bool := decide (h.1.dst = dst) && (s.choice h.1).isNone && decide (h.2.1 + s.unreachNs ≤ s1.now)
      let gone := s1.trib.held.filter late
      let s2 := s1.trib! (fun t => { t with held := t.held.filter (fun h => !late h) })
      let s3 := (gone.foldl (fun (t : State) (h : Packet × Nat × Nat) => t.taken h.1 h.2.2) s2).count Reg.TRB_CNT0 6 gone.length
      if s3.choices dst 0 = [] then s3.declareLost dst
      else gone.foldl (fun (t : State) (h : Packet × Nat × Nat) => if h.1.src ≠ s.nodeNo ∨ !h.1.request then t else match Tbl.find h.1.opId t.trib.ops with
        | some x => t.opEnds h.1.opId x jNoTarget
        | none => t) s3)

/-- FLOW_HOLD_TIMEOUT (R404): early packets held for FLOW_HOLD_US are discarded, and the flow waits for RESYNC. -/
def execFlowHoldTimeout (src cls : Nat) (s : State) : Host.Outcome State Fault Refusal :=
  ok (let key := src * 4 + cls
      match (if cls < 4 then Tbl.find key s.trib.rxFlows else none) with
      | none => s
      | some f => match minL (f.held.map (fun (h : Packet × Nat × Nat) => h.2.1)) with
        | none => s
        | some t0 =>
          let s1 := (s.reach (t0 + s.flowHoldNs)).trib! (fun t => { t with rxFlows := Tbl.put key { f with held := [], dropping := true } t.rxFlows })
          f.held.foldl (fun (t : State) (h : Packet × Nat × Nat) => t.taken h.1 h.2.2) s1)

/-- OP_TIMEOUT (R404, R405): every operation of the flow completes PATH_LOST, the flow's next packet carries RESYNC, and the node is probed. -/
def execOpTimeout (op : Nat) (s : State) : Host.Outcome State Fault Refusal :=
  ok (match Tbl.find op s.trib.ops with
    | none => s
    | some o =>
      let key := o.dst * 4 + o.cls
      let s1 := (s.reach (o.sentNs + us s.opTmoUs)).trib! (fun t => { t with txFlows := Tbl.put key { (Tbl.getD key ⟨0, false⟩ t.txFlows) with resync := true } t.txFlows })
      let mine := s.trib.ops.filter (fun x => decide (x.2.dst = o.dst) && decide (x.2.cls = o.cls))
      let s2 := mine.foldl (fun t x => match Tbl.find x.1 t.trib.ops with
        | some y => (t.opEnds x.1 y jPathLost).count Reg.TRB_CNT0 7 1
        | none => t) s1
      s2.probe o.dst)

/-- PROBE_TIMEOUT (R405): no PONG within PROBE_TMO_US. -/
def execProbeTimeout (node : Nat) (s : State) : Host.Outcome State Fault Refusal :=
  ok (let t := (Tbl.getD node Peer_blank s.trib.peers).probeNs
      if t = 0 then s else (s.reach t).declareLost node)

/-- QUARANTINE_NOTICE (R405): a QUARANTINE flit on a link. -/
def execQuarantineNotice (link : Nat) (s : State) : Host.Outcome State Fault Refusal :=
  onUnit (decide (link < 32)) (if s.deaf || !Link_live (s.link link) then s else s.declareLost (s.link link).peerNode)

/-- LOST_YOU (R406): its sender has declared this node lost. -/
def execLostYou (link : Nat) (s : State) : Host.Outcome State Fault Refusal :=
  onUnit (decide (link < 32)) (if s.deaf || !Link_live (s.link link) then s else s.declareLost (s.link link).peerNode)

end Sys2Proof.Machine
end

