-- ==== Sys2Proof/Machine/Links.lean ====
section
/-! DEFINITION. Links: flits and their acknowledgement, bring-up and sessions, trickle mode, and the admin opcodes of Tributary (chapters 12, 14, 15). -/

namespace Sys2Proof.Machine

/-- A command of a link that the node has; a deaf node does nothing on its links. -/
def onLink (s : State) (l : Nat) (f : Link → State) : Host.Outcome State Fault Refusal :=
  onUnit (decide (l < 32)) (if s.deaf then s else f (s.link l))

/-- A command of a link that carries flits. -/
def onLive (s : State) (l : Nat) (f : Link → State) : Host.Outcome State Fault Refusal := onLink s l (fun x => if Link_live x then f x else s)

/-! ### Paths -/

/-- Nodes whose summaries this node holds. -/
def State.sourceNodes (s : State) : List Nat := dedup (s.search.colls.flatMap (fun c => Tbl.keys c.2.sources))

/-- A link has gone: a source whose link path is lost is UNSURE (R101). -/
def State.pathsLost (s : State) (before : State) : State :=
  (s.sourceNodes.filter (fun n => decide (before.choices n 1 ≠ []) && decide (s.choices n 1 = []))).foldl (fun t n => t.sourceLost n) s

/-- A link leaves its mode for step 1 of Table TRB-2, or for DISABLED. -/
def State.downLink (s : State) (l : Nat) (st : LinkSt) (boundNs : Nat) : State := (s.leaveLink l st boundNs false).pathsLost s

/-- A link comes UP (step 5 of Table TRB-2): credits are granted (R398), what was held goes out, and nodes that have a path again are reconnected (R101). -/
def State.linkUp (s : State) (l : Nat) : State :=
  let s1 := s.link! l (fun x => { x with
    state := .up, draining := false, deadline := 0, leftUpNs := 0, txSeq := 0, rxNext := 1, rxSince := 0, replay := [], queue := []
    credits := tblOf 16 128, shared := 10240, sharedUse := [], wrrClass := 1, wrrLeft := 0, tagSeq := 0, tagFails := 0, txCtr := 0, rxCtr := 0
    ackNs := s.now, lastRxNs := s.now, lastTxNs := s.now, lastAckNs := s.now })
  let back := s1.sourceNodes.filter (fun n => decide (s.choices n 1 = []) && decide (s1.choices n 1 ≠ []))
  back.foldl (fun t n => t.reconnected n) s1.flushHeld

/-! ### Flits -/

/-- Acknowledges what has been received. -/
def State.sendAck (s : State) (l : Nat) : State :=
  (s.control l (.ack ((s.link l).rxNext + 2 ^ 32 - 1))).link! l (fun x => { x with rxSince := 0, lastAckNs := s.now })

/-- A LINK record (Table ERR-5, TYPE 0x0030): subtype in DETAIL byte 0. -/
def State.linkRecord (s : State) (l subtype step : Nat) : State := s.logC (unitOf 0x0D l) 0x0030 0xFF 0x3FF 0 (subtype + 256 * step)

/-- A packet whose GCM tag fails (R402): a failed flit at the flit where the packet starts; three in a row at one SEQ bring the link to step 1. -/
def State.tagFailed (s : State) (l seq : Nat) (p : Packet) : State :=
  let start := (seq + 2 ^ 32 + 1 - p.flits) % 2 ^ 32
  let x := s.link l
  let n := if x.tagSeq = start ∧ 0 < x.tagFails then x.tagFails + 1 else 1
  let s1 := (s.count Reg.TRB_CNT0 4 1).link! l (fun y => { y with tagSeq := start, tagFails := n, rxNext := start })
  if 3 ≤ n then (s1.downLink l .train (Link_trainNs x)).linkRecord l 1 0 else s1.control l (.nak start)

/-- FLIT_RECEIVE (R373, R377, R385, R389, R402). -/
def execFlitReceive (link : Nat) (flit : Flit) (crcOk : Bool) (s : State) : Host.Outcome State Fault Refusal :=
  onLive s link (fun x =>
    if !crcOk then s.control link (.nak x.rxNext)
    else
      let s1 := s.link! link (fun y => { y with lastRxNs := s.now })
      if flit.seq % 2 ^ 32 ≠ x.rxNext then s1.control link (.nak x.rxNext)
      else match flit.packets.find? (fun (p : Packet × Bool) => !p.2) with
        | some bad => s1.tagFailed link flit.seq bad.1
        | none =>
          let s2 := s1.link! link (fun y => { y with
            rxNext := (y.rxNext + 1) % 2 ^ 32, rxSince := y.rxSince + 1, rxCtr := y.rxCtr + flit.packets.length, tagFails := 0 })
          let s3 := flit.packets.foldl (fun (t : State) (p : Packet × Bool) => t.deliverPkt p.1 link) s2
          if 32 ≤ (s3.link link).rxSince then s3.sendAck link else s3)

/-- ACK (R389): replay-buffer space is free. -/
def execAck (link seq : Nat) (s : State) : Host.Outcome State Fault Refusal :=
  onLive s link (fun x =>
    let left := x.replay.filter (fun f => !seqGe 32 seq f.seq)
    (s.link! link (fun y => { y with replay := left, ackNs := if left.length < x.replay.length then s.now else y.ackNs, lastRxNs := s.now })).pumpLink link)

/-- Sends flits of the replay buffer again (R402). -/
def State.resend (s : State) (l : Nat) (fs : List Flit) : State :=
  (s.link! l (fun x => { x with out := x.out ++ fs.map (fun f => .data f), lastTxNs := s.now })).count Reg.TRB_CNT0 3 fs.length

/-- NAK (R402): the sender sends again from the flit named. -/
def execNak (link seq : Nat) (s : State) : Host.Outcome State Fault Refusal :=
  onLive s link (fun x => (s.link! link (fun y => { y with lastRxNs := s.now })).resend link (x.replay.filter (fun f => seqGe 32 f.seq seq)))

/-- CREDIT_RETURN (R398): the pair's reserve of 128 units is refilled first, then the shared pool. -/
def execCreditReturn (link pair units : Nat) (s : State) : Host.Outcome State Fault Refusal :=
  onLive s link (fun x =>
    if 16 ≤ pair then s
    else
      let have_ := Tbl.getD pair 0 x.credits
      let res := Nat.min units (128 - have_)
      let sh := Nat.min (units - res) (10240 - x.shared)
      let cls := pair / 4
      (s.link! link (fun y => { y with
        credits := Tbl.put pair (have_ + res) y.credits, shared := y.shared + sh
        sharedUse := Tbl.put cls (Tbl.getD cls 0 y.sharedUse - sh) y.sharedUse, lastRxNs := s.now })).pumpLink link)

/-- REPLAY_TIMEOUT (R402): no acknowledgement advances for 10 µs. -/
def execReplayTimeout (link : Nat) (s : State) : Host.Outcome State Fault Refusal :=
  onLive s link (fun x =>
    if x.replay = [] then s
    else
      let s1 := s.reach (x.ackNs + us 10)
      (s1.link! link (fun y => { y with ackNs := s1.now })).resend link x.replay)

/-- ACK_TIMER (R389): 0.5 µs since the last acknowledgement. -/
def execAckTimer (link : Nat) (s : State) : Host.Outcome State Fault Refusal :=
  onLive s link (fun x => if x.rxSince = 0 then s else (s.reach (x.lastAckNs + 500)).sendAck link)

/-- IDLE_TIMER (R374, R378): an IDLE flit with the SEQ of the last DATA flit. -/
def execIdleTimer (link : Nat) (s : State) : Host.Outcome State Fault Refusal :=
  onLive s link (fun x =>
    let s1 := s.reach (x.lastTxNs + us 1)
    s1.link! link (fun y => { y with out := y.out ++ [.idle y.txSeq], lastTxNs := s1.now }))

/-- LINK_RX_TIMEOUT (R378): no valid flit for 50 µs. -/
def execLinkRxTimeout (link : Nat) (s : State) : Host.Outcome State Fault Refusal :=
  onLive s link (fun x => (s.reach (x.lastRxNs + us 50)).downLink link .train (Link_trainNs x))

/-- LANE_FAIL (R372): a link with a failed lane leaves UP; TRICKLE uses lane 0 alone. -/
def execLaneFail (link : Nat) (s : State) : Host.Outcome State Fault Refusal :=
  onLive s link (fun x => if x.state = .up then s.downLink link .train (Link_trainNs x) else s)

/-! ### Bring-up -/

/-- Starts step 1 of Table TRB-2, once the node has its id (R381) and the link is enabled. -/
def State.startLink (s : State) (l : Nat) : State :=
  let x := s.link l
  if !x.enable ∨ s.nodeId.isNone then s else s.link! l (fun y => { y with state := .train, deadline := s.now + Link_trainNs x })

/-- The step of Table TRB-2 that a link is in. -/
def linkStep : LinkSt → Nat | .train => 1 | .align => 2 | .hello => 3 | .session => 4 | _ => 0

/-- A link waits for its peer's first session (R510). -/
def State.firstSession (s : State) (x : Link) : Bool := decide (x.state = .session) && decide ((Tbl.getD x.peerNode Peer_blank s.trib.peers).secretNs = 0)

/-- Weir starts waiting first sessions, at most four at once; the bound of step 4 runs from then (R510). -/
def State.startSessions (s : State) : State :=
  (s.trib.links.filter (fun l => s.firstSession l.2 && decide (l.2.deadline = 0))).foldl (fun t l =>
    if (t.trib.links.filter (fun k => t.firstSession k.2 && decide (k.2.deadline ≠ 0))).length < 4 then t.link! l.1 (fun y => { y with deadline := t.now + ms 50 }) else t) s

/-- A bring-up that fails: DOWN or REFUSED, retried after 1 s (R375, R376). -/
def State.failLink (s : State) (l : Nat) (st : LinkSt) : State := (s.link! l (fun y => { y with state := st, deadline := s.now + ms 1000 })).startSessions

/-- LINK_TRAIN (Table TRB-2): training ends, or FEC lock and alignment; the node then sends its HELLO. -/
def execLinkTrain (link : Nat) (s : State) : Host.Outcome State Fault Refusal :=
  onLink s link (fun x =>
    match x.state with
    | .down => s.startLink link
    | .train => s.link! link (fun y => { y with state := .align, coefs := true, deadline := s.now + us 100 })
    | .align => s.link! link (fun y => { y with
        state := .hello, deadline := s.now + us 10, out := y.out ++ [.ctl (.hello s.nodeNo (s.regView Reg.TRB_IDENT) link)], lastTxNs := s.now })
    | _ => s)

/-- HELLO (R376, R405, R406): the node's own id, and a lost peer at the incarnation that it had, are refused; another incarnation than the one held makes the
peer lost, and accepts it anew. -/
def execHello (link node incarnation peerLink : Nat) (s : State) : Host.Outcome State Fault Refusal :=
  onLink s link (fun x =>
    if x.state ≠ .hello then s
    else
      let s1 := s.link! link (fun y => { y with peerNode := node % 4096, peerLink := peerLink % 32, peerInc := incarnation % 2 ^ 32 })
      let n := node % 4096
      let p := Tbl.getD n Peer_blank s.trib.peers
      if s.nodeId.isNone then s1.failLink link .refused
      else if n = s.nodeNo then (s1.failLink link .refused).logC (unitOf 0x0D link) 0x0031 0xFF 0x3FF 0 0
      else if p.lost ∧ p.incarnation = incarnation % 2 ^ 32 then s1.failLink link .refused
      else
        let changed := p.known && decide (p.incarnation ≠ incarnation % 2 ^ 32)
        let s2 := if changed then (s1.declareLost n).dropSecret n else s1
        let s3 := s2.peer! n (fun q => { q with incarnation := incarnation % 2 ^ 32, known := true, lost := false, probeNs := 0 })
        let first := decide ((Tbl.getD n Peer_blank s3.trib.peers).secretNs = 0)
        (s3.link! link (fun y => { y with state := .session, deadline := if first then 0 else s.now + us 200 })).startSessions)

/-- FABRIC_ID, MIN_ROLLBACK and the permitted measurements of the policy (R509). -/
def policyAdmits (policy : List Byte) (fabricId rollback : Nat) (measure : List Byte) : Bool :=
  let n := natAt policy 12 4
  decide (policy ≠ []) && decide (natAt policy 0 8 = fabricId) && decide (natAt policy 8 4 ≤ rollback)
    && (decide (n = 0) || (List.range n).any (fun i => decide (bytesAt policy (16 + 32 * i) 32 = bytesAt measure 0 32)))

/-- The keys of a link (R511): for each direction the GCM key and the CONTROL-flit tag key, into the slots of the link (2l sending, 2l + 1 receiving). -/
def State.linkKeys (s : State) (l : Nat) (secret : List Byte) (mine theirs : Nat) : State :=
  let x := s.link l
  let own := s.regView Reg.TRB_IDENT
  let data (out : Bool) : List Byte :=
    (if out then le 2 s.nodeNo ++ le 2 x.peerNode ++ le 1 l ++ le 1 x.peerLink ++ le 32 mine ++ le 32 theirs ++ le 4 own ++ le 4 x.peerInc
     else le 2 x.peerNode ++ le 2 s.nodeNo ++ le 1 x.peerLink ++ le 1 l ++ le 32 theirs ++ le 32 mine ++ le 4 x.peerInc ++ le 4 own)
  (((s.putSlot (slotCode 2 (2 * l)) (kdf secret "link" (data true))).putSlot (slotCode 2 (2 * l + 1)) (kdf secret "link" (data false))).putSlot
    (slotCode 3 (2 * l)) (kdf secret "ctl" (data true))).putSlot (slotCode 3 (2 * l + 1)) (kdf secret "ctl" (data false))

/-- FABRIC_SESSION (R377, R509 to R511): a first session checks the peer; keys are derived and the link is UP. The node's nonce, the shared secret of the key
exchange and the transcript hash are free. -/
def execFabricSession (link : Nat) (hs : Handshake) (s : State) : Host.Outcome State Fault Refusal :=
  onLink s link (fun x =>
    if x.state ≠ .session then s
    else
      let n := x.peerNode
      let first := decide ((Tbl.getD n Peer_blank s.trib.peers).secretNs = 0)
      if first && decide (x.deadline = 0) then s
      else if first && !(hs.chainOk && policyAdmits s.weir.record.policy hs.fabricId hs.rollback hs.measure) then s.failLink link .refused
      else
        let f := s.free
        let g := f.2.free
        let h := g.2.free
        let s1 := if first then
            (h.2.putSlot (slotCode 5 n) (kdf (le 32 g.1) "peer" (le 32 h.1))).peer! n (fun p => { p with
              secretNs := s.now + 86400000000000, rollback := hs.rollback, measure := hs.measure, fabricId := hs.fabricId })
          else f.2
        let secret := match s1.weir.slots.find? (fun k => decide (k.1 = slotCode 5 n)) with | some k => k.2 | none => zeros 32
        ((s1.linkKeys link secret f.1 hs.nonce).linkUp link).startSessions)

/-- LINK_STEP_TIMEOUT (R375): a step exceeds its bound. -/
def execLinkStepTimeout (link : Nat) (s : State) : Host.Outcome State Fault Refusal :=
  onLink s link (fun x =>
    let step := linkStep x.state
    if step = 0 ∨ x.deadline = 0 then s
    else ((s.reach x.deadline).failLink link .down).linkRecord link 0 step)

/-- LINK_RETRY (R375, R376): 1 s after a failed or refused bring-up. -/
def execLinkRetry (link : Nat) (s : State) : Host.Outcome State Fault Refusal :=
  onLink s link (fun x =>
    if !(decide (x.state = .down) || decide (x.state = .refused)) ∨ !x.enable ∨ s.nodeId.isNone then s
    else ((s.reach x.deadline).link! link (fun y => { y with retrains := Nat.min 255 (y.retrains + 1) })).startLink link)

/-- RETRAIN_SLOW (TRB_TIMING): RETRAIN_MS after a link left UP it is not UP again; one record for each time it left. -/
def execRetrainSlow (link : Nat) (s : State) : Host.Outcome State Fault Refusal :=
  onLink s link (fun x =>
    if Link_live x ∨ !x.enable ∨ x.leftUpNs = 0 then s
    else ((s.reach (x.leftUpNs + ms (s.fld Reg.TRB_TIMING 0 8))).link! link (fun y => { y with leftUpNs := 0 })).linkRecord link 2 0)

/-! ### Trickle mode -/

/-- TRICKLE (R379 steps 1 and 2): the link stops taking class 1 to 3 packets; its peer is told. It runs on TRICKLE_REQ, on a request of Spillway, or on the
peer's TRICKLE flit. -/
def execTrickle (link : Nat) (s : State) : Host.Outcome State Fault Refusal :=
  onLink s link (fun x =>
    if x.state ≠ .up ∨ x.draining then s else ((s.control link .trickle).link! link (fun y => { y with draining := true })).pathsLost s)

/-- TRICKLE_SWITCH (R379 steps 3 and 4): everything held is sent and acknowledged. -/
def execTrickleSwitch (link : Nat) (s : State) : Host.Outcome State Fault Refusal :=
  onLink s link (fun x =>
    if x.state ≠ .up ∨ !x.draining ∨ x.replay ≠ [] ∨ x.queue ≠ [] then s
    else s.link! link (fun y => { y with state := .trickle, draining := false, lastRxNs := s.now, lastTxNs := s.now }))

/-- WAKE (R380): a peer's WAKE, or a packet that needs the link. In STANDBY it is the node that wakes first (R577). -/
def execWake (link : Nat) (s : State) : Host.Outcome State Fault Refusal :=
  onLink s link (fun x => if x.spwTrickle ∨ s.spw.state = .standby then s else s.wakeLink link false)

/-! ### Admin opcodes -/

/-- Tributary runs while any link is in a state other than DISABLED or DOWN. -/
def State.tribRuns (s : State) : Bool := s.trib.links.any (fun l => !(decide (l.2.state = .disabled) || decide (l.2.state = .down)))

/-- NODE_ID_SET (R19, R20, R381, R481): refused while Tributary runs; enabled links may then leave DOWN. -/
def execNodeIdSet (mb : Nat) (s : State) : Host.Outcome State Fault Refusal :=
  onMsg s mb 0x0102 (fun m t =>
    if m.p 2 6 ≠ 0 then t.refuse m 0x0F0B
    else if 4096 ≤ m.p 0 2 then t.refuse m 0x0F0C
    else if t.tribRuns then (t.setRaw Reg.TRB_BUSY_REFUSED (satAdd (t.raw Reg.TRB_BUSY_REFUSED) 1)).refuse m 0x0F08
    else
      let s1 := t.setRaw Reg.TRB_NODE (4096 + m.p 0 2)
      ((List.range 32).foldl (fun u l => if (u.link l).state = .down then u.startLink l else u) s1).done m [])

/-- ROUTE_SET (R383, R481): reserved bits of an entry are not stored; packets that were held may find a choice. -/
def execRouteSet (mb : Nat) (s : State) : Host.Outcome State Fault Refusal :=
  onMsg s mb 0x0103 (fun m t =>
    let first := m.p 0 2
    let n := m.p 2 2
    if m.p 4 4 ≠ 0 ∨ m.len < 8 + 8 * n then t.refuse m 0x0F0B
    else if n < 1 ∨ 4096 < n ∨ 4096 < first + n then t.refuse m 0x0F0C
    else
      let mask := 2 ^ 63 + 0x9F9F9F9F
      let s1 := (List.range n).foldl (fun u i => u.setRaw (Reg.TRB_ROUTE + 8 * (first + i)) (m.p (8 + 8 * i) 8 &&& mask)) t
      (s1.flushHeld.pathsLost t).done m [])

/-- ENABLE and TRICKLE_REQ of one link (R379, R380, R403): a cleared ENABLE drains and disables it; a cleared TRICKLE_REQ wakes it. -/
def State.setLink (s : State) (l : Nat) (en tr : Bool) : State :=
  let x := s.link l
  let s1 := s.link! l (fun y => { y with enable := en, trickleReq := tr })
  if !en then (if x.state = .disabled then s1 else (s1.downLink l .disabled 0).link! l (fun y => { y with leftUpNs := 0 }))
  else if x.state = .disabled then (s1.link! l (fun y => { y with state := .down, deadline := s.now })).startLink l
  else if x.trickleReq ∧ !tr ∧ !x.spwTrickle then
    (if x.state = .trickle then s1.wakeLink l true else s1.link! l (fun y => { y with draining := false }))
  else s1

/-- LINK_SET (R379, R380, R403, R481): replies at once. -/
def execLinkSet (mb : Nat) (s : State) : Host.Outcome State Fault Refusal :=
  onMsg s mb 0x0104 (fun m t => ((List.range 32).foldl (fun u l => u.setLink l (bit (m.p 0 4) l) (bit (m.p 4 4) l)) t).flushHeld.done m [])

/-- PEER_READMIT (R376, R406). -/
def execPeerReadmit (mb : Nat) (s : State) : Host.Outcome State Fault Refusal :=
  onMsg s mb 0x0105 (fun m t =>
    if m.p 2 6 ≠ 0 then t.refuse m 0x0F0B
    else if 4096 ≤ m.p 0 2 then t.refuse m 0x0F0C
    else (if t.nodeLost (m.p 0 2) then t.peer! (m.p 0 2) (fun p => { p with lost := false }) else t).done m [])

/-- PEER_POLICY_SET (R509, R511, R512): the policy enters the state log; every peer master secret is discarded, and the sessions of peers that the policy would
not allow end. -/
def execPeerPolicySet (mb : Nat) (s : State) : Host.Outcome State Fault Refusal :=
  onMsg s mb 0x0704 (fun m t =>
    let n := m.p 12 4
    if 8 < n ∨ m.len < 16 + 32 * n then t.refuse m 0x070C
    else
      let pol := m.pb 0 (16 + 32 * n)
      let s1 := t.newRecord (fun r => { r with policy := pol })
      let s2 := (Tbl.keys s1.trib.peers).foldl (fun u k => u.dropSecret k) s1
      let bad (u : State) (l : Nat) : Bool :=
        let x := u.link l
        let p := Tbl.getD x.peerNode Peer_blank u.trib.peers
        Link_live x && !policyAdmits pol p.fabricId p.rollback p.measure
      let s3 := (List.range 32).foldl (fun u l => if bad u l then u.downLink l .train (Link_trainNs (u.link l)) else u) s2
      s3.done m [])

/-- PEER_SECRET_EXPIRY (R511): 24 hours since the first session. -/
def execPeerSecretExpiry (node : Nat) (s : State) : Host.Outcome State Fault Refusal :=
  ok (let t := (Tbl.getD node Peer_blank s.trib.peers).secretNs
      if t = 0 then s else (s.reach t).dropSecret node)

end Sys2Proof.Machine
end

