-- ==== Sys2Proof/Machine/Scrub.lean ====
section
/-! DEFINITION. Ordinary HBM accesses and their errors, scrubbing, and failures of stacks and channels (chapters 09, 11, 16). -/

namespace Sys2Proof.Machine

/-! ### Places -/

/-- Owner kind of an object (Table ERR-3). -/
def State.ownerKind (s : State) (k : Nat) : Nat := match (Tbl.find k s.slc.objs).map (fun (o : Obj) => o.kind) with
  | some (.attention _) => 2
  | some (.weight _) => 3
  | some _ => 4
  | none => 0

/-- Owner kind, owner id, slot or offset, and composition of a place (Table ERR-3). -/
def State.ownerOf (s : State) (t : OrdTarget) : Nat × Nat × Nat × Nat :=
  let coll (k i : Nat) : Nat × Nat × Nat × Nat :=
    if attBase ≤ k then (2, (k - attBase) % 65536, i, (k - attBase) / 65536) else match s.coll k with
      | some c => (1, c.id, i, c.comp)
      | none => (0, 0, 0, 0xFF)
  let obj (k off : Nat) : Nat × Nat × Nat × Nat := (s.ownerKind k, k % 65536, off, if k / 65536 < 64 then k / 65536 else 0xFF)
  match t with
  | .row k i => coll k i
  | .edges k i => coll k i
  | .record k i => coll k i
  | .obj k off => obj k off
  | .frame b n => (match Tbl.find n (s.frames (if b then .basin else .lake)) with
    | some f => if f.centre then coll f.obj 0 else obj f.obj (65536 * f.page)
    | none => (0, 0, 0, 0xFF))
  | _ => (0, 0, 0, 0xFF)

/-- The row of a place. -/
def State.rowAt (s : State) (k i : Nat) : Option Slot := (s.coll k).bind (fun c => Tbl.find i c.slots)

/-- The place's codeword is poison-marked. -/
def State.marked (s : State) (t : OrdTarget) : Bool := match t with
  | .row k i => (match s.rowAt k i with | some z => z.codeLost | none => false)
  | .edges k i => (match s.rowAt k i with | some z => z.edgeLost | none => false)
  | .obj k off => (match Tbl.find k s.slc.objs with | some o => o.injected.any (fun x => decide (x.1 = 3) && decide (x.2 / 64 = off / 64)) | none => false)
  | .frame b n => s.badFrame (if b then .basin else .lake) n
  | _ => false

/-- Poison-marks the place's codeword (R521, R522). -/
def State.mark (s : State) (t : OrdTarget) : State := match t with
  | .row k i => s.coll! k (fun c => c.slot! i (fun z => { z with codeLost := true }))
  | .edges k i => s.coll! k (fun c => c.slot! i (fun z => { z with edgeLost := true }))
  | .obj k off => s.obj! k (fun o => { o with injected := o.injected ++ [(3, off)] })
  | .frame b n => s.frames! (if b then .basin else .lake) (Tbl.upd n (fun f => { f with bad := true }))
  | _ => s

/-- What the owner of an uncorrectable codeword does (Table ERR-2): a row's rewrite is queued, a weight tile refetched, an attention object
poisoned; an edge list is empty for its readers and a frame discarded at its next use. -/
def State.ownerActs (s : State) (unit : Nat) (t : OrdTarget) : State := match t with
  | .row k _ => if attBase ≤ k then s.poisonObj (k - attBase) else s.logC unit 0x0010 (s.ownerOf t).2.2.2 0x3FF 0 0
  | .obj k off => (match (Tbl.find k s.slc.objs).map (fun (o : Obj) => o.kind) with
    | some (.weight _) => (s.weightLoss k (off / 65536)).1
    | some (.attention _) => s.poisonObj k
    | _ => s)
  | _ => s

/-- An uncorrectable word (R520, R521, Table ERR-2): class U of its channel for Lock's records, X of the context for an area tagged to one, N for
other control state, D for all else. -/
def State.wordLost (s : State) (unit tier ue : Nat) (t : OrdTarget) (batch : Option Nat) : State :=
  let o := s.ownerOf t
  let up (k : ErrClass) (b : Option Nat) : State := s.memRaise unit ue k tier o.1 o.2.1 o.2.2.1 o.2.2.2 0x3FF b stTorn
  let noted (x : State) : State := if ue = 0x0002 then x.count Reg.ERR_CNT0 6 1 else x
  match t with
  | .control => s.raise unit 0x0050 .n none 0xFF 0x3FF 0 0 0
  | .context b => noted (up .x (some b))
  | .record _ _ => noted (up .u none)
  | _ => (noted ((up .d batch).mark t)).ownerActs unit t

/-- A read of a word ends (Table ERR-1, R520): a poisoned one delivers poison and forms no record (R521). -/
def State.meetWord (s : State) (unit tier ce ue : Nat) (t : OrdTarget) (batch : Option Nat) (outcome : EccOutcome) : State :=
  match outcome with
  | .clean | .poisoned => s
  | .corrected i => let o := s.ownerOf t; s.memRaiseAt i unit ce .c tier o.1 o.2.1 o.2.2.1 o.2.2.2 0x3FF none 0
  | .uncorrectable => s.wordLost unit tier ue t batch

/-- What the read of an HBM codeword meets that suffers some symbol errors (R518, R519). -/
def State.symRead (s : State) (t : OrdTarget) (e : List SymErr) : EccOutcome := symOutcome (s.marked t) e

/-- A write stores the codeword poison-marked when its data is poisoned (R522), with valid check bytes otherwise (R288). -/
def State.writeWord (s : State) (t : OrdTarget) (poisoned : Bool) : State :=
  if poisoned then (if s.marked t then s else s.mark t)
  else match t with
    | .obj k off => s.obj! k (fun o => { o with injected := o.injected.filter (fun x => decide (x.2 / 64 ≠ off / 64)) })
    | _ => s

/-! ### Failures -/

/-- Poisons attention objects that have data in the failed part (R605): those with a block whose codes lie there. -/
def State.poisonIn (s : State) (p : Nat → AttObj → Bool) : State :=
  s.slc.objs.foldl (fun t o => match o.2.kind with
    | .attention a => if p (o.1 / 65536) a then t.poisonObj o.1 else t
    | _ => t) s

/-- A whole stack fails (R306): stacks 0 to 3 are Millrace, 4 to 7 Basin. -/
def State.stackFail (s : State) (stack typ : Nat) : State :=
  let unit := unitOf (2 + stack) 0xFF
  if s.gauge.fenced.contains unit then s
  else (s.raise unit typ .u none 0xFF 0x3FF 0 0 0).poisonIn (fun c a =>
    if stack < 4 then a.blocks.any (fun b => decide (b.cell / 128 = stack)) else s.inBasin c (stack - 4) none && decide (a.toks ≠ []))

/-- STACK_FAIL (R306, R605). -/
def execStackFail (stack : Nat) (s : State) : Host.Outcome State Fault Refusal :=
  onUnit (decide (stack < 8)) (s.stackFail stack 0x0024)

/-- A sector on a failed part is lost as an uncorrectable one is (R357, R358); the failure is one error of the channel, so its records open no
handler of their own. -/
def State.sectorGone (s : State) (space lsn : Nat) : State :=
  match s.mapEnt space lsn with
  | some (.mapped p) =>
    let o := s.lsnOwner space lsn
    let f := s.free
    let s1 := (f.2.setMap space lsn .lost).blk! (psaBlock p) (fun k => { k with sectors := updAt k.sectors (p % 2 ^ 14) (fun x => { x with lost := true }) })
    ((s1.count Reg.DLT_CNT0 5 1).damageLsn space lsn).form (unitOf 0x0C (chanOf (psaBlock p))) 0x0007 .d false (s.spaceComp space) 0x3FF
      (4 * 2 ^ 60 + p) (memDetail f.1 1 o.1 o.2)
  | _ => s

/-- Sector `i` of an extent on a failed part is lost; a weight object's tile is refetched, or its object poisoned (Table DLT-4). -/
def State.extentGone (s : State) (e i : Nat) : State :=
  match Tbl.find e s.delta.extents with
  | none => s
  | some x =>
    if x.lost.contains i ∨ x.sectors ≤ i then s
    else
      let b := x.blocks.getD (i / s.delta.geom.tlc) 0
      let f := s.free
      let s1 := f.2.delta! (fun d => { d with extents := Tbl.upd e (fun y => y.sectorLost i) d.extents })
      let s2 := ((s1.count Reg.DLT_CNT0 5 1).damageExt e i).form (unitOf 0x0C (chanOf b)) 0x0007 .d false (s.spaceComp x.key) 0x3FF
        (4 * 2 ^ 60 + psaOf b (i % s.delta.geom.tlc)) (memDetail f.1 (if x.kind = 0 then 3 else 1) x.src i)
      match (if x.kind = 0 then s2.slc.objs.find? (fun o => decide (o.2.extent = some e)) else none) with
      | some (k, _) => (s2.weightLoss k ((i - ExtentSt_first x) / 16)).1
      | none => s2

/-- Everything on failed LUNs is gone (R357 to R359): sectors, extents' sectors, copies of map pages; programs in flight there are written again
at other write points. -/
def State.flashGone (s : State) (p : Nat → Bool) : State :=
  let bad (b : Nat) : Bool := p (lunOf b)
  let s0 := ((s.delta.progs.filter (fun g => bad g.block)).map (·.block) |> dedup).foldl (fun t b => t.reprogram b) s
  let s1 := (s0.delta.spaces.flatMap (fun x => (x.2.map.filter (fun m => match m.2 with | .mapped q => bad (psaBlock q) | _ => false)).map (fun m => (x.1, m.1)))).foldl
    (fun (t : State) (m : Nat × Nat) => t.sectorGone m.1 m.2) s0
  let s2 := s1.delta.extents.foldl (fun t e => (List.range e.2.sectors).foldl (fun t i => if bad (e.2.blocks.getD (i / s.delta.geom.tlc) 0) then t.extentGone e.1 i else t) t) s1
  s2.delta! (fun d => { d with
    blocks := d.blocks.map (fun b => (b.1, if bad b.1 ∧ (b.2.state = .opened ∨ b.2.state = .taken) then { b.2 with state := .closed } else b.2))
    spaces := d.spaces.map (fun x => (x.1, { x.2 with pages := x.2.pages.map (fun g => (g.1,
      let left := g.2.copies.filter (fun l => !p l)
      if g.2.copies = [] ∨ left = g.2.copies then g.2 else { g.2 with copies := left, rebuilding := g.2.rebuilding || decide (left = []) })) })) })

/-- CHANNEL_FAIL (R357, Table ERR-5): a flash channel is FENCED; a LUN's failure leaves its channel DEGRADED; an HBM channel is fenced, and the
attention objects with codes in its bank groups are poisoned. -/
def execChannelFail (part : FlashPart) (s : State) : Host.Outcome State Fault Refusal :=
  match part with
  | .channel c => onUnit (decide (c < 32)) (match Tbl.find c s.delta.chans with
    | none => s
    | some x =>
      if x.state = .fenced ∨ x.state = .absent then s
      else (s.raise (unitOf 0x0C c) 0x0025 .u none 0xFF 0x3FF 0 0 0).flashGone (fun l => decide (l / 32 = c)))
  | .lun l => onUnit (decide (l < 1024)) (match Tbl.find (l / 32) s.delta.chans with
    | none => s
    | some x =>
      let unit := unitOf 0x0C (l / 32)
      if x.state = .fenced ∨ x.state = .absent ∨ s.delta.failedLuns.contains l ∨ !x.targets.contains (l % 32 / 4) ∨ s.delta.geom.luns ≤ l % 4 then s
      else
        let s1 := if s.handlerOpen unit then s.raise unit 0x0025 .u none 0xFF 0x3FF 0 0 0 else (s.form unit 0x0025 .u false 0xFF 0x3FF 0 0).openHandler unit .u
        (s1.delta! (fun d => { d with
          failedLuns := d.failedLuns ++ [l]
          chans := Tbl.upd (l / 32) (fun c => { c with state := if c.state = .up then .degraded else c.state, lunsFailed := c.lunsFailed + 1 }) d.chans })).flashGone
          (fun y => decide (y = l)))
  | .hbm stack chan => onUnit (decide (stack < 8) && decide (chan < 32)) (
      let unit := unitOf (2 + stack) (0x80 + chan)
      if s.gauge.fenced.contains unit then s
      else (s.raise unit 0x0025 .u none 0xFF 0x3FF 0 0 0).poisonIn (fun c a =>
        if stack < 4 then a.blocks.any (fun b => decide (b.cell / 128 = stack) && decide (b.cell % 128 / 4 = chan)) else s.inBasin c (stack - 4) (some chan) && decide (a.toks ≠ [])))

/-! ### Ordinary accesses -/

/-- The codeword of an ordinary access of a DATA row or of Basin is read or written. -/
def State.accessed (s : State) (unit tier : Nat) (a : OrdAccess) : State :=
  if a.isWrite then s.writeWord a.target a.poisoned else s.meetWord unit tier 0x0001 0x0002 a.target a.batch (s.symRead a.target a.err)

/-! ### Scrubbing -/

/-- A pass of a scrub target runs unless it is paused (R552); it ends with `f` applied. In STANDBY scrubbing pauses (R575). -/
def State.scrubPass (s : State) (target : Nat) (f : State → State) : State :=
  if (s.scrubOf target).paused ∨ s.spw.state = .standby ∨ s.cru.held ∨ s.host.nodeState ≠ .running then s
  else (f s).scrub! target (fun x => { x with passRuns := false })

/-- A unit names an HBM channel. -/
def isHbmChan (u : Nat) : Bool := decide (2 ≤ u / 256) && decide (u / 256 ≤ 9) && decide (0x80 ≤ u % 256) && decide (u % 256 < 0xA0)

/-- What one find of an HBM scrub does (R540): fenced channels are not read, and nor are SCRATCH rows. -/
def State.hbmFind (s : State) (x : ScrubFind) : State :=
  let scratch : Bool := match x.target with | .millRow _ => true | _ => false
  if !isHbmChan x.unit ∨ scratch ∨ s.gauge.fenced.contains x.unit then s
  else
    let o := s.symRead x.target x.err
    let s1 := s.meetWord x.unit (if x.unit / 256 ≤ 5 then 3 else 2) 0x0001 0x0002 x.target none o
    match o with | .corrected _ => s1.count Reg.ERR_CNT0 5 1 | _ => s1

/-- HBM_SCRUB (R540, R541): a pass over every DATA codeword, with what it found. -/
def execHbmScrub (finds : List ScrubFind) (s : State) : Host.Outcome State Fault Refusal :=
  ok (s.scrubPass 0 (fun t => finds.foldl (fun u x => u.hbmFind x) t))

/-- Planes of a collection whose copies differ in some slot of a stack (R542). -/
def Coll_badPlanes (c : Coll) (stack : Nat) : List Nat :=
  ((Tbl.keys c.planes).filter (fun p => c.slots.any (fun z => (match Tbl.find z.2.reach c.reaches with | some r => decide (r.cell / 128 = stack) | none => false) && !c.twinOk p z.1)))

/-- PLANE_SCRUB (R542, R293): a pass over the plane rows of a stack; every difference is logged and counted, and the plane rewritten from Basin. -/
def execPlaneScrub (stack : Nat) (s : State) : Host.Outcome State Fault Refusal :=
  onUnit (decide (stack < 4)) (s.scrubPass 3 (fun t =>
    t.search.colls.foldl (fun u k => (Coll_badPlanes k.2 stack).foldl (fun v p =>
      ((v.mrcCount (128 * stack) 7 1).logC (unitOf (2 + stack) 0xFF) 0x0011 k.2.comp 0x3FF 0 0).coll! k.1 (fun c => c.rewritePlane p)) u) t))

/-- What one find of an SRAM scrub does (R543, R520): cell memories and Lake. An uncorrectable word of a cell fences it (R304). -/
def State.sramFind (s : State) (x : ScrubFind) : State :=
  let cell := decide (2 ≤ x.unit / 256) && decide (x.unit / 256 ≤ 5) && decide (x.unit % 256 < 128)
  let lake := decide (x.unit / 256 = 0x0A) && decide (x.unit % 256 < 4)
  if (!cell && !lake) ∨ s.gauge.fenced.contains x.unit then s
  else match bitOutcome (lake && s.marked x.target) (x.err.map (·.1)) with
    | .clean | .poisoned => s
    | .corrected i => (s.meetWord x.unit (if lake then 1 else 6) 0x0005 0x0006 x.target none (.corrected i)).count Reg.ERR_CNT0 5 1
    | .uncorrectable => if cell then s.memRaise x.unit 0x0006 .u 6 5 0 0 0xFF 0x3FF none 0 else s.meetWord x.unit 1 0x0005 0x0006 x.target none .uncorrectable

/-- SRAM_SCRUB (R543). -/
def execSramScrub (finds : List ScrubFind) (s : State) : Host.Outcome State Fault Refusal :=
  ok (s.scrubPass 1 (fun t => finds.foldl (fun u x => u.sramFind x) t))

/-- A closed block of a channel that answers, other than an extent's, whose data read weakly moves to another block (R544). -/
def State.moveWeak (u : State) (b : Nat) : State :=
  let k := u.blk b
  let answers : Bool := match Tbl.find (chanOf b) u.delta.chans with | some c => decide (c.state = .up) || decide (c.state = .degraded) | none => false
  if k.state = .closed ∧ k.extent = 0 ∧ !u.delta.failedLuns.contains (lunOf b) ∧ answers
    then (match u.relocate b 2 with | some v => v.count Reg.ERR_CNT0 7 1 | none => u)
    else u

/-- FLASH_SCRUB (R544): a pass over every closed block; `weak` names those in which a codeword needed soft decoding or retry, which are relocated. -/
def execFlashScrub (weak : List Nat) (s : State) : Host.Outcome State Fault Refusal :=
  ok (if !s.deltaUp then s else s.scrubPass 2 (fun t => weak.foldl (fun u b => u.moveWeak b) t))

end Sys2Proof.Machine
end

