-- ==== Sys2Proof/Machine/Bundle.lean ====
section
/-! DEFINITION. The end of a cell's bundle and the ordinary accesses of its bank group, which wait while one runs (chapter 09: R274 to R276, R288, R290,
R293 to R301). -/

namespace Sys2Proof.Machine

/-! ### Ordinary accesses -/

/-- The access names an existing place of its bank group. -/
def ordOk (a : OrdAccess) : Bool := match a.cell, a.target with
  | _, .mesh l => decide (l < 256)
  | some n, .millRow r => decide (n < 512) && decide (r < groupRows)
  | some n, _ => decide (n < 512)
  | none, .millRow _ => false
  | none, _ => true

/-- An ordinary access of a bank group completes with a status, and a SCRATCH read with the row as it stands (Table MRC-4). -/
def State.completes (s : State) (n : Nat) (st : AccStatus) (v : Nat) : State := s.cell! n (fun c => { c with accStatus := some (st, v) })

/-- An access reads poisoned data (Table ERR-1). -/
def State.poisonRead (s : State) (a : OrdAccess) : Bool := match s.symRead a.target a.err with | .poisoned | .uncorrectable => true | _ => false

/-- An ordinary access of a bank group is served (R288, R290): the controller's copy of the row-class table refuses a write to a SCRATCH row; one that its check
missed is discarded by the base die, which raises the mismatch. -/
def State.serveAccess (s : State) (n : Nat) (a : OrdAccess) : State :=
  match a.target with
  | .millRow r =>
    let block := (n * groupRows + r) / 16
    if a.isWrite ∧ s.mrc.ctrl.contains block ∧ !a.missed then ((s.mrcCount n 6 1).logC (chanUnit n) 0x0043 0xFF 0x3FF 0 0).completes n .refused 0
    else if a.isWrite ∧ s.isScratch n r then s.stackFail (n / 128) 0x0023
    else if s.isScratch n r then s.completes n .raw (Tbl.getD (n * groupRows + r) 0 s.mrc.rows)
    else (s.accessed (chanUnit n) 3 a).completes n (if !a.isWrite && s.poisonRead a then .poison else .ok) 0
  | _ => (s.accessed (chanUnit n) 3 a).completes n (if !a.isWrite && s.poisonRead a then .poison else .ok) 0

/-- The accesses that wait at a bank group are served, before its cell's next bundle (R299, R300). -/
def State.serveAll (s : State) (n : Nat) : State :=
  (s.cell n).ordinary.foldl (fun t a => t.serveAccess n a) (s.cell! n (fun c => { c with ordinary := [] }))

/-- An access that meets a running bundle waits until it ends (R299, R301): it is counted, and MRC_ORDMAX keeps the greatest latency added. -/
def State.waitBundle (s : State) (n : Nat) (a : OrdAccess) : State :=
  let added := Nat.min a.addedNs ((s.bundleLimits n).2 + 48)
  ((s.cell! n (fun c => { c with ordinary := c.ordinary ++ [a] })).mrcCount n 5 1).mrc! (fun x => { x with
    hbmStacks := updAt x.hbmStacks (n / 128) (fun y => { y with ordMax := Nat.max y.ordMax added }) })

/-- ORDINARY_ACCESS (R288, R290, R299, R301, R517 to R523). -/
def execOrdinaryAccess (acc : OrdAccess) (s : State) : Host.Outcome State Fault Refusal :=
  onUnit (ordOk acc) (match acc.cell, acc.target with
    -- a word that crosses the mesh (R518)
    | _, .mesh l => s.meetWord (unitOf 0x0B l) 5 0x0003 0x0004 acc.target acc.batch (symOutcome acc.poisoned acc.err)
    | none, _ => let u := s.basinUnit; u.2.accessed u.1 2 acc
    | some n, _ => if (s.cell n).bundle.isSome then s.waitBundle n acc else (s.serveAll n).serveAccess n acc)

/-! ### The end of a bundle -/

/-- Activations of a bundle that works on row-operation requests: within BUNDLE_ACT and, at 30 ns each, within BUNDLE_NS (R274, Table MRC-5). -/
def State.bundleActs (s : State) (cell : Nat) : Nat := let l := s.bundleLimits cell; Nat.max 1 (Nat.min l.1 (l.2 / 30))

/-- A bundle makes activations for a request that needs `need` in all; the request completes by `f` when they are made (R274, R276). -/
def State.bundleWork (s : State) (cell need : Nat) (f : State → State) : State :=
  let have_ := (s.cell cell).acts
  let step := Nat.min (s.bundleActs cell) (need - have_)
  let s1 := s.mrcCount cell 1 step
  if need ≤ have_ + step then f (s1.cell! cell (fun c => { c with acts := 0 })) else s1.cell! cell (fun c => { c with acts := have_ + step })

/-- A bundle of bitwise row operations: the first ROWOP that waits (R276, R297). -/
def State.bundleRowop (s : State) (cell : Nat) (op : RowOp) : State :=
  s.bundleWork cell (2 * op.parts.2.2) (fun t => (t.cell! cell (fun c => { c with ops := c.ops.drop 1 })).rowDone cell op)

/-- A bundle that evaluates a filter program over a plane row (R296); rows whose copies differ abandon the issue for the lanes they serve (R293). -/
def State.bundleFilter (s : State) (cell : Nat) (c : Coll) (i : Issue) (prog : List Byte) (row : Nat) (faults : List RowFault) : State :=
  let bad := badMasks c cell (dedup (c.planesOf prog i.readEpoch)) [row] faults
  if bad ≠ [] then s.maskMismatch cell i bad
  else
    let cost := filterCost (filterSteps prog)
    s.bundleWork cell (2 * cost.2) (fun t => (t.formFilter cell c i prog row).mrcCount cell 4 (2 * cost.1))

/-- A bundle that forms the masks of an issue (R276, R294): a difference, or a strip or header that cannot be read, abandons it (R293). -/
def State.bundleMask (s : State) (cell : Nat) (c : Coll) (i : Issue) (faults : List RowFault) : State :=
  let planes := Coll_issuePlanes c i
  let strip := faults.filterMap (fun f => match f with | .mask p => if stripSource ≤ p then some p else none | _ => none)
  let bad := badMasks c cell planes (planeRows i.rest) faults ++ strip
  if bad ≠ [] then s.maskMismatch cell i bad else s.bundleWork cell (Coll_maskActs c i) (fun t => t.formMasks cell c i)

/-- Bytes of a stored row of an issue, as the cell reads them: the greatest of its reach (R273). -/
def Coll_rowSize (c : Coll) (i : Issue) : Nat := Nat.max 1 (maxL ((c.slotsOf i.reach).map (fun z => c.rowBytes i.reach i.readEpoch z.2)))

/-- A scan bundle (R274, R275, R283, R284): at most `rows` stored rows within the limits of activations and time; a stored row that needs more than a bundle
allows is read across bundles. The reach that has no row left ends with its tallies, when the output queue has room for them. -/
def State.bundleScan (s : State) (cell : Nat) (c : Coll) (i : Issue) (rows : Nat) (faults : List RowFault) : State :=
  let lim := s.bundleLimits cell
  let budget := Nat.min (lim.1 * 1024) (Nat.max 1024 (lim.2 * 64))
  let size := Coll_rowSize c i
  let fits := decide (size ≤ budget)
  let most := if fits then budget / size else (i.part + budget) / size
  let n := Nat.min (if fits then rows else Nat.max 1 rows) most
  let s1 := if i.rest = [] then s else s.issue! cell (fun y => { y with part := if fits ∨ most ≠ 0 then 0 else y.part + budget })
  let s2 := s1.scanRows cell faults n
  let s3 := match (s2.cell cell).issues with
    | j :: _ =>
      if j.coll ≠ i.coll ∨ j.reach ≠ i.reach ∨ j.rest ≠ [] then s2
      else if 1024 < (s2.cell cell).queue.length + j.lanes.length then s2.cell! cell (fun x => { x with draining := true })
      else s2.endIssue cell j
    | [] => s2
  s3.mrcCount cell 1 (if i.rest = [] then 0 else Nat.min lim.1 (Nat.max 1 (cdiv (if fits then Nat.min n i.rest.length * size else Nat.min budget (size - i.part)) 1024)))

/-- The work of a bundle: of one kind, for one request (R276). Row operations that wait come before the reach issue in work (log 124). -/
def State.bundleDo (s : State) (cell rows : Nat) (faults : List RowFault) : State :=
  let x := s.cell cell
  match x.ops, x.issues with
  | op :: _, _ => s.bundleRowop cell op
  | [], i :: _ => (match s.qcoll i.coll with
    | none => s
    | some c => match i.mask, s.filterDue x i with
      | some _, _ => s.bundleScan cell c i rows faults
      | none, some (prog, row) => s.bundleFilter cell c i prog row faults
      | none, none => s.bundleMask cell c i faults)
  | [], [] => s

/-- BUNDLE_END (R274, R275, R283, R284, R300): the bundle's work is done; the token returns, class changes that waited take effect, and the ordinary accesses
that waited are served. A failed check fences the cell instead (R304). -/
def execBundleEnd (cell rows : Nat) (faults : List RowFault) (s : State) : Host.Outcome State Fault Refusal :=
  onCell cell (
    let x := s.cell cell
    match x.bundle with
    | none => s.serveAll cell
    | some t0 => match s.cellCheck cell faults with
      | some t => (t.lateRct cell).serveAll cell
      | none =>
        let batch := match x.ops, x.issues with | [], i :: _ => (Tbl.find (i.lanes.headD 0) x.lanes).map (·.batch) | _, _ => none
        let s1 := ((s.bundleDo cell rows faults).mrcCount cell 0 1).cell! cell (fun c => ({ c with token := false, bundle := none } : Cell).settled)
        let s2 := (s1.lateRct cell).serveAll cell
        match batch with
        | some b => s2.chargeCell b (Nat.min (s.bundleLimits cell).2 (s.now - t0))
        | none => s2)

end Sys2Proof.Machine
end

