-- ==== Sys2Proof/Machine/Dump.lean ====
section
/-! DEFINITION. REACH_DUMP and CATCHMENT_DUMP (chapter 16). -/

namespace Sys2Proof

/-- Bytes from one reach record of a dump to the next (R548). -/
def dumpStride (dim : Nat) : Nat := (64 + 2 * dim + 63) / 64 * 64

/-- A reach record (Table ERR-9), at the dump's stride. -/
def reachRecord (c : Coll) (r : Nat) : List Byte :=
  let centreLen := 2 * c.desc.dim
  let body := match Tbl.find r c.reaches with
    | none => le 4 r ++ zeros (60 + centreLen)
    | some x =>
      let held := c.rowsOf r
      le 4 r ++ le 2 x.catchment ++ le 2 (1 + 2 * b2n (decide (held = 0))) ++ le 4 x.radius.toNat ++ le 4 x.tight.toNat ++ le 8 x.tightEpoch
        ++ le 4 held ++ le 2 (c.tombs r) ++ le 2 (Nat.min 65535 x.stale) ++ le 8 x.lastChange ++ zeros 24
        ++ (x.centre.flatMap (fun a => le 2 a.toNat) ++ zeros centreLen).take centreLen
  body ++ zeros (dumpStride c.desc.dim - 64 - centreLen)

end Sys2Proof

namespace Sys2Proof.Machine

/-- A diagnostics message that names a collection of its composition, or of any composition for the admin role: the collection, or a refusal under
R29 (R546). -/
def State.onDump (s : State) (m : Msg) (ok : Bool) (f : Coll → State) : State :=
  let found := if m.comp = 64 then (s.search.colls.find? (fun k => decide (k.2.id = m.p 0 2) && decide (k.2.state ≠ .dropping))).map (·.2)
    else (s.coll (collKey m.comp (m.p 0 2))).filter (fun c => decide (c.state ≠ .dropping))
  match found with
  | none => s.refuse m 0x0005
  | some c => if ok then f c else s.refuse m rField

/-- REACH_DUMP (R548): the reaches FIRST to FIRST + COUNT − 1 that the collection holds. -/
def execReachDump (mb : Nat) (s : State) : Host.Outcome State Fault Refusal :=
  onMsg s mb 0x0802 (fun m t =>
    let n := m.p 8 4
    t.onDump m (decide (m.p 2 2 = 0) && decide (m.p 0x0C 4 = 0) && decide (1 ≤ n) && decide (n ≤ 4096)) (fun c =>
      let l := (sortBy (fun a b => decide (a < b)) (Tbl.keys c.reaches)).filter (fun r => decide (m.p 4 4 ≤ r) && decide (r < m.p 4 4 + n))
      let out := l.flatMap (reachRecord c)
      if m.p 0x18 8 < out.length then t.refuse m rField
      else (t.output m (m.p 0x10 8) out).done m (le 8 c.lastEpoch ++ le 4 l.length ++ le 4 0)))

/-- A summary as CATCHMENT_DUMP writes it: UNSURE in FLAGS bit 2 (R549). -/
def dumpSummary (z : Summary) (node catchment coll : Nat) (unsure : Bool) : List Byte :=
  let b := Summary_bytes z node catchment coll
  b.take 6 ++ le 2 (natAt b 6 2 + 4 * b2n unsure) ++ b.drop 8

/-- This node's catchment as a record with its exact radii and SEQ zero (R549). -/
def localSummary (c : Coll) (i : Nat) (k : Catch) : Summary :=
  { valid := true, empty := (c.reachesOf i).isEmpty, radius := k.radius, tight := k.tight, tightEpoch := k.tightEpoch,
    reaches := (c.reachesOf i).length, rows := sumL ((c.reachesOf i).map (fun r => c.rowsOf r.1)), seq := 0, centre := k.centre }

/-- What CATCHMENT_DUMP writes, one element a record. -/
def State.catchRecords (s : State) (c : Coll) (source : Nat) : List (List Byte) :=
  let rising {α : Type} (l : List (Nat × α)) : List (Nat × α) := sortBy (fun a b => decide (a.1 < b.1)) l
  if source = 0xFFFF then (rising c.catches).map (fun k => dumpSummary (localSummary c k.1 k.2) s.nodeNo k.1 c.id false)
  else match Tbl.find source c.sources with
    | none => []
    | some x => (rising x.sums).map (fun k => dumpSummary k.2 source k.1 c.id x.unsure)

/-- CATCHMENT_DUMP (R549). -/
def execCatchmentDump (mb : Nat) (s : State) : Host.Outcome State Fault Refusal :=
  onMsg s mb 0x0803 (fun m t =>
    t.onDump m (decide (m.p 4 4 = 0)) (fun c =>
      let l := t.catchRecords c (m.p 2 2)
      let out := l.flatten
      if m.p 0x10 8 < out.length then t.refuse m rField
      else (t.output m (m.p 8 8) out).done m (le 4 l.length ++ le 4 0)))

end Sys2Proof.Machine
end

