-- ==== Sys2Proof/Machine/Standby.lean ====
section
/-! DEFINITION. STANDBY: entry, wake and return (chapter 17). -/

namespace Sys2Proof.Machine

/-- Steps 1 to 3 of Table SPW-3: mailboxes stop, the contexts are torn down, and nothing more is written for the host (R458, R574). -/
def State.standbyBegin (s : State) : State :=
  let s1 := (s.host! (fun h => { h with d3hot := true })).spw! (fun x => { x with state := .entering, wakeByPeer := false })
  let s2 := (List.range 65).foldl (fun t b => t.mute b) s1
  let s3 := s2.slc.batches.foldl (fun t b => t.teardown b.1 stTorn) s2
  s3.host! (fun h => { h with funcs := h.funcs.map (fun f => (f.1, { f.2 with suppressed := true, waiting := [] })) })

/-- Step 5: the open sectors of every space are programmed. -/
def State.flushAll (s : State) : State :=
  if !s.deltaUp then s
  else (dedup (s.delta.opens.map (fun o => o.space))).foldl (fun t x => (t.flush x (t.flashMask (t.spaceComp x) 0)).getD t) s

/-- Step 6: every UP link goes into TRICKLE at Spillway's request (R379); a link that is there stays. -/
def State.tricklesAll (s : State) : State :=
  (s.trib.links.filter (fun l => decide (l.2.state = .up))).foldl (fun t l =>
    let t1 := t.link! l.1 (fun x => { x with spwTrickle := true })
    if l.2.draining then t1 else ((t1.control l.1 .trickle).link! l.1 (fun x => { x with draining := true })).pathsLost t) s

/-- Step 7 (R575): clocks stop, cell programs are lost. -/
def State.powerDown (s : State) : State :=
  ((s.cru! (fun c => { c with plls := 0x100007 })).mrc! (fun x => { x with cells := x.cells.map (fun c => (c.1, { c.2 with
    program := [], lanes := [], queue := [], issues := [], token := false, waiting := false, bundle := none, draining := false, ordinary := [], ops := [], acts := 0 })) })).spw!
    (fun x => { x with state := .standby }) |>.count Reg.SPW_CNT0 2 1

/-- Steps 1 to 6 of Table SPW-4: clocks, cells, the links that Spillway had put in TRICKLE; CCLK and SPW_LIMIT are those that Spillway held. -/
def State.powerUp (s : State) : State :=
  let s1 := (s.cru! (fun c => { c with plls := 0x1FFFF7 })).loadCells
  let mine := (s1.trib.links.filter (fun l => l.2.spwTrickle)).map (fun l => (l.1, l.2.trickleReq))
  let s2 := mine.foldl (fun t l =>
    let t1 := t.link! l.1 (fun x => { x with spwTrickle := false })
    if l.2 then t1 else t1.wakeLink l.1 true) s1
  s2.spw! (fun x => { x with state := if SpwFree x then .active else .capped, idleSinceNs := s.now, coolSinceNs := s.now })

/-- The entry goes on (steps 4 to 7 of Table SPW-3): it waits for contexts, parts, programs and links in turn. A D0 that arrived meanwhile wakes the
node at the end of the entry. -/
def State.standbyGoesOn (s : State) : State :=
  let s1 := s.flushAll
  if s.slc.batches ≠ [] ∨ s.search.parts.any Part_holds then s
  else if s.deltaUp ∧ s1.delta.progs ≠ [] then s1
  else
    let s2 := if s1.deltaUp then s1.checkpoint else s1
    let s3 := s2.tricklesAll
    if s3.trib.links.any (fun l => decide (l.2.state = .up)) then s3
    else if s3.host.d3hot then s3.powerDown
    else s3.powerDown.powerUp

/-- The node serves, in ACTIVE or CAPPED. -/
def State.serves (s : State) : Bool :=
  !s.cru.held && decide (s.weir.state ≠ .quarantined) && decide (s.host.nodeState = .running) && (decide (s.spw.state = .active) || decide (s.spw.state = .capped))

/-- STANDBY_ENTRY (R574, Table SPW-3): a first command is the write of D3hot with steps 1 to 3; those that follow go on with the entry. -/
def execStandbyEntry (s : State) : Host.Outcome State Fault Refusal :=
  ok (if s.spw.state = .entering ∧ s.weir.state ≠ .quarantined ∧ !s.cru.held then s.standbyGoesOn
    else if s.serves && !s.host.d3hot then s.standbyBegin
    else s)

/-- The PF is in D0: its functions write to the host again. -/
def State.toD0 (s : State) : State :=
  s.host! (fun h => { h with d3hot := false, funcs := h.funcs.map (fun f => (f.1, { f.2 with suppressed := false })) })

/-- WAKE_FROM_STANDBY (R577, Table SPW-4). -/
def execWakeFromStandby (source : WakeSource) (s : State) : Host.Outcome State Fault Refusal :=
  ok (if s.cru.held ∨ s.weir.state = .quarantined then s
    else match source with
      | .d0 =>
        if !s.host.d3hot then s
        else
          let s1 := s.toD0.spw! (fun x => { x with wakeByPeer := false })
          if s.spw.state = .standby then s1.powerUp else s1
      | _ => if s.spw.state = .standby then ((s.powerUp).spw! (fun x => { x with wakeByPeer := true })).count Reg.SPW_CNT0 3 1 else s)

/-- STANDBY_RETURN (R578): 100 ms without fabric work and without a context, while the PF is still in D3hot. -/
def execStandbyReturn (s : State) : Host.Outcome State Fault Refusal :=
  ok (if s.serves && s.host.d3hot && s.spw.wakeByPeer && decide (s.slc.batches = []) && decide ((s.slc.ctxs.filter (fun c => decide (c.2.state ≠ .quiet))) = []) then
      ((s.reach (s.spw.idleSinceNs + ms 100)).spw! (fun x => { x with state := .entering, wakeByPeer := false })).standbyGoesOn
    else s)

end Sys2Proof.Machine
end

