-- ==== Sys2Proof/Machine/Wire.lean ====
section
/-! DEFINITION. Packets as they stand on a link: the header of Table TRB-4 and the encryption of R377, AES-256 in Galois/counter mode (chapter 12). -/

namespace Sys2Proof

/-- A product in GF(2¹²⁸) as Galois/counter mode numbers its bits: the first bit of a block is that of x⁰. -/
def ghashMul (x y : Nat) : Nat :=
  ((List.range 128).foldl (fun (acc : Nat × Nat) i =>
    (if bit x (127 - i) then acc.1 ^^^ acc.2 else acc.1, acc.2 / 2 ^^^ (if bit acc.2 0 then 0xE1 * 2 ^ 120 else 0))) (0, y)).1

/-- A block as a number, first byte greatest. -/
def blockNat (b : List Nat) : Nat := b.foldl (fun v x => v * 256 + x) 0

/-- A number as a block of `n` bytes, greatest byte first. -/
def beBytes (n v : Nat) : List Nat := (List.range n).map (fun i => v / 256 ^ (n - 1 - i) % 256)

/-- The hash of whole blocks, the last one filled with zeros. -/
def ghash (h : Nat) (data : List Nat) (acc : Nat) : Nat :=
  (List.range (cdiv data.length 16)).foldl (fun v i =>
    let b := (data.drop (16 * i)).take 16
    ghashMul (v ^^^ blockNat (b ++ List.replicate (16 - b.length) 0)) h) acc

/-- The key stream of `n` bytes from counter block 2 on. -/
def gcmStream (keys : List (List Nat)) (nonce : List Nat) (n : Nat) : List Nat :=
  ((List.range (cdiv n 16)).flatMap (fun i => aesBlock keys (nonce ++ beBytes 4 (i + 2)))).take n

/-- AES-256-GCM: ciphertext and tag of a text under a key, a nonce of 12 bytes and associated data. -/
def gcmSeal (key : List Byte) (nonce aad text : List Nat) : List Nat × List Nat :=
  let keys := aesKeys (byteNats key)
  let h := blockNat (aesBlock keys (List.replicate 16 0))
  let c := xorAll text (gcmStream keys nonce text.length)
  let s := ghashMul (ghash h c (ghash h aad 0) ^^^ (8 * aad.length * 2 ^ 64 + 8 * c.length)) h
  (c, xorAll (beBytes 16 s) (aesBlock keys (nonce ++ [0, 0, 0, 1])))

/-- The 32-byte header of a packet (Table TRB-4). -/
def Packet.head (p : Packet) : List Byte :=
  le 1 p.op ++ le 1 (p.cls % 4 + p.hops % 8 * 4 + b2n p.fw * 32 + b2n p.fragLast * 64 + b2n p.resync * 128) ++ le 2 (p.dst % 4096 + p.subop % 16 * 4096)
    ++ le 2 (p.src % 4096) ++ le 2 p.tenant ++ le 4 p.flowSeq ++ le 2 p.data.length ++ le 2 p.frag ++ le 8 p.addr ++ le 4 p.opId ++ le 4 p.aux

/-- A packet as it is sent (R377, R389): the header, the payload encrypted under the key of the link direction with the packet counter as nonce (its place in the
12 bytes is the model's, log 122), zeros to an 8-byte boundary, and the tag. -/
def Packet.wire (p : Packet) (key : List Byte) (counter : Nat) : List Byte :=
  let c := gcmSeal key (byteNats (le 12 (counter % 2 ^ 64))) (byteNats p.head) (byteNats p.data)
  p.head ++ c.1.map (BitVec.ofNat 8) ++ zeros (roundUp p.data.length 8 - p.data.length) ++ c.2.map (BitVec.ofNat 8)

end Sys2Proof

namespace Sys2Proof.Machine

/-- The bytes of the next packet on a link, under the key that its session gave this direction. -/
def State.wirePacket (s : State) (l : Nat) (p : Packet) : List Byte :=
  p.wire (match s.weir.slots.find? (fun k => decide (k.1 = slotCode 2 (2 * l))) with | some k => k.2 | none => zeros 32) (s.link l).txCtr

end Sys2Proof.Machine
end

