-- ==== Sys2Proof/Machine/All.lean ====
section
/-! DEFINITION. The families of meanings, gathered for the dispatch. -/
end

