-- ==== Sys2Proof/Machine/Dispatch.lean ====
section
/-! DEFINITION. The meaning of every command: one arm per row of the opcode table. -/

namespace Sys2Proof.Machine

/-- The effect of a command on everything but the queue. -/
def exec (i : Instr) (s : State) : Host.Outcome State Fault Refusal :=
  match i with
  | .registerWrite addr size value => Sys2Proof.Machine.execRegisterWrite addr size value s
  | .badSizeAccess isWrite addr size => Sys2Proof.Machine.execBadSizeAccess isWrite addr size s
  | .unassignedAccess isWrite addr size => Sys2Proof.Machine.execUnassignedAccess isWrite addr size s
  | .disabledCoreAccess isWrite addr => Sys2Proof.Machine.execDisabledCoreAccess isWrite addr s
  | .rilFaultClear core => Sys2Proof.Machine.execRilFaultClear core s
  | .errIntPendClear mask => Sys2Proof.Machine.execErrIntPendClear mask s
  | .consumedWrite value => Sys2Proof.Machine.execConsumedWrite value s
  | .hwdWinWrite value => Sys2Proof.Machine.execHwdWinWrite value s
  | .mailboxWindowWrite mb off bytes => Sys2Proof.Machine.execMailboxWindowWrite mb off bytes s
  | .submitWrite mb value => Sys2Proof.Machine.execSubmitWrite mb value s
  | .bar2Read off len => Sys2Proof.Machine.execBar2Read off len s
  | .bar2Write off bytes => Sys2Proof.Machine.execBar2Write off bytes s
  | .messageTake mb => Sys2Proof.Machine.execMessageTake mb s
  | .nodeInfo mb => Sys2Proof.Machine.execNodeInfo mb s
  | .nodeIdSet mb => Sys2Proof.Machine.execNodeIdSet mb s
  | .routeSet mb => Sys2Proof.Machine.execRouteSet mb s
  | .linkSet mb => Sys2Proof.Machine.execLinkSet mb s
  | .peerReadmit mb => Sys2Proof.Machine.execPeerReadmit mb s
  | .ringSet mb => Sys2Proof.Machine.execRingSet mb s
  | .timeSet mb => Sys2Proof.Machine.execTimeSet mb s
  | .rwpWrite mb => Sys2Proof.Machine.execRwpWrite mb s
  | .nodeReset mb => Sys2Proof.Machine.execNodeReset mb s
  | .recoveryEnter mb => Sys2Proof.Machine.execRecoveryEnter mb s
  | .recoveryLoad mb => Sys2Proof.Machine.execRecoveryLoad mb s
  | .collCreate mb => Sys2Proof.Machine.execCollCreate mb s
  | .collFreeze mb => Sys2Proof.Machine.execCollFreeze mb s
  | .freezeSet coll => Sys2Proof.Machine.execFreezeSet coll s
  | .collDrop mb => Sys2Proof.Machine.execCollDrop mb s
  | .dropComplete coll => Sys2Proof.Machine.execDropComplete coll s
  | .collRecode mb => Sys2Proof.Machine.execCollRecode mb s
  | .recodeReachSwitch coll reach => Sys2Proof.Machine.execRecodeReachSwitch coll reach s
  | .oldReachStorageFree coll reach => Sys2Proof.Machine.execOldReachStorageFree coll reach s
  | .collPlace mb => Sys2Proof.Machine.execCollPlace mb s
  | .collInfo mb => Sys2Proof.Machine.execCollInfo mb s
  | .qryBatch mb dma => Sys2Proof.Machine.execQryBatch mb dma s
  | .readEpochCheckReply batch ans => Sys2Proof.Machine.execReadEpochCheckReply batch ans s
  | .mergeSlotGrant batch => Sys2Proof.Machine.execMergeSlotGrant batch s
  | .rootContextGrant batch => Sys2Proof.Machine.execRootContextGrant batch s
  | .queryStart batch query => Sys2Proof.Machine.execQueryStart batch query s
  | .fanoutPartReceive part => Sys2Proof.Machine.execFanoutPartReceive part s
  | .walkRound batch query => Sys2Proof.Machine.execWalkRound batch query s
  | .walkTimeout batch query => Sys2Proof.Machine.execWalkTimeout batch query s
  | .cellProg cell off bytes => Sys2Proof.Machine.execCellProg cell off bytes s
  | .qload cell lane batch query => Sys2Proof.Machine.execQload cell lane batch query s
  | .reachIssue cell coll reach mask readEpoch => Sys2Proof.Machine.execReachIssue cell coll reach mask readEpoch s
  | .thetaPush cell lane key => Sys2Proof.Machine.execThetaPush cell lane key s
  | .outRead cell => Sys2Proof.Machine.execOutRead cell s
  | .rowop cell op => Sys2Proof.Machine.execRowop cell op s
  | .planeBits coll plane slots set => Sys2Proof.Machine.execPlaneBits coll plane slots set s
  | .rctSet block scratch => Sys2Proof.Machine.execRctSet block scratch s
  | .cellHalt cell mask => Sys2Proof.Machine.execCellHalt cell mask s
  | .cellStatus cell => Sys2Proof.Machine.execCellStatus cell s
  | .tokenGrant stack => Sys2Proof.Machine.execTokenGrant stack s
  | .bundleStart cell => Sys2Proof.Machine.execBundleStart cell s
  | .bundleEnd cell rows faults => Sys2Proof.Machine.execBundleEnd cell rows faults s
  | .ordinaryAccess acc => Sys2Proof.Machine.execOrdinaryAccess acc s
  | .rescoreComplete batch query slot media => Sys2Proof.Machine.execRescoreComplete batch query slot media s
  | .queryLocalComplete batch query => Sys2Proof.Machine.execQueryLocalComplete batch query s
  | .topkMerge tag list => Sys2Proof.Machine.execTopkMerge tag list s
  | .queryComplete batch query refusal => Sys2Proof.Machine.execQueryComplete batch query refusal s
  | .peerTimeout batch query => Sys2Proof.Machine.execPeerTimeout batch query s
  | .queryReroute batch query needed => Sys2Proof.Machine.execQueryReroute batch query needed s
  | .bitmapWrite mb dma => Sys2Proof.Machine.execBitmapWrite mb dma s
  | .bitmapDrop mb => Sys2Proof.Machine.execBitmapDrop mb s
  | .summaryResync mb => Sys2Proof.Machine.execSummaryResync mb s
  | .summaryReceive coll source catchment summary version last => Sys2Proof.Machine.execSummaryReceive coll source catchment summary version last s
  | .pubSlow coll seq => Sys2Proof.Machine.execPubSlow coll seq s
  | .updBatch mb dma => Sys2Proof.Machine.execUpdBatch mb dma s
  | .partSend batch => Sys2Proof.Machine.execPartSend batch s
  | .partArrive part => Sys2Proof.Machine.execPartArrive part s
  | .partPrepare coll coord seq => Sys2Proof.Machine.execPartPrepare coll coord seq s
  | .partPrepared batch home ops => Sys2Proof.Machine.execPartPrepared batch home ops s
  | .epochRequest coll coord seq version => Sys2Proof.Machine.execEpochRequest coll coord seq version s
  | .epochGrant batch ans => Sys2Proof.Machine.execEpochGrant batch ans s
  | .partCommit coll coord seq epoch => Sys2Proof.Machine.execPartCommit coll coord seq epoch s
  | .commitReport batch home => Sys2Proof.Machine.execCommitReport batch home s
  | .epochComplete coll epoch => Sys2Proof.Machine.execEpochComplete coll epoch s
  | .stableEpochPush coll => Sys2Proof.Machine.execStableEpochPush coll s
  | .stableEpochReceive coll epoch => Sys2Proof.Machine.execStableEpochReceive coll epoch s
  | .updateComplete batch => Sys2Proof.Machine.execUpdateComplete batch s
  | .prepTimeout coll coord seq => Sys2Proof.Machine.execPrepTimeout coll coord seq s
  | .outcomeReply coll coord seq outcome => Sys2Proof.Machine.execOutcomeReply coll coord seq outcome s
  | .epochHomeTakeover coll survivors => Sys2Proof.Machine.execEpochHomeTakeover coll survivors s
  | .migrationStart coll row node => Sys2Proof.Machine.execMigrationStart coll row node s
  | .migrationRelease coll row => Sys2Proof.Machine.execMigrationRelease coll row s
  | .tighten coll ball => Sys2Proof.Machine.execTighten coll ball s
  | .radiusReplace coll ball => Sys2Proof.Machine.execRadiusReplace coll ball s
  | .slotFree coll slot => Sys2Proof.Machine.execSlotFree coll slot s
  | .popDecay coll => Sys2Proof.Machine.execPopDecay coll s
  | .popRecode coll slot => Sys2Proof.Machine.execPopRecode coll slot s
  | .codeRewrite coll slot media => Sys2Proof.Machine.execCodeRewrite coll slot media s
  | .gather mb dma => Sys2Proof.Machine.execGather mb dma s
  | .defaultRow mb dma => Sys2Proof.Machine.execDefaultRow mb dma s
  | .epochInfo mb => Sys2Proof.Machine.execEpochInfo mb s
  | .linkSlot engine => Sys2Proof.Machine.execLinkSlot engine s
  | .linkScan coll => Sys2Proof.Machine.execLinkScan coll s
  | .repairReach engine => Sys2Proof.Machine.execRepairReach engine s
  | .attCreate mb => Sys2Proof.Machine.execAttCreate mb s
  | .attAppend mb dma => Sys2Proof.Machine.execAttAppend mb dma s
  | .attQuery mb dma lims => Sys2Proof.Machine.execAttQuery mb dma lims s
  | .objDrop mb => Sys2Proof.Machine.execObjDrop mb s
  | .objDropComplete obj => Sys2Proof.Machine.execObjDropComplete obj s
  | .weightLoad mb dma peerOk => Sys2Proof.Machine.execWeightLoad mb dma peerOk s
  | .modelRun mb dma => Sys2Proof.Machine.execModelRun mb dma s
  | .weightMirror mb peerOk => Sys2Proof.Machine.execWeightMirror mb peerOk s
  | .objInfo mb => Sys2Proof.Machine.execObjInfo mb s
  | .mirrorRefetchComplete obj tile readable => Sys2Proof.Machine.execMirrorRefetchComplete obj tile readable s
  | .kernelLoad mb dma => Sys2Proof.Machine.execKernelLoad mb dma s
  | .kernelDrop mb => Sys2Proof.Machine.execKernelDrop mb s
  | .bufAlloc mb => Sys2Proof.Machine.execBufAlloc mb s
  | .objPrefetch mb => Sys2Proof.Machine.execObjPrefetch mb s
  | .extExport mb => Sys2Proof.Machine.execExtExport mb s
  | .extAttach mb dma => Sys2Proof.Machine.execExtAttach mb dma s
  | .extRead mb => Sys2Proof.Machine.execExtRead mb s
  | .extRelease mb dma => Sys2Proof.Machine.execExtRelease mb dma s
  | .spaceRelease mb => Sys2Proof.Machine.execSpaceRelease mb s
  | .compCreate mb => Sys2Proof.Machine.execCompCreate mb s
  | .compModify mb => Sys2Proof.Machine.execCompModify mb s
  | .compDestroy mb => Sys2Proof.Machine.execCompDestroy mb s
  | .mapSet mb dma => Sys2Proof.Machine.execMapSet mb dma s
  | .mapGraceExpiry comp => Sys2Proof.Machine.execMapGraceExpiry comp s
  | .compInfo mb => Sys2Proof.Machine.execCompInfo mb s
  | .chargeLog mb => Sys2Proof.Machine.execChargeLog mb s
  | .semInit mb => Sys2Proof.Machine.execSemInit mb s
  | .pipeDefine mb remote => Sys2Proof.Machine.execPipeDefine mb remote s
  | .pipeRun mb dma => Sys2Proof.Machine.execPipeRun mb dma s
  | .pipeStageDone run => Sys2Proof.Machine.execPipeStageDone run s
  | .handoverOffer run => Sys2Proof.Machine.execHandoverOffer run s
  | .handoverAccept offer old => Sys2Proof.Machine.execHandoverAccept offer old s
  | .handoverTimeout run => Sys2Proof.Machine.execHandoverTimeout run s
  | .attestReport mb => Sys2Proof.Machine.execAttestReport mb s
  | .flashKeyCreate mb => Sys2Proof.Machine.execFlashKeyCreate mb s
  | .flashKeyDestroy mb => Sys2Proof.Machine.execFlashKeyDestroy mb s
  | .peerPolicySet mb => Sys2Proof.Machine.execPeerPolicySet mb s
  | .fwStage mb => Sys2Proof.Machine.execFwStage mb s
  | .fwActivate mb => Sys2Proof.Machine.execFwActivate mb s
  | .errLogRead mb => Sys2Proof.Machine.execErrLogRead mb s
  | .reachDump mb => Sys2Proof.Machine.execReachDump mb s
  | .catchmentDump mb => Sys2Proof.Machine.execCatchmentDump mb s
  | .scrubCtl mb => Sys2Proof.Machine.execScrubCtl mb s
  | .counterSnapshot mb => Sys2Proof.Machine.execCounterSnapshot mb s
  | .errorInject mb => Sys2Proof.Machine.execErrorInject mb s
  | .scalar core op => Sys2Proof.Machine.execScalar core op s
  | .mxLoad core buf mode reg => Sys2Proof.Machine.execMxLoad core buf mode reg s
  | .mxMma core a => Sys2Proof.Machine.execMxMma core a s
  | .mxMmaG32 core a => Sys2Proof.Machine.execMxMmaG32 core a s
  | .accMov core slot n vd => Sys2Proof.Machine.execAccMov core slot n vd s
  | .accClr core slot n => Sys2Proof.Machine.execAccClr core slot n s
  | .vAdd core a => Sys2Proof.Machine.execVAdd core a s
  | .vMul core a => Sys2Proof.Machine.execVMul core a s
  | .vMax core a => Sys2Proof.Machine.execVMax core a s
  | .vFma core a => Sys2Proof.Machine.execVFma core a s
  | .convert core k a => Sys2Proof.Machine.execConvert core k a s
  | .vCmp core c a => Sys2Proof.Machine.execVCmp core c a s
  | .vSel core a => Sys2Proof.Machine.execVSel core a s
  | .bAdd core d a => Sys2Proof.Machine.execBAdd core d a s
  | .bMul core d a => Sys2Proof.Machine.execBMul core d a s
  | .bSqrt core d a => Sys2Proof.Machine.execBSqrt core d a s
  | .bDiv core d a => Sys2Proof.Machine.execBDiv core d a s
  | .vExp2 core a => Sys2Proof.Machine.execVExp2 core a s
  | .vSqrt core a => Sys2Proof.Machine.execVSqrt core a s
  | .vDiv core a => Sys2Proof.Machine.execVDiv core a s
  | .vRedp core n a => Sys2Proof.Machine.execVRedp core n a s
  | .cCx core reg k j => Sys2Proof.Machine.execCCx core reg k j s
  | .cMerge core vd va vb => Sys2Proof.Machine.execCMerge core vd va vb s
  | .ldV core vd addr => Sys2Proof.Machine.execLdV core vd addr s
  | .stV core vs addr => Sys2Proof.Machine.execStV core vs addr s
  | .ldS core xd addr => Sys2Proof.Machine.execLdS core xd addr s
  | .tileGet core desc => Sys2Proof.Machine.execTileGet core desc s
  | .tilePut core desc => Sys2Proof.Machine.execTilePut core desc s
  | .jroPut core a => Sys2Proof.Machine.execJroPut core a s
  | .jroGet core a => Sys2Proof.Machine.execJroGet core a s
  | .jroAtom core a => Sys2Proof.Machine.execJroAtom core a s
  | .jroNput core a => Sys2Proof.Machine.execJroNput core a s
  | .jroTopk core a => Sys2Proof.Machine.execJroTopk core a s
  | .spawn core handle args => Sys2Proof.Machine.execSpawn core handle args s
  | .semAcq core sem => Sys2Proof.Machine.execSemAcq core sem s
  | .semRel core sem => Sys2Proof.Machine.execSemRel core sem s
  | .waitOn core on => Sys2Proof.Machine.execWaitOn core on s
  | .yieldTask core => Sys2Proof.Machine.execYieldTask core s
  | .endTask core => Sys2Proof.Machine.execEndTask core s
  | .taskDispatch core => Sys2Proof.Machine.execTaskDispatch core s
  | .taskWatchdog core => Sys2Proof.Machine.execTaskWatchdog core s
  | .leaseExpiry sem ctx => Sys2Proof.Machine.execLeaseExpiry sem ctx s
  | .teardownComplete batch => Sys2Proof.Machine.execTeardownComplete batch s
  | .ctxQuietExpiry ctx => Sys2Proof.Machine.execCtxQuietExpiry ctx s
  | .preempt core => Sys2Proof.Machine.execPreempt core s
  | .preemptSave core => Sys2Proof.Machine.execPreemptSave core s
  | .shareWindow => Sys2Proof.Machine.execShareWindow s
  | .ferryMoveComplete move outcome => Sys2Proof.Machine.execFerryMoveComplete move outcome s
  | .fillComplete frame outcome => Sys2Proof.Machine.execFillComplete frame outcome s
  | .ageTick => Sys2Proof.Machine.execAgeTick s
  | .sectorReadComplete space lsn outcome => Sys2Proof.Machine.execSectorReadComplete space lsn outcome s
  | .programComplete block passed => Sys2Proof.Machine.execProgramComplete block passed s
  | .fold lun => Sys2Proof.Machine.execFold lun s
  | .reclaim lun => Sys2Proof.Machine.execReclaim lun s
  | .checkpoint => Sys2Proof.Machine.execCheckpoint s
  | .mapRebuild space page unreadable => Sys2Proof.Machine.execMapRebuild space page unreadable s
  | .deltaStartup targets failed verified => Sys2Proof.Machine.execDeltaStartup targets failed verified s
  | .flitReceive link flit crcOk => Sys2Proof.Machine.execFlitReceive link flit crcOk s
  | .ack link seq => Sys2Proof.Machine.execAck link seq s
  | .nak link seq => Sys2Proof.Machine.execNak link seq s
  | .creditReturn link pair units => Sys2Proof.Machine.execCreditReturn link pair units s
  | .replayTimeout link => Sys2Proof.Machine.execReplayTimeout link s
  | .ackTimer link => Sys2Proof.Machine.execAckTimer link s
  | .idleTimer link => Sys2Proof.Machine.execIdleTimer link s
  | .linkRxTimeout link => Sys2Proof.Machine.execLinkRxTimeout link s
  | .laneFail link => Sys2Proof.Machine.execLaneFail link s
  | .linkTrain link => Sys2Proof.Machine.execLinkTrain link s
  | .hello link node incarnation peerLink => Sys2Proof.Machine.execHello link node incarnation peerLink s
  | .fabricSession link hs => Sys2Proof.Machine.execFabricSession link hs s
  | .linkStepTimeout link => Sys2Proof.Machine.execLinkStepTimeout link s
  | .linkRetry link => Sys2Proof.Machine.execLinkRetry link s
  | .retrainSlow link => Sys2Proof.Machine.execRetrainSlow link s
  | .trickle link => Sys2Proof.Machine.execTrickle link s
  | .trickleSwitch link => Sys2Proof.Machine.execTrickleSwitch link s
  | .wake link => Sys2Proof.Machine.execWake link s
  | .putPacket pkt => Sys2Proof.Machine.execPutPacket pkt s
  | .getPacket pkt => Sys2Proof.Machine.execGetPacket pkt s
  | .atomic pkt => Sys2Proof.Machine.execAtomic pkt s
  | .nput pkt => Sys2Proof.Machine.execNput pkt s
  | .getData pkt => Sys2Proof.Machine.execGetData pkt s
  | .completion pkt => Sys2Proof.Machine.execCompletion pkt s
  | .unreachTimeout dst => Sys2Proof.Machine.execUnreachTimeout dst s
  | .flowHoldTimeout src cls => Sys2Proof.Machine.execFlowHoldTimeout src cls s
  | .opTimeout op => Sys2Proof.Machine.execOpTimeout op s
  | .ping pkt => Sys2Proof.Machine.execPing pkt s
  | .pong pkt => Sys2Proof.Machine.execPong pkt s
  | .probeTimeout node => Sys2Proof.Machine.execProbeTimeout node s
  | .lossNotice pkt => Sys2Proof.Machine.execLossNotice pkt s
  | .quarantineNotice link => Sys2Proof.Machine.execQuarantineNotice link s
  | .lostYou link => Sys2Proof.Machine.execLostYou link s
  | .peerSecretExpiry node => Sys2Proof.Machine.execPeerSecretExpiry node s
  | .coldReset powerOn pins => Sys2Proof.Machine.execColdReset powerOn pins s
  | .pcieWarmReset cause pins => Sys2Proof.Machine.execPcieWarmReset cause pins s
  | .vfFunctionLevelReset vf => Sys2Proof.Machine.execVfFunctionLevelReset vf s
  | .busMasterEnable fn on => Sys2Proof.Machine.execBusMasterEnable fn on s
  | .startUp selfTest => Sys2Proof.Machine.execStartUp selfTest s
  | .bootFault => Sys2Proof.Machine.execBootFault s
  | .clockLoss pll => Sys2Proof.Machine.execClockLoss pll s
  | .thermalTrip tj => Sys2Proof.Machine.execThermalTrip tj s
  | .powerTrip watts => Sys2Proof.Machine.execPowerTrip watts s
  | .quarantineEntry cause unit => Sys2Proof.Machine.execQuarantineEntry cause unit s
  | .headwaterFault detail => Sys2Proof.Machine.execHeadwaterFault detail s
  | .stackFail stack => Sys2Proof.Machine.execStackFail stack s
  | .channelFail part => Sys2Proof.Machine.execChannelFail part s
  | .logDrain => Sys2Proof.Machine.execLogDrain s
  | .ceStormSecond => Sys2Proof.Machine.execCeStormSecond s
  | .hbmScrub finds => Sys2Proof.Machine.execHbmScrub finds s
  | .planeScrub stack => Sys2Proof.Machine.execPlaneScrub stack s
  | .sramScrub finds => Sys2Proof.Machine.execSramScrub finds s
  | .flashScrub weak => Sys2Proof.Machine.execFlashScrub weak s
  | .spillwaySample powerW tjC => Sys2Proof.Machine.execSpillwaySample powerW tjC s
  | .standbyEntry => Sys2Proof.Machine.execStandbyEntry s
  | .wakeFromStandby source => Sys2Proof.Machine.execWakeFromStandby source s
  | .standbyReturn => Sys2Proof.Machine.execStandbyReturn s
  | .getVersion port req => Sys2Proof.Machine.execGetVersion port req s
  | .getCapabilities port req => Sys2Proof.Machine.execGetCapabilities port req s
  | .negotiateAlgorithms port req => Sys2Proof.Machine.execNegotiateAlgorithms port req s
  | .getDigests port req => Sys2Proof.Machine.execGetDigests port req s
  | .getCertificate port off len => Sys2Proof.Machine.execGetCertificate port off len s
  | .challenge port nonce => Sys2Proof.Machine.execChallenge port nonce s
  | .getMeasurements port index nonce => Sys2Proof.Machine.execGetMeasurements port index nonce s
  | .endSession port session => Sys2Proof.Machine.execEndSession port session s
  | .heartbeat port session => Sys2Proof.Machine.execHeartbeat port session s
  | .keyUpdate port session => Sys2Proof.Machine.execKeyUpdate port session s
  | .kemKey port nonce => Sys2Proof.Machine.execKemKey port nonce s
  | .kemFinish port cipher verify => Sys2Proof.Machine.execKemFinish port cipher verify s
  | .tenantSecret port session secret => Sys2Proof.Machine.execTenantSecret port session secret s
  | .ideKm port session fn keys enable => Sys2Proof.Machine.execIdeKm port session fn keys enable s
  | .entdaa bus addr => Sys2Proof.Machine.execEntdaa bus addr s
  | .bypass => Sys2Proof.Machine.execBypass s
  | .samplePreload => Sys2Proof.Machine.execSamplePreload s
  | .extest => Sys2Proof.Machine.execExtest s
  | .idcode => Sys2Proof.Machine.execIdcode s
  | .eraseComplete block passed => Sys2Proof.Machine.execEraseComplete block passed s
  | .fwImageWritten => Sys2Proof.Machine.execFwImageWritten s
  | .mirrorRefetchTimeout obj => Sys2Proof.Machine.execMirrorRefetchTimeout obj s
  | .minRunElapsed core => Sys2Proof.Machine.execMinRunElapsed core s
  | .updatePartReroute batch home needed notHeld => Sys2Proof.Machine.execUpdatePartReroute batch home needed notHeld s
  | .vfEnableWrite on => Sys2Proof.Machine.execVfEnableWrite on s

end Sys2Proof.Machine
end

