-- ==== Sys2Proof/WellFormed.lean ====
section
/-! DEFINITION. Which commands name units that the node has (Table ARC-1, Table ERR-4): the others no sender can issue. -/

namespace Sys2Proof

/-- A flash channel, LUN or HBM channel that the node has. -/
def FlashPart.exists : FlashPart → Bool
  | .channel c => decide (c < 32)
  | .lun l => decide (l < 1024)
  | .hbm stack chan => decide (stack < 8) && decide (chan < 32)

/-- An access that names a cell's bank group of a Millrace stack and, where it names a row, one of the 4 × 91,552 of the group (Table MRC-1), or a word that crosses one of the 256 links of the mesh. -/
def OrdAccess.exists (a : OrdAccess) : Bool := match a.cell, a.target with
  | _, .mesh l => decide (l < 256)
  | some n, .millRow r => decide (n < 512) && decide (r < 4 * 91552)
  | some n, _ => decide (n < 512)
  | none, .millRow _ => false
  | none, _ => true

/-- The command names units that the node has. -/
def Instr.WellFormed : Instr → Bool
  | .registerWrite _ _ _ | .badSizeAccess _ _ _ | .unassignedAccess _ _ _ | .disabledCoreAccess _ _ | .errIntPendClear _ | .consumedWrite _
  | .hwdWinWrite _ | .bar2Read _ _ | .bar2Write _ _ | .freezeSet _ | .dropComplete _ | .recodeReachSwitch _ _ | .oldReachStorageFree _ _
  | .readEpochCheckReply _ _ | .mergeSlotGrant _ | .rootContextGrant _ | .queryStart _ _ | .fanoutPartReceive _ | .walkRound _ _ | .walkTimeout _ _
  | .planeBits _ _ _ _ | .rescoreComplete _ _ _ _ | .queryLocalComplete _ _ | .topkMerge _ _ | .queryComplete _ _ _ | .peerTimeout _ _
  | .queryReroute _ _ _ | .summaryReceive _ _ _ _ _ _ | .pubSlow _ _ | .partSend _ | .partArrive _ | .partPrepare _ _ _ | .partPrepared _ _ _
  | .epochRequest _ _ _ _ | .epochGrant _ _ | .partCommit _ _ _ _ | .commitReport _ _ | .epochComplete _ _ | .stableEpochPush _
  | .stableEpochReceive _ _ | .updateComplete _ | .prepTimeout _ _ _ | .outcomeReply _ _ _ _ | .epochHomeTakeover _ _ | .migrationStart _ _ _
  | .migrationRelease _ _ | .tighten _ _ | .radiusReplace _ _ | .slotFree _ _ | .popDecay _ | .popRecode _ _ | .codeRewrite _ _ _ | .linkScan _
  | .objDropComplete _ | .mirrorRefetchComplete _ _ _ | .mapGraceExpiry _ | .pipeStageDone _ | .handoverOffer _ | .handoverAccept _ _
  | .handoverTimeout _ | .leaseExpiry _ _ | .teardownComplete _ | .ctxQuietExpiry _ | .shareWindow | .ferryMoveComplete _ _ | .fillComplete _ _
  | .ageTick | .sectorReadComplete _ _ _ | .programComplete _ _ | .fold _ | .reclaim _ | .checkpoint | .mapRebuild _ _ _ | .deltaStartup _ _ _
  | .putPacket _ | .getPacket _ | .atomic _ | .nput _ | .getData _ | .completion _ | .unreachTimeout _ | .flowHoldTimeout _ _ | .opTimeout _
  | .ping _ | .pong _ | .probeTimeout _ | .lossNotice _ | .peerSecretExpiry _ | .coldReset _ _ | .pcieWarmReset _ _ | .startUp _ | .bootFault
  | .thermalTrip _ | .powerTrip _ | .quarantineEntry _ _ | .headwaterFault _ | .logDrain | .ceStormSecond | .hbmScrub _ | .sramScrub _
  | .flashScrub _ | .spillwaySample _ _ | .standbyEntry | .wakeFromStandby _ | .standbyReturn | .bypass | .samplePreload | .extest | .idcode
  | .eraseComplete _ _ | .fwImageWritten | .mirrorRefetchTimeout _ | .updatePartReroute _ _ _ _ | .vfEnableWrite _ => true
  | .rilFaultClear core | .scalar core _ | .mxLoad core _ _ _ | .mxMma core _ | .mxMmaG32 core _ | .accMov core _ _ _ | .accClr core _ _
  | .vAdd core _ | .vMul core _ | .vMax core _ | .vFma core _ | .convert core _ _ | .vCmp core _ _ | .vSel core _ | .bAdd core _ _ | .bMul core _ _
  | .bSqrt core _ _ | .bDiv core _ _ | .vExp2 core _ | .vSqrt core _ | .vDiv core _ | .vRedp core _ _ | .cCx core _ _ _ | .cMerge core _ _ _
  | .ldV core _ _ | .stV core _ _ | .ldS core _ _ | .tileGet core _ | .tilePut core _ | .jroPut core _ | .jroGet core _ | .jroAtom core _
  | .jroNput core _ | .jroTopk core _ | .spawn core _ _ | .semAcq core _ | .semRel core _ | .waitOn core _ | .yieldTask core | .endTask core
  | .taskDispatch core | .taskWatchdog core | .preempt core | .preemptSave core | .minRunElapsed core => decide (core < 256)
  | .mailboxWindowWrite mb _ _ | .submitWrite mb _ | .messageTake mb | .nodeInfo mb | .nodeIdSet mb | .routeSet mb | .linkSet mb | .peerReadmit mb
  | .ringSet mb | .timeSet mb | .rwpWrite mb | .nodeReset mb | .recoveryEnter mb | .recoveryLoad mb | .collCreate mb | .collFreeze mb | .collDrop mb
  | .collRecode mb | .collPlace mb | .collInfo mb | .qryBatch mb _ | .bitmapWrite mb _ | .bitmapDrop mb | .summaryResync mb | .updBatch mb _
  | .gather mb _ | .defaultRow mb _ | .epochInfo mb | .attCreate mb | .attAppend mb _ | .attQuery mb _ _ | .objDrop mb | .weightLoad mb _ _
  | .modelRun mb _ | .weightMirror mb _ | .objInfo mb | .kernelLoad mb _ | .kernelDrop mb | .bufAlloc mb | .objPrefetch mb | .extExport mb
  | .extAttach mb _ | .extRead mb | .extRelease mb _ | .spaceRelease mb | .compCreate mb | .compModify mb | .compDestroy mb | .mapSet mb _
  | .compInfo mb | .chargeLog mb | .semInit mb | .pipeDefine mb _ | .pipeRun mb _ | .attestReport mb | .flashKeyCreate mb | .flashKeyDestroy mb
  | .peerPolicySet mb | .fwStage mb | .fwActivate mb | .errLogRead mb | .reachDump mb | .catchmentDump mb | .scrubCtl mb | .counterSnapshot mb
  | .errorInject mb => decide (mb ≤ 64)
  | .cellProg cell _ _ | .qload cell _ _ _ | .reachIssue cell _ _ _ _ | .thetaPush cell _ _ | .outRead cell | .rowop cell _ | .cellHalt cell _
  | .cellStatus cell | .bundleStart cell | .bundleEnd cell _ _ => decide (cell < 512)
  | .rctSet block _ => decide (block < 512 * (4 * 91552 / 16))
  | .tokenGrant stack | .planeScrub stack => decide (stack < 4)
  | .ordinaryAccess acc => acc.exists
  | .linkSlot engine | .repairReach engine => decide (engine < 4)
  | .flitReceive link _ _ | .ack link _ | .nak link _ | .creditReturn link _ _ | .replayTimeout link | .ackTimer link | .idleTimer link
  | .linkRxTimeout link | .laneFail link | .linkTrain link | .hello link _ _ _ | .fabricSession link _ | .linkStepTimeout link | .linkRetry link
  | .retrainSlow link | .trickle link | .trickleSwitch link | .wake link | .quarantineNotice link | .lostYou link => decide (link < 32)
  | .vfFunctionLevelReset vf => decide (1 ≤ vf) && decide (vf ≤ 64)
  | .busMasterEnable fn _ => decide (fn ≤ 64)
  | .clockLoss pll => decide (pll ≤ 21) && decide (pll ≠ 3)
  | .stackFail stack => decide (stack < 8)
  | .channelFail part => part.exists
  | .getVersion port _ | .getCapabilities port _ | .negotiateAlgorithms port _ | .getDigests port _ | .getCertificate port _ _ | .challenge port _
  | .getMeasurements port _ _ | .endSession port _ | .heartbeat port _ | .keyUpdate port _ | .kemKey port _ | .kemFinish port _ _
  | .tenantSecret port _ _ | .ideKm port _ _ _ _ => decide (port ≤ 66)
  | .entdaa bus _ => decide (bus < 2)

end Sys2Proof
end

