-- ==== Sys2Proof/Safety.lean ====
section
/-! DEFINITION. What claims about runs of the node are stated in: the canonical forms, the bounds of Gauge's queues and log, the requests that the
node issues, what a command may not do to the queue, to node time, to quarantine and to what Weir holds for the life of the part, and the parts
of the state that a command leaves alone. -/

namespace Sys2Proof

/-- A request that the node issues to the host: a memory write or an MSI-X message (R461). Completions and pins are none. -/
def HostEvt.isRequest : HostEvt → Bool
  | .memWrite _ _ _ _ | .msix _ _ _ => true
  | .readData _ _ _ _ | .unsupported _ _ | .aer _ | .wtrip _ | .spdm _ _ | .i3c _ | .tap _ _ => false

end Sys2Proof

namespace Sys2Proof.Machine

/-- The register file is in canonical form: addresses rise, and no register is listed at its reset value, so that equal contents are equal data. -/
def RegFile.canon (r : RegFile) : Bool := Tbl.rising 0 r.vals && r.vals.all (fun v => decide (v.2.toNat ≠ regReset v.1))

/-- A unit's queue holds at most 64 records, at most 56 of them of class C (R529). -/
def queueBounded (q : List GRec) : Bool := decide (q.length ≤ 64) && decide ((q.filter (fun x => decide (x.cls = .c))).length ≤ 56)

/-- Every unit queue is within R529 and the node log within the 65,536 records of R530. -/
def gaugeBounded (g : GaugeSt) : Bool := g.queues.all (fun q => queueBounded q.2) && decide (g.log.length ≤ 65536)

/-- The byte memories of the host side, staging area and mailbox windows, are in canonical form. -/
def memsWf (h : HostSt) : Bool := Mem.wf h.staging && h.boxes.all (fun b => Mem.wf b.2.window)

/-- The state record that Weir works with is the newest authentic one that package flash holds (R497). -/
def recordSynced (w : WeirSt) : Bool := decide ((newestRec w.stateLog).map (fun x => x.2) = some w.record)

/-- What every command keeps, resets too: the queue, the canonical forms, Gauge's bounds, the manufacturing record (R6), the state record's place in
package flash (R497), and with it a rollback counter that never falls (R493). -/
structure Kept (s t : State) : Prop where
  queue : t.pending = s.pending
  canon : RegFile.canon s.regs = true → RegFile.canon t.regs = true
  bounds : gaugeBounded s.gauge = true → gaugeBounded t.gauge = true
  mems : memsWf s.host = true → memsWf t.host = true
  record : t.weir.mfg = s.weir.mfg
  synced : recordSynced s.weir = true → recordSynced t.weir = true
  rollback : recordSynced s.weir = true → s.weir.record.rollback ≤ t.weir.record.rollback
  draws : s.freeCtr ≤ t.freeCtr

/-- What every command but a reset keeps besides: node time (R563) and SEQ (R525) never fall, quarantine does not end (R538), and in quarantine the
node issues no request (R461). -/
structure Onward (s t : State) : Prop extends Kept s t where
  time : s.now ≤ t.now
  seq : s.gauge.lastSeq ≤ t.gauge.lastSeq
  staysQuarantined : s.weir.state = .quarantined → t.weir.state = .quarantined
  quiet : s.weir.state = .quarantined → t.host.out.filter HostEvt.isRequest = s.host.out.filter HostEvt.isRequest

/-! The parts of the state, one bit each. -/

/-- Headwater and the host side. -/
abbrev pHost : Nat := 2 ^ 0
/-- The stored registers, event counters among them. -/
abbrev pRegs : Nat := 2 ^ 1
/-- Gauge. -/
abbrev pGauge : Nat := 2 ^ 2
/-- Sluice: compositions, contexts, tasks, cores, objects. -/
abbrev pSlc : Nat := 2 ^ 3
/-- The search blocks: collections, batches, walks, merges, updates. -/
abbrev pSearch : Nat := 2 ^ 4
/-- The Millrace stacks and cells. -/
abbrev pMrc : Nat := 2 ^ 5
/-- Ferry. -/
abbrev pFerry : Nat := 2 ^ 6
/-- Delta. -/
abbrev pDelta : Nat := 2 ^ 7
/-- Tributary. -/
abbrev pTrib : Nat := 2 ^ 8
/-- Weir. -/
abbrev pWeir : Nat := 2 ^ 9
/-- Spillway. -/
abbrev pSpw : Nat := 2 ^ 10
/-- The clock and reset unit. -/
abbrev pCru : Nat := 2 ^ 11
/-- Node time. -/
abbrev pNow : Nat := 2 ^ 12
/-- The count of free values drawn. -/
abbrev pFree : Nat := 2 ^ 13

/-- `t` differs from `s` only in parts whose bit of `b` is set. -/
structure Same (b : Nat) (s t : State) : Prop where
  host : b.testBit 0 = false → t.host = s.host
  regs : b.testBit 1 = false → t.regs = s.regs
  gauge : b.testBit 2 = false → t.gauge = s.gauge
  slc : b.testBit 3 = false → t.slc = s.slc
  search : b.testBit 4 = false → t.search = s.search
  mrc : b.testBit 5 = false → t.mrc = s.mrc
  ferry : b.testBit 6 = false → t.ferry = s.ferry
  delta : b.testBit 7 = false → t.delta = s.delta
  trib : b.testBit 8 = false → t.trib = s.trib
  weir : b.testBit 9 = false → t.weir = s.weir
  spw : b.testBit 10 = false → t.spw = s.spw
  cru : b.testBit 11 = false → t.cru = s.cru
  now : b.testBit 12 = false → t.now = s.now
  freeCtr : b.testBit 13 = false → t.freeCtr = s.freeCtr

/-- The commands that may reset the node (Table CRU-2, R481, R488, R495, R571). -/
def Resets : Instr → Bool
  | .coldReset _ _ | .pcieWarmReset _ _ | .nodeReset _ | .recoveryEnter _ | .recoveryLoad _ | .bootFault | .fwImageWritten => true
  | _ => false

/-- The parts of the state that a command's effect can lie in: in every state and with every operand, all other parts stay as they are. -/
def touches : Instr → Nat
  | .busMasterEnable .. | .getDigests .. | .getCertificate .. | .challenge .. | .getMeasurements .. | .heartbeat .. | .vfEnableWrite .. => pHost
  | .planeBits .. | .epochComplete .. | .stableEpochReceive .. | .migrationRelease .. | .tighten .. | .radiusReplace .. => pSearch
  | .cellProg .. | .qload .. | .thetaPush .. | .cellStatus .. => pMrc
  | .ageTick => pFerry
  | .linkTrain .. | .trickleSwitch .. => pTrib
  | .samplePreload => pWeir
  | .errIntPendClear .. | .mailboxWindowWrite .. | .submitWrite .. | .messageTake .. => pHost ||| pRegs
  | .linkScan .. => pRegs ||| pSearch
  | .popRecode .. => pSlc ||| pSearch
  | .tokenGrant .. | .bundleStart .. => pRegs ||| pMrc
  | .cellHalt .. => pSearch ||| pMrc
  | .fold .. | .reclaim .. => pRegs ||| pDelta
  | .nak .. => pRegs ||| pTrib
  | .trickle .. => pSearch ||| pTrib
  | .getVersion .. | .getCapabilities .. | .negotiateAlgorithms .. | .endSession .. | .keyUpdate .. | .tenantSecret .. | .ideKm ..
  | .entdaa .. | .bypass | .idcode => pHost ||| pWeir
  | .ceStormSecond => pGauge ||| pNow
  | .ctxQuietExpiry .. => pSlc ||| pNow
  | .popDecay .. => pSearch ||| pNow
  | .ackTimer .. | .idleTimer .. | .linkRetry .. | .flowHoldTimeout .. => pTrib ||| pNow
  | .rctSet .. => pMrc ||| pFree
  | .badSizeAccess .. | .unassignedAccess .. | .disabledCoreAccess .. | .logDrain => pHost ||| pRegs ||| pGauge
  | .bar2Write .. | .preempt .. => pHost ||| pRegs ||| pSlc
  | .linkSlot .. | .repairReach .. | .planeScrub .. => pRegs ||| pGauge ||| pSearch
  | .rowop .. => pRegs ||| pGauge ||| pMrc
  | .reachIssue .. | .outRead .. => pRegs ||| pSearch ||| pMrc
  | .yieldTask .. | .taskDispatch .. => pRegs ||| pSlc ||| pFerry
  | .flashScrub .. => pRegs ||| pGauge ||| pDelta
  | .eraseComplete .. => pRegs ||| pSlc ||| pDelta
  | .slotFree .. => pRegs ||| pSearch ||| pDelta
  | .handoverOffer .. | .ack .. | .creditReturn .. | .wake .. => pRegs ||| pSlc ||| pTrib
  | .kemFinish .. => pHost ||| pRegs ||| pWeir
  | .shareWindow | .minRunElapsed .. => pRegs ||| pSlc ||| pNow
  | .walkTimeout .. => pRegs ||| pSearch ||| pNow
  | .checkpoint => pRegs ||| pDelta ||| pNow
  | .replayTimeout .. => pRegs ||| pTrib ||| pNow
  | .peerSecretExpiry .. => pTrib ||| pWeir ||| pNow
  | .kemKey .. => pHost ||| pWeir ||| pFree
  | .registerWrite .. | .rilFaultClear .. | .consumedWrite .. | .hwdWinWrite .. => pHost ||| pRegs ||| pGauge ||| pSlc
  | .recodeReachSwitch .. | .oldReachStorageFree .. => pHost ||| pRegs ||| pSlc ||| pSearch
  | .walkRound .. => pRegs ||| pGauge ||| pSearch ||| pMrc
  | .freezeSet .. => pHost ||| pRegs ||| pSearch ||| pDelta
  | .partPrepared .. | .partCommit .. | .commitReport .. | .laneFail .. | .updatePartReroute .. => pRegs ||| pSlc ||| pSearch ||| pTrib
  | .pubSlow .. => pRegs ||| pGauge ||| pSearch ||| pNow
  | .linkStepTimeout .. | .retrainSlow .. => pRegs ||| pGauge ||| pTrib ||| pNow
  | .deltaStartup .. => pRegs ||| pGauge ||| pDelta ||| pFree
  | .objDropComplete .. => pHost ||| pRegs ||| pSlc ||| pFerry ||| pDelta
  | .summaryReceive .. => pHost ||| pRegs ||| pSlc ||| pSearch ||| pTrib
  | .fanoutPartReceive .. => pRegs ||| pSlc ||| pSearch ||| pMrc ||| pTrib
  | .programComplete .. => pRegs ||| pSlc ||| pSearch ||| pDelta ||| pTrib
  | .preemptSave .. => pHost ||| pRegs ||| pSlc ||| pFerry ||| pNow
  | .stableEpochPush .. | .linkRxTimeout .. => pRegs ||| pSlc ||| pSearch ||| pTrib ||| pNow
  | .spillwaySample .. => pHost ||| pRegs ||| pWeir ||| pSpw ||| pNow
  | .partArrive .. | .migrationStart .. => pRegs ||| pSlc ||| pSearch ||| pTrib ||| pFree
  | .dropComplete .. => pHost ||| pRegs ||| pSlc ||| pSearch ||| pFerry ||| pDelta
  | .partSend .. | .outcomeReply .. => pRegs ||| pSlc ||| pSearch ||| pDelta ||| pTrib ||| pFree
  | .fabricSession .. => pRegs ||| pSlc ||| pSearch ||| pTrib ||| pWeir ||| pFree
  | .vfFunctionLevelReset .. => pHost ||| pRegs ||| pSlc ||| pSearch ||| pMrc ||| pFerry ||| pTrib
  | .nodeInfo .. | .nodeIdSet .. | .routeSet .. | .linkSet .. | .peerReadmit .. | .ringSet .. | .rwpWrite .. | .collFreeze ..
  | .collDrop .. | .collRecode .. | .collPlace .. | .collInfo .. | .bitmapWrite .. | .bitmapDrop .. | .summaryResync .. | .updBatch ..
  | .updateComplete .. | .gather .. | .defaultRow .. | .attCreate .. | .attAppend .. | .objDrop .. | .weightMirror .. | .objInfo ..
  | .kernelLoad .. | .kernelDrop .. | .bufAlloc .. | .objPrefetch .. | .extRead .. | .compCreate .. | .compModify .. | .compDestroy ..
  | .compInfo .. | .chargeLog .. | .semInit .. | .pipeDefine .. | .attestReport .. | .flashKeyCreate .. | .flashKeyDestroy ..
  | .peerPolicySet .. | .fwActivate .. | .errLogRead .. | .reachDump .. | .catchmentDump .. | .counterSnapshot .. => pHost ||| pRegs ||| pSlc ||| pSearch ||| pFerry ||| pTrib ||| pWeir
  | .wakeFromStandby .. => pHost ||| pRegs ||| pSlc ||| pMrc ||| pTrib ||| pSpw ||| pCru
  | .epochRequest .. => pRegs ||| pGauge ||| pSlc ||| pSearch ||| pDelta ||| pTrib ||| pFree
  | .prepTimeout .. => pRegs ||| pSlc ||| pSearch ||| pDelta ||| pTrib ||| pNow ||| pFree
  | .scrubCtl .. => pHost ||| pRegs ||| pGauge ||| pSlc ||| pSearch ||| pFerry ||| pTrib ||| pWeir
  | .pipeRun .. | .pipeStageDone .. => pHost ||| pRegs ||| pSlc ||| pSearch ||| pMrc ||| pFerry ||| pTrib ||| pWeir
  | .collCreate .. | .extExport .. | .extAttach .. | .extRelease .. | .spaceRelease .. => pHost ||| pRegs ||| pSlc ||| pSearch ||| pFerry ||| pDelta ||| pTrib ||| pWeir
  | .timeSet .. => pHost ||| pRegs ||| pSlc ||| pSearch ||| pFerry ||| pTrib ||| pWeir ||| pNow
  | .epochGrant .. => pHost ||| pRegs ||| pGauge ||| pSlc ||| pSearch ||| pDelta ||| pTrib ||| pFree
  | .partPrepare .. => pRegs ||| pGauge ||| pSlc ||| pSearch ||| pFerry ||| pDelta ||| pTrib ||| pFree
  | .epochInfo .. | .modelRun .. => pHost ||| pRegs ||| pSlc ||| pSearch ||| pFerry ||| pTrib ||| pWeir ||| pFree
  | .handoverAccept .. => pHost ||| pRegs ||| pGauge ||| pSlc ||| pSearch ||| pMrc ||| pFerry ||| pTrib ||| pWeir
  | .thermalTrip .. | .powerTrip .. | .extest => pHost ||| pGauge ||| pSlc ||| pSearch ||| pMrc ||| pFerry ||| pDelta ||| pTrib ||| pWeir
  | .handoverTimeout .. => pHost ||| pRegs ||| pSlc ||| pSearch ||| pMrc ||| pFerry ||| pTrib ||| pWeir ||| pNow
  | .standbyReturn => pRegs ||| pSlc ||| pSearch ||| pMrc ||| pDelta ||| pTrib ||| pSpw ||| pCru ||| pNow
  | .qryBatch .. | .readEpochCheckReply .. | .mergeSlotGrant .. | .rootContextGrant .. | .queryStart .. | .queryComplete ..
  | .queryReroute .. | .attQuery .. => pHost ||| pRegs ||| pSlc ||| pSearch ||| pMrc ||| pFerry ||| pTrib ||| pWeir ||| pFree
  | .weightLoad .. => pHost ||| pRegs ||| pSlc ||| pSearch ||| pFerry ||| pDelta ||| pTrib ||| pWeir ||| pFree
  | .spawn .. | .quarantineEntry .. | .headwaterFault .. => pHost ||| pRegs ||| pGauge ||| pSlc ||| pSearch ||| pMrc ||| pFerry ||| pDelta ||| pTrib ||| pWeir
  | .standbyEntry => pHost ||| pRegs ||| pSlc ||| pSearch ||| pMrc ||| pFerry ||| pDelta ||| pTrib ||| pSpw ||| pCru
  | .queryLocalComplete .. | .topkMerge .. | .endTask .. => pHost ||| pRegs ||| pGauge ||| pSlc ||| pSearch ||| pMrc ||| pFerry ||| pTrib ||| pWeir ||| pFree
  | .teardownComplete .. => pHost ||| pRegs ||| pSlc ||| pSearch ||| pMrc ||| pFerry ||| pDelta ||| pTrib ||| pWeir ||| pFree
  | .peerTimeout .. => pHost ||| pRegs ||| pSlc ||| pSearch ||| pMrc ||| pFerry ||| pTrib ||| pWeir ||| pNow ||| pFree
  | .clockLoss .. => pHost ||| pRegs ||| pGauge ||| pSlc ||| pSearch ||| pMrc ||| pFerry ||| pDelta ||| pTrib ||| pWeir ||| pCru
  | .taskWatchdog .. | .leaseExpiry .. => pHost ||| pRegs ||| pGauge ||| pSlc ||| pSearch ||| pMrc ||| pFerry ||| pDelta ||| pTrib ||| pWeir ||| pNow
  | .bar2Read .. | .bundleEnd .. | .ordinaryAccess .. | .rescoreComplete .. | .epochHomeTakeover .. | .codeRewrite ..
  | .mirrorRefetchComplete .. | .mapSet .. | .fwStage .. | .errorInject .. | .scalar .. | .mxLoad .. | .mxMma .. | .mxMmaG32 ..
  | .accMov .. | .accClr .. | .vAdd .. | .vMul .. | .vMax .. | .vFma .. | .convert .. | .vCmp .. | .vSel .. | .bAdd .. | .bMul ..
  | .bSqrt .. | .bDiv .. | .vExp2 .. | .vSqrt .. | .vDiv .. | .vRedp .. | .cCx .. | .cMerge .. | .ldV .. | .stV .. | .ldS .. | .tileGet ..
  | .tilePut .. | .jroPut .. | .jroGet .. | .jroAtom .. | .jroNput .. | .jroTopk .. | .semAcq .. | .semRel .. | .waitOn ..
  | .ferryMoveComplete .. | .fillComplete .. | .sectorReadComplete .. | .mapRebuild .. | .hello .. | .quarantineNotice .. | .lostYou ..
  | .stackFail .. | .channelFail .. | .hbmScrub .. | .sramScrub .. => pHost ||| pRegs ||| pGauge ||| pSlc ||| pSearch ||| pMrc ||| pFerry ||| pDelta ||| pTrib ||| pWeir ||| pFree
  | .flitReceive .. | .putPacket .. | .getPacket .. | .atomic .. | .nput .. | .getData .. | .completion .. | .ping .. | .pong ..
  | .lossNotice .. => pHost ||| pRegs ||| pGauge ||| pSlc ||| pSearch ||| pMrc ||| pFerry ||| pDelta ||| pTrib ||| pWeir ||| pSpw ||| pFree
  | .startUp .. => pHost ||| pRegs ||| pGauge ||| pSlc ||| pSearch ||| pMrc ||| pFerry ||| pDelta ||| pTrib ||| pWeir ||| pCru ||| pFree
  | .mapGraceExpiry .. | .unreachTimeout .. | .opTimeout .. | .probeTimeout .. | .mirrorRefetchTimeout .. => pHost ||| pRegs ||| pGauge ||| pSlc ||| pSearch ||| pMrc ||| pFerry ||| pDelta ||| pTrib ||| pWeir ||| pNow ||| pFree
  | .nodeReset .. | .recoveryEnter .. | .recoveryLoad .. | .coldReset .. | .pcieWarmReset .. | .bootFault | .fwImageWritten => 2 ^ 14 - 1

end Sys2Proof.Machine
end

