-- ==== Sys2Proof/Certificates/Slice0/Obligations.lean ====
section
/-! DEFINITION. What the model is claimed to do: first, for every command, the states and operands in which it completes and the state
that it then leaves; then the rules of the spec about the machine as a whole, the invariants that a step keeps, and the frames. -/

namespace Sys2Proof.Claims

open Sys2Proof.Machine

/-- No unit is held in reset: no clock source is lost (R564) and Weir does not hold the node quarantined (R502). -/
abbrev Live (s : State) : Prop := s.cru.held = false ∧ s.weir.state ≠ .quarantined

/-- The command acts on the first message of its mailbox (R469): where that message carries the opcode and `P` holds of it and of the node
without it, exec answers `f`, after which a COMP_DESTROY that waited for the message goes on (R435). -/
def Acts (c : Nat → Instr) (op : Nat) (P : Msg → State → Prop) (f : Msg → State → State) : Prop :=
  ∀ (mb : Nat) (s : State) (m : Msg) (t : State), mb ≤ 64 → s.next? mb op = some (m, t) → P m t →
    exec (c mb) s = .next ((f m t).checkDestroy m.comp)

/-- A core issues an instruction of a task, none of whose register operands (scalars from 32 on) is poisoned (R259). -/
abbrev Issues (s : State) (n : Nat) (t : Nat) (k : Task) (reads : List Nat) : Prop :=
  n < 256 ∧ s.running n = some (t, k) ∧ s.poisoned? n reads = none

/-- The same for a vector instruction: its registers exist, and its parity check finds nothing (R257). -/
abbrev Vec (s : State) (n : Nat) (t : Nat) (k : Task) (reads dst : List Nat) (parity : Option Nat) : Prop :=
  Issues s n t k reads ∧ dst.all (fun r => decide (r < 32)) = true ∧ reads.all (fun r => decide (r < 32)) = true ∧ parity = none

/-- Core `n` wrote vector registers of `ds` and nothing else but its pc, which moved to the next instruction, RIL_CNT2 of its block, and what the
free values of `ds` draw. -/
structure VecOnly (n : Nat) (ds : List Nat) (s t : State) : Prop where
  parts : Same (pRegs ||| pSlc ||| pFree) s t
  counter : ∀ a, a ≠ Reg.RIL_CNT0 + 0x1000 * n + 16 → t.raw a = s.raw a
  shadows : t.regs.shadows = s.regs.shadows
  sluice : { t.slc with cores := s.slc.cores } = s.slc
  otherCores : ∀ m, m ≠ n → Tbl.find m t.slc.cores = Tbl.find m s.slc.cores
  registers : ∀ r, r ∉ ds → t.vreg n r = s.vreg n r
  core : ∀ c, Tbl.find n s.slc.cores = some c → ∃ c', Tbl.find n t.slc.cores = some c' ∧ { c' with regs := c.regs } = c ∧
    c'.regs.acc = c.regs.acc ∧ c'.regs.stat = c.regs.stat ∧ c'.regs.x = c.regs.x ∧ c'.regs.pc = c.regs.pc + 8

end Sys2Proof.Claims

open Sys2Proof Sys2Proof.Machine Sys2Proof.Claims

/-- Chapter 00, R9, R24, R263, R270, R463, R533: what each host access to the registers does on a node that serves BAR0. -/
def Obligations.HostRegisterAccesses : Prop :=
  (∀ s addr size v, Live s → s.host.nodeState = .running → size = 4 ∨ size = 8 → addr % size = 0 → 0x4000 ≤ addr →
    (regAt (addr / 8 * 8)).isSome = true → (addr < 0x600000 ∨ 0x700000 ≤ addr) →
      exec (.registerWrite addr size v) s = .next (s.regWrite addr size v)) ∧
  (∀ s wr addr size, Live s → (size ≠ 4 ∧ size ≠ 8) ∨ addr % size ≠ 0 →
    exec (.badSizeAccess wr addr size) s = .next (if wr then s.logAccess true addr size 0
      else (s.logAccess false addr size 0).drive (.readData 0 addr (zeros size) false))) ∧
  (∀ s wr addr size, Live s → 0x4000 ≤ addr → regAt (addr / 8 * 8) = none →
    exec (.unassignedAccess wr addr size) s = .next (if wr then s.logAccess true addr size 1
      else (s.logAccess false addr size 1).drive (.readData 0 addr (zeros size) false))) ∧
  (∀ s addr, Live s → s.host.nodeState = .running → 0x600000 ≤ addr → addr < 0x700000 → s.coreOn ((addr - 0x600000) / 0x1000) = false →
    exec (.disabledCoreAccess true addr) s = .next (s.logAccess true addr 8 3) ∧
    exec (.disabledCoreAccess false addr) s =
      .next (s.drive (.readData 0 addr (le 8 (s.rilView ((addr - 0x600000) / 0x1000) (addr % 0x1000))) false))) ∧
  (∀ s n, Live s → s.host.nodeState = .running → n < 256 → s.coreOn n = true →
    exec (.rilFaultClear n) s = .next (s.core! n (fun c => { c with fault := { c.fault with valid := false } }))) ∧
  (∀ s mask, Live s → s.host.nodeState = .running →
    exec (.errIntPendClear mask) s = .next (s.setFld Reg.ERR_INT 0 5 (s.fld Reg.ERR_INT 0 5 - (s.fld Reg.ERR_INT 0 5 &&& mask)))) ∧
  (∀ s v, Live s → s.host.nodeState = .running → exec (.consumedWrite v) s = .next (s.setFld Reg.SLC_CHARGE 0 32 (bits (v % 2 ^ 64) 0 32))) ∧
  (∀ s v, Live s → exec (.hwdWinWrite v) s =
    .next (((s.setFld Reg.HWD_WIN 48 16 (bits (v % 2 ^ 64) 48 16)).setFld Reg.HWD_WIN 16 20 (bits (v % 2 ^ 64) 16 20)).setFld Reg.HWD_WIN 0 1 (bits (v % 2 ^ 64) 0 1)))

/-- Chapter 14, R466, R467, R470: a window write and the submit write of a FREE mailbox, discarded writes, and what a take leaves. -/
def Obligations.MailboxSubmitAndTake : Prop :=
  (∀ s mb off bs, Live s → mb ≤ 64 → mb = 64 ∨ s.host.vfEnable = true → 8 ≤ off → bs ≠ [] →
    exec (.mailboxWindowWrite mb off bs) s = .next (if (s.box mb).state = .free
      then s.box! mb (fun b => { b with window := windowWrite b.window off bs })
      else (s.box! mb (fun b => { b with discarded := Nat.min 0xFFFFFFFF (b.discarded + 1) })).count Reg.HWD_CNT0 6 1)) ∧
  (∀ s mb v, Live s → mb ≤ 64 → mb = 64 ∨ s.host.vfEnable = true → (s.box mb).state = .free →
    exec (.submitWrite mb v) s = .next (s.box! mb (fun b => { b with state := .pending, window := Mem.writeBytes b.window 0 (le 8 v) }))) ∧
  (∀ s mb, mb ≤ 64 → s.takesMessages = true → (s.box mb).state = .pending → (s.box mb).outstanding < 1024 → s.batchesWaiting < 4096 →
    let req := Mem.readBytes (s.box mb).window 0 32
    let m : Msg := ⟨mb, (s.box mb).takenSeq + 1, req, Mem.readBytes (s.box mb).window 0x40 (Nat.min (natAt req 2 2) 16320), s.now⟩
    let s1 := (s.box! mb (fun x => { x with window := [], state := .free, takenSeq := x.takenSeq + 1 })).count Reg.HWD_CNT0 0 1
    let s2 := s1.box! mb (fun x => { x with outstanding := x.outstanding + 1 })
    (m.replyAddr % 64 ≠ 0 ∨ m.replyLen < 64 → exec (.messageTake mb) s =
      .next ((s1.box! mb (fun x => { x with unrepliedSeq := m.seq, unrepliedReason := 0x0F05 })).count Reg.HWD_CNT0 2 1)) ∧
    (m.replyAddr % 64 = 0 → 64 ≤ m.replyLen → s2.frameCheck m = none → exec (.messageTake mb) s =
      .next (s2.box! mb (fun x => { x with inbox := x.inbox ++ [m] }))) ∧
    (∀ r, m.replyAddr % 64 = 0 → 64 ≤ m.replyLen → s2.frameCheck m = some r → exec (.messageTake mb) s =
      .next ((s2.count Reg.HWD_CNT0 1 1).reply m stBad (frameRefusal m r))))

/-- Chapter 14, R455, R458, R460, R464, R487: the BAR2 window, Bus Master Enable, VF Enable and a Function Level Reset. -/
def Obligations.FunctionsAndWindow : Prop :=
  (∀ s off len k o, Live s → s.host.nodeState = .running → s.winBuf = some (k, o) →
    let b := s.fld Reg.HWD_WIN 16 20 * 65536 + off
    b + len ≤ o.bytes → o.hits b len = [] →
    exec (.bar2Read off len) s = .next (s.drive (.readData 0 off (Mem.readBytes o.data b len) o.poisoned))) ∧
  (∀ s off len, Live s → s.host.nodeState = .recovery → off + len ≤ 0x8000000 →
    exec (.bar2Read off len) s = .next (s.drive (.readData 0 off (Mem.readBytes s.host.staging off len) false))) ∧
  (∀ s off bs k o, Live s → s.host.nodeState = .running → s.winBuf = some (k, o) →
    let b := s.fld Reg.HWD_WIN 16 20 * 65536 + off
    b + bs.length ≤ o.bytes →
    exec (.bar2Write off bs) s = .next (s.obj! k (fun y => { y with
      data := Mem.writeBytes y.data b (clipBytes b y.bytes bs)
      injected := y.injected.filter (fun x => !(decide (b ≤ x.2 / 64 * 64) && decide (x.2 / 64 * 64 + 64 ≤ b + bs.length))) }))) ∧
  (∀ s fn, s.cru.held = false → fn ≤ 64 →
    exec (.busMasterEnable fn false) s = .next (s.func! fn (fun f => { f with busMaster := false })) ∧
    exec (.busMasterEnable fn true) s =
      .next ((s.func fn).waiting.foldl (fun t e => t.emit fn e) (s.func! fn (fun f => { f with busMaster := true, waiting := [] })))) ∧
  (∀ s on, s.cru.held = false → s.host.nodeState ≠ .recovery → exec (.vfEnableWrite on) s = .next (s.host! (fun h => { h with vfEnable := on }))) ∧
  (∀ s vf, Live s → s.host.vfEnable = true → 1 ≤ vf → vf ≤ 64 →
    let s1 := s.mute (vf - 1)
    let s2 := (s1.slc.batches.filter (fun b => decide (b.2.comp = vf - 1) && b.2.msg.isSome)).foldl (fun t b => t.teardown b.1 stTorn) s1
    let s3 := s2.func! vf (fun f => { f with waiting := [], busMaster := false })
    exec (.vfFunctionLevelReset vf) s = .next (s3.box! (vf - 1) (fun b => { b with
      window := [], state := if (match s3.comp (vf - 1) with | some x => x.destroy.isNone | none => false) then .free else .closed })))

/-- Table HWD-11: the admin opcodes on the node's own registers, ring and time. -/
def Obligations.AdminOpcodes : Prop :=
  Acts .nodeInfo 0x0101 (fun m _ => m.p 0 8 = 0) (fun m t => t.done m (le 1 (nodeCode t.host.nodeState) ++ le 1 t.host.recoveryCause ++ le 6 0
    ++ le 8 t.partId ++ le 8 (t.coreEn 0) ++ le 8 (t.coreEn 1) ++ le 8 (t.coreEn 2) ++ le 8 (t.coreEn 3) ++ le 4 (t.regView Reg.HWD_STATE)
    ++ le 2 (t.nodeId.getD 0xFFFF) ++ le 2 0 ++ le 4 (t.regView Reg.TRB_IDENT) ++ le 4 0 ++ le 8 t.now)) ∧
  Acts .nodeIdSet 0x0102 (fun m t => m.p 2 6 = 0 ∧ m.p 0 2 < 4096 ∧ t.tribRuns = false)
    (fun m t => ((List.range 32).foldl (fun u l => if (u.link l).state = .down then u.startLink l else u)
      (t.setRaw Reg.TRB_NODE (4096 + m.p 0 2))).done m []) ∧
  Acts .routeSet 0x0103 (fun m _ => m.p 4 4 = 0 ∧ 8 + 8 * m.p 2 2 ≤ m.len ∧ 1 ≤ m.p 2 2 ∧ m.p 2 2 ≤ 4096 ∧ m.p 0 2 + m.p 2 2 ≤ 4096)
    (fun m t => (((List.range (m.p 2 2)).foldl (fun u i => u.setRaw (Reg.TRB_ROUTE + 8 * (m.p 0 2 + i))
      (m.p (8 + 8 * i) 8 &&& (2 ^ 63 + 0x9F9F9F9F))) t).flushHeld.pathsLost t).done m []) ∧
  Acts .linkSet 0x0104 (fun _ _ => True)
    (fun m t => ((List.range 32).foldl (fun u l => u.setLink l (bit (m.p 0 4) l) (bit (m.p 4 4) l)) t).flushHeld.done m []) ∧
  Acts .peerReadmit 0x0105 (fun m t => m.p 2 6 = 0 ∧ m.p 0 2 < 4096 ∧ t.nodeLost (m.p 0 2) = true)
    (fun m t => (t.peer! (m.p 0 2) (fun p => { p with lost := false })).done m []) ∧
  Acts .ringSet 0x0106 (fun m _ => m.p 4 4 = 0 ∧ 64 ≤ m.p 0 4 ∧ m.p 0 4 ≤ 65536 ∧ isPow2 (m.p 0 4) = true)
    (fun m t => (t.done m []).box! m.comp (fun b => { b with ring := some ⟨m.p 0 4, m.p 8 8, 0⟩ })) ∧
  Acts .timeSet 0x0107 (fun m t => t.now ≤ m.p 0 8) (fun m t => ({ t with now := m.p 0 8 }).done m []) ∧
  Acts .rwpWrite 0x0108 (fun m _ => m.p 4 4 = 0 ∧ m.p 0 4 = Reg.DLT_FORMAT ∧ m.p 0x10 8 < 2 ^ 32)
    (fun m t => (t.setRaw Reg.DLT_FORMAT (t.raw Reg.DLT_FORMAT - (t.raw Reg.DLT_FORMAT &&& m.p 0x10 8) + (m.p 8 8 &&& m.p 0x10 8))).done m [])

/-- Table ERR-8: what the diagnostics opcodes on Gauge do, and what they reply. -/
def Obligations.DiagnosticsOpcodes : Prop :=
  Acts .errLogRead 0x0801 (fun m _ => 1 ≤ m.p 8 4 ∧ m.p 8 4 ≤ 256 ∧ m.p 0x0C 4 = 0 ∧ m.p 0x10 8 % 64 = 0)
    (fun m t =>
      let picked := (t.gauge.log.filter (fun r => decide (m.p 0 8 ≤ r.seq) && (decide (m.comp = 64) || decide (r.comp = m.comp)))).take (m.p 8 4)
      (t.output m (m.p 0x10 8) (picked.flatMap GRec.bytes)).done m
        (le 8 ((minL (t.gauge.log.map (·.seq))).getD 0) ++ le 8 (nextSeq t.gauge.log picked (m.p 0 8)) ++ le 4 picked.length ++ le 4 0
          ++ le 8 (t.raw (Reg.ERR_CNT0 + 24)))) ∧
  Acts .scrubCtl 0x0804 (fun m _ => m.p 0 1 ≤ 3 ∧ m.p 1 1 = 0 ∧ m.p 2 2 = 0 ∧ m.p 4 4 < 2 ^ (scrubField (m.p 0 1)).2)
    (fun m t => (t.setFld Reg.ERR_CFG (scrubField (m.p 0 1)).1 (scrubField (m.p 0 1)).2 (m.p 4 4)).done m []) ∧
  Acts .scrubCtl 0x0804 (fun m _ => m.p 0 1 ≤ 3 ∧ m.p 1 1 = 1 ∧ m.p 2 2 = 0)
    (fun m t => (t.scrub! (m.p 0 1) (fun x => { x with passRuns := true })).done m []) ∧
  Acts .scrubCtl 0x0804 (fun m _ => m.p 0 1 ≤ 3 ∧ m.p 1 1 = 2 ∧ m.p 2 2 = 0)
    (fun m t => (t.scrub! (m.p 0 1) (fun _ => ⟨true, false⟩)).done m []) ∧
  Acts .scrubCtl 0x0804 (fun m _ => m.p 0 1 ≤ 3 ∧ m.p 1 1 = 3 ∧ m.p 2 2 = 0)
    (fun m t => (t.scrub! (m.p 0 1) (fun x => { x with paused := false })).done m []) ∧
  (∀ o, Acts .counterSnapshot 0x0805
    (fun m t => Tbl.find (objKey 64 (m.p 0 2)) t.slc.objs = some o ∧ m.p 2 6 = 0 ∧ m.p 8 8 + (16 + 16 * counterAddrs.length) ≤ o.bytes)
    (fun m t =>
      let data := le 8 t.now ++ le 8 counterAddrs.length ++ counterAddrs.flatMap (fun a => le 8 a ++ le 8 (t.regView a))
      (t.obj! (objKey 64 (m.p 0 2)) (fun x => { x with data := Mem.writeBytes x.data (m.p 8 8) data })).done m
        (le 8 (16 + 16 * counterAddrs.length)))) ∧
  (∀ o, Acts .errorInject 0x0806 (fun m t => 1 ≤ m.p 0 1 ∧ m.p 0 1 ≤ 3 ∧ m.p 1 1 = 0 ∧ m.p 4 4 = 0
      ∧ Tbl.find (objKey 64 (m.p 14 2)) t.slc.objs = some o ∧ m.p 8 6 < o.bytes)
    (fun m t => (t.obj! (objKey 64 (m.p 14 2)) (fun x => { x with injected := x.injected ++ [(m.p 0 1, m.p 8 6)] })).done m [])) ∧
  Acts .errorInject 0x0806 (fun m t => m.p 0 1 = 6 ∧ m.p 1 1 = 0 ∧ m.p 4 4 = 0 ∧ t.slc.comps = [])
    (fun m t => (t.raise (m.p 2 2) 0x0053 .n none 0xFF 0x3FF 0 0 0).done m [])

/-- Chapters 15 and 16: the drain, the second's end of CE_STORM, the trips, the end of node-fatal handling, a Headwater fault, a failed HBM stack. -/
def Obligations.GaugeEvents : Prop :=
  (∀ s, s.cru.held = false → s.gauge.drainStopped = false → exec .logDrain s = .next s.drainOne) ∧
  (∀ s, ∃ t, exec .ceStormSecond s = .next t ∧ t.now = (s.now / 1000000000 + 1) * 1000000000 ∧
    (s.gauge.ceSecond ≠ s.now / 1000000000 + 1 → t.gauge.ceCounts = [] ∧ t.gauge.ceStormed = [] ∧ t.gauge.ceSecond = s.now / 1000000000 + 1)) ∧
  (∀ s tj, s.cru.held = false → s.weir.state = .running → s.partValid = true → s.weir.mfg.tripC ≤ tj →
    ∃ t, exec (.thermalTrip tj) s = .next t ∧ t.weir.state = .quarantined ∧ t.weir.quarCause = 3 ∧ t.weir.quarNs = s.now ∧ t.weir.wtripLow = true) ∧
  (∀ s w, s.cru.held = false → s.weir.state = .running → s.partValid = true → s.weir.mfg.tripW < w →
    ∃ t, exec (.powerTrip w) s = .next t ∧ t.weir.state = .quarantined ∧ t.weir.quarCause = 4 ∧ t.weir.quarNs = s.now ∧ t.weir.wtripLow = true) ∧
  (∀ s u b, s.cru.held = false → s.gauge.fatal = some b → exec (.quarantineEntry 1 u) s =
    .next (((s.drainAll s.queued).gauge! (fun g => { g with fatal := none })).quarantine 1 b)) ∧
  (∀ s u b, s.cru.held = false → s.gauge.fatal = some b → exec (.quarantineEntry 2 u) s =
    .next ((s.gauge! (fun g => { g with queues := [], fatal := none })).quarantine 2 (u % 256))) ∧
  (∀ s d, Live s → exec (.headwaterFault d) s =
    .next ((s.form (unitOf 0x14 (d % 4)) 0x0051 .n false 0xFF 0x3FF 0 d).fatal (unitOf 0x14 (d % 4))))

/-- Table CRU-2, R481, R484, R488, R495, R565, R571: the commands that reset the package, and the cause, type and start-up that each records. -/
def Obligations.ResetCommands : Prop :=
  (∀ s power pins, exec (.coldReset power pins) s = .next (s.packageReset 0 (if power then 0x00 else 0x01) 0 pins)) ∧
  (∀ s cause pins, s.cru.held = false → s.tripped = false → (cause = .linkDown → s.host.linkUp = true) →
    exec (.pcieWarmReset cause pins) s = .next (s.packageReset 1 (warmCode cause) 0 pins)) ∧
  (∀ s cause pins, s.cru.held = true ∨ s.tripped = true ∨ (cause = .linkDown ∧ s.host.linkUp = false) →
    exec (.pcieWarmReset cause pins) s = .next s) ∧
  Acts .nodeReset 0x0109 (fun m _ => m.p 0 8 = 0) (fun m t => (t.done m []).packageReset 2 0x20 0 t.weir.vndrTest) ∧
  Acts .recoveryEnter 0x010A (fun m _ => m.p 0 8 = 0) (fun m t => (t.done m []).packageReset 2 0x21 3 t.weir.vndrTest) ∧
  Acts .recoveryLoad 0x010B (fun m t => t.host.recoveryCause ≠ 1 ∧ m.p 0 8 ≤ 0x8000000)
    (fun m t =>
      let i := FwImage.ofBytes (Mem.readBytes t.host.staging 0 (m.p 0 8))
      if t.imageRefusal i = none then
        ((t.weir! (fun w => { w with image := i, flashReadable := true })).done m []).packageReset 2 0x23 0 t.weir.vndrTest
      else (t.count Reg.WEI_CNT0 3 1).refuse m 0x0F0A) ∧
  (∀ s m i, s.weir.activating = some m → s.weir.staged = some i → exec .fwImageWritten s =
    .next (((s.weir! (fun w => { w with image := i, staged := none, activating := none })).done m []).packageReset 2 0x22 0 s.weir.vndrTest)) ∧
  (∀ s, s.cru.held = false → s.weir.state = .boot → s.weirBoot.2 = 0 → exec .bootFault s =
    .next (s.weirBoot.1.packageReset 2 0x24 4 s.weir.vndrTest)) ∧
  (∀ (s : State) typ cause recovery,
    let t := s.packageReset typ cause recovery 0
    t.pending = s.pending ∧ t.now = (if typ = 0 then 0 else s.now) ∧ t.host.nodeState = .boot ∧ t.regs = ⟨[], []⟩
      ∧ t.slc = SluiceSt.reset ∧ t.search = SearchSt.reset ∧ t.mrc = MrcSt.reset ∧ t.ferry = FerrySt.reset ∧ t.weir.state = .boot
      ∧ t.weir.mfg = s.weir.mfg ∧ t.weir.record = s.weir.record ∧ t.weir.keyTable = s.weir.keyTable ∧ t.weir.secrets = [] ∧ t.weir.slots = []
      ∧ t.cru.typ = typ ∧ t.cru.cause = cause ∧ t.cru.recoveryNext = recovery ∧ t.cru.held = false
      ∧ t.cru.resets = (if typ = 0 then 0 else Nat.min 65535 (s.cru.resets + 1)))

/-- R482 to R493, R559, R564: start-up, the loss of a clock, and one sample of Spillway. -/
def Obligations.StartUpClockAndSample : Prop :=
  (∀ s i r, s.cru.held = false → s.weir.state = .boot → s.weir.flashReadable = true → s.weir.mfg.pufOk = true → s.weir.mfg.signatureOk = true →
    s.weir.mfg.mapOk = true → newestRec s.weir.stateLog = some (i, r) → s.cru.recoveryNext = 0 →
    s.weir.image.refusal r.rollback r.revoked false = none → s.weir.image.bodyOk = true →
    ∃ t, exec (.startUp []) s = .next t ∧ t.weir.state = .running ∧ t.host.nodeState = .running ∧ t.weir.bootStep = 7
      ∧ t.host.linkUp = s.host.flitMode
      ∧ t.host.fwVersion = s.weir.image.version ∧ t.weir.measure = s.weir.image.measure
      ∧ t.weir.record.rollback = Nat.max r.rollback s.weir.image.rollback
      ∧ t.weir.record.revoked = r.revoked ||| s.weir.image.revoke
      ∧ t.weir.record.incarnation = (r.incarnation + 1) % 2 ^ 32) ∧
  (∀ s failed, s.cru.held = false → s.weir.state = .boot → s.weirBoot.2 = 0 → exec (.startUp failed) s =
    .next (failed.foldl (fun t u => if unitExists u then t.raise u (testFail u) .u none 0xFF 0x3FF 0 0 0 else t) (s.weirBoot.1.startNode []))) ∧
  (∀ s failed, s.cru.held = false → s.weir.state = .boot → s.weirBoot.2 ≠ 0 →
    ∃ t, exec (.startUp failed) s = .next t ∧ t.weir.state = .recovery ∧ t.host.nodeState = .recovery ∧ t.host.recoveryCause = s.weirBoot.2
      ∧ t.host.linkUp = s.host.flitMode ∧ t.host.vfEnable = false ∧ t.host.staging = [] ∧ t.cru.recoveryNext = 0) ∧
  (∀ s : State, s.weir.flashReadable = false → s.weirBoot.2 = 5) ∧
  (∀ s pll, s.cru.held = false → pll = 0 ∨ pll = 21 →
    ∃ t, exec (.clockLoss pll) s = .next t ∧ t.cru.held = true ∧ t.weir.wtripLow = true ∧ t.host.out = s.host.out ++ [.wtrip true]
      ∧ t.slc = SluiceSt.reset) ∧
  (∀ s pll, Live s → 1 ≤ pll → pll ≤ 20 → pll ≠ 3 → bit s.cru.plls pll = true →
    exec (.clockLoss pll) s = .next (((s.cru! (fun c => { c with plls := setBits c.plls pll 1 0 })).form (unitOf 0x17 0) 0x0052 .n false 0xFF 0x3FF 0
      pll).fatal (unitOf 0x17 0))) ∧
  (∀ s p tj, Live s → s.host.nodeState = .running → s.spw.state = .active → (s.capEn = true → p ≤ s.capW) → tj < s.tjThrottle → SpwFree s.spw = true →
    ∃ t, exec (.spillwaySample p tj) s = .next t ∧ t.spw.powerW = Nat.min 65535 p ∧ t.spw.tjC = Nat.min 255 tj
      ∧ t.now = Nat.max s.now (s.spw.lastSampleNs + 10000) ∧ t.spw.limit = s.spw.limit ∧ t.spw.cclkStep = s.spw.cclkStep
      ∧ t.spw.zStage = s.spw.zStage ∧ t.spw.state = .active ∧ t.weir.tjMax = Nat.max s.weir.tjMax (Nat.min 255 tj))

/-- Table WEI-8, R494, R495, R504, R509, R511 to R514: the security opcodes. -/
def Obligations.SecurityOpcodes : Prop :=
  Acts .attestReport 0x0701 (fun _ t => t.weir.identity = true)
    (fun m t => (t.count Reg.WEI_CNT0 0 1).done m
      (t.report (m.pb 0 32) m.comp ++ bytesAt (Config.mldsaSign t.aliasSeed (t.report (m.pb 0 32) m.comp) (ascii "SN4 attest")) 0 2420 ++ le 4 0)) ∧
  (∀ x, Acts .flashKeyCreate 0x0702 (fun m t => t.comp (m.p 0 1) = some x ∧ m.p 1 7 = 0 ∧ m.p 8 8 ≠ 0 ∧ Tbl.has (m.p 0 1) t.weir.flashKeys = false
      ∧ t.weir.flashKeys.any (fun k => decide (k.2 = m.p 8 8)) = false ∧ t.weir.keyTable.find? (fun e => decide (e.keyId = m.p 8 8)) = none
      ∧ t.weir.keyTable.length < 1024)
    (fun m t =>
      let key := t.flashKey (m.p 8 8) x.tenant (t.secretOf (m.p 0 1))
      let e : KeyEnt := ⟨m.p 8 8, x.tenant, Tbl.has (m.p 0 1) t.weir.secrets, keyCheck key⟩
      (((t.weir! (fun w => { w with flashKeys := Tbl.put (m.p 0 1) (m.p 8 8) w.flashKeys })).newKeys (fun l => l ++ [e])).putSlot
        (slotCode 1 (m.p 0 1)) key).done m [])) ∧
  (∀ x e, Acts .flashKeyCreate 0x0702 (fun m t => t.comp (m.p 0 1) = some x ∧ m.p 1 7 = 0 ∧ m.p 8 8 ≠ 0 ∧ Tbl.has (m.p 0 1) t.weir.flashKeys = false
      ∧ t.weir.flashKeys.any (fun k => decide (k.2 = m.p 8 8)) = false ∧ t.weir.keyTable.find? (fun e => decide (e.keyId = m.p 8 8)) = some e
      ∧ e.tenant = x.tenant ∧ e.check = keyCheck (t.flashKey (m.p 8 8) x.tenant (t.secretOf (m.p 0 1))))
    (fun m t => ((t.weir! (fun w => { w with flashKeys := Tbl.put (m.p 0 1) (m.p 8 8) w.flashKeys })).putSlot (slotCode 1 (m.p 0 1))
      (t.flashKey (m.p 8 8) x.tenant (t.secretOf (m.p 0 1)))).done m [])) ∧
  Acts .flashKeyDestroy 0x0703 (fun m t => m.p 1 7 = 0 ∧ (t.comp (m.p 0 1)).isSome = true ∧ Tbl.find (m.p 0 1) t.weir.flashKeys = some (m.p 8 8)
      ∧ t.flashInUse (m.p 0 1) = false)
    (fun m t => ((t.weir! (fun w => { w with flashKeys := Tbl.erase (m.p 0 1) w.flashKeys })).zeroSlot (slotCode 1 (m.p 0 1))).done m []) ∧
  (∀ o, Acts .fwStage 0x0705 (fun m t => t.weir.activating = none ∧ Tbl.find (objKey 64 (m.p 0 2)) t.slc.objs = some o ∧ m.p 2 6 = 0
      ∧ m.p 8 8 + m.p 0x10 8 ≤ o.bytes ∧ o.hits (m.p 8 8) (m.p 0x10 8) = [] ∧ o.poisoned = false)
    (fun m t =>
      let i := FwImage.ofBytes (Mem.readBytes o.data (m.p 8 8) (m.p 0x10 8))
      let t1 := t.weir! (fun w => { w with staged := none })
      match t.imageRefusal i with
      | none => (t1.weir! (fun w => { w with staged := some i })).done m (le 4 i.version ++ le 4 i.rollback ++ i.measure)
      | some r => (t1.count Reg.WEI_CNT0 3 1).refuse m r)) ∧
  Acts .fwActivate 0x0706 (fun m t => m.p 0 8 = 0 ∧ t.weir.activating = none ∧ t.weir.staged.isSome = true)
    (fun m t => t.weir! (fun w => { w with activating := some m })) ∧
  Acts .peerPolicySet 0x0704 (fun m _ => m.p 12 4 ≤ 8 ∧ 16 + 32 * m.p 12 4 ≤ m.len)
    (fun m t =>
      let pol := m.pb 0 (16 + 32 * m.p 12 4)
      let s1 := t.newRecord (fun r => { r with policy := pol })
      let s2 := (Tbl.keys s1.trib.peers).foldl (fun u k => u.dropSecret k) s1
      let ends (u : State) (l : Nat) : Bool :=
        let p := Tbl.getD (u.link l).peerNode Peer_blank u.trib.peers
        Link_live (u.link l) && !policyAdmits pol p.fabricId p.rollback p.measure
      ((List.range 32).foldl (fun u l => if ends u l then u.downLink l .train (Link_trainNs (u.link l)) else u) s2).done m [])

/-- R503, R506 to R508, Table WEI-7: the SPDM requests on a transport that can answer, in the order of the negotiation. -/
def Obligations.SpdmRequests : Prop :=
  ∀ (s : State) (port : Nat), port ≤ 66 → s.spdmUp port = true →
  (∀ r, exec (.getVersion port r) s =
    .next ((s.spdm! port (fun p => { p with version := true, capabilities := false, algorithms := false })).answer port 0x04 [])) ∧
  ((s.spdm port).version = true → ∀ r, exec (.getCapabilities port r) s =
    .next ((s.spdm! port (fun p => { p with capabilities := true })).answer port 0x61 [])) ∧
  ((s.spdm port).capabilities = true → ∀ r, exec (.negotiateAlgorithms port r) s =
    .next ((s.spdm! port (fun p => { p with algorithms := true })).answer port 0x63 [])) ∧
  (s.spdmReady port = true →
    (∀ r, exec (.getDigests port r) s = .next (s.answer port 0x01 (sha3 s.chain))) ∧
    (∀ off len, off ≤ s.chain.length → exec (.getCertificate port off len) s = .next (s.answer port 0x02 ((s.chain.drop off).take len))) ∧
    (∀ n, exec (.challenge port n) s =
      .next (s.answer port 0x03 (sha3 s.chain ++ Config.mldsaSign s.aliasSeed (sha3 s.chain ++ n) []))) ∧
    (∀ i n, 1 ≤ i → i ≤ 4 → exec (.getMeasurements port i n) s =
      .next (s.answer port 0x60 (s.measurement port i ++ Config.mldsaSign s.aliasSeed (s.measurement port i ++ n) []))) ∧
    (∀ n, ∃ t key, exec (.kemKey port n) s = .next t ∧ (t.spdm port).nonce = n ∧ t.freeCtr = s.freeCtr + 1
      ∧ t.host.out = s.host.out ++ [.spdm port (Config.spdmFrame 0xFE (key ++ Config.mldsaSign s.aliasSeed (n ++ key) []))])) ∧
  (∀ cipher v, (s.spdm port).kemKey ≠ [] → (s.spdm port).sessions.length < 2 →
    exec (.kemFinish port cipher v) s = .next (if Config.spdmVerify (Config.kemDecap (s.spdm port).kemKey cipher) v then
      ((s.spdm! port (fun q => { q with
        kemKey := [], nonce := []
        sessions := q.sessions ++ [q.nextSession], nextSession := q.nextSession + 1, keyGen := Tbl.put q.nextSession 0 q.keyGen })).count
          Reg.WEI_CNT0 1 1).answer port 0xFE (le 4 (s.spdm port).nextSession ++ Config.spdmData (Config.kemDecap (s.spdm port).kemKey cipher))
      else ((s.spdm! port (fun q => { q with kemKey := [], nonce := [] })).count Reg.WEI_CNT0 2 1).spdmError port)) ∧
  (∀ session, s.inSession port session = true →
    exec (.endSession port session) s = .next ((s.spdm! port (fun p => { p with
      sessions := p.sessions.filter (fun x => decide (x ≠ session)), keyGen := Tbl.erase session p.keyGen })).answer port 0x6C []) ∧
    exec (.heartbeat port session) s = .next (s.answer port 0x68 []) ∧
    exec (.keyUpdate port session) s =
      .next ((s.spdm! port (fun p => { p with keyGen := Tbl.upd session (· + 1) p.keyGen })).answer port 0x69 []) ∧
    (∀ secret, 1 ≤ port → port ≤ 64 → (s.comp (port - 1)).isSome = true → Tbl.has (port - 1) s.weir.flashKeys = false → secret.length = 32 →
      exec (.tenantSecret port session secret) s =
        .next ((s.weir! (fun w => { w with secrets := Tbl.put (port - 1) secret w.secrets })).answer port 0xFE [])) ∧
    (∀ keys enable, port ≤ 64 → keys ≠ [] → exec (.ideKm port session port keys enable) s =
      .next (((s.func! port (fun f => { f with ideKeys := [keys], ideEnabled := enable })).putSlot (slotCode 4 port) keys).answer port 0xFE [])))

/-- R500, R582, R584: the test access port and the I3C targets. -/
def Obligations.ScanAndI3c : Prop :=
  (∀ s, exec .bypass s = .next ((s.weir! (fun w => { w with tap := .bypass })).drive (.tap 1 0))) ∧
  (∀ s, exec .samplePreload s = .next (s.weir! (fun w => { w with tap := .samplePreload }))) ∧
  (∀ s, s.weir.state ≠ .quarantined → ∃ t, exec .extest s = .next t ∧ t.weir.state = .quarantined ∧ t.weir.quarCause = 6 ∧ t.weir.tap = .extest
    ∧ t.weir.quarNs = s.now) ∧
  (∀ s, ∃ t v, exec .idcode s = .next t ∧ t.weir.tap = .idcode ∧ t.host.out = s.host.out ++ [.tap 32 v]
    ∧ v % 2 = 1 ∧ bits v 28 4 = 1 ∧ bits v 12 16 = 0x0540) ∧
  (∀ s bus addr, bus < 2 → s.cru.held = false → ∃ t, exec (.entdaa bus addr) s = .next t ∧ Tbl.find bus t.weir.i3cAddr = some addr
    ∧ t.host.out = s.host.out ++ [.i3c (le 6 s.provisionalId).reverse])

/-- Table COL-9, R32, R58 to R64, R183: the collection opcodes, and the events that end them. -/
def Obligations.CollectionOpcodes : Prop :=
  (∀ space u, Acts .collCreate 0x0201 (fun m t => m.p 2 6 = 0 ∧ m.p 0 2 < 0x1000 ∧ m.p 0 2 ≠ 0xFFF ∧ Desc.reason ⟨m.pb 8 128⟩ = 0
      ∧ t.coll (collKey m.comp (m.p 0 2)) = none ∧ (t.search.colls.filter (fun c => decide (c.2.state ≠ .dropping))).length < 1024 ∧
        t.spaceOf m.comp = some space
      ∧ t.reserve m.comp (Desc_need ⟨m.pb 8 128⟩ (Desc.rowCap ⟨m.pb 8 128⟩)) = some u)
    (fun m _ =>
      let d : Desc := ⟨m.pb 8 128⟩
      let base := Tbl.getD space 0 u.delta.nextLsn
      let home := if u.epochHome m.comp d.span = u.nodeNo then some EpochHome.fresh else none
      let v := (u.delta! (fun y => { y with nextLsn := Tbl.put space (base + (Desc_need d d.rowCap).2.2 / 4096) y.nextLsn })).search! (fun x =>
        { x with colls := Tbl.put (collKey m.comp (m.p 0 2)) { (Coll.fresh m.comp (m.p 0 2) d space base home) with decayNs := u.now } x.colls })
      ((v.others m.comp d.span).foldl (fun w n => w.askFirst (collKey m.comp (m.p 0 2)) n) v).collDone m (collKey m.comp (m.p 0 2)) [])) ∧
  (∀ c, Acts .collFreeze 0x0202 (fun m t => m.p 0 2 < 4096 ∧ m.p 2 6 = 0 ∧ t.coll (collKey m.comp (m.p 0 2)) = some c ∧ c.state = .online)
    (fun m t => t.coll! (collKey m.comp (m.p 0 2)) (fun c => { c with freezeMsgs := c.freezeMsgs ++ [(m,
      (t.search.upds.filter (fun u => decide (u.2.coll = collKey m.comp (m.p 0 2)) && u.2.migr.isNone)).map (·.1))] }))) ∧
  (∀ s k c m before rest, s.coll k = some c → c.freezeMsgs = (m, before) :: rest → before.any (fun b => Tbl.has b s.search.upds) = false →
    exec (.freezeSet k) s = .next (
      let s1 := s.coll! k (fun c => { c with frozen := true, freezeMsgs := rest })
      State.collDone (if c.refExt.isSome then s1 else match s1.sealColl k { c with frozen := true } with | some r => r.2 | none => s1) m k (le 6 c.lastEpoch))) ∧
  (∀ c, Acts .collDrop 0x0203 (fun m t => m.p 0 2 < 4096 ∧ m.p 2 6 = 0 ∧ t.coll (collKey m.comp (m.p 0 2)) = some c ∧ c.state ≠ .dropping)
    (fun m t => (t.abandonRecode (collKey m.comp (m.p 0 2))).coll! (collKey m.comp (m.p 0 2)) (fun c => { c with
      state := .dropping, dropMsg := some m, dropWait := t.collBatches (collKey m.comp (m.p 0 2)) }))) ∧
  (∀ s k c m, s.coll k = some c → c.dropMsg = some m →
    c.dropWait.any (fun b => (s.collBatches k).contains b || Tbl.has b s.slc.batches) = false →
    s.search.parts.any (fun p => decide (p.coll = k) && decide (p.state ≠ .aborted)) = false → exec (.dropComplete k) s = .next (
      let s1 := if c.refExt.isSome then s else s.discardAll c.space (Coll_lsns c)
      let s2 := (s1.unreserve c.comp (Desc_need c.desc c.desc.rowCap)).search! (fun x => { x with
        parts := x.parts.filter (fun p => decide (p.coll ≠ k))
        linkQ := x.linkQ.filter (fun r => decide (r.coll ≠ k)), repairQ := x.repairQ.filter (fun r => decide (r.coll ≠ k)) })
      let s3 := s2.ferry! (fun f => { f with lake := f.lake.filter (fun y => !(y.2.centre && decide (y.2.obj = k))) })
      let s4 := c.freezeMsgs.foldl (fun t f => t.collRefuse f.1 k 0x0007) s3
      State.leaveRetain (State.search! (s4.collDone m k []) (fun x => { x with colls := Tbl.erase k x.colls })) k)) ∧
  (∀ c u, Acts .collRecode 0x0204 (fun m t => m.p 0 2 < 4096 ∧ m.p 2 6 = 0 ∧ t.coll (collKey m.comp (m.p 0 2)) = some c ∧ c.state = .online
      ∧ c.recoding = false ∧ Desc.reason ⟨m.pb 8 128⟩ = 0 ∧ c.desc.recodeReason ⟨m.pb 8 128⟩ = 0
      ∧ t.reserve c.comp (Desc_need ⟨m.pb 8 128⟩ (Desc.rowCap ⟨m.pb 8 128⟩)) = some u)
    (fun m _ => (u.coll! (collKey m.comp (m.p 0 2)) (fun c => { c with
      recoding := true, target := some ⟨m.pb 8 128⟩, recodeMsg := some m, oldStorage := [] })).finishRecode (collKey m.comp (m.p 0 2)))) ∧
  (∀ s k r c d y, s.coll k = some c → c.target = some d → Tbl.find r c.reaches = some y → y.switched = false → s.reachScanned k r = false →
    exec (.recodeReachSwitch k r) s = .next (
      let u := s.chargeNode c.comp
      let batches := (u.search.qbatches.filter (fun b => decide (b.2.coll = k))).map (·.1)
      (u.coll! k (fun c => { c with
        reaches := Tbl.upd r (fun r => { r with switched := true }) c.reaches
        oldStorage := if batches = [] then c.oldStorage else c.oldStorage ++ [(r, batches)]
        slots := c.slots.map (fun z => (z.1, if z.2.reach = r ∧ z.2.state ≠ .free then
          { ({ z.2 with width := 0, access := 0 }.coded d) with recoded := true, codeLost := z.2.damaged } else z.2)) })).finishRecode k)) ∧
  (∀ s k r c, s.coll k = some c → c.oldStorage.any (fun o => decide (o.1 = r) && o.2.any (fun b => Tbl.has b s.search.qbatches)) = false →
    exec (.oldReachStorageFree k r) s =
      .next ((s.coll! k (fun c => { c with oldStorage := c.oldStorage.filter (fun o => decide (o.1 ≠ r)) })).finishRecode k)) ∧
  (∀ c, Acts .collPlace 0x0205 (fun m t => m.p 0 2 < 4096 ∧ m.p 2 1 < 16 ∧ m.p 3 1 < 16 ∧ m.p 4 4 = 0 ∧ m.p 0x0C 1 ≤ 1 ∧ m.p 0x0D 3 = 0
      ∧ t.coll (collKey m.comp (m.p 0 2)) = some c ∧ c.state ≠ .dropping)
    (fun m t => (t.coll! (collKey m.comp (m.p 0 2)) (fun c => { c with
      millMask := m.p 2 1, basinMask := m.p 3 1, deltaMask := m.p 8 4, lakeCentres := decide (m.p 0x0C 1 = 1) })).collDone m (collKey m.comp (m.p 0 2)) [])) ∧
  (∀ c, Acts .collInfo 0x0206 (fun m t => m.p 0 2 < 4096 ∧ m.p 2 6 = 0 ∧ t.coll (collKey m.comp (m.p 0 2)) = some c)
    (fun m t => t.collDone m (collKey m.comp (m.p 0 2)) (t.collInfo (collKey m.comp (m.p 0 2)) c)))

/-- R92 to R94, R98, R100, R101, R117: filter bitmaps and the summaries that nodes publish to each other. -/
def Obligations.BitmapsAndSummaries : Prop :=
  (∀ c bs, Acts (fun mb => .bitmapWrite mb (some bs)) 0x0302 (fun m t => m.p 0 2 < 4096 ∧ m.p 2 1 ≤ 63 ∧ m.p 3 1 ≤ 2
      ∧ t.coll (collKey m.comp (m.p 0 2)) = some c ∧ c.state = .online ∧ Coll_nextEpoch c ≠ 2 ^ 48 - 1)
    (fun m t => ((t.slc! (fun x => { x with nextBatch := t.slc.nextBatch + 1 })).search! (fun x => { x with
      updSeq := t.search.updSeq + 1
      bitWrites := x.bitWrites ++ [⟨m, t.search.updSeq + 1, collKey m.comp (m.p 0 2), m.p 2 1, m.p 3 1, splitNum 8 (m.p 4 4) bs⟩]
      upds := Tbl.put t.slc.nextBatch ⟨collKey m.comp (m.p 0 2), t.search.updSeq + 1, [], .preparing, [], none, [], [], 0, t.mapVersion m.comp, 0, 0, none, 0, 0⟩
        x.upds })).askEpoch t.slc.nextBatch)) ∧
  (∀ c b, Acts .bitmapDrop 0x0303 (fun m t => m.p 0 2 < 4096 ∧ m.p 2 1 ≤ 63 ∧ m.p 3 5 = 0 ∧ t.coll (collKey m.comp (m.p 0 2)) = some c
      ∧ Tbl.find (m.p 2 1) c.bitmaps = some b ∧ b.defined = true)
    (fun m t => (t.coll! (collKey m.comp (m.p 0 2)) (fun c => { c with
      bitmaps := Tbl.upd (m.p 2 1) (fun b => { b with defined := false, dropMsg := some m }) c.bitmaps })).settleBitmaps (collKey m.comp (m.p 0 2)))) ∧
  (∀ c, Acts .summaryResync 0x0304 (fun m t => m.p 0 2 < 4096 ∧ m.p 4 4 = 0 ∧ t.coll (collKey m.comp (m.p 0 2)) = some c
      ∧ (t.spanNodes c.comp c.desc.span).contains (m.p 2 2) = true ∧ m.p 2 2 ≠ t.nodeNo
      ∧ ((Tbl.getD (m.p 2 2) SourceSums.none_ c.sources).unsure = true ∨ (Tbl.getD (m.p 2 2) SourceSums.none_ c.sources).lastSeq = 0))
    (fun m t => (t.source! (collKey m.comp (m.p 0 2)) (m.p 2 2) (fun v => { v with msgs := v.msgs ++ [m] })).askResync (collKey m.comp (m.p 0 2)) (m.p 2 2))) ∧
  (∀ c, Acts .summaryResync 0x0304 (fun m t => m.p 0 2 < 4096 ∧ m.p 4 4 = 0 ∧ t.coll (collKey m.comp (m.p 0 2)) = some c
      ∧ (t.spanNodes c.comp c.desc.span).contains (m.p 2 2) = true ∧ (Tbl.getD (m.p 2 2) SourceSums.none_ c.sources).unsure = false
      ∧ (m.p 2 2 = t.nodeNo ∨ (Tbl.getD (m.p 2 2) SourceSums.none_ c.sources).lastSeq ≠ 0))
    (fun m t => t.done m [])) ∧
  (∀ s k source catchment (y : Summary) ver c, s.coll k = some c → s.judgeMap c.comp ver = .accept → source ≠ s.nodeNo →
    (Tbl.getD source SourceSums.none_ c.sources).unsure = false → (Tbl.getD source SourceSums.none_ c.sources).resync = false →
    y.seq = (Tbl.getD source SourceSums.none_ c.sources).lastSeq + 1 →
    exec (.summaryReceive k source catchment y ver false) s = .next ((s.source! k source (fun v => { v with
      lastSeq := y.seq, sums := Tbl.put catchment y v.sums, unsure := v.unsure, resync := v.resync, msgs := v.msgs })).send source 1 (.summaryAck k y.seq))) ∧
  (∀ s k source catchment (y : Summary) ver last c, s.coll k = some c → s.judgeMap c.comp ver = .accept → source ≠ s.nodeNo →
    (Tbl.getD source SourceSums.none_ c.sources).unsure = false → (Tbl.getD source SourceSums.none_ c.sources).resync = false →
    (Tbl.getD source SourceSums.none_ c.sources).lastSeq + 1 < y.seq →
    exec (.summaryReceive k source catchment y ver last) s = .next (((s.source! k source (fun v => { v with
      lastSeq := y.seq, sums := Tbl.put catchment y v.sums, unsure := true, resync := v.resync, msgs := v.msgs })).send source 1
        (.summaryAck k y.seq)).askResync k source)) ∧
  (∀ s k q p c, s.coll k = some c → c.pubs.find? (fun p => decide (p.seq = q)) = some p → p.slow = false →
    p.waiting.all (fun n => s.nodeLost n) = false →
    exec (.pubSlow k q) s = .next (((s.reach (p.sentNs + us (s.fld Reg.SND_PUB 0 16))).coll! k (fun c => { c with
      pubs := c.pubs.map (fun p => if p.seq = q then { p with slow := true } else p) })).logC (unitOf 0x12 0) 0x0034 c.comp 0x3FF c.id 0))

/-- R176, R178, R180, R190 to R194, R200, R203, R442, R608, R612: what the coordinator and the homes of an update batch do, up to its reply. -/
def Obligations.UpdateBatches : Prop :=
  (∀ c bs, Acts (fun mb => .updBatch mb (some bs)) 0x0401 (fun m t => updHeaderOk m = true ∧ t.coll (collKey m.comp (m.p 0 2)) = some c
      ∧ c.state = .online ∧ c.frozen = false ∧ Coll_nextEpoch c ≠ 2 ^ 48 - 1)
    (fun m t =>
      let k := collKey m.comp (m.p 0 2)
      let ops := t.withHomes m.comp c.desc.span (takeData c.desc ((List.range (m.p 2 2)).map (fun i => UpdOp.ofBytes (bytesAt bs (64 * i) 64))) (bs.drop (64 * m.p 2 2)))
      let r := t.enroll m (t.msgLevel m (m.p 6 1)) (m.p 8 4) (some k) []
      r.2.search! (fun x => { x with
        updSeq := t.search.updSeq + 1
        upds := Tbl.put r.1 ⟨k, t.search.updSeq + 1, ops, .preparing, homesOf ops, none, [], [], 0, t.mapVersion m.comp, m.p 0x18 8, 0, none, 0, 0⟩ x.upds }))) ∧
  (∀ s b u h rest, Tbl.find b s.search.upds = some u → s.updRuns b u = true → u.stage = .preparing → u.sent = none → u.parts = h :: rest →
    s.nodeLost h = false → s.sendWaits u h = false → exec (.partSend b) s =
    .next (let s1 := s.upd! b (fun u => { u with sent := some h, parts := rest })
      if h = s.nodeNo then s1 else (s1.sendUpd h u.coll (.part u.coll (UpdBatch_partSeq u h) (opsAt u h))).count Reg.LCK_CNT0 2 1)) ∧
  (∀ s (p : PartMsg) c, s.part (collKey p.comp p.coll) p.coord p.seq = none → p.coord ≠ s.nodeNo → s.judgeMap p.comp p.mapVersion = .accept →
    s.coll (collKey p.comp p.coll) = some c → exec (.partArrive p) s =
      .next (((s.forwardOps (collKey p.comp p.coll) c p.ops).2.search! (fun x => { x with
        arrivals := x.arrivals + 1
        parts := x.parts ++ [⟨collKey p.comp p.coll, p.coord, p.seq, (s.forwardOps (collKey p.comp p.coll) c p.ops).1, .waiting,
          (s.forwardOps (collKey p.comp p.coll) c p.ops).2.search.arrivals, [], [], 0, 0, none, none, false⟩] })).promote)) ∧
  (∀ s (p : PartMsg) u c, s.part (collKey p.comp p.coll) p.coord p.seq = none → p.coord = s.nodeNo → s.ownPart p = some u →
    s.judgeMap p.comp u.2.mapVersion = .accept → s.coll (collKey p.comp p.coll) = some c → exec (.partArrive p) s =
      .next (((s.forwardOps (collKey p.comp p.coll) c (opsAt u.2 s.nodeNo)).2.search! (fun x => { x with
        arrivals := x.arrivals + 1
        parts := x.parts ++ [⟨collKey p.comp p.coll, p.coord, p.seq, (s.forwardOps (collKey p.comp p.coll) c (opsAt u.2 s.nodeNo)).1, .waiting,
          (s.forwardOps (collKey p.comp p.coll) c (opsAt u.2 s.nodeNo)).2.search.arrivals, [], [], 0, 0, none, none, false⟩] })).promote)) ∧
  (∀ s t f k coord seq p c d done, s.part k coord seq = some p → p.state = .locked → p.split = none → s.deltaUp = true → s.coll k = some d →
    s.forwardOps k d p.ops = f → (f.2.part! k coord seq (fun q => { q with ops := f.1 })).prepAll k coord seq (List.range p.ops.length) = (t, done) →
    ((t.publishGrown k).part! k coord seq (fun q => { q with state := .writing })).coll k = some c →
    exec (.partPrepare k coord seq) s = .next (
      let u := (t.publishGrown k).part! k coord seq (fun q => { q with state := .writing })
      if done then ((u.flush c.space (s.flashMask c.comp c.deltaMask)).getD u).settleWrites k coord seq else t)) ∧
  (∀ s b u h l, Tbl.find b s.search.upds = some u → u.sent = some h → h ≠ s.nodeNo → exec (.partPrepared b h l) s = .next (
    let merged := u.ops.foldl (fun (acc : List UpdOp × List UpdOp) o =>
      if o.done ∨ o.home ≠ h then (acc.1 ++ [o], acc.2)
      else match acc.2 with | q :: rest => (acc.1 ++ [{ q with done := true }], rest) | [] => (acc.1 ++ [o], [])) ([], l)
    let s1 := s.upd! b (fun v => { v with ops := if v.migr.isSome then v.ops else merged.1, homes := v.homes ++ [h], sent := none })
    if u.parts = [] then s1.askEpoch b else s1)) ∧
  (∀ s b u p l, Tbl.find b s.search.upds = some u → u.sent = some s.nodeNo → s.part u.coll s.nodeNo (UpdBatch_partSeq u s.nodeNo) = some p →
    p.state = .prepared → exec (.partPrepared b s.nodeNo l) s = .next (
    let merged := u.ops.foldl (fun (acc : List UpdOp × List UpdOp) o =>
      if o.done ∨ o.home ≠ s.nodeNo then (acc.1 ++ [o], acc.2)
      else match acc.2 with | q :: rest => (acc.1 ++ [{ q with done := true }], rest) | [] => (acc.1 ++ [o], [])) ([], p.ops)
    let s1 := s.upd! b (fun v => { v with ops := if v.migr.isSome then v.ops else merged.1, homes := v.homes ++ [s.nodeNo], sent := none })
    if u.parts = [] then s1.askEpoch b else s1)) ∧
  (∀ s b u h v, Tbl.find b s.search.upds = some u → u.sent = some h → exec (.updatePartReroute b h v false) s =
    .next (s.upd! b (fun u => { u with sent := none, stage := .waitMap, needMap := v, needNs := s.now + s.mapGrace }))) ∧
  (∀ s b u h v, Tbl.find b s.search.upds = some u → u.sent = some h → exec (.updatePartReroute b h v true) s = .next (
    let s1 := s.upd! b (fun u => { u with sent := none, ops := u.ops.map (fun o => if !o.done ∧ o.home = h then o.fail stBad 0x010B else o) })
    if u.parts = [] then s1.askEpoch b else s1)) ∧
  (∀ s k coord seq e c p, s.coll k = some c → s.partsOf k coord seq = [p] → coord ≠ s.nodeNo → p.state = .prepared → e ≠ 0 → s.pubsWait c = false →
    exec (.partCommit k coord seq e) s = .next ((s.commitPart k coord p.seq e).sendUpd coord k (.commitReport k seq))) ∧
  (∀ s k coord seq e c p rest, s.coll k = some c → s.partsOf k coord seq = p :: rest → coord ≠ s.nodeNo →
    (p :: rest).all (fun q => decide (q.state = .committed)) = true →
    exec (.partCommit k coord seq e) s = .next (s.sendUpd coord k (.commitReport k seq))) ∧
  (∀ s b u h, Tbl.find b s.search.upds = some u → u.stage = .committing → h ≠ s.nodeNo → u.homes.contains h = true → u.reports.contains h = false →
    exec (.commitReport b h) s = .next ((s.upd! b (fun u => { u with reports := u.reports ++ [h] })).tryReport b)) ∧
  (∀ s b u, Tbl.find b s.search.upds = some u → u.stage = .committing → s.partsOf u.coll s.nodeNo u.seq ≠ [] →
    (s.partsOf u.coll s.nodeNo u.seq).all (fun p => decide (p.state = .committed)) = true → u.homes.contains s.nodeNo = true →
      u.reports.contains s.nodeNo = false →
    exec (.commitReport b s.nodeNo) s = .next ((s.upd! b (fun u => { u with reports := u.reports ++ [s.nodeNo] })).tryReport b)) ∧
  (∀ s b u x c m, Tbl.find b s.search.upds = some u → s.batch b = some x → s.coll u.coll = some c → x.msg = some m → u.migr = none → x.torn = none →
    u.stage = .stableWait ∨ (u.stage = .reporting ∧ s.epochHome c.comp c.desc.span ≠ s.nodeNo) → u.epoch ≤ c.lastEpoch → exec (.updateComplete b) s =
      .next (let good := (u.ops.filter (fun o => decide (o.status = 0))).length
        let s2 := ((s.output m u.complAddr (u.ops.flatMap (fun o => o.record s.nodeNo u.epoch))).dropPart u.coll s.nodeNo u.seq).search! (fun y => { y with
          upds := Tbl.erase b y.upds })
        (if u.epoch = 0 then s2 else s2.count Reg.LCK_CNT0 1 1).replyBatch b (updStatus u.ops) 0
          (le 8 (if good = 0 then 0 else u.epoch) ++ le 2 good ++ le 2 (u.ops.length - good) ++ le 4 0))) ∧
  (∀ s k coord seq p c, s.part k coord seq = some p → s.coll k = some c → p.state = .prepared → p.askSent = false →
    s.epochHome c.comp c.desc.span ≠ s.nodeNo →
    exec (.prepTimeout k coord seq) s = .next (((s.reach p.deadline).part! k coord seq (fun p => { p with askSent := true })).sendUpd
      (s.epochHome c.comp c.desc.span) k (.outcomeAsk k coord seq))) ∧
  (∀ s k coord seq p c o t, s.part k coord seq = some p → s.coll k = some c → p.state = .prepared → p.askSent = false →
    s.epochHome c.comp c.desc.span = s.nodeNo → (s.reach p.deadline).judgeOutcome k coord seq = some (o, t) →
    exec (.prepTimeout k coord seq) s = .next (t.partOutcome k coord seq o)) ∧
  (∀ s k coord seq p o, s.part k coord seq = some p → p.state = .prepared → p.askSent = true →
    exec (.outcomeReply k coord seq o) s = .next (s.partOutcome k coord seq o))

/-- R184, R185, R191 step 3, R193, R195, R440, R554, R607: epochs and their home. -/
def Obligations.Epochs : Prop :=
  (∀ s t k coord seq v c h o, s.coll k = some c → c.home = some h → coord ≠ s.nodeNo → h.takeover = false →
    s.epochHome c.comp c.desc.span = s.nodeNo →
    s.judgeMap c.comp v ≠ .hold → s.grantEpoch k coord seq = some (o, t) →
    exec (.epochRequest k coord seq v) s = .next (match o with
      | .epoch e => t.sendUpd coord k (.epochGrant k seq e)
      | .aborted x => (t.sendUpd coord k (.epochAbort k seq x)).abortPart k coord seq)) ∧
  (∀ s k coord seq v c, s.coll k = some c → c.home = none → coord ≠ s.nodeNo → s.judgeMap c.comp v ≠ .hold →
    exec (.epochRequest k coord seq v) s = .next (s.sendUpd coord k (.epochReroute k seq (s.mapVersion c.comp)))) ∧
  (∀ s t k seq v c h o u, s.coll k = some c → c.home = some h → s.updOf k seq = some u → u.2.stage = .wantEpoch → h.takeover = false →
    s.epochHome c.comp c.desc.span = s.nodeNo → s.judgeMap c.comp (s.mapVersion c.comp) ≠ .hold → s.grantEpoch k s.nodeNo seq = some (o, t) →
    exec (.epochRequest k s.nodeNo seq v) s = .next t) ∧
  (∀ s b u e, Tbl.find b s.search.upds = some u → u.stage = .wantEpoch → u.epoch = 0 → s.homeNode u.coll ≠ s.nodeNo → u.migr = none →
    s.search.bitWrites.find? (fun w => decide (w.seq = u.seq)) = none →
    exec (.epochGrant b (.granted e)) s = .next (s.decided b u e)) ∧
  (∀ s b u e mv, Tbl.find b s.search.upds = some u → u.stage = .wantEpoch → u.epoch = 0 → s.homeNode u.coll ≠ s.nodeNo → u.migr = some mv →
    exec (.epochGrant b (.granted e)) s = .next (s.commitMigration b u mv e)) ∧
  (∀ s b u v, Tbl.find b s.search.upds = some u → u.stage = .wantEpoch → u.epoch = 0 → s.homeNode u.coll ≠ s.nodeNo →
    exec (.epochGrant b (.reroute v)) s = .next (if seqGe 32 (s.mapVersion (u.coll / 4096)) v then s.askEpoch b
      else s.upd! b (fun u => { u with needMap := v, needNs := s.now + s.mapGrace }))) ∧
  (∀ s b u x, Tbl.find b s.search.upds = some u → u.stage = .wantEpoch → u.epoch = 0 → s.homeNode u.coll ≠ s.nodeNo → u.migr = none →
    (if x then s else s.logAbort (u.coll / 4096)).search.bitWrites.find? (fun w => decide (w.seq = u.seq)) = none →
    exec (.epochGrant b (.aborted x)) s =
    .next ((if x then s else s.logAbort (u.coll / 4096)).abortBatch b (if x then stBad else stInternal) (if x then 0x010A else 0x0109))) ∧
  (∀ s k e c h, s.coll k = some c → c.home = some h → e < h.next → e ≠ 0 → h.takeover = false →
    s.search.upds.find? (fun u => decide (u.2.coll = k) && decide (u.2.epoch = e)) = none → exec (.epochComplete k e) s = .next (s.epochDone k e)) ∧
  (∀ s k e c h b u, s.coll k = some c → c.home = some h → e < h.next → e ≠ 0 → h.takeover = false →
    s.search.upds.find? (fun u => decide (u.2.coll = k) && decide (u.2.epoch = e)) = some (b, u) → u.stage = .reporting →
    exec (.epochComplete k e) s = .next ((s.epochDone k e).upd! b (fun u => { u with stage := .stableWait }))) ∧
  (∀ s k c h, s.coll k = some c → c.home = some h → h.pushed < h.stable → exec (.stableEpochPush k) s =
    .next ((s.others c.comp c.desc.span).foldl (fun t n => t.sendUpd n k (.stable k h.stable))
      ((s.reach (h.lastPushNs + us (s.fld Reg.LCK_TIMING 0 16))).coll! k (fun c => { c with home := some { h with
        pushed := h.stable, lastPushNs := (s.reach (h.lastPushNs + us (s.fld Reg.LCK_TIMING 0 16))).now } })))) ∧
  (∀ s k e c, s.coll k = some c → c.home = none → c.lastEpoch < e → exec (.stableEpochReceive k e) s =
    .next ((s.raiseStable k e).search! (fun x => { x with
      parts := x.parts.filter (fun p => !(decide (p.coll = k) && decide (p.state = .committed) && decide (p.epoch ≤ e) && decide (p.coord ≠ s.nodeNo))) }))) ∧
  (∀ s k c h, s.coll k = some c → c.home = some h → h.takeover = true → s.epochHome c.comp c.desc.span = s.nodeNo → s.search.upds = [] →
    s.search.parts = [] →
    exec (.epochHomeTakeover k []) s = .next ((((s.coll! k (fun x => { x with
      home := some (advance 1 ⟨c.lastEpoch + 1, c.lastEpoch, [], [], false, 0, 0⟩) })).raiseStable k
        (advance 1 ⟨c.lastEpoch + 1, c.lastEpoch, [], [], false, 0, 0⟩).stable).answerChecks k).resumeEpochs k))

/-- R44, R45, R74, R75, R189, R202, R205 to R210, R286, R439, R440, R441: rows between nodes, the balls that hold them, and reading rows back. -/
def Obligations.RowsAndBalls : Prop :=
  (∀ s k row n c i z, s.coll k = some c → c.currentOf row = some (i, z) → Tbl.has (migKey k row) s.search.migrations = false →
    s.search.parts.any (fun q => decide (q.coll = k) && Part_holds q && (Part_rows q).contains row) = false → n ≠ s.nodeNo →
    s.homeOf c.comp c.desc.span row = n → s.nodeLost n = false → exec (.migrationStart k row n) s =
    .next (((s.free.2.slc! (fun q => { q with nextBatch := s.slc.nextBatch + 1 })).search! (fun q => { q with
      updSeq := s.search.updSeq + 1
      upds := Tbl.put s.slc.nextBatch ⟨k, s.search.updSeq + 1, [UpdOp.migrate z (Coll_filterMask c i)], .preparing, [], some n, [], [], 0, s.mapVersion c.comp, 0, 0,
        some [(i, s.free.1 % 2 ^ 40)], 0, 0⟩ q.upds
      migrations := Tbl.put (migKey k row) s.slc.nextBatch q.migrations })).sendUpd n k (.part k (s.search.updSeq + 1) [UpdOp.migrate z (Coll_filterMask c i)]))) ∧
  (∀ s k row c b, s.coll k = some c → Tbl.find (migKey k row) s.search.migrations = some b → Tbl.find b s.search.upds = none →
    (Tbl.erase (migKey k row) s.search.migrations).any (fun m => decide (m.2 = b)) = true → exec (.migrationRelease k row) s =
    .next ((s.search! (fun q => { q with migrations := Tbl.erase (migKey k row) q.migrations })).promote)) ∧
  (∀ s k r, exec (.tighten k (.reach r)) s =
    .next (s.tightenReach k r)) ∧
  (∀ s k n r, exec (.tighten k (.summary n r)) s =
    .next (s)) ∧
  (∀ s k r, exec (.tighten k (.catchment r)) s =
    .next ((((match s.coll k with | some c => (c.reachesOf r).map (·.1) | none => []) : List Nat).foldl (fun t r => t.tightenReach k r) s).coll! k (fun c => { c with
        catches := Tbl.upd r (fun y => { y with tight := Coll_catchTight c r y.centre, tightEpoch := c.lastEpoch }) c.catches }))) ∧
  (∀ s k r c y, s.coll k = some c → Tbl.find r c.catches = some y → s.mayReplace k c y.tightEpoch = true → exec (.radiusReplace k (.catchment r)) s =
    .next (s.coll! k (fun c => { c with catches := Tbl.upd r (fun y => { y with radius := y.tight, tightEpoch := 0 }) c.catches }))) ∧
  (∀ s k n r c v y, s.coll k = some c → Tbl.find n c.sources = some v → Tbl.find r v.sums = some y → s.mayReplace k c y.tightEpoch = true →
    exec (.radiusReplace k (.summary n r)) s =
    .next (s.coll! k (fun c => { c with
            sources := Tbl.upd n (fun v => { v with sums := Tbl.upd r (fun y => { y with radius := y.tight, tightEpoch := 0 }) v.sums }) c.sources }))) ∧
  (∀ s k r c y, s.coll k = some c → Tbl.find r c.reaches = some y → s.mayReplace k c y.tightEpoch = false → exec (.radiusReplace k (.reach r)) s =
    .next (s)) ∧
  (∀ s k r c y, s.coll k = some c → Tbl.find r c.reaches = some y → s.mayReplace k c y.tightEpoch = true → exec (.radiusReplace k (.reach r)) s =
    .next (s.coll! k (fun c => c.reach! r (fun y => { y with radius := y.tight, tightEpoch := 0 })))) ∧
  (∀ s k i c z, s.coll k = some c → Tbl.find i c.slots = some z → (z.state = .tombstone ∨ z.state = .forward) → z.link = .unlinked →
    s.retained k c (z.delEpoch - 1) = false → (s.inFlight k).any (fun e => decide (e < z.delEpoch)) = false → exec (.slotFree k i) s =
    .next ((s.freeSlot k i).count Reg.LCK_CNT0 6 1)) ∧
  (∀ s k c, s.coll k = some c → c.desc.codeFmt = 4 → exec (.popDecay k) s =
    .next ((s.reach (c.decayNs + ms c.desc.popDecay)).coll! k (fun x => { x with
      decayNs := c.decayNs + ms c.desc.popDecay, slots := x.slots.map (fun z => (z.1, { z.2 with access := z.2.access / 2 })) }))) ∧
  (∀ s k i c z, s.coll k = some c → Tbl.find i c.slots = some z → c.desc.codeFmt = 4 → z.recoded = false → z.current = true → z.damaged = false →
    c.desc.targetWidth z.access ≠ z.width → s.reachScanned k z.reach = false → (c.desc.targetWidth z.access = 1 →
    (s.allocate c.comp 0 (promoBytes c.desc.raw)).isNone = false) → exec (.popRecode k i) s =
    .next (s.coll! k (fun x => x.slot! i (fun y => ({ y with width := c.desc.targetWidth z.access } : Slot).coded x.desc)))) ∧
  (∀ s k i c z, s.coll k = some c → Tbl.find i c.slots = some z → c.desc.codeFmt = 4 → z.recoded = false → z.current = true → z.damaged = false →
    1 ≠ z.width → s.reachScanned k z.reach = false → c.desc.targetWidth z.access = 1 →
    (s.allocate c.comp 0 (promoBytes c.desc.raw)).isNone = true → exec (.popRecode k i) s =
    .next (s.coll! k (fun c => { c with promoteDeferred := c.promoteDeferred + 1 }))) ∧
  (∀ s k i c z, s.coll k = some c → Tbl.find i c.slots = some z → z.state ≠ .free → z.codeLost = true → z.damaged = false →
    exec (.codeRewrite k i false) s =
    .next ((s.chargeNode c.comp).coll! k (fun c => c.slot! i (fun z => z.coded (c.descOf z))))) ∧
  (∀ s k i l ls c z, s.coll k = some c → Tbl.find i c.slots = some z → z.state ≠ .free → z.codeLost = true → z.damaged = false →
    c.desc.slotLsns c.base i = l :: ls → exec (.codeRewrite k i true) s =
    .next ((match c.refExt with
              | some e => (s.chargeNode c.comp).extentLost e (l - c.base) false
              | none => (s.chargeNode c.comp).sectorLost c.space l))) ∧
  (∀ c bs e, Acts (fun mb => .gather mb (some bs)) 0x0402 (fun m t => gatherHeaderOk m = true ∧ t.coll (collKey m.comp (m.p 0 2)) = some c ∧
    m.p 4 4 * c.desc.gatherStride (bit (m.p 2 2) 0) ≤ m.p 0x18 8 ∧ c.state = .online ∧ t.pickEpoch (collKey m.comp (m.p 0 2)) c (m.p 0x20 8) = .run e)
    (fun m t => let k := collKey m.comp (m.p 0 2)
      let r := t.enroll m (t.msgLevel m (m.p 0x2C 1)) (m.p 0x28 4) (some k) []
      (r.2.search! (fun x => { x with
        gathers := Tbl.put r.1 ⟨k, bit (m.p 2 2) 0, bit (m.p 2 2) 1, e, m.p 0x10 8, splitNum 8 (m.p 4 4) bs, t.mapVersion m.comp, t.mapHomes m.comp c.desc.span, c.defaultRow, c.defaultPayload, [], [], [], []⟩ x.gathers })).serveGather r.1)) ∧
  (∀ c bs, Acts (fun mb => .defaultRow mb (some bs)) 0x0403 (fun m t => m.p 0 2 < 4096 ∧ m.p 2 6 = 0 ∧
    t.coll (collKey m.comp (m.p 0 2)) = some c ∧ (c.desc.refOf false (bytesAt bs 0 (c.desc.dim * c.desc.elemBytes))).isNone = false ∧
    (m.p 8 8 = 0 ∨ bit c.desc.flags 0 = true))
    (fun m t => (t.coll! (collKey m.comp (m.p 0 2)) (fun x => { x with
      defaultRow := bytesAt bs 0 (c.desc.dim * c.desc.elemBytes), defaultPayload := m.p 8 8 })).done m [])) ∧
  (∀ c, Acts .epochInfo 0x0404 (fun m t => m.p 0 2 < 4096 ∧ m.p 2 6 = 0 ∧ t.coll (collKey m.comp (m.p 0 2)) = some c)
    (fun m t => t.done m (le 8 c.lastEpoch ++ le 8 (c.oldestRetained t.now (t.retention (collKey m.comp (m.p 0 2)) c))
      ++ le 8 ((minL (t.inFlight (collKey m.comp (m.p 0 2)))).getD max64) ++ le 2 (t.epochHome c.comp c.desc.span) ++ zeros 6))) ∧
  (∀ x bs, Acts (fun mb => .mapSet mb (some bs)) 0x0604 (fun m t => m.p 1 3 = 0 ∧ m.p 0 1 ≤ 63 ∧ t.comp (m.p 0 1) = some x ∧
    seqGe 32 (m.p 4 4) x.mapVersion = true ∧ m.p 4 4 ≠ x.mapVersion ∧
    ((List.range 4096).map (fun i => natAt bs (2 * i) 2)).any (fun h => decide (4096 ≤ h)) = false)
    (fun m t => (((((((t.comp! (m.p 0 1) (fun y => { y with
      mapVersion := m.p 4 4, homes := (List.range 4096).map (fun i => natAt bs (2 * i) 2), hasMap := true, prevVersion := y.mapVersion, hasPrev := true
      installNs := t.now })).rehome (m.p 0 1)).spanGrown t (m.p 0 1)).recheck t).done m []).resumeGathers (m.p 0 1)).resumeQueries (m.p 0 1) false).resumeWaits (m.p 0 1))) ∧
  (∀ s c, s.comp c = none → exec (.mapGraceExpiry c) s =
    .next (s)) ∧
  (∀ s c x, s.comp c = some x → exec (.mapGraceExpiry c) s =
    .next (let u := if x.hasPrev then s.reach (x.installNs + s.mapGrace) else s
      let late := u.search.upds.filter (fun p => decide (p.2.coll / 4096 = c) && decide (p.2.stage = .waitMap))
      (((late.foldl (fun t p => t.replan p.1) (late.foldl (fun t p => t.reach p.2.needNs) u)).resumeGathers c).resumeQueries c true).bounceWaits c))

/-- R86, R87, R104 to R110, R114, R163 to R172, R187, R415, R441: query batches, from admission to the reply. -/
def Obligations.SearchBatches : Prop :=
  (∀ c bs e, Acts (fun mb => .qryBatch mb (some bs)) 0x0301 (fun m t => 1 ≤ m.p 4 2 ∧ m.p 4 2 ≤ 16384 ∧ qryHeaderOk m m.len = true ∧
    t.coll (collKey m.comp (m.p 0 2)) = some c ∧ c.state = .online ∧ c.desc.dim * c.desc.elemBytes ≤ m.p 0xA 2 ∧
    m.p 2 2 * recordStride (m.p 4 2) ≤ m.p 0x20 8 ∧ t.pickEpoch (collKey m.comp (m.p 0 2)) c (m.p 0x28 8) = .run e ∧
    filterValid (Coll_definedBitmap c) (m.pb 0x40 32) = true)
    (fun m t => let key := collKey m.comp (m.p 0 2)
      let t1 := t.searchBoundary
      let qb := t1.newQBatch key t.nodeNo 0 (m.p 4 2) (m.p 6 2 % 8) e (m.p 0x18 8) (m.p 9 1) (admitQueries c m bs (t.mapVersion m.comp) (t.mapHomes m.comp c.desc.span) t.nodeNo)
      let r := t1.addBatch (some m) m.comp 0x0301 (t1.msgLevel m (m.p 8 1)) (m.p 0xC 4) .mergeSlots (some key) []
      let t2 := (r.2.batch! r.1 (fun y => { y with parent := none })).search! (fun x => { x with qbatches := Tbl.put r.1 qb x.qbatches })
      (t2.grantSlots r.1).finishStopped r.1)) ∧
  (∀ s b x q e c, s.batch b = some x → x.stage = .epochCheck → x.torn = none → s.qbatch b = some q → s.checkedEpoch b = q.readEpoch →
    (s.raiseStable (x.coll.getD 0) e).coll (x.coll.getD 0) = some c → q.readEpoch ≤ e →
    (s.raiseStable (x.coll.getD 0) e).retained (x.coll.getD 0) c q.readEpoch = true → exec (.readEpochCheckReply b (.stable e)) s =
    .next ((((s.raiseStable (x.coll.getD 0) e).batch! b (fun y => { y with stage := .mergeSlots })).grantSlots b).finishStopped b)) ∧
  (∀ s b x, s.batch b = some x → x.stage = .epochCheck → x.torn = none → exec (.readEpochCheckReply b .pathLost) s =
    .next (s.send (s.homeNode (x.coll.getD 0)) 1 (.epochCheck b (x.coll.getD 0) (s.checkedEpoch b)))) ∧
  (∀ s b x e c, s.batch b = some x → x.stage = .epochCheck → x.torn = none → (s.raiseStable (x.coll.getD 0) e).coll (x.coll.getD 0) = some c →
    e < s.checkedEpoch b → exec (.readEpochCheckReply b (.stable e)) s =
    .next (((s.epochRefused stBad).search! (fun y => { y with gathers := Tbl.erase b y.gathers, qbatches := Tbl.erase b y.qbatches })).replyBatch b stBad 0x000B [])) ∧
  (∀ s b x e c, s.batch b = some x → x.stage = .epochCheck → x.torn = none → (s.raiseStable (x.coll.getD 0) e).coll (x.coll.getD 0) = some c →
    s.checkedEpoch b ≤ e → (s.raiseStable (x.coll.getD 0) e).retained (x.coll.getD 0) c (s.checkedEpoch b) = false →
    exec (.readEpochCheckReply b (.stable e)) s =
    .next (((s.epochRefused stEpochRetired).search! (fun y => { y with gathers := Tbl.erase b y.gathers, qbatches := Tbl.erase b y.qbatches })).replyBatch b stEpochRetired 0 [])) ∧
  (∀ s b x e c, s.batch b = some x → x.stage = .epochCheck → x.torn = none → s.qbatch b = none →
    (s.raiseStable (x.coll.getD 0) e).coll (x.coll.getD 0) = some c → s.checkedEpoch b ≤ e →
    (s.raiseStable (x.coll.getD 0) e).retained (x.coll.getD 0) c (s.checkedEpoch b) = true → exec (.readEpochCheckReply b (.stable e)) s =
    .next ((((s.raiseStable (x.coll.getD 0) e).batch! b (fun y => { y with stage := .rootWait })).tryRoot b).serveGather b)) ∧
  (∀ s b, exec (.mergeSlotGrant b) s =
    .next ((s.grantSlots b).finishStopped b)) ∧
  (∀ s b, s.runs b = false → (s.tryRoot b).runs b = true → exec (.rootContextGrant b) s =
    .next ((s.tryRoot b).begin b)) ∧
  (∀ s b i qb q, s.qbatch b = some qb → s.query b i = some q → s.runs b = true → q.live = true → q.started = false → QBatch_ready qb i = true →
    q.needMap = none → qb.lead ≠ s.nodeNo → exec (.queryStart b i) s =
    .next (s.startLocal b i)) ∧
  (∀ s b i qb q c ns, s.qbatch b = some qb → s.query b i = some q → s.runs b = true → q.live = true → q.started = false →
    QBatch_ready qb i = true → q.needMap = none → qb.lead = s.nodeNo → s.qcoll qb.coll = some c →
    (if qb.localOnly then [s.nodeNo] else roundOne s.nodeNo qb.r1 (s.spanNodes c.comp c.desc.span) (fun n => (State.nodeBound c q.ref qb.readEpoch n).map (·.1))) = ns →
    exec (.queryStart b i) s =
    .next (let u := (s.query! b i (fun y => { y with started := true, done := !ns.contains s.nodeNo })).visit b i 1 ns
      if ns = [] then u.roundTwo b i
      else if ns.contains s.nodeNo && (match u.query b i with | some y => y.live | none => false) then u.startLocal b i else u)) ∧
  (∀ s (p : FanPart), s.judgeMap p.comp p.mapVersion = .hold → exec (.fanoutPartReceive p) s =
    .next (s.holdReq (.fanout p))) ∧
  (∀ s (p : FanPart), s.judgeMap p.comp p.mapVersion = .bounce → exec (.fanoutPartReceive p) s =
    .next (s.bounceFan p)) ∧
  (∀ s (p : FanPart) c d, s.judgeMap p.comp p.mapVersion = .accept → s.coll (collKey p.comp p.coll) = some d →
    (if d.lastEpoch < p.readEpoch then s.raiseStable (collKey p.comp p.coll) p.readEpoch else s).coll (collKey p.comp p.coll) = some c →
    (if d.lastEpoch < p.readEpoch then s.raiseStable (collKey p.comp p.coll) p.readEpoch else s).retained (collKey p.comp p.coll) c p.readEpoch = false →
    exec (.fanoutPartReceive p) s =
    .next (p.queries.foldl (fun t (q : Nat × Nat × List Byte × List Byte × Nat) => t.send p.lead 1 (.refused p.leadBatch q.1 stEpochRetired))
      ((if d.lastEpoch < p.readEpoch then s.raiseStable (collKey p.comp p.coll) p.readEpoch else s).epochRefused stEpochRetired))) ∧
  (∀ s (p : FanPart) c d, s.judgeMap p.comp p.mapVersion = .accept → s.coll (collKey p.comp p.coll) = some d →
    (if d.lastEpoch < p.readEpoch then s.raiseStable (collKey p.comp p.coll) p.readEpoch else s).coll (collKey p.comp p.coll) = some c →
    (if d.lastEpoch < p.readEpoch then s.raiseStable (collKey p.comp p.coll) p.readEpoch else s).retained (collKey p.comp p.coll) c p.readEpoch = true →
    exec (.fanoutPartReceive p) s =
    .next (let key := collKey p.comp p.coll
    let s2 := (if d.lastEpoch < p.readEpoch then s.raiseStable key p.readEpoch else s).searchBoundary
    let qs := p.queries.map (fun (q : Nat × Nat × List Byte × List Byte × Nat) =>
      { (Query.fresh q.1 q.2.1 0 ((c.desc.refQuery q.2.2.1).getD ⟨[], [], 0⟩) q.2.2.2.1 none q.2.2.2.2 p.mapVersion (bit p.flags 0) s.nodeNo) with vec := q.2.2.1 })
    let qb0 := s2.newQBatch key p.lead p.leadBatch p.k p.flags p.readEpoch 0 0 qs
    let qb : QBatch := { qb0 with noWarm := qb0.noWarm || decide (p.round = 2) }
    let r := s2.addBatch none p.comp 0x0301 p.level 0 .mergeSlots (some key) []
    let s3 := (r.2.search! (fun x => { x with qbatches := Tbl.put r.1 qb x.qbatches })).grantSlots r.1
    if s3.runs r.1 then (List.range (Nat.min 32 qs.length)).foldl (fun t i => t.startLocal r.1 i) s3 else s3)) ∧
  (∀ s b i slot qb q c x z, s.qbatch b = some qb → s.query b i = some q → s.runs b = true → q.live = true → s.qcoll qb.coll = some c →
    Query_next q = some x → Tbl.find slot c.slots = some z → x.slot = slot → s.readWaits (s.refLun c slot) .demand = false → z.damaged = false →
    exec (.rescoreComplete b i slot false) s =
    .next ((match s.refLun c slot with | some l => s.chargeRead b l | none => s).absorbRow b i qb c x z)) ∧
  (∀ s b i slot qb q c x z, s.qbatch b = some qb → s.query b i = some q → s.runs b = true → q.live = true → s.qcoll qb.coll = some c →
    Query_next q = some x → Tbl.find slot c.slots = some z → x.slot = slot → s.readWaits (s.refLun c slot) .demand = false → z.damaged = true →
    exec (.rescoreComplete b i slot false) s =
    .next (((match s.refLun c slot with | some l => s.chargeRead b l | none => s).dropDamaged qb.coll).rethreshold b i)) ∧
  (∀ s b i slot qb q c x z, s.qbatch b = some qb → s.query b i = some q → s.runs b = true → q.live = true → s.qcoll qb.coll = some c →
    Query_next q = some x → Tbl.find slot c.slots = some z → x.slot = slot → s.readWaits (s.refLun c slot) .demand = false → attBase ≤ qb.coll →
    exec (.rescoreComplete b i slot true) s =
    .next ((match s.refLun c slot with | some l => s.chargeRead b l | none => s).poisonObj (qb.coll - attBase))) ∧
  (∀ s b i qb q, s.qbatch b = some qb → s.query b i = some q → s.runs b = true → Query_localDone q = true → q.overRaised qb.k = true →
    exec (.queryLocalComplete b i) s =
    .next (((s.haltLanes b i).query! b i (fun y => y.again qb.aggExp s.nodeNo)).startLocal b i)) ∧
  (∀ s b i qb q c, s.qbatch b = some qb → s.query b i = some q → s.runs b = true → Query_localDone q = true → q.overRaised qb.k = false →
    s.qcoll qb.coll = some c → qb.lead ≠ s.nodeNo → exec (.queryLocalComplete b i) s =
    .next (let p := QBatch_list qb q s.nodeNo c.id
      let bs := p.bytes q.leadTag (decide (c.desc.nOut ≠ 0))
      ((((((((s.haltLanes b i).query! b i (fun y => { y with done := true })).countSelection qb.k p.damagedExtra).freeSlotOf b i).send qb.lead 2 (.topk q.leadTag p)).fwOp (qb.coll / 4096) 5 2 qb.lead 0xE 3 q.leadTag 0 bs.length bs).count Reg.SND_CNT0 0 1).query! b i (fun y => { y with complete := true, cands := [], sweep := [] })).batchOver b)) ∧
  (∀ s b i qb q c, s.qbatch b = some qb → s.query b i = some q → s.runs b = true → Query_localDone q = true → q.overRaised qb.k = false →
    s.qcoll qb.coll = some c → qb.lead = s.nodeNo → exec (.queryLocalComplete b i) s =
    .next ((((s.haltLanes b i).query! b i (fun y => { y with done := true })).countSelection qb.k (QBatch_list qb q s.nodeNo c.id).damagedExtra).mergeList (s.mergeTag q.slot q.idx) (QBatch_list qb q s.nodeNo c.id))) ∧
  (∀ s tag l, exec (.topkMerge tag l) s =
    .next (s.mergeList tag l)) ∧
  (∀ s b i qb q, s.qbatch b = some qb → s.query b i = some q → qb.lead = s.nodeNo → s.runs b = true → q.complete = false → q.round = 2 →
    q.expect = [] → exec (.queryComplete b i none) s =
    .next (s.finishQuery b i)) ∧
  (∀ s b i qb q, s.qbatch b = some qb → s.query b i = some q → qb.lead = s.nodeNo → q.complete = false → q.status = none →
    q.expect.any (fun n => decide (n ≠ s.nodeNo)) = true → exec (.peerTimeout b i) s =
    .next ((s.reach q.deadline).stopQuery b i stPeerLost)) ∧
  (∀ s b i v qb q, s.qbatch b = some qb → s.query b i = some q → qb.lead = s.nodeNo → q.complete = false → q.visited ≠ [] → q.status = none →
    q.needMap = none → q.reroutes < 2 → seqGe 32 (s.mapVersion (qb.coll / 4096)) v = false → exec (.queryReroute b i v) s =
    .next ((s.haltLanes b i).query! b i (fun y => { y with needMap := some v, expect := [], walk := none, round := 0 })))

/-- R131, R133, R135, R137, R143: the walk of a query, and Braid's linking and repair. -/
def Obligations.WalksAndLinks : Prop :=
  (∀ s b i y w, s.query b i = some y → y.walk = some w → s.runs b = true → y.live = true → s.now < w.deadline → exec (.walkRound b i) s =
    .next (s.walkRound b i w)) ∧
  (∀ s b i y w, s.query b i = some y → y.walk = some w → exec (.walkTimeout b i) s =
    .next (((((s.reach w.deadline).query! b i (fun y => { y with walk := none })).count Reg.BRD_CNT0 0 1).count Reg.BRD_CNT0 2 1))) ∧
  (∀ s e r rest, e < 4 → s.search.linkQ = r :: rest → exec (.linkSlot e) s =
    .next ((s.search! (fun x => { x with linkQ := rest })).linkSlot r.coll r.slot)) ∧
  (∀ s k c, s.coll k = some c →
    (Tbl.keys c.reaches).flatMap (fun r => ((c.slotsOf r).filter (fun z => decide (z.2.link = .pending))).map (fun z => (r, z.1))) = [] →
    exec (.linkScan k) s =
    .next (s)) ∧
  (∀ s k c r i, s.coll k = some c →
    (Tbl.keys c.reaches).flatMap (fun r => ((c.slotsOf r).filter (fun z => decide (z.2.link = .pending))).map (fun z => (r, z.1))) = [(r, i)] →
    s.search.linkQ.length < 524288 → exec (.linkScan k) s =
    .next (s.queueLink k i)) ∧
  (∀ s e, e < 4 → (s.search.repairQ.find? (fun r => match (s.coll r.coll).bind (fun c => Tbl.find r.slot c.reaches) with
      | some y => decide (y.cell / 128 = e)
      | none => decide (e = 0))) = none → exec (.repairReach e) s =
    .next (s)) ∧
  (∀ s e r, e < 4 → (s.search.repairQ.find? (fun r => match (s.coll r.coll).bind (fun c => Tbl.find r.slot c.reaches) with
      | some y => decide (y.cell / 128 = e)
      | none => decide (e = 0))) = some r → exec (.repairReach e) s =
    .next ((s.repairReach r.coll r.slot).search! (fun x => { x with repairQ := x.repairQ.filter (fun y => decide (y ≠ r)) })))

/-- Table MRC-8, R272 to R307, R603: the commands of a Millrace cell, and its tokens and bundles. -/
def Obligations.CellCommands : Prop :=
  (∀ s n off bs, n < 512 → s.host.nodeState = .boot → bs.length ≤ 2048 → off + bs.length ≤ 65536 → exec (.cellProg n off bs) s =
    .next (s.cell! n (fun c => { c with
      program := (c.program ++ zeros (off - c.program.length)).take off ++ bs ++ c.program.drop (off + bs.length) }))) ∧
  (∀ s n l b i q, n < 512 → l < 32 → s.query b i = some q →
    ((s.cell n).issues.any (fun i => i.lanes.contains l) || (s.cell n).queue.any (fun r => decide (r.lane = some l))) = false → q.live = true →
    q.started = true → s.runs b = true → exec (.qload n l b i) s =
    .next (s.cell! n (fun c => { c with lanes := Tbl.put l ⟨b, i, q.theta, BoundPart.empty, 0, s.loadCodes n b q⟩ c.lanes }))) ∧
  (∀ s n k r mask e c j first qb l0 ls, n < 512 → s.qcoll k = some c →
    ((s.cell n).lanes.filter (fun l => bit mask l.1)).head? = some (j, first) → s.qbatch first.batch = some qb →
    issueLanes (s.cell n) qb first r mask = l0 :: ls → issueUse (s.cell n) qb first r mask (issueWidth qb r l0.2) ≠ [] → qb.coll = k →
    qb.readEpoch = e → s.runs first.batch = true → (QBatch_groupLive qb first.query).all (fun q => q.started && q.walk.isNone) = true →
    nextReach c (QBatch_groupLive qb first.query) n = some r → exec (.reachIssue n k r mask e) s =
    .next (let width := issueWidth qb r l0.2
      let use := issueUse (s.cell n) qb first r mask width
      let s1 := use.foldl (fun t l => t.query! first.batch l.2.query (fun q => { q with
        sweep := q.sweep.map (fun w => if w.reach = r then { w with issued := true } else w) })) (s.count Reg.SND_CNT0 2 1)
      let down := !s.stackUp 2 (n / 128)
      if (s.cell n).fenced ∨ down then (use.foldl (fun t l => t.rillScan first.batch l.2.query c r width down) s1).cell! n (fun y => { y with
        lanes := y.lanes.map (fun l => (l.1, if width.isSome ∧ use.any (fun u => decide (u.1 = l.1)) then { l.2 with codes := .spent } else l.2)) })
      else
        let rest := ((c.slotsOf r).filter (fun z => match width with | some w => decide (z.2.width = w) | none => true)).map (·.1)
        let masked := use.map (fun l => (l.1, match qb.queries[l.2.query]? with | some q => maskedOf c q r | none => []))
        s1.cell! n (fun y => ({ y with issues := y.issues ++ [⟨k, r, e, use.map (·.1), rest, width, masked, [], none, 0⟩] } : Cell).settled))) ∧
  (∀ s n l v, n < 512 → exec (.thetaPush n l v) s =
    .next (s.cell! n (fun c => { c with lanes := Tbl.upd l (fun l => { l with key := Nat.max l.key (Nat.min (v % 2 ^ 32) (match s.query l.batch l.query with | some y => y.theta | none => 0)) }) c.lanes }))) ∧
  (∀ s n, n < 512 → s.drainTurn n = false → exec (.outRead n) s =
    .next (s)) ∧
  (∀ s n, n < 512 → s.drainTurn n = true → exec (.outRead n) s =
    .next (let d := s.drain (s.cell n).lanes ((s.cell n).queue.take 4) 0
    let out := (s.cell n).queue.take d.1
    let s2 := (d.2.cell! n (fun c => ({ c with queue := c.queue.drop d.1, beats := out.flatMap CellRec.bytes } : Cell).settled)).mrc! (fun y => { y with
        hbmStacks := updAt y.hbmStacks (n / 128) (fun k => { k with lastRead := Tbl.put (n % 128 / 4) (n % 4) k.lastRead }) })
    (dedup (out.filterMap CellRec.lane)).foldl (fun t l => match Tbl.find l (s.cell n).lanes with | some ln => t.rethreshold ln.batch ln.query | none => t) s2)) ∧
  (∀ s n op, n < 512 → (s.cell n).fenced = true → exec (.rowop n op) s =
    .next (s)) ∧
  (∀ s n op, n < 512 → (s.cell n).fenced = false → s.rowLegal n op = false → exec (.rowop n op) s =
    .next (s.rowDone n op)) ∧
  (∀ s n op, n < 512 → (s.cell n).fenced = false → s.rowLegal n op = true → exec (.rowop n op) s =
    .next (s.cell! n (fun c => ({ c with ops := c.ops ++ [op] } : Cell).settled))) ∧
  (∀ s k p sl b, exec (.planeBits k p sl b) s =
    .next (s.coll! k (fun c => if (Tbl.find p c.planes).isSome ∨ p < 2 then c.planeBits p sl b else c))) ∧
  (∀ s k b, k < 512 * (groupRows / 16) → s.classOf k = b → exec (.rctSet k b) s =
    .next (s)) ∧
  (∀ s k b, k < 512 * (groupRows / 16) → s.classOf k ≠ b → s.groupUsed (k / (groupRows / 16)) = false → exec (.rctSet k b) s =
    .next (if (s.cell (k / (groupRows / 16))).bundle.isSome then s.mrc! (fun x => { x with pendingRct := x.pendingRct ++ [(k, b)] }) else s.setClass k b)) ∧
  (∀ s k b, k < 512 * (groupRows / 16) → s.classOf k ≠ b → s.groupUsed (k / (groupRows / 16)) = true → exec (.rctSet k b) s =
    .next (if s.free.1 % 2 = 1 then s.free.2
      else if (s.cell (k / (groupRows / 16))).bundle.isSome then s.free.2.mrc! (fun x => { x with pendingRct := x.pendingRct ++ [(k, b)] }) else s.free.2.setClass k b)) ∧
  (∀ s n mask, n < 512 → exec (.cellHalt n mask) s =
    .next (let lanes := (Tbl.keys (s.cell n).lanes).filter (fun l => bit mask l)
    let s1 := (s.cell n).issues.foldl (fun t i => t.abandon n i (i.lanes.filter (fun l => lanes.contains l))) s
    let s2 := (s.cell n).queue.foldl (fun t r => match r with
      | .tally l reach _ _ => (match Tbl.find l (s.cell n).lanes with
        | some ln => if lanes.contains l then t.query! ln.batch ln.query (fun q => { q with
            sweep := q.sweep.map (fun w => if w.reach = reach ∧ !w.finished then { w with issued := false } else w) }) else t
        | none => t)
      | _ => t) s1
    s2.cell! n (fun c => ({ c with
      lanes := c.lanes.filter (fun l => !lanes.contains l.1)
      queue := c.queue.map (fun r => match r with
        | .cand l _ _ _ _ _ _ => if lanes.contains l then .gone else r
        | .tally l _ _ _ => if lanes.contains l then .gone else r
        | .gone => r) } : Cell).settled))) ∧
  (∀ s n, n < 512 → exec (.cellStatus n) s =
    .next (s.cell! n (fun c => { c with
    beats := le 1 (if c.fenced then 2 else if c.bundle.isSome then 1 else 0) ++ le 2 c.queue.length ++ le 1 (b2n c.token) ++ zeros 28 }))) ∧
  (∀ s t k i g, k < 4 → s.boundary (Reg.MRC_QUOTA0 + 8 * k) 0 8 k = t → t.tokens k < t.effective k → t.mrc.hbmStacks[k]? = some g →
    ((List.range 128).map (fun i => (g.lastGrant + 1 + i) % 128)).find? (fun i => (t.cell (128 * k + i)).waiting) = some i → exec (.tokenGrant k) s =
    .next ((t.cell! (128 * k + i) (fun c => { c with token := true, waiting := false })).mrc! (fun x => { x with
      hbmStacks := updAt x.hbmStacks k (fun y => { y with lastGrant := i }) }))) ∧
  (∀ s n, n < 512 → (s.cell n).token = true → (s.cell n).bundle = none → (s.cell n).ordinary = [] → (s.cell n).fenced = false →
    (s.cell n).draining = false → exec (.bundleStart n) s =
    .next (((s.boundary Reg.MRC_CFG 0 8 n).boundary Reg.MRC_CFG 16 16 n).cell! n (fun c => { c with bundle := some s.now }))) ∧
  (∀ s n rows f, n < 512 → (s.cell n).bundle = none → exec (.bundleEnd n rows f) s =
    .next (s.serveAll n)) ∧
  (∀ s n rows f t0 t, n < 512 → (s.cell n).bundle = some t0 → s.cellCheck n f = some t → exec (.bundleEnd n rows f) s =
    .next ((t.lateRct n).serveAll n)) ∧
  (∀ s n rows f t0, n < 512 → (s.cell n).bundle = some t0 → s.cellCheck n f = none → exec (.bundleEnd n rows f) s =
    .next (let u := ((((s.bundleDo n rows f).mrcCount n 0 1).cell! n (fun c => ({ c with token := false, bundle := none } : Cell).settled)).lateRct n).serveAll n
    match (match (s.cell n).ops, (s.cell n).issues with | [], i :: _ => (Tbl.find (i.lanes.headD 0) (s.cell n).lanes).map (·.batch) | _, _ => none) with
    | some b => u.chargeCell b (Nat.min (s.bundleLimits n).2 (s.now - t0))
    | none => u))

/-- R214, R215, R220, R228, R240: attention objects, and the report and the drop of any object. -/
def Obligations.AttentionAndObjects : Prop :=
  (Acts .attCreate 0x0501 (fun m t => Tbl.has (objKey m.comp (m.p 0 2)) t.slc.objs = false ∧ t.slc.objs.length < 16384 ∧
    AttObj.reason ⟨m.pb 0 64, [], List.replicate (m.p 2 2) 0, [], []⟩ = 0)
    (fun m t => (t.slc! (fun x => { x with
      objs := Tbl.put (objKey m.comp (m.p 0 2)) ⟨.attention ⟨m.pb 0 64, [], List.replicate (m.p 2 2) 0, [], []⟩, 0, [], false, none, [], none⟩ x.objs })).done m [])) ∧
  (∀ o a bs u, Acts (fun mb => .attAppend mb (some bs)) 0x0502 (fun m t => t.liveObj m.comp (m.p 0 2) = some o ∧ o.kind = .attention a ∧
    m.p 2 2 = 0 ∧ o.poisoned = false ∧ a.length + m.p 4 4 ≤ a.maxToks ∧
    (appendToks a.headDim (m.p 4 4) bs).any (fun x => ((bf16s a.headDim x.1).map bf16to32).any (fun v => !ffinite v) || !a.valueOk x.2) = false ∧
    (t.allocate m.comp 0 (sumL (((appendToks a.headDim (m.p 4 4) bs).map (fun x => a.token x.1 x.2)).map a.tokBytes))).bind (fun u => u.allocate m.comp 1 (2 * a.headDim * m.p 4 4)) = some u)
    (fun m t => let k := objKey m.comp (m.p 0 2)
      let toks := (appendToks a.headDim (m.p 4 4) bs).map (fun x => a.token x.1 x.2)
      let v := toks.foldl (fun (w : State) x => w.att! k (fun b => b.push (w.nextCell (attView m.comp b)) x)) u
      (v.obj! k (fun o => { o with bytes := o.bytes + sumL (toks.map a.tokBytes) + 2 * a.headDim * m.p 4 4 })).done m (le 4 (a.length + m.p 4 4) ++ le 4 0))) ∧
  (∀ o a bs, Acts (fun mb => .attQuery mb (some bs) none) 0x0503 (fun m t => 1 ≤ m.p 4 2 ∧ m.p 4 2 ≤ 16384 ∧ bit (m.p 6 1) 1 = false ∧
    t.liveObj m.comp (m.p 0 2) = some o ∧ o.kind = .attention a ∧ attHeaderOk a m = true ∧ o.poisoned = false ∧ m.p 8 4 ≤ a.length ∧ a.length ≠ 0)
    (fun m t => let key := objKey m.comp (m.p 0 2)
      let t1 := t.searchBoundary
      let qb : QBatch := { (t1.newQBatch (attBase + key) t.nodeNo 0 (m.p 4 2) 7 a.length (m.p 0x18 8) 1 (attQueries a m bs [] t.nodeNo)) with
        att := some (a.headDim, bit (m.p 6 1) 0) }
      let r := t1.addBatch (some m) m.comp m.opcode (t1.msgLevel m (m.p 7 1)) (m.p 0xC 4) .mergeSlots none [key]
      ((r.2.search! (fun x => { x with qbatches := Tbl.put r.1 qb x.qbatches })).grantSlots r.1).finishStopped r.1)) ∧
  (∀ o, Acts .objDrop 0x0504 (fun m t => t.objLoading m.comp (m.p 0 2) = false ∧ m.p 2 6 = 0 ∧ t.liveObj m.comp (m.p 0 2) = some o)
    (fun m t => t.obj! (objKey m.comp (m.p 0 2)) (fun o => { o with dropMsg := some m }))) ∧
  (∀ s k o m, Tbl.find k s.slc.objs = some o → o.dropMsg = some m → s.slc.batches.any (fun b => b.2.objs.contains k) = false →
    o.mirroring = false → exec (.objDropComplete k) s =
    .next ((s.freeObj k).done m [])) ∧
  (∀ o, Acts .objInfo 0x0508 (fun m t => t.objLoading m.comp (m.p 0 2) = false ∧ m.p 2 6 = 0 ∧ t.liveObj m.comp (m.p 0 2) = some o)
    (fun m t => t.done m (le 1 (match o.kind with | .attention _ => 0 | .weight _ => 1 | .buffer _ => 2 | .refExtent _ => 3)
      ++ le 1 (b2n o.poisoned + (match o.kind with | .weight w => 2 * b2n w.mirror.isSome + 4 * b2n w.mirrorLost | _ => 0)) ++ le 2 0
      ++ le 4 (match o.kind with | .attention a => a.length | _ => 0) ++ le 8 o.bytes ++ (match o.kind with | .attention a => a.vabs.flatMap (fun v => le 4 v.toNat) | _ => [])))) ∧
  (∀ s mb m t, mb ≤ 64 → s.next? mb 0x0508 = some (m, t) → t.objLoading m.comp (m.p 0 2) = true → exec (.objInfo mb) s =
    .next (s.checkDestroy m.comp)) ∧
  (∀ s mb m t, mb ≤ 64 → s.next? mb 0x0504 = some (m, t) → t.objLoading m.comp (m.p 0 2) = true → exec (.objDrop mb) s =
    .next (s.checkDestroy m.comp))

/-- R230, R233, R235 to R239, R244, R265, R268, R436: weight objects and their mirrors, kernels, and model runs. -/
def Obligations.WeightsAndModels : Prop :=
  (∀ bs peer w, Acts (fun mb => .weightLoad mb (some bs) peer) 0x0505 (fun m t => t.objLoading m.comp (m.p 0 2) = false ∧
    (bit (m.p 2 1) 0 && !m.admin) = false ∧ m.p 0 2 ≠ 0xFFFF ∧ m.p 2 1 ≤ 1 ∧ m.p 3 1 ≤ 2 ∧ m.p 6 2 = 0 ∧
    Tbl.has (objKey m.comp (m.p 0 2)) t.slc.objs = false ∧ t.slc.objs.length < 16384 ∧
    (bit (m.p 2 1) 0 && !t.mirrorAllowed m.comp peer) = false ∧ (bit (m.p 2 1) 0 && !t.reachable (m.p 4 2)) = false ∧
    imageReason (bs.take (m.p 0x10 8)) (m.p 0x10 8) = 0 ∧ t.weightBytes (bs.take (m.p 0x10 8)) = w)
    (fun m t => let k := objKey m.comp (m.p 0 2)
      match w.2.placeWeight m.comp (m.p 0 2) (m.p 3 1) (64 + 32 * natAt (bs.take (m.p 0x10 8)) 4 2) (bs.take (m.p 0x10 8)) w.1 with
      | none => t.refuse m rCapacity
      | some (tier, ext, u) =>
        let wo : WeightObj := ⟨none, false, tier, [], if bit (m.p 2 1) 0 then some (m.p 4 2, m) else none, if bit (m.p 2 1) 0 then some m else none⟩
        let u1 := u.slc! (fun x => { x with objs := Tbl.put k ⟨.weight wo, w.1.length, Mem.writeBytes [] 0 w.1, false, none, [], ext⟩ x.objs })
        let u2 := match ext with
          | some e => u1.delta! (fun d => { d with extents := Tbl.upd e (fun y => { y with attached := some k }) d.extents })
          | none => u1
        if bit (m.p 2 1) 0 then u2.mirrorWrite k (m.p 4 2) else u2.done m [])) ∧
  (∀ peer o w, Acts (fun mb => .weightMirror mb peer) 0x0507 (fun m t => t.objLoading m.comp (m.p 0 2) = false ∧ w.mirror.isNone = false ∧
    m.p 2 2 = 0 ∧ m.p 6 2 = 0 ∧ t.liveObj m.comp (m.p 0 2) = some o ∧ o.kind = .weight w ∧ t.mirrorAllowed m.comp peer = true ∧
    t.reachable (m.p 4 2) = true ∧ w.pendingMirror = none ∧ o.poisoned = false)
    (fun m t => (t.obj! (objKey m.comp (m.p 0 2)) (fun o => { o with kind := .weight { w with pendingMirror := some (m.p 4 2, m) } })).mirrorWrite (objKey m.comp (m.p 0 2)) (m.p 4 2))) ∧
  (∀ s k tile o w, Tbl.find k s.slc.objs = some o → o.kind = .weight w → Tbl.has tile w.refetch = true → exec (.mirrorRefetchComplete k tile true) s =
    .next (((s.obj! k (fun o => { o with injected := o.injected.filter (fun x => decide (x.2 / 65536 ≠ tile)) })).rewriteTile o tile).releaseTile k tile)) ∧
  (∀ s k tile o w, Tbl.find k s.slc.objs = some o → o.kind = .weight w → Tbl.has tile w.refetch = true →
    exec (.mirrorRefetchComplete k tile false) s =
    .next (s.poisonObj k)) ∧
  (∀ s k o w u, Tbl.find k s.slc.objs = some o → o.kind = .weight w → minL (w.refetch.map (·.2)) = some u → exec (.mirrorRefetchTimeout k) s =
    .next ((s.reach u).poisonObj k)) ∧
  (∀ dma hs, Acts (fun mb => .modelRun mb dma) 0x0506 (fun m t => (modelWeights m).any (fun id => t.objLoading m.comp id) = false ∧
    modelHeaderOk m = true ∧ (t.kernel m.comp (m.p 0 4)).isNone = false ∧
    ((modelWeights m).map (fun id => t.liveObj m.comp id)).all (fun o => match o with | some o => (match o.kind with | .weight _ => true | _ => false) | none => false) = true ∧
    ((modelWeights m).map (fun id => t.liveObj m.comp id)).any (fun o => match o with | some o => o.poisoned | none => false) = false ∧
    (if decide (m.p 0x28 8 ≠ 0) = true then dma else some []) = some hs)
    (fun m t => let r := t.free.2.addBatch (some m) m.comp m.opcode (t.free.2.msgLevel m (m.p 7 1)) (m.p 0x30 4) .rootWait none ((modelWeights m).map (objKey m.comp))
      let t1 := r.2.batch! r.1 (fun x => { x with chain := if decide (m.p 0x28 8 ≠ 0) = true then some hs else none, stageAt := t.free.1 * 64 % 2 ^ 64 })
      let t2 := t1.tryRoot r.1
      if t2.runs r.1 then t2.startModel r.1 else t2)) ∧
  (∀ i g bs, Acts (fun mb => .kernelLoad mb (some bs)) 0x0509 (fun m t => m.p 0 8 = 0 ∧
    (t.slc.kernels.filter (fun k => decide (k.2.comp = m.comp))).length < 256 ∧ t.slc.kernels.length < 4096 ∧ t.kernelSlot = some (i, g))
    (fun m t => if kernelImageOk (bs.take (m.p 0x10 8)) then (t.slc! (fun x => { x with
      kernels := Tbl.put i ⟨m.comp, g, (bs.take (m.p 0x10 8)).take (64 + natAt (bs.take (m.p 0x10 8)) 8 4), none⟩ x.kernels })).done m (le 4 (g * 65536 + i) ++ le 4 0)
      else t.refuse m rImage)) ∧
  (∀ k, Acts .kernelDrop 0x050A (fun m t => t.kernel m.comp (m.p 0 4) = some k ∧ m.p 4 4 = 0)
    (fun m t => (t.slc! (fun x => { x with kernels := Tbl.upd (m.p 0 4 % 65536) (fun k => { k with dropMsg := some m }) x.kernels })).freeKernels))

/-- R425, R430, R434, R435, R438, R453, R598: compositions, charging and semaphores. -/
def Obligations.Compositions : Prop :=
  (Acts .compCreate 0x0601 (fun m t => sliceFieldsOk (m.pb 0 64) = true ∧ t.comp (m.p 0 1) = none ∧ t.sliceConflict (m.pb 0 64) = false)
    (fun m t => ((t.slc! (fun x => { x with
      comps := Tbl.put (m.p 0 1) ⟨m.pb 0 64, 0, [], false, 0, false, 0, 0, 0, 0, none, none, natAt (m.pb 0 64) 1 1 % 8⟩ x.comps
      meters := Tbl.put (m.p 0 1) [0, 0, 0, 0, 0] x.meters })).done m []).box! (m.p 0 1) (fun x => { x with state := .free }))) ∧
  (∀ x, Acts .compModify 0x0602 (fun m t => sliceFieldsOk (m.pb 0 64) = true ∧ t.comp (m.p 0 1) = some x ∧ natAt (m.pb 0 64) 2 2 = x.tenant ∧
    t.sliceConflict (m.pb 0 64) = false ∧ t.belowUse (m.p 0 1) x (m.pb 0 64) = false ∧ x.modify = none)
    (fun m t => (t.comp! (m.p 0 1) (fun y => { y with slice := m.pb 0 64, modify := some m })).settleModify (m.p 0 1))) ∧
  (∀ x, Acts .compDestroy 0x0603 (fun m t => m.p 1 7 = 0 ∧ m.p 0 1 ≤ 63 ∧ t.comp (m.p 0 1) = some x ∧ x.destroy = none)
    (fun m t => ((t.comp! (m.p 0 1) (fun y => { y with destroy := some m })).box! (m.p 0 1) (fun y => { y with state := .closed, window := [] })).checkDestroy (m.p 0 1))) ∧
  (∀ x, Acts .compInfo 0x0605 (fun m t => m.p 1 7 = 0 ∧ m.p 0 1 ≤ 63 ∧ m.admin = true ∧ t.comp (m.p 0 1) = some x)
    (fun m t => t.done m (x.slice ++ (List.range 5).flatMap (fun i => le 8 ((Tbl.getD (m.p 0 1) [0, 0, 0, 0, 0] t.slc.meters).getD i 0 / 1000)) ++ le 4 x.mapVersion ++ le 4 x.prevVersion
      ++ [t.usableMill, t.usableBasin, t.usableFlash, 2560, t.basinFrames].flatMap (fun v => le 8 v)))) ∧
  (Acts .chargeLog 0x0606 (fun m t => m.p 4 4 = 0 ∧ m.p 8 8 % 64 = 0)
    (fun m t => ((t.slc! (fun x => { x with
      produced := 0, chargeLog := if m.p 0 4 = 0 then none else some ⟨m.p 0 4, m.p 8 8⟩ })).setFld Reg.SLC_CHARGE 0 32 0).done m [])) ∧
  (Acts .semInit 0x0607 (fun m t => m.p 1 1 = 0 ∧ m.p 6 2 = 0 ∧ Tbl.find (subKey m.comp (m.p 0 1)) t.slc.sems = none)
    (fun m t => (t.slc! (fun x => { x with
      sems := Tbl.put (subKey m.comp (m.p 0 1)) ⟨m.p 2 2, m.p 4 2, false, [], []⟩ x.sems })).done m []))

/-- R444 to R449: pipelines, their runs, and handing a run to the next stage's node. -/
def Obligations.Pipelines : Prop :=
  (∀ st, Acts (fun mb => .pipeDefine mb []) 0x0608 (fun m t => m.p 1 1 = 1 ∧ m.p 2 6 = 0 ∧ m.p 10 2 = 0 ∧ m.p 18 2 = 0 ∧ 24 ≤ m.len ∧
    stagesOf 1 (m.payload.drop 8) = [st] ∧ st.stateBytes % 64 = 0 ∧ 64 ≤ st.stateBytes ∧ st.stateBytes ≤ 2 ^ 24 ∧ st.node = t.nodeNo ∧
    t.nodeNo < 4096)
    (fun m t => (t.slc! (fun x => { x with
      pipes := Tbl.put (subKey m.comp (m.p 0 1)) ⟨[st], t.stageSlots m.comp st⟩ x.pipes })).done m [])) ∧
  (∀ p bs, Acts (fun mb => .pipeRun mb (some bs)) 0x0609 (fun m t => priorityOk (m.p 1 1) = true ∧
    Tbl.find (subKey m.comp (m.p 0 1)) t.slc.pipes = some p ∧ m.p 0x10 8 ≤ (p.stages.getD 0 ⟨0, 0, 0, 0⟩).stateBytes ∧
    m.p 0x20 8 ≤ (p.stages.getD 0 ⟨0, 0, 0, 0⟩).stateBytes ∧ p.count ≠ 0)
    (fun m t => let key := subKey m.comp (m.p 0 1)
      let r := t.addBatch (some m) m.comp m.opcode (t.msgLevel m (m.p 1 1)) (m.p 4 4) .pipeSlot none []
      let run : PipeRun :=
        { batch := r.1, pipe := key, comp := m.comp, slot := none, phase := .wait, stage := 0, stages := p.stages, nItems := m.p 2 2, tag := m.p 4 4,
          level := t.msgLevel m (m.p 1 1), home := t.nodeNo, homeRun := r.1, outAddr := m.p 0x18 8, outLen := m.p 0x20 8, input := bytesAt bs 0 (m.p 0x10 8),
          receiver := 0, epoch := 0, offers := 0, deadline := 0 }
      ((r.2.slc! (fun x => { x with runs := Tbl.put r.1 run x.runs })).word! r.1 (ownWord 0 t.nodeNo 0)).fillSlots key)) ∧
  (∀ s r x, s.run r = some x → x.phase = .run → s.runs x.batch = true → s.slc.tasks.any (fun t => decide (t.2.batch = x.batch)) = false →
    x.nextStage.node ≠ s.nodeNo → exec (.pipeStageDone r) s =
    .next (s.pushState r)) ∧
  (∀ s r x, s.run r = some x → x.phase = .push → s.trib.ops.any (fun o => decide (o.2.fw = 5) && decide (o.2.localAt = r)) = false →
    exec (.handoverOffer r) s =
    .next (let o := PipeRun_offer x s.nodeNo r (s.mapVersion x.comp)
    let s1 := (s.word! r (ownWord 1 x.receiver o.epoch)).run! r (fun y => { y with
      phase := .offered, offers := y.offers + 1, deadline := s.now + us (orIfZero (s.fld Reg.SLC_TIMING 16 16) 1) })
    (s1.send x.receiver 1 (.offer r o.epoch x.comp)).fwOp x.comp 4 1 x.receiver 0xC 3 r 0 (o.bytes (s.tenantOf x.comp)).length (o.bytes (s.tenantOf x.comp)))) ∧
  (∀ s i old o, s.slc.offers[i]? = some o → s.judgeMap o.comp o.mapVersion = .accept → s.ctxAllowed o.comp = true →
    BitVec.ofNat 64 old = ownWord 1 s.nodeNo o.epoch → exec (.handoverAccept i old) s =
    .next (((s.slc! (fun x => { x with offers := x.offers.eraseIdx i })).send o.fromNode 1 (.acceptCas o.word o.epoch)).own o)) ∧
  (∀ s r x, s.run r = some x → x.phase = .offered → (s.reach x.deadline).word r = ownWord 1 x.receiver (x.epoch + 1) → x.offers < 3 →
    exec (.handoverTimeout r) s =
    .next ((((s.reach x.deadline).word! r (ownWord 0 s.nodeNo (x.epoch + 2))).run! r (fun y => { y with epoch := (y.epoch + 2) % 2 ^ 32 })).pushState r))

/-- R316, R320, R324, R325, R333 to R336, R341, R413: Ferry's moves, fills and ages, and the buffers that a mailbox allocates. -/
def Obligations.FerryMoves : Prop :=
  (∀ u, Acts .bufAlloc 0x050B (fun m t => m.p 2 6 = 0 ∧ m.p 0x11 7 = 0 ∧ m.p 0 2 ≠ 0xFFFF ∧ 65536 ≤ m.p 8 8 ∧ m.p 8 8 ≤ 64 * 2 ^ 30 ∧
    m.p 8 8 % 65536 = 0 ∧ m.p 0x10 1 ≤ 15 ∧ Tbl.has (objKey m.comp (m.p 0 2)) t.slc.objs = false ∧ t.slc.objs.length < 16384 ∧
    t.allocate m.comp 1 (m.p 8 8) = some u)
    (fun m t => (u.slc! (fun x => { x with
      objs := Tbl.put (objKey m.comp (m.p 0 2)) ⟨.buffer 1, m.p 8 8, [], false, none, [], none⟩ x.objs })).done m [])) ∧
  (∀ o w, Acts .objPrefetch 0x050C (fun m t => Tbl.find (objKey m.comp (m.p 0 2)) t.slc.objs = some o ∧ o.loading = false ∧ o.dropMsg = none ∧
    o.kind = .weight w ∧ m.p 2 6 = 0 ∧ m.p 8 8 + m.p 0x10 8 ≤ o.bytes ∧ o.poisoned = false)
    (fun m t => ((pagesOf (m.p 8 8) (m.p 0x10 8)).foldl (fun u p => u.prefetchPage (objKey m.comp (m.p 0 2)) p m.comp 0) t).done m [])) ∧
  (∀ s n d t k, n < 256 → s.running n = some (t, k) → 64 ≤ k.moves.length → exec (.tileGet n d) s =
    .next (s)) ∧
  (∀ s n d t k, n < 256 → s.running n = some (t, k) → k.moves.length < 64 → s.descOk n k d = none → exec (.tileGet n d) s =
    .next ((s.descAt n k.comp d).2.issueMove n t k (s.descAt n k.comp d).1 true)) ∧
  (∀ s n d t k, n < 256 → s.running n = some (t, k) → 64 ≤ k.moves.length → exec (.tilePut n d) s =
    .next (s)) ∧
  (∀ s n d t k, n < 256 → s.running n = some (t, k) → k.moves.length < 64 → s.descOk n k d = none → exec (.tilePut n d) s =
    .next ((s.descAt n k.comp d).2.issueMove n t k (s.descAt n k.comp d).1 (decide ((s.descAt n k.comp d).1.op = 1) && decide ((s.descAt n k.comp d).1.srcKind = 0)))) ∧
  (∀ s i o, exec (.ferryMoveComplete i o) s =
    .next ((s.moveEnds i o).settleTasks)) ∧
  (∀ s i f bs, s.ferry.fills.find? (fun f => decide (f.frame = i)) = some f → s.fillRefetching f = false → s.basinBad f = false →
    s.readWaits (s.fillLun f) (if f.prefetch then .prefetch else .demand) = false → exec (.fillComplete i (.ok bs)) s =
    .next ((if f.basin.isSome then s.count Reg.FRY_CNT0 3 1 else s).servePage f.obj f.page i)) ∧
  (∀ s i f j o, s.ferry.fills.find? (fun f => decide (f.frame = i)) = some f → s.fillRefetching f = false → f.basin = some j →
    s.readWaits (s.fillLun f) (if f.prefetch then .prefetch else .demand) = false →
    (if s.basinBad f then MoveOutcome.frameBad else o) = .frameBad → exec (.fillComplete i o) s =
    .next ((s.refill .basin j f.comp).ferry! (fun y => { y with fills := y.fills.map (fun g => if g.frame = i then { g with basin := none } else g) }))) ∧
  (∀ s, exec (.ageTick) s =
    .next (s.ferry! (fun y => { y with
      lake := y.lake.map (fun f => (f.1, { f.2 with age := Nat.min 255 (f.2.age + 1) })), basin := y.basin.map (fun f => (f.1, { f.2 with age := Nat.min 255 (f.2.age + 1) })) }))) ∧
  (∀ s k l a o, s.deltaUp = true → k < 2 ^ 64 → s.rebuilding k l = false → s.mapEnt k l = some (.mapped a) → exec (.sectorReadComplete k l o) s =
    .next (let r := (s.chargeLun (s.spaceComp k) (lunOf (psaBlock a)) 0).readNote o
    if r.2 then r.1.sectorLost k l else r.1)) ∧
  (∀ s e l o x, s.deltaUp = true → Tbl.find e s.delta.extents = some x → x.lost.contains l = false → l < x.sectors → o ≠ .stale →
    ((s.chargeLun (s.spaceComp x.key) (lunOf (x.blocks.getD (l / s.delta.geom.tlc) 0)) 0).readNote o).2 = false →
    exec (.sectorReadComplete (2 ^ 64 + e) l o) s =
    .next (((s.chargeLun (s.spaceComp x.key) (lunOf (x.blocks.getD (l / s.delta.geom.tlc) 0)) 0).readNote o).1))

/-- R342, R345, R349 to R354, R359, R361 to R370, R514: the flash blocks, their maps, and the extents and spaces that they hold. -/
def Obligations.FlashTranslation : Prop :=
  (∀ s b p, exec (.programComplete b p) s =
    .next (((s.programDone b p).search.parts.filter (fun q => decide (q.state = .writing))).foldl (fun t q =>
    match t.coll q.coll with
    | none => t
    | some c => ((t.flush c.space (t.flashMask c.comp c.deltaMask)).getD t).settleWrites q.coll q.coord q.seq) (s.programDone b p))) ∧
  (∀ s b p, s.lunBusy (lunOf b) (s.eraseCls b) = true → exec (.eraseComplete b p) s =
    .next (s)) ∧
  (∀ s b p, s.lunBusy (lunOf b) (s.eraseCls b) = false → (s.blk b).state = .taken → exec (.eraseComplete b p) s =
    .next (let u := (s.chargeLun (s.spaceComp (s.blk b).space) (lunOf b) 2).blk! b (fun x => { x with erases := x.erases + 1 })
    if p then u.blk! b (fun x => { x with state := .opened }) else u.retire b)) ∧
  (∀ s b p, s.lunBusy (lunOf b) (s.eraseCls b) = false → (s.blk b).state = .erasing →
    s.delta.progs.any (fun p => p.sectors.any (fun x => decide (x.2.map psaBlock = some b))) = false → exec (.eraseComplete b p) s =
    .next (let u := (s.chargeLun (s.spaceComp (s.blk b).space) (lunOf b) 2).blk! b (fun x => { x with erases := x.erases + 1, sectors := [], space := 0 })
    if p then u.blk! b (fun x => { x with state := .free, slc := false }) else u.retire b)) ∧
  (∀ s l b, s.deltaUp = true → s.slcTarget l < (s.slcBlocks l).length →
    oldestBlock ((s.slcBlocks l).filter (fun b => decide (b.2.state = .closed))) = some b → exec (.fold l) s =
    .next ((s.relocate b 3).getD s)) ∧
  (∀ s l, s.deltaUp = true → s.delta.reclaiming.contains l = true → s.freeMarks.2.1 ≤ s.freeBlocks l → exec (.reclaim l) s =
    .next (s.delta! (fun d => { d with reclaiming := d.reclaiming.filter (fun i => decide (i ≠ l)) }))) ∧
  (∀ s l b, s.deltaUp = true → s.delta.reclaiming.contains l = true → s.freeBlocks l < s.freeMarks.2.1 →
    (s.lunBlocks l).any (fun b => decide (b.2.state = .erasing) && !b.2.slc) = false → s.victimBlock l = some b → exec (.reclaim l) s =
    .next ((s.relocate b 2).getD s)) ∧
  (∀ s l b, s.deltaUp = true → s.delta.reclaiming.contains l = false →
    (s.lunBlocks l).any (fun b => decide (b.2.state = .erasing) && !b.2.slc) = false → s.freeBlocks l < s.freeMarks.1 →
    s.victimBlock l = some b → exec (.reclaim l) s =
    .next (((s.delta! (fun d => { d with reclaiming := d.reclaiming ++ [l] })).relocate b 2).getD (s))) ∧
  (∀ s, s.deltaUp = true → exec (.checkpoint) s =
    .next ((s.reach (s.delta.lastCkptNs + ms s.ckptMs)).checkpoint)) ∧
  (∀ s k n bad x p, Tbl.find k s.delta.spaces = some x → Tbl.find n x.pages = some p → p.rebuilding = true → exec (.mapRebuild k n bad) s =
    .next (let s1 := (List.range 512).foldl (fun t i =>
      match t.scanFor k (512 * n + i) with
      | some (sec, psa) =>
        if sec.lost ∨ bad.contains (512 * n + i) then (t.setMap k (512 * n + i) (.mapped psa)).sectorLost k (512 * n + i) else t.setMap k (512 * n + i) (.mapped psa)
      | none => t) s
    s1.page! k n (fun q => { q with rebuilding := false, copies := s1.pageHomes, dirty := false }))) ∧
  (∀ s ts fl v, s.delta.phase = .starting → s.host.nodeState = .running → s.cru.held = false → exec (.deltaStartup ts fl v) s =
    .next (let p := pickTargets ts fl
    let chan (c : Nat) : Option Chan :=
      let here := ts.filter (fun t => decide (t.chan = c))
      let used := (p.1.filter (fun t => decide (t.chan = c))).map (·.target)
      if used = [] then (if here = [] then none else some ⟨.absent, [], [], here.length, 0⟩)
      else some ⟨.up, used, (p.1.filter (fun t => decide (t.chan = c) && t.suspend)).map (·.target), here.length - used.length, 0⟩
    let chans := (List.range 32).filterMap (fun c => (chan c).map (fun x => (c, x)))
    let bads := p.1.flatMap (fun t => t.factoryBad.map (fun b => t.chan * 2 ^ 21 + t.target * 2 ^ 18 + b % 2 ^ 18))
    let s1 := s.delta! (fun d => { d with
      phase := .running, step := 6, geom := p.2, chans := chans, failedLuns := []
      blocks := bads.foldl (fun m b => Tbl.put b { (Tbl.getD b Block.blank m) with state := .bad } m) d.blocks
      lastCkptNs := s.now })
    chans.foldl (fun t c => (List.range c.2.unused).foldl (fun t _ => let f := t.free; f.2.logC (unitOf 0x0C c.1) (f.1 % 65536) 0xFF 0x3FF 0 0) t) s1)) ∧
  (∀ o w e, Acts .extExport 0x050D (fun m t => m.p 0 1 = 0 ∧ m.p 1 1 = 0 ∧ m.p 4 4 = 0 ∧ Tbl.find (objKey m.comp (m.p 2 2)) t.slc.objs = some o ∧
    o.dropMsg = none ∧ o.kind = .weight w ∧ o.extent = some e)
    (fun m t => t.exportReply m e)) ∧
  (∀ c, Acts .extExport 0x050D (fun m t => m.p 0 1 = 1 ∧ m.p 1 1 = 0 ∧ m.p 4 4 = 0 ∧ t.coll (collKey m.comp (m.p 2 2)) = some c ∧
    c.state ≠ .dropping ∧ c.frozen = true)
    (fun m t => (match c.refExt with
      | some e => t.exportReply m e
      | none => match t.sealColl (collKey m.comp (m.p 2 2)) c with
        | some r => r.2.exportReply m r.1
        | none => t.refuse m rCapacity))) ∧
  (∀ e bs, Acts (fun mb => .extAttach mb (some bs)) 0x050E (fun m t => m.p 2 6 = 0 ∧ m.p 0 2 ≠ 0xFFFF ∧
    Tbl.has (objKey m.comp (m.p 0 2)) t.slc.objs = false ∧ t.slc.objs.length < 16384 ∧ t.mapReason m.comp (bs.take (m.p 0x10 8)) = 0 ∧
    Tbl.find (mapExtent bs) t.delta.extents = some e)
    (fun m t => ((t.slc! (fun x => { x with
      objs := Tbl.put (objKey m.comp (m.p 0 2)) ⟨if e.kind = 0 then .weight ⟨none, false, 2, [], none, none⟩ else .refExtent (mapExtent bs),
        if e.kind = 0 then e.objBytes else 4096 * e.sectors, if e.kind = 0 then ExtentSt_tiles e else [], false, none, [], some (mapExtent bs)⟩ x.objs })).delta!
      (fun d => { d with extents := Tbl.upd (mapExtent bs) (fun y => { y with attached := some (objKey m.comp (m.p 0 2)) }) d.extents })).done m [])) ∧
  (∀ o i e, Acts .extRead 0x050F (fun m t => Tbl.find (objKey m.comp (m.p 0 2)) t.slc.objs = some o ∧ o.dropMsg = none ∧ o.kind = .refExtent i ∧
    Tbl.find i t.delta.extents = some e ∧ m.p 2 2 = 0 ∧ m.p 4 4 ≠ 0 ∧ m.p 4 4 ≤ 65536 ∧ m.p 0x10 8 % 64 = 0 ∧ m.p 8 8 + m.p 4 4 ≤ e.sectors)
    (fun m t => let is := (List.range (m.p 4 4)).map (fun i => m.p 8 8 + i)
      let lost := (is.filter (fun i => e.lost.contains i)).length
      (((t.output m (m.p 0x10 8) (is.flatMap e.sector)).count Reg.DLT_CNT0 0 (m.p 4 4 - lost)).chargeLun m.comp (lunOf (e.blocks.getD (m.p 8 8 / t.delta.geom.tlc) 0)) 0).done m (le 4 lost ++ le 4 0))) ∧
  (∀ bs, Acts (fun mb => .extRelease mb (some bs)) 0x0510 (fun m t => m.p 0 8 = 0 ∧ t.mapReason m.comp (bs.take (m.p 0x10 8)) = 0)
    (fun m t => (t.freeExtent (mapExtent bs)).done m [])) ∧
  (Acts .spaceRelease 0x0511 (fun m t => t.weir.flashKeys.any (fun x => decide (x.2 = m.p 0 8)) = false)
    (fun m t => let t1 := t.discardAll (m.p 0 8) (match Tbl.find (m.p 0 8) t.delta.spaces with | some x => Tbl.keys x.map | none => [])
      let t2 := (t1.delta.extents.filter (fun e => decide (e.2.key = m.p 0 8))).foldl (fun u e =>
        (match e.2.attached with | some o => u.slc! (fun x => { x with objs := Tbl.erase o x.objs }) | none => u).freeExtent e.1) t1
      (t2.newKeys (fun l => l.filter (fun e => decide (e.keyId ≠ m.p 0 8)))).done m []))

/-- R243, R244, R247, R269, R411 to R428, R431, R450 to R452: dispatch, waiting, semaphores, pre-emption and the end of tasks, in every form of the commands. -/
def Obligations.TasksAndContexts : Prop :=
  (∀ s n h args t k, n < 256 → s.running n = some (t, k) → s.kernel k.comp h = none → exec (.spawn n h args) s =
    .next (s.taskFault n 0x07 (h % 65536))) ∧
  (∀ s n h args t k x, n < 256 → s.running n = some (t, k) → s.kernel k.comp h = some x →
    65536 ≤ (s.slc.tasks.filter (fun y => decide (y.2.state = .pending))).length → exec (.spawn n h args) s =
    .next (s)) ∧
  (∀ s n h args t k x, n < 256 → s.running n = some (t, k) → s.kernel k.comp h = some x →
    (s.slc.tasks.filter (fun y => decide (y.2.state = .pending))).length < 65536 → exec (.spawn n h args) s =
    .next (((s.newTask k.batch k.comp h (s.levelOfBatch k.batch) (args.take x.argBytes) none (some t) .pending).2.queueTask n (s.levelOfBatch k.batch)
      (s.newTask k.batch k.comp h (s.levelOfBatch k.batch) (args.take x.argBytes) none (some t) .pending).1 true).pcNext n)) ∧
  (∀ s n i t k x c, n < 256 → s.running n = some (t, k) → i < 256 → Tbl.find (subKey k.comp i) s.slc.sems = some x → k.ctx = some c →
    0 < x.units → exec (.semAcq n i) s =
    .next (((s.pcNext n).sem! (subKey k.comp i) (fun y => { y with units := y.units - 1, holders := y.holders ++ [(c, (s.pcNext n).now + us ((s.pcNext n).leaseUs y))] })).setResult t (b2n x.poison) 0 0)) ∧
  (∀ s n i t k x c, n < 256 → s.running n = some (t, k) → i < 256 → Tbl.find (subKey k.comp i) s.slc.sems = some x → k.ctx = some c →
    x.units = 0 → exec (.semAcq n i) s =
    .next ((((s.pcNext n).sem! (subKey k.comp i) (fun y => { y with waiters := y.waiters ++ [c] })).task! t (fun y => { y with state := .waiting (.sem (subKey k.comp i)) })).ctx! c (fun y => { y with state := .waiting }))) ∧
  (∀ s n i t k, n < 256 → s.running n = some (t, k) → (if i < 256 then Tbl.find (subKey k.comp i) s.slc.sems else none) = none →
    exec (.semAcq n i) s =
    .next (s.illegal n)) ∧
  (∀ s n i t k x c, n < 256 → s.running n = some (t, k) → i < 256 → Tbl.find (subKey k.comp i) s.slc.sems = some x → k.ctx = some c →
    x.holders.any (fun h => decide (h.1 = c)) = true → exec (.semRel n i) s =
    .next ((((s.pcNext n).sem! (subKey k.comp i) (fun y => { y with units := y.units + 1, holders := dropOne (fun h => decide (h.1 = c)) y.holders })).grantSem (subKey k.comp i) 65536).settleModifies)) ∧
  (∀ s n i t k x c, n < 256 → s.running n = some (t, k) → i < 256 → Tbl.find (subKey k.comp i) s.slc.sems = some x → k.ctx = some c →
    x.holders.any (fun h => decide (h.1 = c)) = false → exec (.semRel n i) s =
    .next (s.illegal n)) ∧
  (∀ s n i t k, n < 256 → s.running n = some (t, k) → (if i < 256 then Tbl.find (subKey k.comp i) s.slc.sems else none) = none →
    exec (.semRel n i) s =
    .next (s.illegal n)) ∧
  (∀ s n w t k c u, n < 256 → s.running n = some (t, k) → k.ctx = some c → (∀ i, w ≠ .sem i) →
    ((s.pcNext n).task! t (fun y => { y with watchNs := s.now })).collect t c k w = some u → exec (.waitOn n w) s =
    .next (u)) ∧
  (∀ s n w t k c, n < 256 → s.running n = some (t, k) → k.ctx = some c → (∀ i, w ≠ .sem i) →
    ((s.pcNext n).task! t (fun y => { y with watchNs := s.now })).collect t c k w = none → exec (.waitOn n w) s =
    .next ((((s.pcNext n).task! t (fun y => { y with watchNs := s.now })).task! t (fun y => { y with state := .waiting w })).ctx! c (fun y => { y with state := .waiting }))) ∧
  (∀ s n i t k, n < 256 → s.running n = some (t, k) → exec (.waitOn n (.sem i)) s =
    .next (s.illegal n)) ∧
  (∀ s n t k u, n < 256 → s.running n = some (t, k) → (s.pcNext n).task! t (fun y => { y with watchNs := s.now }) = u → exec (.yieldTask n) s =
    .next (if u.slc.tasks.any (fun y => decide (y.1 ≠ t) && decide (y.2.comp = k.comp) && u.canStart n y.1 && decide (u.taskLevel y.1 < u.taskLevel t)) && u.movable n k then u.suspend n else u)) ∧
  (∀ s n t k, n < 256 → s.running n = some (t, k) → exec (.endTask n) s =
    .next (if k.moves = [] ∧ k.ops = [] then s.retireTask t else s.task! t (fun y => { y with state := .draining }))) ∧
  (∀ s n, n < 256 → (s.coreFree n = false ∨ s.nextTask n = none) → exec (.taskDispatch n) s =
    .next (s)) ∧
  (∀ s n t b, n < 256 → s.coreFree n = true → s.nextTask n = some (t, b) → exec (.taskDispatch n) s =
    .next ((if b then s.count Reg.SLC_CNT0 2 1 else s).startTask n t)) ∧
  (∀ s n t k, n < 256 → s.running n = some (t, k) → exec (.taskWatchdog n) s =
    .next ((s.reach (k.watchNs + us (s.core n).watchdogUs)).taskFault n 0x06 (((s.reach (k.watchNs + us (s.core n).watchdogUs)).now - k.watchNs) / 1000))) ∧
  (∀ s i ctx, (Tbl.find i s.slc.sems).bind (fun x => x.holders.find? (fun h => decide (h.1 = ctx))) = none → exec (.leaseExpiry i ctx) s =
    .next (s)) ∧
  (∀ s i ctx x h t, Tbl.find i s.slc.sems = some x → x.holders.find? (fun h => decide (h.1 = ctx)) = some h →
    (Tbl.find ctx ((s.reach h.2).count Reg.SLC_CNT0 5 1).slc.ctxs).bind (·.task) = some t → exec (.leaseExpiry i ctx) s =
    .next (((s.reach h.2).count Reg.SLC_CNT0 5 1).faultTask t 0x08 (i % 256))) ∧
  (∀ s i ctx x h, Tbl.find i s.slc.sems = some x → x.holders.find? (fun h => decide (h.1 = ctx)) = some h →
    (Tbl.find ctx ((s.reach h.2).count Reg.SLC_CNT0 5 1).slc.ctxs).bind (·.task) = none → exec (.leaseExpiry i ctx) s =
    .next ((s.reach h.2).count Reg.SLC_CNT0 5 1)) ∧
  (∀ s b, s.batch b = none → exec (.teardownComplete b) s =
    .next (s)) ∧
  (∀ s b x st, s.batch b = some x → x.torn = some st → s.ferry.moves.any (fun m => decide (m.2.batch = b)) = true → exec (.teardownComplete b) s =
    .next (s)) ∧
  (∀ s b x st, s.batch b = some x → x.torn = some st → s.ferry.moves.any (fun m => decide (m.2.batch = b)) = false → (s.run b).isSome = true →
    exec (.teardownComplete b) s =
    .next (s.failRun b st 0)) ∧
  (∀ s b x st qb, s.batch b = some x → x.torn = some st → s.ferry.moves.any (fun m => decide (m.2.batch = b)) = false → s.run b = none →
    s.qbatch b = some qb → exec (.teardownComplete b) s =
    .next (if qb.lead = s.nodeNo then (s.failQueries b st).replyBatch b st 0 [] else (List.range qb.queries.length).foldl (fun t i => t.refusePart b i st) s)) ∧
  (∀ s b x st u, s.batch b = some x → x.torn = some st → s.ferry.moves.any (fun m => decide (m.2.batch = b)) = false → s.run b = none →
    s.qbatch b = none → Tbl.find b s.search.upds = some u → exec (.teardownComplete b) s =
    .next (s.tearUpdate b st u)) ∧
  (∀ s b x st, s.batch b = some x → x.torn = some st → s.ferry.moves.any (fun m => decide (m.2.batch = b)) = false → s.run b = none →
    s.qbatch b = none → Tbl.find b s.search.upds = none → exec (.teardownComplete b) s =
    .next (((match s.childOf b with
      | some c => ((s.failQueries c st).endTasks c).endBatch c x.comp
      | none => s).search! (fun y => { y with gathers := Tbl.erase b y.gathers })).replyBatch b st 0 [])) ∧
  (∀ s i c, Tbl.find i s.slc.ctxs = some c → c.state = .quiet → exec (.ctxQuietExpiry i) s =
    .next ((s.reach c.quietNs).slc! (fun x => { x with ctxs := Tbl.erase i x.ctxs }))) ∧
  (∀ s i c, Tbl.find i s.slc.ctxs = some c → c.state ≠ .quiet → exec (.ctxQuietExpiry i) s =
    .next (s)) ∧
  (∀ s n, n < 256 → exec (.preempt n) s =
    .next (s.settleModifies.tryPreempt n)) ∧
  (∀ s n, n < 256 → (s.core n).phase ≠ .draining → exec (.preemptSave n) s =
    .next (s)) ∧
  (∀ s n u, n < 256 → (s.core n).phase = .draining →
    (if (match (s.core n).task.bind (fun t => Tbl.find t s.slc.tasks) with | some k => decide (k.moves ≠ []) || decide (k.ops ≠ []) | none => false) then s.reach (s.core n).drainEnd else s).suspend n = u →
    exec (.preemptSave n) s =
    .next ((match (s.core n).preemptBy with
      | some t => if u.canStart n t then u.startTask n t else u
      | none => u.settleModifies))) ∧
  (∀ s n k, n < 256 → (s.core n).task.bind (fun v => Tbl.find v s.slc.tasks) = some k → exec (.minRunElapsed n) s =
    .next ((s.reach (k.startNs + s.minRun)).tryPreempt n)) ∧
  (∀ s n, n < 256 → (s.core n).task.bind (fun v => Tbl.find v s.slc.tasks) = none → exec (.minRunElapsed n) s =
    .next (s)) ∧
  (∀ s u, s.reach (s.slc.windowNs + us (orIfZero (s.fldFor Reg.SLC_SCHED 32 16 0) 1)) = u → exec (.shareWindow) s =
    .next ((u.slc! (fun x => { x with windowNs := u.now, shareNs := [] })).boundary Reg.SLC_SCHED 32 16 0))

/-- R250 to R254, R258 to R260, R262: scalar instructions, the matrix array, its accumulators, and the scratch, whatever errors the SRAM words read hold. -/
def Obligations.ScalarAndMatrix : Prop :=
  (∀ s n t k f d a b, Issues s n t k [32 + a, 32 + b] → d < 64 → a < 64 → b < 64 → exec (.scalar n (.alu f d a b)) s =
    .next (((s.aluOf f (s.xreg n a) (s.xreg n b)).2.xreg! n d (s.aluOf f (s.xreg n a) (s.xreg n b)).1).pcNext n)) ∧
  (∀ s n t k d v, Issues s n t k [] → d < 64 → exec (.scalar n (.imm d v)) s =
    .next ((s.xreg! n d v).pcNext n)) ∧
  (∀ s n t k d a off, Issues s n t k [32 + a] → d < 64 → a < 64 → exec (.scalar n (.addr d a off)) s =
    .next ((s.xreg! n d (s.xreg n a + off)).pcNext n)) ∧
  (∀ s n t k c a b target, Issues s n t k (if c = .always then [] else [32 + a, 32 + b]) → a < 64 → b < 64 →
    condOf c (s.xreg n a) (s.xreg n b) = false → exec (.scalar n (.branch c a b target)) s =
    .next (s.pcNext n)) ∧
  (∀ s n t k c a b target x, Issues s n t k (if c = .always then [] else [32 + a, 32 + b]) → a < 64 → b < 64 →
    condOf c (s.xreg n a) (s.xreg n b) = true → Tbl.find (k.kernel % 65536) s.slc.kernels = some x → target % 8 = 0 →
    target < natAt x.image 8 4 → exec (.scalar n (.branch c a b target)) s =
    .next (s.core! n (fun y => { y with regs := { y.regs with pc := target } }))) ∧
  (∀ s n t k buf mode reg, Issues s n t k ((List.range mode.regs).map (fun i => reg.src + i)) → buf < 2 → reg.src + mode.regs ≤ 32 →
    s.regEcc n ((List.range mode.regs).map (fun i => reg.src + i)) reg.ecc ≠ .uncorrectable → exec (.mxLoad n buf mode reg) s =
    .next (let per := 2048 / mode.lineBytes
    let lines := (List.range 64).map (fun l => lineCodes mode (bits (s.vreg n (reg.src + l / per)) (8 * mode.lineBytes * (l % per)) (8 * mode.lineBytes)))
    ((s.core! n (fun c => { c with regs := { c.regs with stat := Tbl.put buf (mode.code, lines) c.regs.stat } })).pcNext n).eccNote n k 6 (s.regEcc n ((List.range mode.regs).map (fun i => reg.src + i)) reg.ecc))) ∧
  (∀ s n t k a, Issues s n t k [a.reg] → mxForm a 1 = true → (s.statOf n a.buf a.mode).1 = a.mode.code → a.residue = none →
    s.regEcc n [a.reg] a.ecc ≠ .uncorrectable → exec (.mxMma n a) s =
    .next ((((s.rilCount n 1 (if a.mode = .int8 then 4 else 1)).accPut n a.slot a.overwrite (s.rowSums n a 0 a.mode.line)).pcNext n).eccNote n k 6 (s.regEcc n [a.reg] a.ecc))) ∧
  (∀ s n t k a, Issues s n t k [a.reg] → mxForm a 4 = true → (decide (a.mode = .int4) || decide (a.mode = .int8)) = true →
    (s.statOf n a.buf a.mode).1 = a.mode.code → a.residue = none → s.regEcc n [a.reg] a.ecc ≠ .uncorrectable → exec (.mxMmaG32 n a) s =
    .next ((((List.range 4).foldl (fun u q => u.accPut n (a.slot + q) a.overwrite (s.rowSums n a (32 * q) 32)) (s.rilCount n 1 (if a.mode = .int8 then 4 else 1))).pcNext n).eccNote n k 6 (s.regEcc n [a.reg] a.ecc))) ∧
  (∀ s n t k i m vd, Issues s n t k [] → 1 ≤ m → i + m ≤ 64 → vd + cdiv m 8 ≤ 32 → exec (.accMov n i m vd) s =
    .next (let t := (List.range (cdiv m 8)).foldl (fun u r =>
      let old := velems (u.vreg n (vd + r)) 32
      let part := (List.range 8).flatMap (fun j => if 8 * r + j < m then (s.accOf n (i + (8 * r + j))).map i32pat else (old.drop (64 * j)).take 64)
      if 8 * r + 8 ≤ m then u.vreg! n (vd + r) (vpack 32 part) else u.vpart! n (vd + r) (vpack 32 part)) s
    (t.rilCount n 2 1).pcNext n)) ∧
  (∀ s n t k i m, Issues s n t k [] → 1 ≤ m → i + m ≤ 64 → exec (.accClr n i m) s =
    .next (((s.core! n (fun c => { c with regs := { c.regs with
      acc := c.regs.acc.filter (fun x => decide (x.1 < i) || decide (i + m ≤ x.1)) } })).rilCount n 2 1).pcNext n)) ∧
  (∀ s n t k vd (addr : SramRead) r, Issues s n t k [] → vd < 32 → addr.src % 64 = 0 → scratchOk k addr.src 2048 = true →
    s.loadScratch n k addr.src 2048 addr.ecc = r → exec (.ldV n vd addr) s =
    .next (((if r.2.1 = .uncorrectable then ((r.2.2.rilCount n 3 2048).vreg! n vd r.1).poison! n vd else (r.2.2.rilCount n 3 2048).vreg! n vd r.1).pcNext n).eccNote n k 0 r.2.1)) ∧
  (∀ s n t k (vs : SramRead) addr, Issues s n t k [vs.src] → vs.src < 32 → addr % 64 = 0 → scratchOk k addr 2048 = true → exec (.stV n vs addr) s =
    .next (let e := s.regEcc n [vs.src] vs.ecc
    let s1 := s.core! n (fun c => Core.scratchWrite c k.comp addr (le 2048 (s.vreg n vs.src)))
    let s2 := if e = .uncorrectable then (s1.badReg! n vs.src).core! n (fun c => { c with badLines := c.badLines ++ (List.range 32).map (fun i => addr / 64 + i) }) else s1
    ((s2.rilCount n 3 2048).pcNext n).eccNote n k 6 e)) ∧
  (∀ s n t k xd (addr : SramRead) r, Issues s n t k [] → xd < 64 → addr.src % 8 = 0 → scratchOk k addr.src 8 = true →
    s.loadScratch n k addr.src 8 addr.ecc = r → exec (.ldS n xd addr) s =
    .next (((if r.2.1 = .uncorrectable then ((r.2.2.rilCount n 3 64).xreg! n xd r.1).poison! n (32 + xd) else (r.2.2.rilCount n 3 64).xreg! n xd r.1).pcNext n).eccNote n k 0 r.2.1))

/-- R53, R256 to R259, R262: the vector unit, the bound path and the selection network, whatever errors the SRAM words read hold. -/
def Obligations.VectorInstructions : Prop :=
  (∀ s n t k a, Vec s n t k [a.va, a.vb] (a.ty.dst a.vd) a.parity → exec (.vAdd n a) s =
    .next ((s.vdst n a.ty a.vd (List.zipWith (if a.ty.fp then (fun x y => fmt32.quiet 1 [x, y] (fmt32.add .rne x y)) else (fun x y => i32res 1 [x, y] (i32of x + i32of y))) (s.vsrc n a.ty a.va) (s.vsrc n a.ty a.vb))).vecEnd n k [a.va, a.vb] (a.ty.dst a.vd) (s.regEcc n [a.va, a.vb] a.ecc))) ∧
  (∀ s n t k a, Vec s n t k [a.va, a.vb] (a.ty.dst a.vd) a.parity → exec (.vMul n a) s =
    .next ((s.vdst n a.ty a.vd (List.zipWith (if a.ty.fp then (fun x y => fmt32.quiet 2 [x, y] (fmt32.mul .rne x y)) else (fun x y => i32res 2 [x, y] (i32of x * i32of y))) (s.vsrc n a.ty a.va) (s.vsrc n a.ty a.vb))).vecEnd n k [a.va, a.vb] (a.ty.dst a.vd) (s.regEcc n [a.va, a.vb] a.ecc))) ∧
  (∀ s n t k a, Vec s n t k [a.va, a.vb] (a.ty.dst a.vd) a.parity → exec (.vMax n a) s =
    .next ((s.vdst n a.ty a.vd (List.zipWith (if a.ty.fp then (fmt32.greater) else (fun x y => i32pat (max (i32of x) (i32of y)))) (s.vsrc n a.ty a.va) (s.vsrc n a.ty a.vb))).vecEnd n k [a.va, a.vb] (a.ty.dst a.vd) (s.regEcc n [a.va, a.vb] a.ecc))) ∧
  (∀ s n t k a, Vec s n t k [a.va, a.vb, a.vc] (a.ty.dst a.vd) a.parity → exec (.vFma n a) s =
    .next ((s.vdst n a.ty a.vd (List.zipWith (fun (p : Nat × Nat) z => if a.ty.fp then fmt32.quiet 4 [p.1, p.2, z] (fmt32.fma .rne p.1 p.2 z)
      else i32res 4 [p.1, p.2, z] (i32of p.1 * i32of p.2 + i32of z)) (List.zipWith (fun x y => (x, y)) (s.vsrc n a.ty a.va) (s.vsrc n a.ty a.vb)) (s.vsrc n a.ty a.vc))).vecEnd n k [a.va, a.vb, a.vc] (a.ty.dst a.vd) (s.regEcc n [a.va, a.vb, a.vc] a.ecc))) ∧
  (∀ s n t k a, Vec s n t k [a.va] [a.vd, a.vd + 1] a.parity → exec (.convert n .widenBf16 a) s =
    .next (((s.vreg! n a.vd (vpack 32 (((velems (s.vreg n a.va) 16).map (fun x => fmt32.quiet 5 [x] (fmtB16.conv fmt32 .rne x))).take 512))).vreg! n (a.vd + 1)
      (vpack 32 (((velems (s.vreg n a.va) 16).map (fun x => fmt32.quiet 5 [x] (fmtB16.conv fmt32 .rne x))).drop 512))).vecEnd n k [a.va] [a.vd, a.vd + 1] (s.regEcc n [a.va] a.ecc))) ∧
  (∀ s n t k a, Vec s n t k [a.va] [a.vd, a.vd + 1] a.parity → exec (.convert n .widenF16 a) s =
    .next (((s.vreg! n a.vd (vpack 32 (((velems (s.vreg n a.va) 16).map (fun x => fmt32.quiet 5 [x] (fmt16.conv fmt32 .rne x))).take 512))).vreg! n (a.vd + 1)
      (vpack 32 (((velems (s.vreg n a.va) 16).map (fun x => fmt32.quiet 5 [x] (fmt16.conv fmt32 .rne x))).drop 512))).vecEnd n k [a.va] [a.vd, a.vd + 1] (s.regEcc n [a.va] a.ecc))) ∧
  (∀ s n t k a, Vec s n t k [a.va, a.va + 1] [a.vd] a.parity → exec (.convert n .narrowBf16 a) s =
    .next ((s.vreg! n a.vd (vpack 16 ((velems (s.vreg n a.va) 32 ++ velems (s.vreg n (a.va + 1)) 32).map (fun x => fmtB16.quiet 5 [x] (fmt32.conv fmtB16 .rne x))))).vecEnd n k [a.va, a.va + 1] [a.vd] (s.regEcc n [a.va, a.va + 1] a.ecc))) ∧
  (∀ s n t k a, Vec s n t k [a.va, a.va + 1] [a.vd] a.parity → exec (.convert n .narrowF16 a) s =
    .next ((s.vreg! n a.vd (vpack 16 ((velems (s.vreg n a.va) 32 ++ velems (s.vreg n (a.va + 1)) 32).map (fun x => fmt16.quiet 5 [x] (fmt32.conv fmt16 .rne x))))).vecEnd n k [a.va, a.va + 1] [a.vd] (s.regEcc n [a.va, a.va + 1] a.ecc))) ∧
  (∀ s n t k a, Vec s n t k [a.va] [a.vd] a.parity → exec (.convert n .i32ToF32 a) s =
    .next ((s.vreg! n a.vd (vpack 32 ((velems (s.vreg n a.va) 32).map (fun x => (f32OfInt .rne (i32of x)).toNat)))).vecEnd n k [a.va] [a.vd] (s.regEcc n [a.va] a.ecc))) ∧
  (∀ s n t k c a, Vec s n t k [a.va, a.vb] [a.vd] a.parity → exec (.vCmp n c a) s =
    .next ((let hold (x y : Nat) : Bool :=
      if a.ty.fp then (match c with | .lt => a.ty.fmt.lt x y | .le => a.ty.fmt.le x y | .eq => a.ty.fmt.le x y && a.ty.fmt.le y x)
      else (match c with | .lt => decide (i32of x < i32of y) | .le => decide (i32of x ≤ i32of y) | .eq => decide (x = y))
    s.vreg! n a.vd (vpack a.ty.bits (List.zipWith (fun x y => if hold x y then 2 ^ a.ty.bits - 1 else 0) (velems (s.vreg n a.va) a.ty.bits) (velems (s.vreg n a.vb) a.ty.bits)))).vecEnd n k [a.va, a.vb] [a.vd] (s.regEcc n [a.va, a.vb] a.ecc))) ∧
  (∀ s n t k a, Vec s n t k [a.va, a.vb, a.vc] [a.vd] a.parity → exec (.vSel n a) s =
    .next ((s.vreg! n a.vd (vpack a.ty.bits (List.zipWith (fun (p : Nat × Nat) m => if m ≠ 0 then p.1 else p.2)
      (List.zipWith (fun x y => (x, y)) (velems (s.vreg n a.va) a.ty.bits) (velems (s.vreg n a.vb) a.ty.bits)) (velems (s.vreg n a.vc) a.ty.bits)))).vecEnd n k [a.va, a.vb, a.vc] [a.vd] (s.regEcc n [a.va, a.vb, a.vc] a.ecc))) ∧
  (∀ s n d t k a, Vec s n t k [a.va, a.vb] (a.ty.dst a.vd) a.parity → a.ty.fp = true → exec (.bAdd n d a) s =
    .next ((s.vdst n a.ty a.vd (List.zipWith (if a.ty.fp then (fun x y => boundEnd d fmt32 (fmt32.add (Dir_rm d) x y)) else (fun x _ => x)) (s.vsrc n a.ty a.va) (s.vsrc n a.ty a.vb))).vecEnd n k [a.va, a.vb] (a.ty.dst a.vd) (s.regEcc n [a.va, a.vb] a.ecc))) ∧
  (∀ s n d t k a, Vec s n t k [a.va, a.vb] (a.ty.dst a.vd) a.parity → a.ty.fp = true → exec (.bMul n d a) s =
    .next ((s.vdst n a.ty a.vd (List.zipWith (if a.ty.fp then (fun x y => boundEnd d fmt32 (fmt32.mul (Dir_rm d) x y)) else (fun x _ => x)) (s.vsrc n a.ty a.va) (s.vsrc n a.ty a.vb))).vecEnd n k [a.va, a.vb] (a.ty.dst a.vd) (s.regEcc n [a.va, a.vb] a.ecc))) ∧
  (∀ s n d t k a, Vec s n t k [a.va] (a.ty.dst a.vd) a.parity → a.ty.fp = true → exec (.bSqrt n d a) s =
    .next ((s.vdst n a.ty a.vd ((s.vsrc n a.ty a.va).map (fun x => boundEnd d fmt32 (fmt32.sqrt (Dir_rm d) x)))).vecEnd n k [a.va] (a.ty.dst a.vd) (s.regEcc n [a.va] a.ecc))) ∧
  (∀ s n d t k a, Vec s n t k [a.va, a.vb] (a.ty.dst a.vd) a.parity → a.ty.fp = true → exec (.bDiv n d a) s =
    .next ((s.vdst n a.ty a.vd (List.zipWith (if a.ty.fp then (fun x y => boundEnd d fmt32 (fmt32.div (Dir_rm d) x y)) else (fun x _ => x)) (s.vsrc n a.ty a.va) (s.vsrc n a.ty a.vb))).vecEnd n k [a.va, a.vb] (a.ty.dst a.vd) (s.regEcc n [a.va, a.vb] a.ecc))) ∧
  (∀ s n t k a, Vec s n t k [a.va] (a.ty.dst a.vd) a.parity → a.ty.fp = true → exec (.vExp2 n a) s =
    .next ((s.vdst n a.ty a.vd ((s.vsrc n a.ty a.va).map (fun x => fmt32.quiet 6 [x] (fmt32.exp2 x)))).vecEnd n k [a.va] (a.ty.dst a.vd) (s.regEcc n [a.va] a.ecc))) ∧
  (∀ s n t k a, Vec s n t k [a.va] (a.ty.dst a.vd) a.parity → a.ty.fp = true → exec (.vSqrt n a) s =
    .next ((s.vdst n a.ty a.vd ((s.vsrc n a.ty a.va).map (fun x => fmt32.quiet 7 [x] (fmt32.sqrt .rne x)))).vecEnd n k [a.va] (a.ty.dst a.vd) (s.regEcc n [a.va] a.ecc))) ∧
  (∀ s n t k a, Vec s n t k [a.va, a.vb] (a.ty.dst a.vd) a.parity → a.ty.fp = true → exec (.vDiv n a) s =
    .next ((s.vdst n a.ty a.vd (List.zipWith (if a.ty.fp then (fun x y => fmt32.quiet 8 [x, y] (fmt32.div .rne x y)) else (fun x _ => x)) (s.vsrc n a.ty a.va) (s.vsrc n a.ty a.vb))).vecEnd n k [a.va, a.vb] (a.ty.dst a.vd) (s.regEcc n [a.va, a.vb] a.ecc))) ∧
  (∀ s n m t k a, Vec s n t k ((List.range (cdiv m 512)).map (fun i => a.va + i)) [a.vd] a.parity → a.ty = .f32 → 1 ≤ m → m ≤ 4096 →
    exec (.vRedp n m a) s =
    .next ((s.vpart! n a.vd (setBits (s.vreg n a.vd) 0 32 (fmt32.quiet 9 (((List.range (cdiv m 512)).flatMap (fun i => velems (s.vreg n (a.va + i)) 32)).take m)
      (pairwise .rne ((((List.range (cdiv m 512)).flatMap (fun i => velems (s.vreg n (a.va + i)) 32)).take m).map (BitVec.ofNat 32))).toNat))).vecEnd n k ((List.range (cdiv m 512)).map (fun i => a.va + i)) [a.vd] (s.regEcc n ((List.range (cdiv m 512)).map (fun i => a.va + i)) a.ecc))) ∧
  (∀ s n (r : SramRead) i j t k, Vec s n t k [r.src] [r.src] none → i < 7 → j ≤ i → exec (.cCx n r (2 ^ (i + 1)) (2 ^ j)) s =
    .next ((s.vreg! n r.src (vpack 128 (cxStage (2 ^ (i + 1)) (2 ^ j) (velems (s.vreg n r.src) 128)))).vecEnd n k [r.src] [r.src] (s.regEcc n [r.src] r.ecc))) ∧
  (∀ s n vd va (vb : SramRead) t k, Vec s n t k [va, vb.src] [vd] none → exec (.cMerge n vd va vb) s =
    .next ((s.vreg! n vd (vpack 128 (mergeStage (velems (s.vreg n va) 128) (velems (s.vreg n vb.src) 128)))).vecEnd n k [va, vb.src] [vd] (s.regEcc n [va, vb.src] vb.ecc)))

/-- R387, R390 to R393: a task's JRO instructions. -/
def Obligations.JroInstructions : Prop :=
  (∀ s n a t k, n < 256 → s.running n = some (t, k) → 1 ≤ a.cls → a.cls ≤ 3 → a.off + a.len ≤ k.scratchBytes → k.ops.length < k.maxJro →
    exec (.jroPut n a) s =
    .next (s.jroSend n t k { (s.packet 1 a.cls 0 false 0) with addr := a.addr } a.off a.len)) ∧
  (∀ s n a t k, n < 256 → s.running n = some (t, k) → 1 ≤ a.cls → a.cls ≤ 3 → a.off + a.len ≤ k.scratchBytes → k.maxJro ≤ k.ops.length →
    exec (.jroPut n a) s =
    .next (s)) ∧
  (∀ s n a t k, n < 256 → s.running n = some (t, k) → 1 ≤ a.cls → a.cls ≤ 3 → a.off + a.len ≤ k.scratchBytes → k.ops.length < k.maxJro →
    exec (.jroGet n a) s =
    .next (s.jroIssue n t k { (s.packet 2 a.cls 0 false 0) with addr := a.addr } a.len [] a.off)) ∧
  (∀ s n a t k, n < 256 → s.running n = some (t, k) → 1 ≤ a.cls → a.cls ≤ 3 → a.off + a.len ≤ k.scratchBytes → k.maxJro ≤ k.ops.length →
    exec (.jroGet n a) s =
    .next (s)) ∧
  (∀ s n a t k, n < 256 → s.running n = some (t, k) → 1 ≤ a.cls → a.cls ≤ 3 → a.off ≤ k.scratchBytes → k.ops.length < k.maxJro →
    exec (.jroAtom n a) s =
    .next (let data := if a.subop = 1 then le 8 a.x ++ le 8 a.y else le 8 a.x
    s.jroIssue n t k { (s.packet 3 a.cls 0 false 0) with addr := a.addr, subop := a.subop } data.length data 0)) ∧
  (∀ s n a t k, n < 256 → s.running n = some (t, k) → 1 ≤ a.cls → a.cls ≤ 3 → a.off ≤ k.scratchBytes → k.maxJro ≤ k.ops.length →
    exec (.jroAtom n a) s =
    .next (s)) ∧
  (∀ s n a t k, n < 256 → s.running n = some (t, k) → 1 ≤ a.cls → a.cls ≤ 3 → a.off + a.len ≤ k.scratchBytes → k.ops.length < k.maxJro →
    exec (.jroNput n a) s =
    .next (s.jroSend n t k { (s.packet 4 a.cls 0 false 0) with addr := a.addr, aux := a.aux % 2 ^ 32 } a.off a.len)) ∧
  (∀ s n a t k, n < 256 → s.running n = some (t, k) → 1 ≤ a.cls → a.cls ≤ 3 → a.off + a.len ≤ k.scratchBytes → k.maxJro ≤ k.ops.length →
    exec (.jroNput n a) s =
    .next (s)) ∧
  (∀ s n a t k, n < 256 → s.running n = some (t, k) → 1 ≤ a.cls → a.cls ≤ 3 → a.off + a.len ≤ k.scratchBytes → k.ops.length < k.maxJro →
    exec (.jroTopk n a) s =
    .next (s.jroSend n t k { (s.packet 5 a.cls 0 false 0) with addr := a.addr } a.off a.len)) ∧
  (∀ s n a t k, n < 256 → s.running n = some (t, k) → 1 ≤ a.cls → a.cls ≤ 3 → a.off + a.len ≤ k.scratchBytes → k.maxJro ≤ k.ops.length →
    exec (.jroTopk n a) s =
    .next (s))

/-- R372 to R380, R389, R398, R402 to R406, R510, R511: what a link receives, its timers, its bring-up, trickle mode, and the peer at its end. -/
def Obligations.LinkCommands : Prop :=
  (∀ s l f, l < 32 → s.deaf = false → Link_live (s.link l) = true → exec (.flitReceive l f false) s =
    .next (s.control l (.nak (s.link l).rxNext))) ∧
  (∀ s l (f : Flit), l < 32 → s.deaf = false → Link_live (s.link l) = true → f.seq % 2 ^ 32 ≠ (s.link l).rxNext → exec (.flitReceive l f true) s =
    .next ((s.link! l (fun y => { y with lastRxNs := s.now })).control l (.nak (s.link l).rxNext))) ∧
  (∀ s l (f : Flit) bad, l < 32 → s.deaf = false → Link_live (s.link l) = true → f.seq % 2 ^ 32 = (s.link l).rxNext →
    f.packets.find? (fun (p : Packet × Bool) => !p.2) = some bad → exec (.flitReceive l f true) s =
    .next ((s.link! l (fun y => { y with lastRxNs := s.now })).tagFailed l f.seq bad.1)) ∧
  (∀ s l (f : Flit) t, l < 32 → s.deaf = false → Link_live (s.link l) = true → f.seq % 2 ^ 32 = (s.link l).rxNext →
    f.packets.find? (fun (p : Packet × Bool) => !p.2) = none →
    f.packets.foldl (fun (t : State) (p : Packet × Bool) => t.deliverPkt p.1 l) ((s.link! l (fun y => { y with lastRxNs := s.now })).link! l (fun y => { y with
      rxNext := (y.rxNext + 1) % 2 ^ 32, rxSince := y.rxSince + 1, rxCtr := y.rxCtr + f.packets.length, tagFails := 0 })) = t →
        exec (.flitReceive l f true) s =
    .next (if 32 ≤ (t.link l).rxSince then t.sendAck l else t)) ∧
  (∀ s l q, l < 32 → s.deaf = false → Link_live (s.link l) = true → exec (.ack l q) s =
    .next ((s.link! l (fun y => { y with
      replay := (s.link l).replay.filter (fun f => !seqGe 32 q f.seq)
      ackNs := if ((s.link l).replay.filter (fun f => !seqGe 32 q f.seq)).length < (s.link l).replay.length then s.now else y.ackNs, lastRxNs := s.now })).pumpLink l)) ∧
  (∀ s l q, l < 32 → s.deaf = false → Link_live (s.link l) = true → exec (.nak l q) s =
    .next ((s.link! l (fun y => { y with lastRxNs := s.now })).resend l ((s.link l).replay.filter (fun f => seqGe 32 f.seq q)))) ∧
  (∀ s l p n, l < 32 → s.deaf = false → Link_live (s.link l) = true → p < 16 → exec (.creditReturn l p n) s =
    .next (let res := Nat.min n (128 - Tbl.getD p 0 (s.link l).credits)
      let sh := Nat.min (n - res) (10240 - (s.link l).shared)
      (s.link! l (fun y => { y with
        credits := Tbl.put p (Tbl.getD p 0 (s.link l).credits + res) y.credits, shared := y.shared + sh
        sharedUse := Tbl.put (p / 4) (Tbl.getD (p / 4) 0 y.sharedUse - sh) y.sharedUse, lastRxNs := s.now })).pumpLink l)) ∧
  (∀ s l, l < 32 → s.deaf = false → Link_live (s.link l) = true → (s.link l).replay ≠ [] → exec (.replayTimeout l) s =
    .next (((s.reach ((s.link l).ackNs + us 10)).link! l (fun y => { y with ackNs := (s.reach ((s.link l).ackNs + us 10)).now })).resend l (s.link l).replay)) ∧
  (∀ s l, l < 32 → s.deaf = false → Link_live (s.link l) = true → (s.link l).replay = [] → exec (.replayTimeout l) s =
    .next (s)) ∧
  (∀ s l, l < 32 → s.deaf = false → Link_live (s.link l) = true → (s.link l).rxSince ≠ 0 → exec (.ackTimer l) s =
    .next ((s.reach ((s.link l).lastAckNs + 500)).sendAck l)) ∧
  (∀ s l, l < 32 → s.deaf = false → Link_live (s.link l) = true → (s.link l).rxSince = 0 → exec (.ackTimer l) s =
    .next (s)) ∧
  (∀ s l, l < 32 → s.deaf = false → Link_live (s.link l) = true → exec (.idleTimer l) s =
    .next ((s.reach ((s.link l).lastTxNs + us 1)).link! l (fun y => { y with
      out := y.out ++ [.idle y.txSeq], lastTxNs := (s.reach ((s.link l).lastTxNs + us 1)).now }))) ∧
  (∀ s l, l < 32 → s.deaf = false → Link_live (s.link l) = true → exec (.linkRxTimeout l) s =
    .next ((s.reach ((s.link l).lastRxNs + us 50)).downLink l .train (Link_trainNs (s.link l)))) ∧
  (∀ s l, l < 32 → s.deaf = false → Link_live (s.link l) = true → exec (.laneFail l) s =
    .next (if (s.link l).state = .up then s.downLink l .train (Link_trainNs (s.link l)) else s)) ∧
  (∀ s l, l < 32 → s.deaf = false → (s.link l).state = .down → exec (.linkTrain l) s =
    .next (s.startLink l)) ∧
  (∀ s l, l < 32 → s.deaf = false → (s.link l).state = .train → exec (.linkTrain l) s =
    .next (s.link! l (fun y => { y with state := .align, coefs := true, deadline := s.now + us 100 }))) ∧
  (∀ s l, l < 32 → s.deaf = false → (s.link l).state = .align → exec (.linkTrain l) s =
    .next (s.link! l (fun y => { y with
      state := .hello, deadline := s.now + us 10, out := y.out ++ [.ctl (.hello s.nodeNo (s.regView Reg.TRB_IDENT) l)], lastTxNs := s.now }))) ∧
  (∀ s l n inc pl, l < 32 → s.deaf = false → (s.link l).state = .hello → exec (.hello l n inc pl) s =
    .next (let s1 := s.link! l (fun y => { y with peerNode := n % 4096, peerLink := pl % 32, peerInc := inc % 2 ^ 32 })
      let p := Tbl.getD (n % 4096) Peer_blank s.trib.peers
      if s.nodeId.isNone then s1.failLink l .refused
      else if n % 4096 = s.nodeNo then (s1.failLink l .refused).logC (unitOf 0x0D l) 0x0031 0xFF 0x3FF 0 0
      else if p.lost ∧ p.incarnation = inc % 2 ^ 32 then s1.failLink l .refused
      else
        let s2 := if p.known && decide (p.incarnation ≠ inc % 2 ^ 32) then (s1.declareLost (n % 4096)).dropSecret (n % 4096) else s1
        let s3 := s2.peer! (n % 4096) (fun q => { q with incarnation := inc % 2 ^ 32, known := true, lost := false, probeNs := 0 })
        (s3.link! l (fun y => { y with state := .session, deadline := if decide ((Tbl.getD (n % 4096) Peer_blank s3.trib.peers).secretNs = 0) then 0 else s.now + us 200 })).startSessions)) ∧
  (∀ s l hs, l < 32 → s.deaf = false → (s.link l).state = .session → (Tbl.getD (s.link l).peerNode Peer_blank s.trib.peers).secretNs = 0 →
    (s.link l).deadline = 0 → exec (.fabricSession l hs) s =
    .next (s)) ∧
  (∀ s l (hs : Handshake), l < 32 → s.deaf = false → (s.link l).state = .session →
    (Tbl.getD (s.link l).peerNode Peer_blank s.trib.peers).secretNs = 0 → (s.link l).deadline ≠ 0 →
    (hs.chainOk && policyAdmits s.weir.record.policy hs.fabricId hs.rollback hs.measure) = false → exec (.fabricSession l hs) s =
    .next (s.failLink l .refused)) ∧
  (∀ s l (hs : Handshake), l < 32 → s.deaf = false → (s.link l).state = .session →
    (Tbl.getD (s.link l).peerNode Peer_blank s.trib.peers).secretNs = 0 → (s.link l).deadline ≠ 0 →
    (hs.chainOk && policyAdmits s.weir.record.policy hs.fabricId hs.rollback hs.measure) = true → exec (.fabricSession l hs) s =
    .next (let n := (s.link l).peerNode
        let f := s.free
        let g := f.2.free
        let h := g.2.free
        let s1 := (h.2.putSlot (slotCode 5 n) (kdf (le 32 g.1) "peer" (le 32 h.1))).peer! n (fun p => { p with
              secretNs := s.now + 86400000000000, rollback := hs.rollback, measure := hs.measure, fabricId := hs.fabricId })
        let secret := match s1.weir.slots.find? (fun k => decide (k.1 = slotCode 5 n)) with | some k => k.2 | none => zeros 32
        ((s1.linkKeys l secret f.1 hs.nonce).linkUp l).startSessions)) ∧
  (∀ s l hs, l < 32 → s.deaf = false → (s.link l).state = .session → (Tbl.getD (s.link l).peerNode Peer_blank s.trib.peers).secretNs ≠ 0 →
    exec (.fabricSession l hs) s =
    .next (((s.free.2.linkKeys l (match s.free.2.weir.slots.find? (fun k => decide (k.1 = slotCode 5 (s.link l).peerNode)) with | some k => k.2 | none => zeros 32) s.free.1 hs.nonce).linkUp l).startSessions)) ∧
  (∀ s l, l < 32 → s.deaf = false → linkStep (s.link l).state ≠ 0 → (s.link l).deadline ≠ 0 → exec (.linkStepTimeout l) s =
    .next (((s.reach (s.link l).deadline).failLink l .down).linkRecord l 0 (linkStep (s.link l).state))) ∧
  (∀ s l, l < 32 → s.deaf = false → (s.link l).state = .refused ∨ (s.link l).state = .down → (s.link l).enable = true → s.nodeId.isNone = false →
    exec (.linkRetry l) s =
    .next (((s.reach (s.link l).deadline).link! l (fun y => { y with retrains := Nat.min 255 (y.retrains + 1) })).startLink l)) ∧
  (∀ s l, l < 32 → s.deaf = false → Link_live (s.link l) = false → (s.link l).enable = true → (s.link l).leftUpNs ≠ 0 → exec (.retrainSlow l) s =
    .next (((s.reach ((s.link l).leftUpNs + ms (s.fld Reg.TRB_TIMING 0 8))).link! l (fun y => { y with leftUpNs := 0 })).linkRecord l 2 0)) ∧
  (∀ s l, l < 32 → s.deaf = false → (s.link l).state = .up → (s.link l).draining = false → exec (.trickle l) s =
    .next (((s.control l .trickle).link! l (fun y => { y with draining := true })).pathsLost s)) ∧
  (∀ s l, l < 32 → s.deaf = false → (s.link l).state = .up → (s.link l).draining = true → (s.link l).replay = [] → (s.link l).queue = [] →
    exec (.trickleSwitch l) s =
    .next (s.link! l (fun y => { y with state := .trickle, draining := false, lastRxNs := s.now, lastTxNs := s.now }))) ∧
  (∀ s l, l < 32 → s.deaf = false → (s.link l).spwTrickle = false → s.spw.state ≠ .standby → exec (.wake l) s =
    .next (s.wakeLink l false)) ∧
  (∀ s l, l < 32 → s.deaf = false → Link_live (s.link l) = true → exec (.quarantineNotice l) s =
    .next (s.declareLost (s.link l).peerNode)) ∧
  (∀ s l, l < 32 → s.deaf = false → Link_live (s.link l) = true → exec (.lostYou l) s =
    .next (s.declareLost (s.link l).peerNode)) ∧
  (∀ s n, exec (.peerSecretExpiry n) s =
    .next (if (Tbl.getD n Peer_blank s.trib.peers).secretNs = 0 then s else (s.reach (Tbl.getD n Peer_blank s.trib.peers).secretNs).dropSecret n))

/-- R384, R390 to R396, R404, R405: packets at the node they are for, and the times after which an operation or a node is given up. -/
def Obligations.PacketsAndFlows : Prop :=
  (∀ s (p : Packet), s.deaf = false → p.op = 1 → p.dst = s.nodeNo → exec (.putPacket p) s =
    .next (s.receive p 0)) ∧
  (∀ s (p : Packet), s.deaf = false → p.op = 2 → p.dst = s.nodeNo → exec (.getPacket p) s =
    .next (s.receive p 0)) ∧
  (∀ s (p : Packet), s.deaf = false → p.op = 3 → p.dst = s.nodeNo → exec (.atomic p) s =
    .next (s.receive p 0)) ∧
  (∀ s (p : Packet), s.deaf = false → p.op = 4 → p.dst = s.nodeNo → exec (.nput p) s =
    .next (s.receive p 0)) ∧
  (∀ s (p : Packet), s.deaf = false → p.op = 0x10 → p.dst = s.nodeNo → exec (.getData p) s =
    .next (s.receive p 0)) ∧
  (∀ s (p : Packet), s.deaf = false → p.op = 0x11 → p.dst = s.nodeNo → exec (.completion p) s =
    .next (s.receive p 0)) ∧
  (∀ s (p : Packet), s.deaf = false → p.op = 0x20 → p.subop = 0 → p.dst = s.nodeNo → exec (.ping p) s =
    .next (s.receive p 0)) ∧
  (∀ s (p : Packet), s.deaf = false → p.op = 0x20 → p.subop = 1 → p.dst = s.nodeNo → exec (.pong p) s =
    .next (s.receive p 0)) ∧
  (∀ s (p : Packet), s.deaf = false → p.op = 0x21 → p.dst = s.nodeNo → exec (.lossNotice p) s =
    .next (s.receive p 0)) ∧
  (∀ s d o late gone t, s.trib.held.find? (fun (h : Packet × Nat × Nat) => decide (h.1.dst = d) && (s.choice h.1).isNone) = some o →
    (fun (h : Packet × Nat × Nat) => decide (h.1.dst = d) && (s.choice h.1).isNone && decide (h.2.1 + s.unreachNs ≤ (s.reach (o.2.1 + s.unreachNs)).now)) = late →
    (s.reach (o.2.1 + s.unreachNs)).trib.held.filter late = gone →
    (gone.foldl (fun (t : State) (h : Packet × Nat × Nat) => t.taken h.1 h.2.2) ((s.reach (o.2.1 + s.unreachNs)).trib! (fun t => { t with held := t.held.filter (fun h => !late h) }))).count Reg.TRB_CNT0 6 gone.length = t →
    t.choices d 0 = [] → exec (.unreachTimeout d) s =
    .next (t.declareLost d)) ∧
  (∀ s n c f t0, c < 4 → Tbl.find (n * 4 + c) s.trib.rxFlows = some f → minL (f.held.map (fun (h : Packet × Nat × Nat) => h.2.1)) = some t0 →
    exec (.flowHoldTimeout n c) s =
    .next (f.held.foldl (fun (t : State) (h : Packet × Nat × Nat) => t.taken h.1 h.2.2) ((s.reach (t0 + s.flowHoldNs)).trib! (fun t => { t with rxFlows := Tbl.put (n * 4 + c) { f with held := [], dropping := true } t.rxFlows })))) ∧
  (∀ s i o, Tbl.find i s.trib.ops = some o → exec (.opTimeout i) s =
    .next (((s.trib.ops.filter (fun x => decide (x.2.dst = o.dst) && decide (x.2.cls = o.cls))).foldl (fun (t : State) (x : Nat × JroOp) =>
      (Tbl.find x.1 t.trib.ops).elim t (fun y => (t.opEnds x.1 y jPathLost).count Reg.TRB_CNT0 7 1))
      ((s.reach (o.sentNs + us s.opTmoUs)).trib! (fun t => { t with txFlows := Tbl.put (o.dst * 4 + o.cls) { (Tbl.getD (o.dst * 4 + o.cls) ⟨0, false⟩ t.txFlows) with resync := true } t.txFlows }))).probe o.dst)) ∧
  (∀ s n, (Tbl.getD n Peer_blank s.trib.peers).probeNs ≠ 0 → exec (.probeTimeout n) s =
    .next ((s.reach (Tbl.getD n Peer_blank s.trib.peers).probeNs).declareLost n))

/-- R299, R306, R357, R540 to R544: ordinary accesses, units that fail, and the scrubs. -/
def Obligations.FailuresAndScrubs : Prop :=
  (∀ s k, k < 8 → exec (.stackFail k) s =
    .next (s.stackFail k 0x0024)) ∧
  (∀ s c x, c < 32 → Tbl.find c s.delta.chans = some x → x.state ≠ .fenced → x.state ≠ .absent → exec (.channelFail (.channel c)) s =
    .next ((s.raise (unitOf 0x0C c) 0x0025 .u none 0xFF 0x3FF 0 0 0).flashGone (fun l => decide (l / 32 = c)))) ∧
  (∀ s c, c < 32 → (Tbl.find c s.delta.chans = none ∨ ∃ x, Tbl.find c s.delta.chans = some x ∧ (x.state = .fenced ∨ x.state = .absent)) →
    exec (.channelFail (.channel c)) s =
    .next (s)) ∧
  (∀ s l x, l < 1024 → Tbl.find (l / 32) s.delta.chans = some x → x.state ≠ .fenced → x.state ≠ .absent → s.delta.failedLuns.contains l = false →
    x.targets.contains (l % 32 / 4) = true → l % 4 < s.delta.geom.luns → exec (.channelFail (.lun l)) s =
    .next (let unit := unitOf 0x0C (l / 32)
      let s1 := if s.handlerOpen unit then s.raise unit 0x0025 .u none 0xFF 0x3FF 0 0 0 else (s.form unit 0x0025 .u false 0xFF 0x3FF 0 0).openHandler unit .u
      (s1.delta! (fun d => { d with
          failedLuns := d.failedLuns ++ [l]
          chans := Tbl.upd (l / 32) (fun c => { c with state := if c.state = .up then .degraded else c.state, lunsFailed := c.lunsFailed + 1 }) d.chans })).flashGone
          (fun y => decide (y = l)))) ∧
  (∀ s k c, k < 8 → c < 32 → s.gauge.fenced.contains (unitOf (2 + k) (0x80 + c)) = false → exec (.channelFail (.hbm k c)) s =
    .next ((s.raise (unitOf (2 + k) (0x80 + c)) 0x0025 .u none 0xFF 0x3FF 0 0 0).poisonIn (fun d a =>
        if k < 4 then a.blocks.any (fun b => decide (b.cell / 128 = k) && decide (b.cell % 128 / 4 = c)) else s.inBasin d (k - 4) (some c) && decide (a.toks ≠ [])))) ∧
  (∀ s (a : OrdAccess) l, ordOk a = true → a.target = .mesh l → exec (.ordinaryAccess a) s =
    .next (s.meetWord (unitOf 0x0B l) 5 0x0003 0x0004 a.target a.batch (symOutcome a.poisoned a.err))) ∧
  (∀ s (a : OrdAccess), ordOk a = true → a.cell = none → (∀ l, a.target ≠ .mesh l) → exec (.ordinaryAccess a) s =
    .next (s.basinUnit.2.accessed s.basinUnit.1 2 a)) ∧
  (∀ s (a : OrdAccess) n, ordOk a = true → a.cell = some n → (∀ l, a.target ≠ .mesh l) → exec (.ordinaryAccess a) s =
    .next (if (s.cell n).bundle.isSome then s.waitBundle n a else (s.serveAll n).serveAccess n a)) ∧
  (∀ s l, (s.scrubOf 0).paused = false → s.spw.state ≠ .standby → s.cru.held = false → s.host.nodeState = .running → exec (.hbmScrub l) s =
    .next ((l.foldl (fun u x => u.hbmFind x) s).scrub! 0 (fun x => { x with passRuns := false }))) ∧
  (∀ s l, (s.scrubOf 1).paused = false → s.spw.state ≠ .standby → s.cru.held = false → s.host.nodeState = .running → exec (.sramScrub l) s =
    .next ((l.foldl (fun u x => u.sramFind x) s).scrub! 1 (fun x => { x with passRuns := false }))) ∧
  (∀ s k, k < 4 → (s.scrubOf 3).paused = false → s.spw.state ≠ .standby → s.cru.held = false → s.host.nodeState = .running → exec (.planeScrub k) s =
    .next ((s.search.colls.foldl (fun u y => (Coll_badPlanes y.2 k).foldl (fun v p =>
      ((v.mrcCount (128 * k) 7 1).logC (unitOf (2 + k) 0xFF) 0x0011 y.2.comp 0x3FF 0 0).coll! y.1 (fun c => c.rewritePlane p)) u) s).scrub! 3 (fun x => { x with passRuns := false }))) ∧
  (∀ s weak, s.deltaUp = true → (s.scrubOf 2).paused = false → s.spw.state ≠ .standby → s.cru.held = false → s.host.nodeState = .running →
    exec (.flashScrub weak) s =
    .next ((weak.foldl (fun u b => u.moveWeak b) s).scrub! 2 (fun x => { x with passRuns := false })))

/-- R548, R549, R574, R577, R578: what the dump opcodes write, and STANDBY. -/
def Obligations.DumpsAndStandby : Prop :=
  (∀ c, Acts .reachDump 0x0802 (fun m t => m.comp ≠ 64 ∧ t.coll (collKey m.comp (m.p 0 2)) = some c ∧ c.state ≠ .dropping ∧ m.p 2 2 = 0 ∧
    m.p 0x0C 4 = 0 ∧ 1 ≤ m.p 8 4 ∧ m.p 8 4 ≤ 4096 ∧
    (((sortBy (fun a b => decide (a < b)) (Tbl.keys c.reaches)).filter (fun r => decide (m.p 4 4 ≤ r) && decide (r < m.p 4 4 + m.p 8 4))).flatMap (reachRecord c)).length ≤ m.p 0x18 8)
    (fun m t => let l := (sortBy (fun a b => decide (a < b)) (Tbl.keys c.reaches)).filter (fun r => decide (m.p 4 4 ≤ r) && decide (r < m.p 4 4 + m.p 8 4))
      (t.output m (m.p 0x10 8) (l.flatMap (reachRecord c))).done m (le 8 c.lastEpoch ++ le 4 l.length ++ le 4 0))) ∧
  (∀ c, Acts .catchmentDump 0x0803 (fun m t => m.comp ≠ 64 ∧ t.coll (collKey m.comp (m.p 0 2)) = some c ∧ c.state ≠ .dropping ∧ m.p 4 4 = 0 ∧
    (t.catchRecords c (m.p 2 2)).flatten.length ≤ m.p 0x10 8)
    (fun m t => (t.output m (m.p 8 8) (t.catchRecords c (m.p 2 2)).flatten).done m (le 4 (t.catchRecords c (m.p 2 2)).length ++ le 4 0))) ∧
  (∀ s, s.spw.state = .active → s.serves = true → s.host.d3hot = false → exec (.standbyEntry) s =
    .next (s.standbyBegin)) ∧
  (∀ s, s.spw.state = .entering → s.weir.state ≠ .quarantined → s.cru.held = false → exec (.standbyEntry) s =
    .next (s.standbyGoesOn)) ∧
  (∀ s, s.cru.held = false → s.weir.state ≠ .quarantined → s.host.d3hot = true → exec (.wakeFromStandby .d0) s =
    .next (if s.spw.state = .standby then ((s.toD0).spw! (fun x => { x with wakeByPeer := false })).powerUp else (s.toD0).spw! (fun x => { x with wakeByPeer := false }))) ∧
  (∀ s w, s.cru.held = false → s.weir.state ≠ .quarantined → w ≠ .d0 → s.spw.state = .standby → exec (.wakeFromStandby w) s =
    .next (((s.powerUp).spw! (fun x => { x with wakeByPeer := true })).count Reg.SPW_CNT0 3 1)) ∧
  (∀ s, s.serves = true → s.host.d3hot = true → s.spw.wakeByPeer = true → s.slc.batches = [] →
    s.slc.ctxs.filter (fun c => decide (c.2.state ≠ .quiet)) = [] → exec (.standbyReturn) s =
    .next (((s.reach (s.spw.idleSinceNs + ms 100)).spw! (fun x => { x with state := .entering, wakeByPeer := false })).standbyGoesOn))

/-- R553: an event counter saturates at 2^64 − 1, counts nothing else, and reads zero after a node reset. -/
def Obligations.CountersSaturate : Prop :=
  (∀ (s : State) (base i n : Nat), (s.count base i n).raw (base + 8 * i) = Nat.min (2 ^ 64 - 1) (s.raw (base + 8 * i) + n)) ∧
  (∀ (s : State) (base i n a : Nat), a ≠ base + 8 * i → (s.count base i n).raw a = s.raw a) ∧
  (∀ (s : State) (cause recovery pins a : Nat) (m : RMap), regAt a = some m → counterBases.contains m.base = true →
    (s.packageReset rstNode cause recovery pins).raw a = 0)

/-- R531: Gauge keeps the node log across every reset except cold reset and loss of power, and sets PRIOR in every record it holds. -/
def Obligations.LogAcrossResets : Prop :=
  (∀ (s : State) (typ cause recovery pins : Nat), typ ≠ rstCold →
    (s.packageReset typ cause recovery pins).gauge.log = s.gauge.log.map (fun r => { r with prior := true })) ∧
  (∀ (s : State) (powerOn : Bool) (pins : Nat), ∃ t, exec (.coldReset powerOn pins) s = .next t ∧ t.gauge.log = []) ∧
  (∀ (s : State) (cause : WarmCause) (pins : Nat), s.cru.held = false → s.weir.state ≠ .quarantined → (cause = .linkDown → s.host.linkUp = true) →
    ∃ t, exec (.pcieWarmReset cause pins) s = .next t ∧ t.gauge.log = s.gauge.log.map (fun r => { r with prior := true }))

/-- R536: a class D, X or U error of a unit whose handler is open is raised one class, with NESTED set: D to X, which tears down the batch that
consumes the data, or to U for the unit when none does; X to U, which fences the unit; U to N. A class C error is never raised, and an open
handler of another unit raises nothing. -/
def Obligations.NestedErrorsRaised : Prop :=
  (∀ (s : State) (unit typ b comp ctx addr detail status : Nat), s.handlerOpen unit = true →
    s.raise unit typ .d (some b) comp ctx addr detail status =
      (((s.count Reg.ERR_CNT0 4 1).form unit typ .x true comp ctx addr detail).teardown b status).openHandler unit .x) ∧
  (∀ (s : State) (unit typ comp ctx addr detail status : Nat), s.handlerOpen unit = true →
    s.raise unit typ .d none comp ctx addr detail status =
      (((s.count Reg.ERR_CNT0 4 1).form unit typ .u true comp ctx addr detail).fenceUnit unit).openHandler unit .u) ∧
  (∀ (s : State) (unit typ : Nat) (b : Option Nat) (comp ctx addr detail status : Nat), s.handlerOpen unit = true →
    s.raise unit typ .x b comp ctx addr detail status =
      (((fun t => match b with | some n => State.teardown t n status | none => t)
        ((s.count Reg.ERR_CNT0 4 1).form unit typ .u true comp ctx addr detail)).fenceUnit unit).openHandler unit .u) ∧
  (∀ (s : State) (unit typ : Nat) (b : Option Nat) (comp ctx addr detail status : Nat), s.handlerOpen unit = true →
    s.raise unit typ .u b comp ctx addr detail status = ((s.count Reg.ERR_CNT0 4 1).form unit typ .n true comp ctx addr detail).fatal unit) ∧
  (∀ (s : State) (unit typ : Nat) (b : Option Nat) (comp ctx addr detail status : Nat),
    s.raise unit typ .c b comp ctx addr detail status = s.logC unit typ comp ctx addr detail) ∧
  (∀ (s : State) (unit typ : Nat) (b : Option Nat) (comp ctx addr detail status : Nat), s.handlerOpen unit = false →
    s.raise unit typ .d b comp ctx addr detail status = (s.form unit typ .d false comp ctx addr detail).openHandler unit .d) ∧
  (∀ (s : State) (unit other : Nat) (k : ErrClass), other ≠ unit → (s.openHandler other k).handlerOpen unit = s.handlerOpen unit)

/-- R533: the drain sets the PEND bit of the class of each record that it logs; where the bit was 0 and its EN bit is 1, PF vector 0 is sent, and
otherwise nothing is sent. -/
def Obligations.LoggingSetsPend : Prop :=
  (∀ (s : State) (k : ErrClass), bit ((s.pend k).raw Reg.ERR_INT) k.code = true) ∧
  (∀ (s : State) (k : ErrClass), bit (s.raw Reg.ERR_INT) k.code = false → bit (s.raw Reg.ERR_INT) (16 + k.code) = true →
    s.pend k = (s.setFld Reg.ERR_INT k.code 1 1).emit 0 (.msix 0 0 (s.func 0).ideEnabled)) ∧
  (∀ (s : State) (k : ErrClass), bit (s.raw Reg.ERR_INT) k.code = true ∨ bit (s.raw Reg.ERR_INT) (16 + k.code) = false →
    (s.pend k).host = s.host) ∧
  (∀ (s : State) (u n : Nat) (r : GRec) (rest : List GRec), s.cru.held = false → s.gauge.drainStopped = false →
    minL (s.gauge.queues.filterMap (fun q => q.2.head?.map (·.seq))) = some n →
    s.gauge.queues.find? (headSeq n) = some (u, r :: rest) →
    (logInsert 65536 s.gauge.log r).2.1 = true →
    ∃ t v : State, exec .logDrain s = .next t ∧ t = v.pend r.cls ∧ v.gauge.log = (logInsert 65536 s.gauge.log r).1 ∧ v.host = s.host)

/-- R559: CAP_W is taken within 800 to 1,050, TJ_THROTTLE_C within 85 to 100 and any other value as 100. -/
def Obligations.SpillwayLimits : Prop :=
  (∀ s : State, s.fld Reg.SPW_CFG 32 16 < 800 → s.capW = 800) ∧
  (∀ s : State, 800 ≤ s.fld Reg.SPW_CFG 32 16 → s.fld Reg.SPW_CFG 32 16 ≤ 1050 → s.capW = s.fld Reg.SPW_CFG 32 16) ∧
  (∀ s : State, 1050 < s.fld Reg.SPW_CFG 32 16 → s.capW = 1050) ∧
  (∀ s : State, 85 ≤ s.fld Reg.SPW_CFG 24 8 → s.fld Reg.SPW_CFG 24 8 ≤ 100 → s.tjThrottle = s.fld Reg.SPW_CFG 24 8) ∧
  (∀ s : State, s.fld Reg.SPW_CFG 24 8 < 85 ∨ 100 < s.fld Reg.SPW_CFG 24 8 → s.tjThrottle = 100)

/-- R16, R17: of several writes of a class S field before its boundary only the last value takes effect, at the boundary; PENDING is 1 until the
last waiting shadow of the register has taken effect. -/
def Obligations.ShadowsTakeTheLastWrite : Prop :=
  (∀ (s : State) (a lo w v1 v2 : Nat) (r1 r2 : List Nat), lo + w ≤ 64 → r2 ≠ [] →
    let t := (s.writeS a lo w v1 r1).writeS a lo w v2 r2
    (∃ h, t.shadow a lo = some h ∧ h.newVal = v2 % 2 ^ w) ∧
    t.pendingBit a = true ∧
    (∀ g ∈ r2, t.fldFor a lo w g = (s.writeS a lo w v1 r1).fldFor a lo w g) ∧
    (r2.foldl (fun u g => u.boundary a lo w g) t).fld a lo w = v2 % 2 ^ w ∧
    (r2.foldl (fun u g => u.boundary a lo w g) t).shadow a lo = none) ∧
  (∀ (s : State) (a lo w g l : Nat), l ≠ lo → (s.boundary a lo w g).shadow a l = s.shadow a l) ∧
  (∀ (s : State) (a : Nat), s.pendingBit a = true ↔ ∃ lo, (s.shadow a lo).isSome = true)

/-- R470: a message whose REPLY_ADDR is not 64-byte aligned or whose REPLY_LEN is below 64 is dropped: nothing is written for the host, no message
is outstanding for it, UNREPLIED_SEQ and UNREPLIED_REASON name it and REPLY_AREA, and HWD_CNT2 counts it. -/
def Obligations.DroppedWithoutReply : Prop :=
  ∀ (s : State) (mb : Nat), mb ≤ 64 → (Tbl.find mb s.host.boxes).isSome = true → s.takesMessages = true → (s.box mb).state = .pending →
    (s.box mb).outstanding < 1024 → s.batchesWaiting < 4096 →
    natAt (Mem.readBytes (s.box mb).window 0 32) 16 8 % 64 ≠ 0 ∨ natAt (Mem.readBytes (s.box mb).window 0 32) 24 4 < 64 →
    ∃ t, exec (.messageTake mb) s = .next t ∧
      (t.box mb).unrepliedSeq = (s.box mb).takenSeq + 1 ∧ (t.box mb).unrepliedReason = 0x0F05 ∧
      (t.box mb).inbox = (s.box mb).inbox ∧ (t.box mb).outstanding = (s.box mb).outstanding ∧
      t.host.out = s.host.out ∧ t.host.funcs = s.host.funcs ∧
      t.raw (Reg.HWD_CNT0 + 16) = Nat.min (2 ^ 64 - 1) (s.raw (Reg.HWD_CNT0 + 16) + 1)

/-- R282, R84: a lane keeps the greatest threshold key it has received, which never passes its query's threshold: a lower key is ignored; other lanes and the cell's rows do not change. -/
def Obligations.GreatestThetaKept : Prop :=
  ∀ (s : State) (n l v : Nat) (c : Cell) (x : Lane) (m : Nat), n < 512 → Tbl.find n s.mrc.cells = some c → Tbl.find l c.lanes = some x → v < 2 ^ 32 →
    Nat.min v ((s.query x.batch x.query).elim 0 (fun y => y.theta)) = m →
    ∃ t c', exec (.thetaPush n l v) s = .next t ∧ Tbl.find n t.mrc.cells = some c' ∧
      Tbl.find l c'.lanes = some { x with key := if m < x.key then x.key else m } ∧
      (∀ k, k ≠ l → Tbl.find k c'.lanes = Tbl.find k c.lanes) ∧
      (∀ k, k ≠ n → Tbl.find k t.mrc.cells = Tbl.find k s.mrc.cells) ∧
      c'.issues = c.issues ∧ c'.queue = c.queue ∧ t.regs = s.regs ∧ t.host = s.host ∧ t.search = s.search ∧ t.slc = s.slc

/-- R460: what a function issues while its Bus Master Enable is 0 waits, after what waits already, and goes out in that order when the bit returns to
1; of the rest of the node nothing changes. -/
def Obligations.BusMasterWaits : Prop :=
  (∀ (s : State) (fn : Nat) (e : HostEvt), Live s → (s.func fn).suppressed = false → (s.func fn).busMaster = false →
    s.emit fn e = s.func! fn (fun f => { f with waiting := f.waiting ++ [e] })) ∧
  (∀ (s : State) (fn : Nat) (f : Func), fn ≤ 64 → Live s → Tbl.find fn s.host.funcs = some f → f.suppressed = false →
    ∃ t, exec (.busMasterEnable fn true) s = .next t ∧ t.host.out = s.host.out ++ f.waiting ∧
      (t.func fn).waiting = [] ∧ (t.func fn).busMaster = true ∧ (∀ k, k ≠ fn → t.func k = s.func k) ∧ t.host.boxes = s.host.boxes ∧
      t.regs = s.regs ∧ t.slc = s.slc ∧ t.weir = s.weir)

/-- R502: on quarantine, Weir keeps no key slot but the CONTROL tag keys (kind 3) and no session secret, records cause, unit and time, holds every other
unit in reset, leaves the links QUARANTINE in trickle mode, and drives WTRIP_N low for the two trips. -/
def Obligations.QuarantineEffects : Prop :=
  ∀ (s : State) (cause unit : Nat), s.weir.state ≠ .quarantined →
    let t := s.quarantine cause unit
    t.weir.state = .quarantined ∧ t.weir.quarCause = cause ∧ t.weir.quarUnit = unit ∧ t.weir.quarNs = s.now ∧
    t.weir.slots = s.weir.slots.filter (fun k => decide (k.1 / 65536 = 3)) ∧ t.weir.spdm = [] ∧
    (∀ p ∈ t.trib.peers, p.2.secretNs = 0) ∧
    t.slc = SluiceSt.reset ∧ t.search = SearchSt.reset ∧ t.mrc = MrcSt.reset ∧ t.ferry = FerrySt.reset ∧ t.delta = deltaKept s.delta ∧
    t.host.nodeState = .boot ∧ t.host.boxes = tblOf 65 boxReset ∧ t.trib.ops = [] ∧ t.trib.txFlows = [] ∧ t.trib.held = [] ∧
    (∀ (n : Nat) (l : Link), (n, l) ∈ s.trib.links → (l.state = .up ∨ l.state = .trickle) →
      (n, ({ l with state := .trickle, queue := [], out := l.out ++ [.ctl .quarantine] } : Link)) ∈ t.trib.links) ∧
    (∀ k ∈ t.trib.links, k.2.state ≠ .up) ∧
    (cause = 3 ∨ cause = 4 → t.weir.wtripLow = true ∧ t.host.out = s.host.out ++ [.wtrip true]) ∧
    (cause ≠ 3 → cause ≠ 4 → t.weir.wtripLow = s.weir.wtripLow ∧ t.host.out = s.host.out)

/-- R189, R123: SLOT_FREE frees a TOMBSTONE or FORWARD slot exactly when its LINK is UNLINKED, DEL_EPOCH − 1 is not retained and no query, gather or
bitmap read with a lower read epoch is in flight: STATE becomes FREE, GEN rises by one modulo 256, no other slot changes, and the reach's tombstone
count stays; in every other case the slot stays as it is. -/
def Obligations.SlotFreeing : Prop :=
  ∀ (s : State) (k i : Nat) (c : Coll) (z : Slot), s.coll k = some c → Tbl.find i c.slots = some z →
    ∃ t c', exec (.slotFree k i) s = .next t ∧ t.coll k = some c' ∧
      (∀ j, j ≠ i → Tbl.find j c'.slots = Tbl.find j c.slots) ∧ c'.tombs z.reach = c.tombs z.reach ∧
      if (z.state = .tombstone ∨ z.state = .forward) ∧ z.link = .unlinked ∧ s.retained k c (z.delEpoch - 1) = false ∧
          (∀ e ∈ s.inFlight k, z.delEpoch ≤ e)
      then ∃ z', Tbl.find i c'.slots = some z' ∧ z'.state = .free ∧ z'.gen = (z.gen + 1) % 256
      else Tbl.find i c'.slots = some z

/-- R530: a record arrives at the node log of 65,536 records. Below that it is appended. At a full log whose lowest tier is `m`, it replaces the oldest
record of tier `m`, of class C where the tier is 0 and one is there, unless its own tier is below `m`: then it is dropped. Each replacement or drop is
counted in ERR_CNT3. -/
def Obligations.NodeLogReplacement : Prop :=
  (∀ (log : List GRec) (r : GRec), log.length < 65536 → logInsert 65536 log r = (log ++ [r], true, false)) ∧
  (∀ (log : List GRec) (r : GRec) (m : Nat), 65536 ≤ log.length → (∃ x ∈ log, tierOf x.cls = m) → (∀ x ∈ log, m ≤ tierOf x.cls) →
    if tierOf r.cls < m then logInsert 65536 log r = (log, false, true)
    else ∃ pre x post, log = pre ++ x :: post ∧ tierOf x.cls = m ∧ logInsert 65536 log r = (pre ++ post ++ [r], true, true) ∧
      (if m = 0 ∧ ∃ y ∈ log, y.cls = .c then x.cls = .c ∧ ∀ y ∈ pre, y.cls ≠ .c else ∀ y ∈ pre, tierOf y.cls ≠ m)) ∧
  (∀ (s : State) (u n : Nat) (r : GRec) (rest : List GRec), s.cru.held = false → s.gauge.drainStopped = false →
    minL (s.gauge.queues.filterMap (fun q => q.2.head?.map (·.seq))) = some n → s.gauge.queues.find? (headSeq n) = some (u, r :: rest) →
    ∃ t, exec .logDrain s = .next t ∧ t.gauge.log = (logInsert 65536 s.gauge.log r).1 ∧
      t.raw (Reg.ERR_CNT0 + 24) = if (logInsert 65536 s.gauge.log r).2.2 then Nat.min (2 ^ 64 - 1) (s.raw (Reg.ERR_CNT0 + 24) + 1)
        else s.raw (Reg.ERR_CNT0 + 24))

/-- R560: a sample sends PF MSI-X vector 1 once when it changes STATE from ACTIVE to CAPPED and once when it enters stage Z, and no other event. -/
def Obligations.SpillwayVector : Prop :=
  ∀ (s t : State) (powerW tjC : Nat), Live s → (s.func 0).busMaster = true → (s.func 0).suppressed = false →
    exec (.spillwaySample powerW tjC) s = .next t →
    t.host.out = s.host.out ++ List.replicate
      (b2n (decide (s.spw.state = .active) && decide (t.spw.state = .capped)) + b2n (!s.spw.zStage && t.spw.zStage))
      (.msix 0 1 (s.func 0).ideEnabled)

/-- A command that names units the node has always completes, and one that names another unit is the only one that stops, with NO_SUCH_UNIT. -/
def Obligations.EveryCommandAnswers : Prop :=
  ∀ (c : Instr) (s : State),
    (c.WellFormed = true → ∃ t, exec c s = .next t) ∧ (c.WellFormed = false → exec c s = .fault .noSuchUnit)

/-- Step takes the command at the front of the queue and answers what exec answers on the state with the queue's rest. -/
def Obligations.StepTakesFront : Prop :=
  ∀ (c : Instr) (rest : List Instr) (s : State), step { s with pending := c :: rest } = exec c { s with pending := rest }

/-- Model's choice (log 22): on an empty queue a step is 1 ns of node time and nothing else. -/
def Obligations.EmptyQueueIdles : Prop :=
  ∀ s : State, s.pending = [] → ∃ t, step s = .next t ∧ t.now = s.now + 1 ∧ { t with now := s.now } = s

/-- No command looks at, adds to or takes from the queue of waiting commands. -/
def Obligations.QueueLeftAlone : Prop :=
  ∀ (c : Instr) (s t : State), exec c s = .next t → t.pending = s.pending

/-- R563, R567, R472: the node right after a cold reset: node time zero, BOOT, every mailbox CLOSED, every register at its reset value, no record, no
composition, no collection, no message waiting, no command waiting. -/
def Obligations.ResetState : Prop :=
  State.reset.now = 0 ∧ State.reset.pending = [] ∧ State.reset.weir.state = .boot ∧ State.reset.host.nodeState = .boot ∧
  (∀ mb, mb ≤ 64 → (State.reset.box mb).state = .closed ∧ (State.reset.box mb).inbox = [] ∧ (State.reset.box mb).outstanding = 0) ∧
  (∀ a, State.reset.raw a = regReset a) ∧ State.reset.gauge.log = [] ∧ State.reset.gauge.queues = [] ∧ State.reset.slc.comps = [] ∧
  State.reset.search.colls = [] ∧ State.reset.trib.links.all (fun l => decide (l.2.state = .disabled)) = true ∧ State.reset.host.out = []

/-- What the four invariants of a run need at its start. -/
def Obligations.ResetKeepsForms : Prop :=
  RegFile.canon State.reset.regs = true ∧ memsWf State.reset.host = true ∧ gaugeBounded State.reset.gauge = true ∧
    recordSynced State.reset.weir = true

/-- Every step keeps the canonical forms: the register file lists no register at its reset value and no address twice, and the staging area and the
mailbox windows list no zero byte and no address twice. -/
def Obligations.StepKeepsForms : Prop :=
  ∀ s t : State, step s = .next t → RegFile.canon s.regs = true ∧ memsWf s.host = true → RegFile.canon t.regs = true ∧ memsWf t.host = true

/-- Every step keeps the bounds of R529 and R530: 64 records in a unit's queue, 56 of them of class C, and 65,536 in the node log. -/
def Obligations.StepKeepsGaugeBounds : Prop :=
  ∀ s t : State, step s = .next t → gaugeBounded s.gauge = true → gaugeBounded t.gauge = true

/-- Every step keeps the manufacturing record of the part, resets included (R6); and in a state whose record is the newest intact copy of the state log,
so it is after the step, and the step does not lower the rollback counter (R493). -/
def Obligations.StepKeepsPartRecord : Prop :=
  ∀ s t : State, step s = .next t → t.weir.mfg = s.weir.mfg ∧
    (recordSynced s.weir = true → recordSynced t.weir = true ∧ s.weir.record.rollback ≤ t.weir.record.rollback)

/-- But for a reset, no step lowers node time (R563) or the SEQ that the next record exceeds (R525). -/
def Obligations.TimeAndSeqNeverFall : Prop :=
  ∀ s t : State, step s = .next t → (∀ c rest, s.pending = c :: rest → Resets c = false) →
    s.now ≤ t.now ∧ s.gauge.lastSeq ≤ t.gauge.lastSeq

/-- But for a reset, a node in quarantine stays in quarantine, and no step then adds a memory write or an MSI-X message to what the host has seen
(R461, R538). -/
def Obligations.QuarantineIsSilent : Prop :=
  ∀ s t : State, step s = .next t → (∀ c rest, s.pending = c :: rest → Resets c = false) → s.weir.state = .quarantined →
    t.weir.state = .quarantined ∧ t.host.out.filter HostEvt.isRequest = s.host.out.filter HostEvt.isRequest

/-- The frame of every command: of the parts of the state, only those that `touches` names for it can differ after it, whatever the state, the operands
and the path taken. -/
def Obligations.EffectsStayInTheirParts : Prop :=
  ∀ (c : Instr) (s t : State), exec c s = .next t → Same (touches c) s t

/-- R529: a record enters its unit's queue behind those that wait, unless the queue holds 64, or the record is of class C and 56 of them are: then it is
dropped and counted in ERR_CNT2. The drain takes the record of least SEQ at the heads of the queues and puts it
into the node log. -/
def Obligations.UnitQueues : Prop :=
  (∀ (s : State) (r : GRec) (q : List GRec), q = Tbl.getD r.unit [] s.gauge.queues →
    64 ≤ q.length ∨ (r.cls = .c ∧ 56 ≤ (q.filter (fun x => decide (x.cls = .c))).length) →
    s.enqueueRec r = s.count Reg.ERR_CNT0 2 1) ∧
  (∀ (s : State) (r : GRec) (q : List GRec), q = Tbl.getD r.unit [] s.gauge.queues →
    q.length < 64 → (r.cls = .c → (q.filter (fun x => decide (x.cls = .c))).length < 56) →
    Tbl.find r.unit (s.enqueueRec r).gauge.queues = some (q ++ [r]) ∧ (s.enqueueRec r).gauge.log = s.gauge.log ∧ (s.enqueueRec r).regs = s.regs ∧
    ∀ u, u ≠ r.unit → Tbl.find u (s.enqueueRec r).gauge.queues = Tbl.find u s.gauge.queues) ∧
  (∀ (s : State) (u n : Nat) (r : GRec) (rest : List GRec), s.cru.held = false → s.gauge.drainStopped = false →
    minL (s.gauge.queues.filterMap (fun q => q.2.head?.map (·.seq))) = some n → s.gauge.queues.find? (headSeq n) = some (u, r :: rest) →
    ∃ t, exec .logDrain s = .next t ∧ r.seq = n ∧ t.gauge.log = (logInsert 65536 s.gauge.log r).1 ∧
      t.gauge.queues = if rest = [] then Tbl.erase u s.gauge.queues else Tbl.put u rest s.gauge.queues)

/-- The frame of the vector unit, the bound path and the selection network (R256, R257, R262): an instruction whose operands are right and not poisoned
and whose sources read without an SRAM error writes its destination registers (two for a widening conversion or 16-bit sources) and nothing else of any core, not the accumulators, the scalars, the scratch or the
flag of a saturated accumulator, nor any register of the node but RIL_CNT2 of its core, nor any other part of the node. -/
def Obligations.VectorFrame : Prop :=
  (∀ s n t k a, Vec s n t k [a.va, a.vb] (a.ty.dst a.vd) a.parity → s.regEcc n [a.va, a.vb] a.ecc = .clean → ∃ u, exec (.vAdd n a) s = .next u ∧
    VecOnly n (a.ty.dst a.vd) s u) ∧
  (∀ s n t k a, Vec s n t k [a.va, a.vb] (a.ty.dst a.vd) a.parity → s.regEcc n [a.va, a.vb] a.ecc = .clean → ∃ u, exec (.vMul n a) s = .next u ∧
    VecOnly n (a.ty.dst a.vd) s u) ∧
  (∀ s n t k a, Vec s n t k [a.va, a.vb] (a.ty.dst a.vd) a.parity → s.regEcc n [a.va, a.vb] a.ecc = .clean → ∃ u, exec (.vMax n a) s = .next u ∧
    VecOnly n (a.ty.dst a.vd) s u) ∧
  (∀ s n t k a, Vec s n t k [a.va, a.vb, a.vc] (a.ty.dst a.vd) a.parity → s.regEcc n [a.va, a.vb, a.vc] a.ecc = .clean →
    ∃ u, exec (.vFma n a) s = .next u ∧ VecOnly n (a.ty.dst a.vd) s u) ∧
  (∀ s n t k c a, Vec s n t k [a.va, a.vb] [a.vd] a.parity → s.regEcc n [a.va, a.vb] a.ecc = .clean → ∃ u, exec (.vCmp n c a) s = .next u ∧
    VecOnly n [a.vd] s u) ∧
  (∀ s n t k a, Vec s n t k [a.va, a.vb, a.vc] [a.vd] a.parity → s.regEcc n [a.va, a.vb, a.vc] a.ecc = .clean →
    ∃ u, exec (.vSel n a) s = .next u ∧ VecOnly n [a.vd] s u) ∧
  (∀ s n t k d a, Vec s n t k [a.va, a.vb] (a.ty.dst a.vd) a.parity → s.regEcc n [a.va, a.vb] a.ecc = .clean → a.ty.fp = true →
    ∃ u, exec (.bAdd n d a) s = .next u ∧ VecOnly n (a.ty.dst a.vd) s u) ∧
  (∀ s n t k d a, Vec s n t k [a.va, a.vb] (a.ty.dst a.vd) a.parity → s.regEcc n [a.va, a.vb] a.ecc = .clean → a.ty.fp = true →
    ∃ u, exec (.bMul n d a) s = .next u ∧ VecOnly n (a.ty.dst a.vd) s u) ∧
  (∀ s n t k d a, Vec s n t k [a.va] (a.ty.dst a.vd) a.parity → s.regEcc n [a.va] a.ecc = .clean → a.ty.fp = true →
    ∃ u, exec (.bSqrt n d a) s = .next u ∧ VecOnly n (a.ty.dst a.vd) s u) ∧
  (∀ s n t k d a, Vec s n t k [a.va, a.vb] (a.ty.dst a.vd) a.parity → s.regEcc n [a.va, a.vb] a.ecc = .clean → a.ty.fp = true →
    ∃ u, exec (.bDiv n d a) s = .next u ∧ VecOnly n (a.ty.dst a.vd) s u) ∧
  (∀ s n t k a, Vec s n t k [a.va] (a.ty.dst a.vd) a.parity → s.regEcc n [a.va] a.ecc = .clean → a.ty.fp = true →
    ∃ u, exec (.vExp2 n a) s = .next u ∧ VecOnly n (a.ty.dst a.vd) s u) ∧
  (∀ s n t k a, Vec s n t k [a.va] (a.ty.dst a.vd) a.parity → s.regEcc n [a.va] a.ecc = .clean → a.ty.fp = true →
    ∃ u, exec (.vSqrt n a) s = .next u ∧ VecOnly n (a.ty.dst a.vd) s u) ∧
  (∀ s n t k a, Vec s n t k [a.va, a.vb] (a.ty.dst a.vd) a.parity → s.regEcc n [a.va, a.vb] a.ecc = .clean → a.ty.fp = true →
    ∃ u, exec (.vDiv n a) s = .next u ∧ VecOnly n (a.ty.dst a.vd) s u) ∧
  (∀ s n t k a, Vec s n t k [a.va] [a.vd, a.vd + 1] a.parity → s.regEcc n [a.va] a.ecc = .clean →
    ∃ u, exec (.convert n .widenBf16 a) s = .next u ∧ VecOnly n [a.vd, a.vd + 1] s u) ∧
  (∀ s n t k a, Vec s n t k [a.va] [a.vd, a.vd + 1] a.parity → s.regEcc n [a.va] a.ecc = .clean →
    ∃ u, exec (.convert n .widenF16 a) s = .next u ∧ VecOnly n [a.vd, a.vd + 1] s u) ∧
  (∀ s n t k a, Vec s n t k [a.va, a.va + 1] [a.vd] a.parity → s.regEcc n [a.va, a.va + 1] a.ecc = .clean →
    ∃ u, exec (.convert n .narrowBf16 a) s = .next u ∧ VecOnly n [a.vd] s u) ∧
  (∀ s n t k a, Vec s n t k [a.va, a.va + 1] [a.vd] a.parity → s.regEcc n [a.va, a.va + 1] a.ecc = .clean →
    ∃ u, exec (.convert n .narrowF16 a) s = .next u ∧ VecOnly n [a.vd] s u) ∧
  (∀ s n t k a, Vec s n t k [a.va] [a.vd] a.parity → s.regEcc n [a.va] a.ecc = .clean → ∃ u, exec (.convert n .i32ToF32 a) s = .next u ∧
    VecOnly n [a.vd] s u) ∧
  (∀ s n t k a m, Vec s n t k ((List.range (cdiv m 512)).map (fun i => a.va + i)) [a.vd] a.parity →
    s.regEcc n ((List.range (cdiv m 512)).map (fun i => a.va + i)) a.ecc = .clean → a.ty = .f32 → 1 ≤ m → m ≤ 4096 →
    ∃ u, exec (.vRedp n m a) s = .next u ∧ VecOnly n [a.vd] s u) ∧
  (∀ s n t k (r : SramRead) x y, Vec s n t k [r.src] [r.src] none → s.regEcc n [r.src] r.ecc = .clean →
    ((List.range 7).any (fun i => decide (x = 2 ^ (i + 1))) && (List.range 7).any (fun i => decide (y = 2 ^ i))
    && decide (y < x)) = true → ∃ u, exec (.cCx n r x y) s = .next u ∧ VecOnly n [r.src] s u) ∧
  (∀ s n t k d a (b : SramRead), Vec s n t k [a, b.src] [d] none → s.regEcc n [a, b.src] b.ecc = .clean →
    ∃ u, exec (.cMerge n d a b) s = .next u ∧ VecOnly n [d] s u)
end

