-- ==== Sys2Proof/Laws/Bits.lean ====
section
/-! SUPPORT. Laws of bit fields: a field set is the field read, and a field apart from it does not change. -/

namespace Sys2Proof

theorem bits_lt (v lo w : Nat) : bits v lo w < 2 ^ w := Nat.mod_lt _ (Nat.two_pow_pos w)

/-- The part of a word from bit `lo` up, after a field of `w` bits from `lo` up is set. -/
theorem setBits_div (v lo w x : Nat) : setBits v lo w x / 2 ^ lo = v / 2 ^ (lo + w) * 2 ^ w + x % 2 ^ w := by
  unfold setBits
  have h : v / 2 ^ (lo + w) * 2 ^ (lo + w) + x % 2 ^ w * 2 ^ lo = 2 ^ lo * (v / 2 ^ (lo + w) * 2 ^ w + x % 2 ^ w) := by
    rw [Nat.pow_add, Nat.mul_add, Nat.mul_comm (2 ^ lo) (x % 2 ^ w), Nat.mul_comm (2 ^ lo) (2 ^ w), Nat.mul_left_comm, ← Nat.mul_assoc,
      Nat.mul_comm (2 ^ lo) (_ * _), Nat.mul_assoc]
    simp only [Nat.mul_comm, Nat.mul_left_comm]
  rw [h, Nat.mul_add_div (Nat.two_pow_pos lo), Nat.div_eq_of_lt (Nat.mod_lt _ (Nat.two_pow_pos lo)), Nat.add_zero]

/-- A field set is the field read. -/
theorem bits_setBits_same (v lo w x : Nat) : bits (setBits v lo w x) lo w = x % 2 ^ w := by
  unfold bits
  rw [setBits_div, Nat.add_comm, Nat.add_mul_mod_self_right, Nat.mod_mod]

/-- Setting a field leaves every field above it. -/
theorem bits_setBits_above (v lo w x l n : Nat) (h : lo + w ≤ l) : bits (setBits v lo w x) l n = bits v l n := by
  unfold bits
  obtain ⟨d, rfl⟩ := Nat.exists_eq_add_of_le h
  congr 1
  rw [show 2 ^ (lo + w + d) = 2 ^ lo * (2 ^ w * 2 ^ d) by simp only [Nat.pow_add, Nat.mul_assoc], ← Nat.div_div_eq_div_mul, setBits_div,
    ← Nat.div_div_eq_div_mul, Nat.mul_comm (v / _), Nat.mul_add_div (Nat.two_pow_pos w), Nat.div_eq_of_lt (Nat.mod_lt _ (Nat.two_pow_pos w)), Nat.add_zero,
    Nat.div_div_eq_div_mul, Nat.pow_add, Nat.mul_assoc]

theorem setBits_mod (v lo w x : Nat) : setBits v lo w x % 2 ^ lo = v % 2 ^ lo := by
  unfold setBits
  rw [Nat.pow_add, show v / (2 ^ lo * 2 ^ w) * (2 ^ lo * 2 ^ w) + x % 2 ^ w * 2 ^ lo + v % 2 ^ lo
      = v % 2 ^ lo + 2 ^ lo * (v / (2 ^ lo * 2 ^ w) * 2 ^ w + x % 2 ^ w) by
    rw [Nat.mul_add, Nat.mul_comm (2 ^ lo) (x % 2 ^ w), Nat.mul_left_comm]; omega]
  rw [Nat.add_mul_mod_self_left, Nat.mod_mod]

/-- Setting a field leaves every field below it. -/
theorem bits_setBits_below (v lo w x l n : Nat) (h : l + n ≤ lo) : bits (setBits v lo w x) l n = bits v l n := by
  obtain ⟨d, rfl⟩ := Nat.exists_eq_add_of_le h
  have e (y : Nat) : bits y l n = y % 2 ^ (l + n + d) / 2 ^ l % 2 ^ n := by
    unfold bits
    rw [show 2 ^ (l + n + d) = 2 ^ l * 2 ^ (n + d) by rw [← Nat.pow_add, Nat.add_assoc], Nat.mod_mul_right_div_self, Nat.pow_add,
      Nat.mod_mul_right_mod]
  rw [e, setBits_mod, ← e]

/-- A bit is a field one bit wide. -/
theorem bit_eq (v i : Nat) : bit v i = decide (bits v i 1 = 1) := by unfold bit bits; rfl

theorem setBits_lt (v lo w x n : Nat) (h : lo + w ≤ n) (hv : v < 2 ^ n) : setBits v lo w x < 2 ^ n := by
  obtain ⟨d, rfl⟩ := Nat.exists_eq_add_of_le h
  unfold setBits
  have h1 : v / 2 ^ (lo + w) < 2 ^ d := Nat.div_lt_of_lt_mul (by rw [← Nat.pow_add]; exact hv)
  have h2 : x % 2 ^ w * 2 ^ lo + v % 2 ^ lo < 2 ^ (lo + w) := by
    have a := Nat.mod_lt x (Nat.two_pow_pos w); have b := Nat.mod_lt v (Nat.two_pow_pos lo)
    calc x % 2 ^ w * 2 ^ lo + v % 2 ^ lo < x % 2 ^ w * 2 ^ lo + 2 ^ lo := by omega
      _ = (x % 2 ^ w + 1) * 2 ^ lo := by rw [Nat.add_mul, Nat.one_mul]
      _ ≤ 2 ^ w * 2 ^ lo := Nat.mul_le_mul_right _ a
      _ = 2 ^ (lo + w) := by rw [Nat.pow_add, Nat.mul_comm]
  calc _ < v / 2 ^ (lo + w) * 2 ^ (lo + w) + 2 ^ (lo + w) := by omega
    _ = (v / 2 ^ (lo + w) + 1) * 2 ^ (lo + w) := by rw [Nat.add_mul, Nat.one_mul]
    _ ≤ 2 ^ d * 2 ^ (lo + w) := Nat.mul_le_mul_right _ h1
    _ = 2 ^ (lo + w + d) := by rw [Nat.pow_add 2 (lo + w) d, Nat.mul_comm]

end Sys2Proof
end

