-- ==== Sys2Proof/Laws/Tbl.lean ====
section
/-! SUPPORT. The laws of the finite maps and of the sparse byte memories: what an update leaves to read, and the canonical forms. -/

namespace Sys2Proof

@[simp] theorem Tbl.find_nil {α : Type} (k : Nat) : Tbl.find (α := α) k [] = none := rfl

theorem Tbl.find_erase_same {α : Type} (k : Nat) (t : Tbl α) : Tbl.find k (Tbl.erase k t) = none := by
  induction t with
  | nil => rfl
  | cons x t ih => obtain ⟨j, b⟩ := x; by_cases h : j = k <;> simp [Tbl.erase, Tbl.find, h, ih]

theorem Tbl.find_erase_other {α : Type} (k l : Nat) (t : Tbl α) (h : l ≠ k) : Tbl.find l (Tbl.erase k t) = Tbl.find l t := by
  induction t with
  | nil => rfl
  | cons x t ih =>
    obtain ⟨j, b⟩ := x
    by_cases h1 : j = k
    · subst h1; simp [Tbl.erase, Tbl.find, ih, Ne.symm h]
    · by_cases h2 : j = l
      · subst h2; simp [Tbl.erase, Tbl.find, h1]
      · simp [Tbl.erase, Tbl.find, h1, h2, ih]

theorem Tbl.find_put_same {α : Type} (k : Nat) (a : α) (t : Tbl α) : Tbl.find k (Tbl.put k a t) = some a := by
  induction t with
  | nil => simp [Tbl.put, Tbl.find]
  | cons x t ih =>
    obtain ⟨j, b⟩ := x
    by_cases h1 : k < j
    · simp [Tbl.put, Tbl.find, h1]
    · by_cases h2 : j = k <;> simp [Tbl.put, Tbl.find, h1, h2, ih]

theorem Tbl.find_put_other {α : Type} (k l : Nat) (a : α) (t : Tbl α) (h : l ≠ k) : Tbl.find l (Tbl.put k a t) = Tbl.find l t := by
  induction t with
  | nil => simp [Tbl.put, Tbl.find, Ne.symm h]
  | cons x t ih =>
    obtain ⟨j, b⟩ := x
    by_cases h1 : k < j
    · simp [Tbl.put, Tbl.find, h1, Ne.symm h]
    · by_cases h2 : j = k
      · subst h2; simp [Tbl.put, Tbl.find, Ne.symm h]
      · by_cases h3 : j = l
        · subst h3; simp [Tbl.put, Tbl.find, h1, h2]
        · simp [Tbl.put, Tbl.find, h1, h2, h3, ih]

theorem Tbl.find_upd_same {α : Type} (k : Nat) (f : α → α) (t : Tbl α) : Tbl.find k (Tbl.upd k f t) = (Tbl.find k t).map f := by
  induction t with
  | nil => rfl
  | cons x t ih => obtain ⟨j, b⟩ := x; by_cases h : j = k <;> simp [Tbl.upd, Tbl.find, h, ih]

theorem Tbl.find_upd_other {α : Type} (k l : Nat) (f : α → α) (t : Tbl α) (h : l ≠ k) : Tbl.find l (Tbl.upd k f t) = Tbl.find l t := by
  induction t with
  | nil => rfl
  | cons x t ih =>
    obtain ⟨j, b⟩ := x
    by_cases h1 : j = k
    · subst h1; simp [Tbl.upd, Tbl.find, Ne.symm h]
    · by_cases h2 : j = l
      · subst h2; simp [Tbl.upd, Tbl.find, h1]
      · simp [Tbl.upd, Tbl.find, h1, h2, ih]

theorem Tbl.rising_mono {α : Type} {lo hi : Nat} {t : Tbl α} (h : lo ≤ hi) (r : Tbl.rising hi t = true) : Tbl.rising lo t = true := by
  cases t with
  | nil => rfl
  | cons x t => simp [Tbl.rising] at r ⊢; exact ⟨Nat.le_trans h r.1, r.2⟩

theorem Tbl.rising_erase {α : Type} (k lo : Nat) (t : Tbl α) (r : Tbl.rising lo t = true) : Tbl.rising lo (Tbl.erase k t) = true := by
  induction t generalizing lo with
  | nil => rfl
  | cons x t ih =>
    obtain ⟨j, b⟩ := x
    simp [Tbl.rising] at r
    by_cases h : j = k
    · simp only [Tbl.erase, if_pos h]; exact Tbl.rising_mono (by omega) (ih (j + 1) r.2)
    · simp only [Tbl.erase, if_neg h, Tbl.rising, ih (j + 1) r.2, Bool.and_true]; exact decide_eq_true r.1

theorem Tbl.rising_put {α : Type} (k : Nat) (a : α) (lo : Nat) (t : Tbl α) (h : lo ≤ k) (r : Tbl.rising lo t = true) :
    Tbl.rising lo (Tbl.put k a t) = true := by
  induction t generalizing lo with
  | nil => simp [Tbl.put, Tbl.rising, h]
  | cons x t ih =>
    obtain ⟨j, b⟩ := x
    simp [Tbl.rising] at r
    by_cases h1 : k < j
    · simp [Tbl.put, Tbl.rising, h1, h, r.2] <;> omega
    · by_cases h2 : j = k
      · subst h2; simp [Tbl.put, Tbl.rising, h, r.2]
      · simp only [Tbl.put, if_neg h1, if_neg h2, Tbl.rising, ih (j + 1) (by omega) r.2, Bool.and_true]; exact decide_eq_true r.1

theorem Tbl.mem_erase {α : Type} {k : Nat} {t : Tbl α} {x : Nat × α} (h : x ∈ Tbl.erase k t) : x ∈ t := by
  induction t with
  | nil => exact h
  | cons y t ih =>
    obtain ⟨j, b⟩ := y
    by_cases h1 : j = k
    · simp only [Tbl.erase, if_pos h1] at h; exact List.mem_cons_of_mem _ (ih h)
    · simp only [Tbl.erase, if_neg h1, List.mem_cons] at h ⊢; exact h.imp id ih

theorem Tbl.mem_put {α : Type} {k : Nat} {a : α} {t : Tbl α} {x : Nat × α} (h : x ∈ Tbl.put k a t) : x = (k, a) ∨ x ∈ t := by
  induction t with
  | nil => simp [Tbl.put] at h; exact .inl h
  | cons y t ih =>
    obtain ⟨j, b⟩ := y
    by_cases h1 : k < j
    · simp only [Tbl.put, if_pos h1, List.mem_cons] at h ⊢; exact h
    · by_cases h2 : j = k
      · simp only [Tbl.put, if_neg h1, if_pos h2, List.mem_cons] at h ⊢; exact h.imp id .inr
      · simp only [Tbl.put, if_neg h1, if_neg h2, List.mem_cons] at h ⊢
        rcases h with h | h
        · exact .inr (.inl h)
        · exact (ih h).imp id .inr

/-- A byte written is the byte read. -/
theorem Mem.read_write_same (m : Mem) (a : Nat) (b : Byte) : Mem.read (Mem.write m a b) a = b := by
  by_cases h : b = Mem.unlisted
  · simp [Mem.read, Mem.write, Tbl.getD, h, Tbl.find_erase_same]
  · simp [Mem.read, Mem.write, Tbl.getD, h, Tbl.find_put_same]

/-- A write leaves every other byte. -/
theorem Mem.read_write_other (m : Mem) (a c : Nat) (b : Byte) (h : c ≠ a) : Mem.read (Mem.write m a b) c = Mem.read m c := by
  by_cases h1 : b = Mem.unlisted
  · simp [Mem.read, Mem.write, Tbl.getD, h1, Tbl.find_erase_other a c m h]
  · simp [Mem.read, Mem.write, Tbl.getD, h1, Tbl.find_put_other a c b m h]

/-- A byte string written leaves every byte outside it. -/
theorem Mem.read_writeBytes_other (m : Mem) (a c : Nat) (bs : List Byte) (h : c < a ∨ a + bs.length ≤ c) :
    Mem.read (Mem.writeBytes m a bs) c = Mem.read m c := by
  induction bs generalizing m a with
  | nil => rfl
  | cons b bs ih =>
    simp only [List.length_cons] at h
    rw [Mem.writeBytes, ih _ _ (by omega), Mem.read_write_other _ _ _ _ (by omega)]

/-- A byte string written is read back. -/
theorem Mem.read_writeBytes_in (m : Mem) (a i : Nat) (bs : List Byte) (h : i < bs.length) :
    Mem.read (Mem.writeBytes m a bs) (a + i) = bs.getD i 0 := by
  induction bs generalizing m a i with
  | nil => simp at h
  | cons b bs ih =>
    rw [Mem.writeBytes]
    cases i with
    | zero => rw [Mem.read_writeBytes_other _ _ _ _ (by omega)]; simp [Mem.read_write_same]
    | succ i =>
      have := ih (Mem.write m a b) (a + 1) i (by simpa using h)
      rw [show a + (i + 1) = a + 1 + i by omega, this]; simp

theorem Mem.wf_nil : Mem.wf [] = true := rfl

/-- A write keeps the canonical form. -/
theorem Mem.wf_write (m : Mem) (a : Nat) (b : Byte) (h : Mem.wf m = true) : Mem.wf (Mem.write m a b) = true := by
  simp only [Mem.wf, Bool.and_eq_true, List.all_eq_true] at h ⊢
  by_cases h1 : b = Mem.unlisted
  · simp only [Mem.write, if_pos h1]
    exact ⟨Tbl.rising_erase a 0 m h.1, fun x hx => h.2 x (Tbl.mem_erase hx)⟩
  · simp only [Mem.write, if_neg h1]
    refine ⟨Tbl.rising_put a b 0 m (Nat.zero_le _) h.1, fun x hx => ?_⟩
    rcases Tbl.mem_put hx with e | e
    · subst e; exact decide_eq_true h1
    · exact h.2 x e

/-- A byte string written keeps the canonical form. -/
theorem Mem.wf_writeBytes (m : Mem) (a : Nat) (bs : List Byte) (h : Mem.wf m = true) : Mem.wf (Mem.writeBytes m a bs) = true := by
  induction bs generalizing m a with
  | nil => exact h
  | cons b bs ih => exact ih _ _ (Mem.wf_write m a b h)

theorem Tbl.rising_filter {α : Type} (p : Nat × α → Bool) (lo : Nat) (t : Tbl α) (r : Tbl.rising lo t = true) : Tbl.rising lo (t.filter p) = true := by
  induction t generalizing lo with
  | nil => rfl
  | cons x t ih =>
    obtain ⟨j, b⟩ := x
    simp [Tbl.rising] at r
    by_cases h : p (j, b) = true
    · rw [List.filter_cons_of_pos h]; simp [Tbl.rising, r.1, ih (j + 1) r.2]
    · rw [List.filter_cons_of_neg h]; exact Tbl.rising_mono (by omega) (ih (j + 1) r.2)

/-- A range zeroed keeps the canonical form. -/
theorem Mem.wf_zeroRange (m : Mem) (a n : Nat) (h : Mem.wf m = true) : Mem.wf (Mem.zeroRange m a n) = true := by
  simp only [Mem.wf, Mem.zeroRange, Bool.and_eq_true, List.all_eq_true] at h ⊢
  exact ⟨Tbl.rising_filter _ 0 m h.1, fun x hx => h.2 x (List.mem_filter.1 hx).1⟩

end Sys2Proof
end

