-- ==== Sys2Proof/Laws/Flow.lean ====
section
/-! SUPPORT. What a command keeps, lemma by lemma: the basic updates of State, and the ways a meaning puts operations together.
`Flows b s t` reads: t comes from s by something that is no reset and touches no part outside b. One lemma for each operation stands in the files Laws/Flow<Family>.lean. -/

set_option Elab.async false


namespace Sys2Proof.Machine

/-- `t` comes from `s` by something that is no reset and touches no part outside `b`. -/
structure Flows (b : Nat) (s t : State) : Prop extends Onward s t, Same b s t

theorem Flows.refl {b : Nat} (s : State) : Flows b s s :=
  { queue := rfl, canon := id, bounds := id, mems := id, record := rfl, synced := id, rollback := fun _ => Nat.le_refl _, draws := Nat.le_refl _
    time := Nat.le_refl _, seq := Nat.le_refl _, staysQuarantined := id, quiet := fun _ => rfl
    host := fun _ => rfl, regs := fun _ => rfl, gauge := fun _ => rfl, slc := fun _ => rfl, search := fun _ => rfl, mrc := fun _ => rfl
    ferry := fun _ => rfl, delta := fun _ => rfl, trib := fun _ => rfl, weir := fun _ => rfl, spw := fun _ => rfl, cru := fun _ => rfl
    now := fun _ => rfl, freeCtr := fun _ => rfl }

/-- A set of parts within a set that lies within `b`. -/
theorem parts {m m' b : Nat} (h : m' ||| b = b) (e : m ||| m' = m') : m ||| b = b := by rw [← h, ← Nat.or_assoc, e]
/-- A part of `b` has its bit in `b`. -/
theorem partBit {k b : Nat} (h : 2 ^ k ||| b = b) (e : b.testBit k = false) : False := by
  rw [← h, Nat.testBit_or, Nat.testBit_two_pow_self] at e; cases e

theorem Flows.ite {b : Nat} {s u v : State} {c : Prop} [Decidable c] (hu : Flows b s u) (hv : Flows b s v) : Flows b s (if c then u else v) := by split <;> assumption
theorem Flows.cond {b : Nat} {s u v : State} {c : Bool} (hu : Flows b s u) (hv : Flows b s v) : Flows b s (bif c then u else v) := by cases c <;> assumption

theorem Flows.foldl {b : Nat} {s : State} {α : Type} {f : State → α → State} {l : List α} {t : State} (h : Flows b s t)
    (hf : ∀ u a, Flows b s u → Flows b s (f u a)) : Flows b s (l.foldl f t) := by
  induction l generalizing t with
  | nil => exact h
  | cons a l ih => exact ih (hf _ _ h)

theorem Flows.foldl2 {b : Nat} {s : State} {α β : Type} {f : β × State → α → β × State} {l : List α} {t : β × State} (h : Flows b s t.2)
    (hf : ∀ u a, Flows b s u.2 → Flows b s (f u a).2) : Flows b s (l.foldl f t).2 := by
  induction l generalizing t with
  | nil => exact h
  | cons a l ih => exact ih (hf _ _ h)

theorem Flows.foldl1 {b : Nat} {s : State} {α β : Type} {f : State × β → α → State × β} {l : List α} {t : State × β} (h : Flows b s t.1)
    (hf : ∀ u a, Flows b s u.1 → Flows b s (f u a).1) : Flows b s (l.foldl f t).1 := by
  induction l generalizing t with
  | nil => exact h
  | cons a l ih => exact ih (hf _ _ h)

section
variable {b : Nat} {s t : State} (h : Flows b s t)
include h
theorem Flows.host! {f : HostSt → HostSt} (ho : (f t.host).out = t.host.out := by with_unfolding_all (intros; rfl)) (hm : memsWf t.host = true → memsWf (f t.host) = true := by with_unfolding_all exact id)
    (hb : 2 ^ 0 ||| b = b := by first | assumption | exact parts (by assumption) (by decide)) : Flows b s (t.host! f) :=
  { h with mems := fun q => hm (h.mems q), quiet := fun q => by rw [← h.quiet q]; show (f t.host).out.filter _ = _; rw [ho], host := fun e => (partBit hb e).elim }
theorem Flows.slc! {f : SluiceSt → SluiceSt} (hb : 2 ^ 3 ||| b = b := by first | assumption | exact parts (by assumption) (by decide)) : Flows b s (t.slc! f) :=
  { h with slc := fun e => (partBit hb e).elim }
theorem Flows.search! {f : SearchSt → SearchSt} (hb : 2 ^ 4 ||| b = b := by first | assumption | exact parts (by assumption) (by decide)) : Flows b s (t.search! f) :=
  { h with search := fun e => (partBit hb e).elim }
theorem Flows.mrc! {f : MrcSt → MrcSt} (hb : 2 ^ 5 ||| b = b := by first | assumption | exact parts (by assumption) (by decide)) : Flows b s (t.mrc! f) :=
  { h with mrc := fun e => (partBit hb e).elim }
theorem Flows.ferry! {f : FerrySt → FerrySt} (hb : 2 ^ 6 ||| b = b := by first | assumption | exact parts (by assumption) (by decide)) : Flows b s (t.ferry! f) :=
  { h with ferry := fun e => (partBit hb e).elim }
theorem Flows.delta! {f : DeltaSt → DeltaSt} (hb : 2 ^ 7 ||| b = b := by first | assumption | exact parts (by assumption) (by decide)) : Flows b s (t.delta! f) :=
  { h with delta := fun e => (partBit hb e).elim }
theorem Flows.trib! {f : TribSt → TribSt} (hb : 2 ^ 8 ||| b = b := by first | assumption | exact parts (by assumption) (by decide)) : Flows b s (t.trib! f) :=
  { h with trib := fun e => (partBit hb e).elim }
theorem Flows.spw! {f : SpwSt → SpwSt} (hb : 2 ^ 10 ||| b = b := by first | assumption | exact parts (by assumption) (by decide)) : Flows b s (t.spw! f) :=
  { h with spw := fun e => (partBit hb e).elim }
theorem Flows.cru! {f : CruSt → CruSt} (hb : 2 ^ 11 ||| b = b := by first | assumption | exact parts (by assumption) (by decide)) : Flows b s (t.cru! f) :=
  { h with cru := fun e => (partBit hb e).elim }
theorem Flows.gauge! {f : GaugeSt → GaugeSt} (hf : t.gauge.lastSeq ≤ (f t.gauge).lastSeq := by with_unfolding_all (intros; first | exact Nat.le_refl _ | exact Nat.le_succ _))
    (hg : gaugeBounded t.gauge = true → gaugeBounded (f t.gauge) = true := by
      with_unfolding_all first | exact id | exact fun h => (Bool.and_eq_true _ _).mpr ⟨rfl, ((Bool.and_eq_true _ _).mp h).2⟩)
    (hb : 2 ^ 2 ||| b = b := by first | assumption | exact parts (by assumption) (by decide)) : Flows b s (t.gauge! f) :=
  { h with seq := Nat.le_trans h.seq hf, bounds := fun q => hg (h.bounds q), gauge := fun e => (partBit hb e).elim }
theorem Flows.weir! {f : WeirSt → WeirSt} (hm : (f t.weir).mfg = t.weir.mfg := by with_unfolding_all rfl)
    (hr : recordSynced t.weir = true → t.weir.record.rollback ≤ (f t.weir).record.rollback := by with_unfolding_all exact fun _ => Nat.le_refl _)
    (hq : t.weir.state = .quarantined → (f t.weir).state = .quarantined := by with_unfolding_all (intro h; first | exact h | rfl))
    (hs : recordSynced t.weir = true → recordSynced (f t.weir) = true := by with_unfolding_all exact id)
    (hb : 2 ^ 9 ||| b = b := by first | assumption | exact parts (by assumption) (by decide)) : Flows b s (t.weir! f) :=
  { h with record := hm.trans h.record, synced := fun q => hs (h.synced q), rollback := fun q => Nat.le_trans (h.rollback q) (hr (h.synced q))
           staysQuarantined := fun q => hq (h.staysQuarantined q), weir := fun e => (partBit hb e).elim }
theorem Flows.reach {n : Nat} (hb : 2 ^ 12 ||| b = b := by first | assumption | exact parts (by assumption) (by decide)) : Flows b s (t.reach n) :=
  { h with time := Nat.le_trans h.time (Nat.le_max_left _ _), now := fun e => (partBit hb e).elim }
theorem Flows.free2 (hb : 2 ^ 13 ||| b = b := by first | assumption | exact parts (by assumption) (by decide)) : Flows b s t.free.2 :=
  { h with draws := Nat.le_succ_of_le h.draws, freeCtr := fun e => (partBit hb e).elim }
end

theorem rising_mono {α : Type} {t : Tbl α} : ∀ {lo lo' : Nat}, lo' ≤ lo → Tbl.rising lo t = true → Tbl.rising lo' t = true := by
  intro lo lo' h h1; cases t with
  | nil => rfl
  | cons a t => obtain ⟨k, b⟩ := a; simp only [Tbl.rising, Bool.and_eq_true, decide_eq_true_eq] at *; exact ⟨Nat.le_trans h h1.1, h1.2⟩

theorem rising_put {α : Type} {t : Tbl α} {k : Nat} {a : α} : ∀ {lo : Nat}, lo ≤ k → Tbl.rising lo t = true → Tbl.rising lo (Tbl.put k a t) = true := by
  induction t with
  | nil => intro lo hk _; simp [Tbl.put, Tbl.rising, hk]
  | cons x t ih =>
    obtain ⟨j, b⟩ := x
    intro lo hk h
    simp only [Tbl.rising, Bool.and_eq_true, decide_eq_true_eq] at h
    unfold Tbl.put
    split
    · simp only [Tbl.rising, Bool.and_eq_true, decide_eq_true_eq]; exact ⟨hk, by omega, h.2⟩
    · split
      · subst_vars; simp only [Tbl.rising, Bool.and_eq_true, decide_eq_true_eq]; exact ⟨h.1, h.2⟩
      · simp only [Tbl.rising, Bool.and_eq_true, decide_eq_true_eq]; exact ⟨h.1, ih (by omega) h.2⟩

theorem rising_erase {α : Type} {t : Tbl α} {k : Nat} : ∀ {lo : Nat}, Tbl.rising lo t = true → Tbl.rising lo (Tbl.erase k t) = true := by
  induction t with
  | nil => intro lo _; rfl
  | cons x t ih =>
    obtain ⟨j, b⟩ := x
    intro lo h
    simp only [Tbl.rising, Bool.and_eq_true, decide_eq_true_eq] at h
    unfold Tbl.erase
    split
    · exact rising_mono (by omega) (ih h.2)
    · simp only [Tbl.rising, Bool.and_eq_true, decide_eq_true_eq]; exact ⟨h.1, ih h.2⟩

theorem all_put {α : Type} {t : Tbl α} {k : Nat} {a : α} {p : Nat × α → Bool} (ha : p (k, a) = true) (h : t.all p = true) : (Tbl.put k a t).all p = true := by
  induction t with
  | nil => simp [Tbl.put, ha]
  | cons x t ih =>
    obtain ⟨j, b⟩ := x
    simp only [List.all_cons, Bool.and_eq_true] at h
    unfold Tbl.put
    split
    · simp [ha, h]
    · split
      · simp [ha, h]
      · simp only [List.all_cons, Bool.and_eq_true]; exact ⟨h.1, ih h.2⟩

theorem all_erase {α : Type} {t : Tbl α} {k : Nat} {p : Nat × α → Bool} (h : t.all p = true) : (Tbl.erase k t).all p = true := by
  induction t with
  | nil => rfl
  | cons x t ih =>
    obtain ⟨j, b⟩ := x
    simp only [List.all_cons, Bool.and_eq_true] at h
    unfold Tbl.erase
    split
    · exact ih h.2
    · simp only [List.all_cons, Bool.and_eq_true]; exact ⟨h.1, ih h.2⟩

theorem canon_setRaw (s : State) (a v : Nat) (h : RegFile.canon s.regs = true) : RegFile.canon (s.setRaw a v).regs = true := by
  simp only [RegFile.canon, Bool.and_eq_true] at *
  unfold State.setRaw
  split
  · exact ⟨rising_erase h.1, all_erase h.2⟩
  · refine ⟨rising_put (Nat.zero_le _) h.1, all_put ?_ h.2⟩
    simpa using ‹_›

section
variable {b : Nat} {s t : State} (h : Flows b s t)
include h
theorem Flows.setRaw {a v : Nat} (hb : 2 ^ 1 ||| b = b := by first | assumption | exact parts (by assumption) (by decide)) : Flows b s (t.setRaw a v) :=
  { h with canon := fun q => canon_setRaw _ _ _ (h.canon q), regs := fun e => (partBit hb e).elim }
theorem Flows.shadowsUpd {l} (hb : 2 ^ 1 ||| b = b := by first | assumption | exact parts (by assumption) (by decide)) :
    Flows b s { t with regs := { t.regs with shadows := l } } :=
  { h with regs := fun e => (partBit hb e).elim }
end

/-- Flows to the state that an option holds. -/
def FlowsO (b : Nat) (s : State) (o : Option State) : Prop := ∀ r, o = some r → Flows b s r
/-- Flows to the state beside a value that an option holds. -/
def FlowsP {α : Type} (b : Nat) (s : State) (o : Option (α × State)) : Prop := ∀ r, o = some r → Flows b s r.2

theorem Flows.ofSnd {b : Nat} {α : Type} {s t : State} {p : α × State} {a : α} (h : Flows b s p.2) (e : p = (a, t)) : Flows b s t := by rw [e] at h; exact h
theorem FlowsO.none {b : Nat} {s : State} : FlowsO b s none := by intro r h; cases h
theorem FlowsO.some {b : Nat} {s t : State} (h : Flows b s t) : FlowsO b s (some t) := by intro r e; cases e; exact h
theorem FlowsO.get {b : Nat} {s r : State} {o : Option State} (h : FlowsO b s o) (e : o = Option.some r) : Flows b s r := h r e
theorem FlowsO.ite {b : Nat} {s : State} {u v : Option State} {c : Prop} [Decidable c] (hu : FlowsO b s u) (hv : FlowsO b s v) : FlowsO b s (if c then u else v) := by split <;> assumption
theorem FlowsO.bind {b : Nat} {α : Type} {s : State} {o : Option α} {f : α → Option State} (hf : ∀ a, o = Option.some a → FlowsO b s (f a)) : FlowsO b s (o.bind f) := by
  cases o with
  | none => exact FlowsO.none
  | some a => exact hf a rfl
theorem FlowsO.map {b : Nat} {α : Type} {s : State} {o : Option α} {f : α → State} (hf : ∀ a, o = Option.some a → Flows b s (f a)) : FlowsO b s (o.map f) := by
  cases o with
  | none => exact FlowsO.none
  | some a => exact FlowsO.some (hf a rfl)
theorem FlowsO.foldl {b : Nat} {s : State} {α : Type} {f : Option State → α → Option State} {l : List α} {t : Option State} (h : FlowsO b s t)
    (hf : ∀ u a, FlowsO b s u → FlowsO b s (f u a)) : FlowsO b s (l.foldl f t) := by
  induction l generalizing t with
  | nil => exact h
  | cons a l ih => exact ih (hf _ _ h)
theorem FlowsP.none {b : Nat} {α : Type} {s : State} : FlowsP (α := α) b s none := by intro r h; cases h
theorem FlowsP.some {b : Nat} {α : Type} {s : State} {p : α × State} (h : Flows b s p.2) : FlowsP b s (some p) := by intro r e; cases e; exact h
theorem FlowsP.get {b : Nat} {α : Type} {s : State} {r : α × State} {o : Option (α × State)} (h : FlowsP b s o) (e : o = Option.some r) : Flows b s r.2 := h r e
theorem FlowsP.get' {b : Nat} {α : Type} {s t : State} {a : α} {o : Option (α × State)} (h : FlowsP b s o) (e : o = Option.some (a, t)) : Flows b s t := h _ e
theorem FlowsP.ite {b : Nat} {α : Type} {s : State} {u v : Option (α × State)} {c : Prop} [Decidable c] (hu : FlowsP b s u) (hv : FlowsP b s v) : FlowsP b s (if c then u else v) := by split <;> assumption
theorem FlowsP.bind {b : Nat} {α β : Type} {s : State} {o : Option α} {f : α → Option (β × State)} (hf : ∀ a, o = Option.some a → FlowsP b s (f a)) : FlowsP b s (o.bind f) := by
  cases o with
  | none => exact FlowsP.none
  | some a => exact hf a rfl
theorem FlowsP.map {b : Nat} {α β : Type} {s : State} {o : Option α} {f : α → β × State} (hf : ∀ a, o = Option.some a → Flows b s (f a).2) : FlowsP b s (o.map f) := by
  cases o with
  | none => exact FlowsP.none
  | some a => exact FlowsP.some (hf a rfl)
theorem FlowsO.findSome? {b : Nat} {α : Type} {s : State} {l : List α} {f : α → Option State} (hf : ∀ a, FlowsO b s (f a)) : FlowsO b s (l.findSome? f) := by
  induction l with
  | nil => exact FlowsO.none
  | cons a l ih =>
    rw [List.findSome?_cons]; split
    · rename_i v hv; intro r e; cases e; exact hf a _ hv
    · exact ih
theorem FlowsP.findSome? {b : Nat} {α β : Type} {s : State} {l : List α} {f : α → Option (β × State)} (hf : ∀ a, FlowsP b s (f a)) : FlowsP b s (l.findSome? f) := by
  induction l with
  | nil => exact FlowsP.none
  | cons a l ih =>
    rw [List.findSome?_cons]; split
    · rename_i v hv; intro r e; cases e; exact hf a _ hv
    · exact ih
theorem Flows.getD {b : Nat} {s t : State} {o : Option State} (ht : Flows b s t) (ho : FlowsO b s o) : Flows b s (o.getD t) := by
  cases o with
  | none => exact ht
  | some v => exact ho v rfl

/-- Flows to the next state of an outcome, where there is one. -/
def FlowsX (b : Nat) (s : State) (o : Host.Outcome State Fault Refusal) : Prop := match o with | .next t => Flows b s t | _ => True
theorem FlowsX.ok {b : Nat} {s t} (h : Flows b s t) : FlowsX b s (ok t) := h
theorem FlowsX.onUnit {b : Nat} {s t} {c} (h : Flows b s t) : FlowsX b s (onUnit c t) := by cases c <;> trivial
end Sys2Proof.Machine
end

