-- ==== Sys2Proof/Laws/FlowRegs.lean ====
section
/-! SUPPORT. What the operations and meanings of Machine/Regs.lean keep. -/

set_option Elab.async false

namespace Sys2Proof.Machine

theorem Flows.setFld {w0 : Nat} {s0 : State} {s : State} {a : Nat} {lo : Nat} {w : Nat} {v : Nat} (h : Flows w0 s0 s) (hw0 : 2 ||| w0 = w0 := by first | assumption | exact parts (by assumption) (by decide)) :
    Flows w0 s0 (State.setFld s a lo w v) := by
  unfold State.setFld
  repeat' first | with_reducible exact h | with_reducible (refine Flows.setRaw ?_)

theorem Flows.count {w0 : Nat} {s0 : State} {s : State} {base : Nat} {i : Nat} {n : Nat} (h : Flows w0 s0 s) (hw0 : 2 ||| w0 = w0 := by first | assumption | exact parts (by assumption) (by decide)) :
    Flows w0 s0 (State.count s base i n) := by
  unfold State.count
  repeat' first | with_reducible exact h | with_reducible (refine Flows.setRaw ?_)

theorem Flows.writeS {w0 : Nat} {s0 : State} {s : State} {a : Nat} {lo : Nat} {w : Nat} {v : Nat} {running : List Nat} (h : Flows w0 s0 s) (hw0 : 2 ||| w0 = w0 := by first | assumption | exact parts (by assumption) (by decide)) :
    Flows w0 s0 (State.writeS s a lo w v running) := by
  unfold State.writeS
  split
  · exact Flows.shadowsUpd (Flows.setFld h)
  · exact Flows.shadowsUpd h

theorem Flows.boundary {w0 : Nat} {s0 : State} {s : State} {a : Nat} {lo : Nat} {w : Nat} {agent : Nat} (h : Flows w0 s0 s) (hw0 : 2 ||| w0 = w0 := by first | assumption | exact parts (by assumption) (by decide)) :
    Flows w0 s0 (State.boundary s a lo w agent) := by
  unfold State.boundary
  split
  · exact h
  · dsimp only
    split
    · exact Flows.shadowsUpd (Flows.setFld h)
    · exact Flows.shadowsUpd h

end Sys2Proof.Machine
end

