-- ==== Sys2Proof/Laws/FlowOps.lean ====
section
/-! SUPPORT. What the operations and meanings of Machine/Ops.lean keep. -/

set_option Elab.async false

namespace Sys2Proof.Machine

theorem all_upd {α : Type} {p : α → Bool} {f : α → α} (hf : ∀ a, p a = true → p (f a) = true) {k : Nat} {t : Tbl α}
    (h : t.all (fun x => p x.2) = true) : (Tbl.upd k f t).all (fun x => p x.2) = true := by
  induction t with
  | nil => rfl
  | cons x t ih =>
    obtain ⟨j, b⟩ := x
    simp only [List.all_cons, Bool.and_eq_true] at h
    unfold Tbl.upd
    split
    · simp only [List.all_cons, Bool.and_eq_true]; exact ⟨hf _ h.1, h.2⟩
    · simp only [List.all_cons, Bool.and_eq_true]; exact ⟨h.1, ih h.2⟩

theorem Flows.box! {w0 : Nat} {s0 s : State} {mb : Nat} {f : Mailbox → Mailbox} (h : Flows w0 s0 s)
    (hm : ∀ b : Mailbox, Mem.wf b.window = true → Mem.wf (f b).window = true := by with_unfolding_all (intro b h; exact h)) (hw0 : 1 ||| w0 = w0 := by first | assumption | exact parts (by assumption) (by decide)) : Flows w0 s0 (s.box! mb f) := by
  refine Flows.host! h rfl ?_
  intro q
  simp only [memsWf, Bool.and_eq_true] at q ⊢
  exact ⟨q.1, all_upd hm q.2⟩

theorem Flows.func! {w0 : Nat} {s0 : State} {s : State} {fn : Nat} {f : Func → Func} (h : Flows w0 s0 s) (hw0 : 1 ||| w0 = w0 := by first | assumption | exact parts (by assumption) (by decide)) :
    Flows w0 s0 (State.func! s fn f) := by
  unfold State.func!
  repeat' first | with_reducible exact h | with_reducible (refine Flows.host! ?_)

theorem Flows.emit {w0 : Nat} {s0 s : State} {fn : Nat} {e : HostEvt} (h : Flows w0 s0 s) (hw0 : 1 ||| w0 = w0 := by first | assumption | exact parts (by assumption) (by decide)) :
    Flows w0 s0 (s.emit fn e) := by
  unfold State.emit
  split
  · exact h
  · rename_i hq
    split
    · exact h
    · split
      · exact Flows.func! h
      · exact { h with
          quiet := fun q => absurd (.inl (h.staysQuarantined q)) hq
          host := fun e => (partBit hw0 e).elim }

theorem Flows.drive {w0 : Nat} {s0 s : State} {e : HostEvt} (h :
    Flows w0 s0 s) (he : HostEvt.isRequest e = false := by with_unfolding_all rfl) (hw0 : 1 ||| w0 = w0 := by first | assumption | exact parts (by assumption) (by decide)) :
    Flows w0 s0 (s.drive e) :=
  { h with
    quiet := fun q => by
      rw [← h.quiet q]; show (s.host.out ++ [e]).filter _ = _
      rw [List.filter_append, List.filter_cons_of_neg (by rw [he]; decide), List.filter_nil, List.append_nil]
    host := fun e => (partBit hw0 e).elim }

theorem Flows.hostWrite {w0 : Nat} {s0 : State} {s : State} {fn : Nat} {addr : Nat} {bs : List Byte} (h : Flows w0 s0 s) (hw0 : 1 ||| w0 = w0 := by first | assumption | exact parts (by assumption) (by decide)) :
    Flows w0 s0 (State.hostWrite s fn addr bs) := by
  unfold State.hostWrite
  repeat' first | with_reducible exact h | with_reducible (refine Flows.emit ?_) | with_reducible (refine Flows.ite ?_ ?_)

theorem Flows.output {w0 : Nat} {s0 : State} {s : State} {m : Msg} {addr : Nat} {bs : List Byte} (h : Flows w0 s0 s) (hw0 : 1 ||| w0 = w0 := by first | assumption | exact parts (by assumption) (by decide)) :
    Flows w0 s0 (State.output s m addr bs) := by
  unfold State.output
  repeat' first | with_reducible exact h | with_reducible (refine Flows.hostWrite ?_) | with_reducible (refine Flows.ite ?_ ?_)

theorem Flows.writeRing {w0 : Nat} {s0 : State} {s : State} {m : Msg} {status : Nat} (h : Flows w0 s0 s) (hw0 : 3 ||| w0 = w0 := by first | assumption | exact parts (by assumption) (by decide)) :
    Flows w0 s0 (State.writeRing s m status) := by
  unfold State.writeRing
  repeat' first
    | with_reducible exact h | with_reducible (refine Flows.box! ?_) | with_reducible (refine Flows.count ?_) | with_reducible (refine Flows.hostWrite ?_)
    | with_reducible (refine Flows.ite ?_ ?_) | dsimp only | split

theorem Flows.replyVector {w0 : Nat} {s0 : State} {s : State} {m : Msg} (h : Flows w0 s0 s) (hw0 : 3 ||| w0 = w0 := by first | assumption | exact parts (by assumption) (by decide)) :
    Flows w0 s0 (State.replyVector s m) := by
  unfold State.replyVector
  repeat' first | with_reducible exact h | with_reducible (refine Flows.count ?_) | with_reducible (refine Flows.emit ?_) | with_reducible (refine Flows.ite ?_ ?_)

theorem Flows.writeReply {w0 : Nat} {s0 : State} {s : State} {m : Msg} {status : Nat} {payload : List Byte} (h : Flows w0 s0 s) (hw0 : 3 ||| w0 = w0 := by first | assumption | exact parts (by assumption) (by decide)) :
    Flows w0 s0 (State.writeReply s m status payload) := by
  unfold State.writeReply
  repeat' first
    | with_reducible exact h | with_reducible (refine Flows.count ?_) | with_reducible (refine Flows.hostWrite ?_) | with_reducible (refine Flows.replyVector ?_)
    | with_reducible (refine Flows.writeRing ?_)

theorem Flows.reply {w0 : Nat} {s0 : State} {s : State} {m : Msg} {status : Nat} {payload : List Byte} (h : Flows w0 s0 s) (hw0 : 3 ||| w0 = w0 := by first | assumption | exact parts (by assumption) (by decide)) :
    Flows w0 s0 (State.reply s m status payload) := by
  unfold State.reply
  repeat' first | with_reducible exact h | with_reducible (refine Flows.box! ?_) | with_reducible (refine Flows.writeReply ?_) | with_reducible (refine Flows.ite ?_ ?_)

theorem Flows.done {w0 : Nat} {s0 : State} {s : State} {m : Msg} {rest : List Byte} (h : Flows w0 s0 s) (hw0 : 3 ||| w0 = w0 := by first | assumption | exact parts (by assumption) (by decide)) :
    Flows w0 s0 (State.done s m rest) := by
  unfold State.done
  repeat' first | with_reducible exact h | with_reducible (refine Flows.reply ?_)

theorem Flows.refuse {w0 : Nat} {s0 : State} {s : State} {m : Msg} {reason : Nat} (h : Flows w0 s0 s) (hw0 : 3 ||| w0 = w0 := by first | assumption | exact parts (by assumption) (by decide)) :
    Flows w0 s0 (State.refuse s m reason) := by
  unfold State.refuse
  repeat' first | with_reducible exact h | with_reducible (refine Flows.reply ?_)

theorem Flows.next? {w0 : Nat} {s0 : State} {s : State} {mb : Nat} {op : Nat} (h : Flows w0 s0 s) (hw0 : 1 ||| w0 = w0 := by first | assumption | exact parts (by assumption) (by decide)) :
    FlowsP w0 s0 (State.next? s mb op) := by
  unfold State.next?
  repeat' first
    | with_reducible exact h | with_reducible (refine Flows.box! ?_) | with_reducible exact FlowsP.none | with_reducible (refine FlowsP.some ?_)
    | with_reducible (refine FlowsP.ite ?_ ?_) | split

theorem all_find {α : Type} {p : α → Bool} {k : Nat} {a : α} {t : Tbl α} (h : t.all (fun x => p x.2) = true) (e : Tbl.find k t = some a) : p a = true := by
  induction t with
  | nil => cases e
  | cons x t ih =>
    obtain ⟨j, b⟩ := x
    simp only [List.all_cons, Bool.and_eq_true] at h
    unfold Tbl.find at e
    split at e
    · cases e; exact h.1
    · exact ih h.2 e

theorem Flows.enqueueRec {w0 : Nat} {s0 s : State} {r : GRec} (h : Flows w0 s0 s) (hw0 : 6 ||| w0 = w0 := by first | assumption | exact parts (by assumption) (by decide)) :
    Flows w0 s0 (s.enqueueRec r) := by
  unfold State.enqueueRec
  dsimp only
  split
  · exact Flows.count h
  · rename_i hq
    refine Flows.gauge! h (Nat.le_refl _) ?_
    intro hg
    simp only [gaugeBounded, Bool.and_eq_true] at hg ⊢
    refine ⟨all_put ?_ hg.1, hg.2⟩
    simp only [queueBounded, Bool.and_eq_true, decide_eq_true_eq, List.length_append, List.length_cons, List.length_nil, List.filter_append]
    have hq1 := (not_or.1 hq).1
    refine ⟨by omega, ?_⟩
    by_cases hc : r.cls = .c
    · have hq2 : ¬56 ≤ _ := fun e => (not_or.1 hq).2 ⟨hc, e⟩
      rw [List.filter_cons_of_pos (by simp [hc])]; simp only [List.filter_nil, List.length_cons, List.length_nil]; omega
    · rw [List.filter_cons_of_neg (by simp [hc])]; simp only [List.filter_nil, List.length_nil, Nat.add_zero]
      cases hf : Tbl.find r.unit s.gauge.queues with
      | none => simp [Tbl.getD, hf]
      | some l =>
        have := all_find hg.1 hf
        simp only [queueBounded, Bool.and_eq_true, decide_eq_true_eq] at this
        simpa [Tbl.getD, hf] using this.2

theorem Flows.form {w0 : Nat} {s0 : State} {s : State} {unit : Nat} {typ : Nat} {cls : ErrClass} {nested : Bool} {comp : Nat} {ctx : Nat} {addr : Nat} {detail : Nat} (h : Flows w0 s0 s) (hw0 : 6 ||| w0 = w0 := by first | assumption | exact parts (by assumption) (by decide)) :
    Flows w0 s0 (State.form s unit typ cls nested comp ctx addr detail) := by
  unfold State.form
  repeat' first | with_reducible exact h | with_reducible (refine Flows.enqueueRec ?_) | with_reducible (refine Flows.gauge! ?_)

theorem Flows.ceRoll {w0 : Nat} {s0 : State} {s : State} (h : Flows w0 s0 s) (hw0 : 4 ||| w0 = w0 := by first | assumption | exact parts (by assumption) (by decide)) :
    Flows w0 s0 (State.ceRoll s) := by
  unfold State.ceRoll
  repeat' first | with_reducible exact h | with_reducible (refine Flows.gauge! ?_) | with_reducible (refine Flows.ite ?_ ?_)

theorem Flows.logC {w0 : Nat} {s0 : State} {s : State} {unit : Nat} {typ : Nat} {comp : Nat} {ctx : Nat} {addr : Nat} {detail : Nat} (h : Flows w0 s0 s) (hw0 : 6 ||| w0 = w0 := by first | assumption | exact parts (by assumption) (by decide)) :
    Flows w0 s0 (State.logC s unit typ comp ctx addr detail) := by
  unfold State.logC
  repeat' first
    | with_reducible exact h | with_reducible (refine Flows.ceRoll ?_) | with_reducible (refine Flows.count ?_) | with_reducible (refine Flows.form ?_)
    | with_reducible (refine Flows.gauge! ?_) | with_reducible (refine Flows.ite ?_ ?_)

theorem Flows.logAccess {w0 : Nat} {s0 : State} {s : State} {isWrite : Bool} {addr : Nat} {size : Nat} {why : Nat} (h : Flows w0 s0 s) (hw0 : 6 ||| w0 = w0 := by first | assumption | exact parts (by assumption) (by decide)) :
    Flows w0 s0 (State.logAccess s isWrite addr size why) := by
  unfold State.logAccess
  repeat' first | with_reducible exact h | with_reducible (refine Flows.logC ?_)

theorem Flows.openHandler {w0 : Nat} {s0 : State} {s : State} {unit : Nat} {k : ErrClass} (h : Flows w0 s0 s) (hw0 : 4 ||| w0 = w0 := by first | assumption | exact parts (by assumption) (by decide)) :
    Flows w0 s0 (State.openHandler s unit k) := by
  unfold State.openHandler
  repeat' first | with_reducible exact h | with_reducible (refine Flows.gauge! ?_)

end Sys2Proof.Machine
end

