-- ==== Sys2Proof/Laws/FlowSluiceOps.lean ====
section
/-! SUPPORT. What the operations and meanings of Machine/SluiceOps.lean keep. -/

set_option Elab.async false

namespace Sys2Proof.Machine

theorem Flows.comp! {w0 : Nat} {s0 : State} {s : State} {c : Nat} {f : Comp → Comp} (h : Flows w0 s0 s) (hw0 : 8 ||| w0 = w0 := by first | assumption | exact parts (by assumption) (by decide)) :
    Flows w0 s0 (State.comp! s c f) := by
  unfold State.comp!
  repeat' first | with_reducible exact h | with_reducible (refine Flows.slc! ?_)

theorem Flows.batch! {w0 : Nat} {s0 : State} {s : State} {b : Nat} {f : Batch → Batch} (h : Flows w0 s0 s) (hw0 : 8 ||| w0 = w0 := by first | assumption | exact parts (by assumption) (by decide)) :
    Flows w0 s0 (State.batch! s b f) := by
  unfold State.batch!
  repeat' first | with_reducible exact h | with_reducible (refine Flows.slc! ?_)

theorem Flows.ctx! {w0 : Nat} {s0 : State} {s : State} {c : Nat} {f : Ctx → Ctx} (h : Flows w0 s0 s) (hw0 : 8 ||| w0 = w0 := by first | assumption | exact parts (by assumption) (by decide)) :
    Flows w0 s0 (State.ctx! s c f) := by
  unfold State.ctx!
  repeat' first | with_reducible exact h | with_reducible (refine Flows.slc! ?_)

theorem Flows.task! {w0 : Nat} {s0 : State} {s : State} {t : Nat} {f : Task → Task} (h : Flows w0 s0 s) (hw0 : 8 ||| w0 = w0 := by first | assumption | exact parts (by assumption) (by decide)) :
    Flows w0 s0 (State.task! s t f) := by
  unfold State.task!
  repeat' first | with_reducible exact h | with_reducible (refine Flows.slc! ?_)

theorem Flows.core! {w0 : Nat} {s0 : State} {s : State} {n : Nat} {f : Core → Core} (h : Flows w0 s0 s) (hw0 : 8 ||| w0 = w0 := by first | assumption | exact parts (by assumption) (by decide)) :
    Flows w0 s0 (State.core! s n f) := by
  unfold State.core!
  repeat' first | with_reducible exact h | with_reducible (refine Flows.slc! ?_)

theorem Flows.obj! {w0 : Nat} {s0 : State} {s : State} {k : Nat} {f : Obj → Obj} (h : Flows w0 s0 s) (hw0 : 8 ||| w0 = w0 := by first | assumption | exact parts (by assumption) (by decide)) :
    Flows w0 s0 (State.obj! s k f) := by
  unfold State.obj!
  repeat' first | with_reducible exact h | with_reducible (refine Flows.slc! ?_)

theorem Flows.takeCtx {w0 : Nat} {s0 : State} {s : State} {comp : Nat} {batch : Nat} {task : Option Nat} {st : CtxState} (h : Flows w0 s0 s) (hw0 : 8 ||| w0 = w0 := by first | assumption | exact parts (by assumption) (by decide)) :
    Flows w0 s0 (State.takeCtx s comp batch task st).2 := by
  unfold State.takeCtx
  repeat' first | with_reducible exact h | with_reducible (refine Flows.slc! ?_) | split

theorem Flows.quietCtx {w0 : Nat} {s0 : State} {s : State} {c : Nat} (h : Flows w0 s0 s) (hw0 : 8 ||| w0 = w0 := by first | assumption | exact parts (by assumption) (by decide)) :
    Flows w0 s0 (State.quietCtx s c) := by
  unfold State.quietCtx
  repeat' first | with_reducible exact h | with_reducible (refine Flows.ctx! ?_)

theorem Flows.quietBatch {w0 : Nat} {s0 : State} {s : State} {b : Nat} (h : Flows w0 s0 s) (hw0 : 8 ||| w0 = w0 := by first | assumption | exact parts (by assumption) (by decide)) :
    Flows w0 s0 (State.quietBatch s b) := by
  unfold State.quietBatch
  repeat' first
    | with_reducible exact h | with_reducible assumption | with_reducible (refine Flows.quietCtx ?_) | with_reducible (refine Flows.foldl ?_ ?_)
    | with_reducible intro _

theorem Flows.addBatch {w0 : Nat} {s0 : State} {s : State} {m : Option Msg} {comp : Nat} {opcode : Nat} {level : Nat} {tag : Nat} {stage : BatchStage} {coll : Option Nat} {objs : List Nat} (h : Flows w0 s0 s) (hw0 : 8 ||| w0 = w0 := by first | assumption | exact parts (by assumption) (by decide)) :
    Flows w0 s0 (State.addBatch s m comp opcode level tag stage coll objs).2 := by
  unfold State.addBatch
  repeat' first | with_reducible exact h | with_reducible (refine Flows.slc! ?_)

theorem Flows.chargeComp {w0 : Nat} {s0 : State} {s : State} {comp : Nat} {i : Nat} {ns : Nat} (h : Flows w0 s0 s) (hw0 : 8 ||| w0 = w0 := by first | assumption | exact parts (by assumption) (by decide)) :
    Flows w0 s0 (State.chargeComp s comp i ns) := by
  unfold State.chargeComp
  repeat' first | with_reducible exact h | with_reducible (refine Flows.slc! ?_)

theorem Flows.chargeCore {w0 : Nat} {s0 : State} {s : State} {b : Nat} {ns : Nat} (h : Flows w0 s0 s) (hw0 : 8 ||| w0 = w0 := by first | assumption | exact parts (by assumption) (by decide)) :
    Flows w0 s0 (State.chargeCore s b ns) := by
  unfold State.chargeCore
  repeat' first | with_reducible exact h | with_reducible (refine Flows.batch! ?_) | with_reducible (refine Flows.chargeComp ?_) | dsimp only | split

theorem Flows.chargeCell {w0 : Nat} {s0 : State} {s : State} {b : Nat} {ns : Nat} (h : Flows w0 s0 s) (hw0 : 8 ||| w0 = w0 := by first | assumption | exact parts (by assumption) (by decide)) :
    Flows w0 s0 (State.chargeCell s b ns) := by
  unfold State.chargeCell
  repeat' first | with_reducible exact h | with_reducible (refine Flows.batch! ?_) | with_reducible (refine Flows.chargeComp ?_) | dsimp only | split

theorem Flows.chargeLink {w0 : Nat} {s0 : State} {s : State} {b : Nat} {ns : Nat} (h : Flows w0 s0 s) (hw0 : 8 ||| w0 = w0 := by first | assumption | exact parts (by assumption) (by decide)) :
    Flows w0 s0 (State.chargeLink s b ns) := by
  unfold State.chargeLink
  repeat' first | with_reducible exact h | with_reducible (refine Flows.batch! ?_) | with_reducible (refine Flows.chargeComp ?_) | dsimp only | split

theorem Flows.chargeLun {w0 : Nat} {s0 : State} {s : State} {comp : Nat} {lun : Nat} {kind : Nat} (h : Flows w0 s0 s) (hw0 : 8 ||| w0 = w0 := by first | assumption | exact parts (by assumption) (by decide)) :
    Flows w0 s0 (State.chargeLun s comp lun kind) := by
  unfold State.chargeLun
  repeat' first | with_reducible exact h | with_reducible (refine Flows.chargeComp ?_) | with_reducible (refine Flows.ite ?_ ?_)

theorem Flows.chargeRead {w0 : Nat} {s0 : State} {s : State} {b : Nat} {lun : Nat} (h : Flows w0 s0 s) (hw0 : 8 ||| w0 = w0 := by first | assumption | exact parts (by assumption) (by decide)) :
    Flows w0 s0 (State.chargeRead s b lun) := by
  unfold State.chargeRead
  repeat' first | with_reducible exact h | with_reducible (refine Flows.batch! ?_)

theorem Flows.chargeNode {w0 : Nat} {s0 : State} {s : State} {comp : Nat} (h : Flows w0 s0 s) (hw0 : 8 ||| w0 = w0 := by first | assumption | exact parts (by assumption) (by decide)) :
    Flows w0 s0 (State.chargeNode s comp) := by
  unfold State.chargeNode
  repeat' first | with_reducible exact h | with_reducible (refine Flows.chargeComp ?_) | with_reducible (refine Flows.ite ?_ ?_)

theorem Flows.chargeRecord {w0 : Nat} {s0 : State} {s : State} {b : Batch} {status : Nat} (h : Flows w0 s0 s) (hw0 : 11 ||| w0 = w0 := by first | assumption | exact parts (by assumption) (by decide)) :
    Flows w0 s0 (State.chargeRecord s b status) := by
  unfold State.chargeRecord
  repeat' first
    | with_reducible exact h | with_reducible (refine Flows.count ?_) | with_reducible (refine Flows.hostWrite ?_) | with_reducible (refine Flows.slc! ?_)
    | with_reducible (refine Flows.ite ?_ ?_) | split

theorem Flows.finishDestroy {w0 : Nat} {s0 : State} {s : State} {c : Nat} {m : Msg} (h : Flows w0 s0 s) (hw0 : 859 ||| w0 = w0 := by first | assumption | exact parts (by assumption) (by decide)) :
    Flows w0 s0 (State.finishDestroy s c m) := by
  unfold State.finishDestroy
  repeat' first
    | with_reducible exact h | with_reducible assumption | with_reducible (refine Flows.done ?_) | with_reducible (refine Flows.ferry! ?_)
    | with_reducible (refine Flows.reply ?_) | with_reducible (refine Flows.search! ?_) | with_reducible (refine Flows.slc! ?_)
    | with_reducible (refine Flows.trib! ?_) | with_reducible (refine Flows.weir! ?_) | with_reducible (refine Flows.foldl ?_ ?_) | with_reducible intro _

theorem Flows.checkDestroy {w0 : Nat} {s0 : State} {s : State} {c : Nat} (h : Flows w0 s0 s) (hw0 : 859 ||| w0 = w0 := by first | assumption | exact parts (by assumption) (by decide)) :
    Flows w0 s0 (State.checkDestroy s c) := by
  unfold State.checkDestroy
  repeat' first | with_reducible exact h | with_reducible (refine Flows.finishDestroy ?_) | with_reducible (refine Flows.ite ?_ ?_) | split

theorem Flows.onMsg {w0 : Nat} {s0 : State} {s : State} {mb : Nat} {op : Nat} {f : Msg → State → State} (h : Flows w0 s0 s) (hf : ∀ y0 y1, Flows w0 s0 y1 → Flows w0 s0 (f y0 y1)) (hw0 : 859 ||| w0 = w0 := by first | assumption | exact parts (by assumption) (by decide)) :
    FlowsX w0 s0 (Sys2Proof.Machine.onMsg s mb op f) := by
  unfold Sys2Proof.Machine.onMsg
  repeat' first
    | with_reducible exact h | with_reducible (refine hf _ _ ?_) | with_reducible (refine Flows.checkDestroy ?_)
    | with_reducible (refine FlowsP.get (Flows.next? ?_) (by with_reducible assumption)) | with_reducible (refine FlowsX.onUnit ?_) | split

theorem Flows.endBatch {w0 : Nat} {s0 : State} {s : State} {b : Nat} {comp : Nat} (h : Flows w0 s0 s) (hw0 : 859 ||| w0 = w0 := by first | assumption | exact parts (by assumption) (by decide)) :
    Flows w0 s0 (State.endBatch s b comp) := by
  unfold State.endBatch
  repeat' first
    | with_reducible exact h | with_reducible (refine Flows.chargeComp ?_) | with_reducible (refine Flows.checkDestroy ?_)
    | with_reducible (refine Flows.quietBatch ?_) | with_reducible (refine Flows.slc! ?_) | with_reducible (refine Flows.ite ?_ ?_)

theorem Flows.replyOne {w0 : Nat} {s0 : State} {s : State} {b : Nat} {status : Nat} {reason : Nat} {rest : List Byte} (h : Flows w0 s0 s) (hw0 : 859 ||| w0 = w0 := by first | assumption | exact parts (by assumption) (by decide)) :
    Flows w0 s0 (State.replyOne s b status reason rest) := by
  unfold State.replyOne
  repeat' first
    | with_reducible exact h | with_reducible (refine Flows.chargeRecord ?_) | with_reducible (refine Flows.endBatch ?_) | with_reducible (refine Flows.reply ?_)
    | dsimp only | split

theorem Flows.replyBatch {w0 : Nat} {s0 : State} {s : State} {b : Nat} {status : Nat} {reason : Nat} {rest : List Byte} (h : Flows w0 s0 s) (hw0 : 859 ||| w0 = w0 := by first | assumption | exact parts (by assumption) (by decide)) :
    Flows w0 s0 (State.replyBatch s b status reason rest) := by
  unfold State.replyBatch
  repeat' first | with_reducible exact h | with_reducible (refine Flows.replyOne ?_) | split

theorem Flows.refuseBatch {w0 : Nat} {s0 : State} {s : State} {m : Msg} {tag : Nat} {status : Nat} {reason : Nat} (h : Flows w0 s0 s) (hw0 : 11 ||| w0 = w0 := by first | assumption | exact parts (by assumption) (by decide)) :
    Flows w0 s0 (State.refuseBatch s m tag status reason) := by
  unfold State.refuseBatch
  repeat' first | with_reducible exact h | with_reducible (refine Flows.chargeRecord ?_) | with_reducible (refine Flows.reply ?_)

theorem Flows.sem! {w0 : Nat} {s0 : State} {s : State} {k : Nat} {f : Sem → Sem} (h : Flows w0 s0 s) (hw0 : 8 ||| w0 = w0 := by first | assumption | exact parts (by assumption) (by decide)) :
    Flows w0 s0 (State.sem! s k f) := by
  unfold State.sem!
  repeat' first | with_reducible exact h | with_reducible (refine Flows.slc! ?_)

theorem Flows.setResult {w0 : Nat} {s0 : State} {s : State} {t : Nat} {a : Nat} {b : Nat} {c : Nat} (h : Flows w0 s0 s) (hw0 : 8 ||| w0 = w0 := by first | assumption | exact parts (by assumption) (by decide)) :
    Flows w0 s0 (State.setResult s t a b c) := by
  unfold State.setResult
  repeat' first | with_reducible exact h | with_reducible (refine Flows.core! ?_) | with_reducible (refine Flows.task! ?_) | dsimp only | split

theorem Flows.hold {w0 : Nat} {s0 : State} {s : State} {c : Nat} {h1 : Held} (h : Flows w0 s0 s) (hw0 : 8 ||| w0 = w0 := by first | assumption | exact parts (by assumption) (by decide)) :
    Flows w0 s0 (State.hold s c h1) := by
  unfold State.hold
  repeat' first | with_reducible exact h | with_reducible (refine Flows.ctx! ?_)

theorem Flows.wakeCtx {w0 : Nat} {s0 : State} {s : State} {c : Nat} (h : Flows w0 s0 s) (hw0 : 8 ||| w0 = w0 := by first | assumption | exact parts (by assumption) (by decide)) :
    Flows w0 s0 (State.wakeCtx s c) := by
  unfold State.wakeCtx
  repeat' first | with_reducible exact h | with_reducible (refine Flows.ctx! ?_) | with_reducible (refine Flows.task! ?_) | split

theorem Flows.grantSem {w0 : Nat} {s0 : State} {s : State} {k : Nat} {x2 : Nat} (h : Flows w0 s0 s) (hw0 : 8 ||| w0 = w0 := by first | assumption | exact parts (by assumption) (by decide)) :
    Flows w0 s0 (State.grantSem s k x2) := by
  induction x2 generalizing s with
  | zero =>
    unfold State.grantSem
    repeat' first
      | with_reducible exact h | with_reducible (refine ih ?_) | with_reducible (refine Flows.sem! ?_) | with_reducible (refine Flows.setResult ?_)
      | with_reducible (refine Flows.wakeCtx ?_) | with_reducible (refine Flows.ite ?_ ?_) | dsimp only | split
  | succ _ ih =>
    unfold State.grantSem
    repeat' first
      | with_reducible exact h | with_reducible (refine ih ?_) | with_reducible (refine Flows.sem! ?_) | with_reducible (refine Flows.setResult ?_)
      | with_reducible (refine Flows.wakeCtx ?_) | with_reducible (refine Flows.ite ?_ ?_) | dsimp only | split

theorem Flows.releaseSems {w0 : Nat} {s0 : State} {s : State} {c : Nat} {poison : Bool} (h : Flows w0 s0 s) (hw0 : 8 ||| w0 = w0 := by first | assumption | exact parts (by assumption) (by decide)) :
    Flows w0 s0 (State.releaseSems s c poison) := by
  unfold State.releaseSems
  repeat' first
    | with_reducible exact h | with_reducible assumption | with_reducible (refine Flows.grantSem ?_) | with_reducible (refine Flows.sem! ?_)
    | with_reducible (refine Flows.ite ?_ ?_) | with_reducible (refine Flows.foldl ?_ ?_) | with_reducible intro _

theorem Flows.creditCore {w0 : Nat} {s0 : State} {s : State} {n : Nat} (h : Flows w0 s0 s) (hw0 : 10 ||| w0 = w0 := by first | assumption | exact parts (by assumption) (by decide)) :
    Flows w0 s0 (State.creditCore s n) := by
  unfold State.creditCore
  repeat' first
    | with_reducible exact h | with_reducible (refine Flows.chargeCore ?_) | with_reducible (refine Flows.count ?_) | with_reducible (refine Flows.slc! ?_)
    | dsimp only | split

theorem Flows.freeSave {w0 : Nat} {s0 : State} {s : State} {t : Nat} (h : Flows w0 s0 s) (hw0 : 72 ||| w0 = w0 := by first | assumption | exact parts (by assumption) (by decide)) :
    Flows w0 s0 (State.freeSave s t) := by
  unfold State.freeSave
  repeat' first
    | with_reducible exact h | with_reducible (refine Flows.ferry! ?_) | with_reducible (refine Flows.task! ?_) | with_reducible (refine Flows.ite ?_ ?_)
    | dsimp only | split

theorem Flows.freeKernels {w0 : Nat} {s0 : State} {s : State} (h : Flows w0 s0 s) (hw0 : 11 ||| w0 = w0 := by first | assumption | exact parts (by assumption) (by decide)) :
    Flows w0 s0 (State.freeKernels s) := by
  unfold State.freeKernels
  repeat' first
    | with_reducible exact h | with_reducible assumption | with_reducible (refine Flows.done ?_) | with_reducible (refine Flows.slc! ?_)
    | with_reducible (refine Flows.ite ?_ ?_) | with_reducible (refine Flows.foldl ?_ ?_) | with_reducible intro _ | split

theorem Flows.dropTask {w0 : Nat} {s0 : State} {s : State} {t : Nat} (h : Flows w0 s0 s) (hw0 : 75 ||| w0 = w0 := by first | assumption | exact parts (by assumption) (by decide)) :
    Flows w0 s0 (State.dropTask s t) := by
  unfold State.dropTask
  repeat' first
    | with_reducible exact h | with_reducible (refine Flows.core! ?_) | with_reducible (refine Flows.count ?_) | with_reducible (refine Flows.creditCore ?_)
    | with_reducible (refine Flows.freeKernels ?_) | with_reducible (refine Flows.freeSave ?_) | with_reducible (refine Flows.slc! ?_)
    | with_reducible (refine Flows.ite ?_ ?_) | dsimp only | split

theorem Flows.haltBatch {w0 : Nat} {s0 : State} {s : State} {b : Nat} (h : Flows w0 s0 s) (hw0 : 48 ||| w0 = w0 := by first | assumption | exact parts (by assumption) (by decide)) :
    Flows w0 s0 (State.haltBatch s b) := by
  unfold State.haltBatch
  repeat' first | with_reducible exact h | with_reducible (refine Flows.mrc! ?_) | with_reducible (refine Flows.search! ?_)

theorem Flows.clearCore {w0 : Nat} {s0 : State} {s : State} {t : Nat} (h : Flows w0 s0 s) (hw0 : 8 ||| w0 = w0 := by first | assumption | exact parts (by assumption) (by decide)) :
    Flows w0 s0 (State.clearCore s t) := by
  unfold State.clearCore
  repeat' first | with_reducible exact h | with_reducible (refine Flows.core! ?_) | split

theorem Flows.teardown {w0 : Nat} {s0 : State} {s : State} {b : Nat} {status : Nat} (h : Flows w0 s0 s) (hw0 : 379 ||| w0 = w0 := by first | assumption | exact parts (by assumption) (by decide)) :
    Flows w0 s0 (State.teardown s b status) := by
  unfold State.teardown
  repeat' first
    | with_reducible exact h | with_reducible assumption | with_reducible (refine Flows.batch! ?_) | with_reducible (refine Flows.clearCore ?_)
    | with_reducible (refine Flows.count ?_) | with_reducible (refine Flows.ctx! ?_) | with_reducible (refine Flows.dropTask ?_)
    | with_reducible (refine Flows.ferry! ?_) | with_reducible (refine Flows.haltBatch ?_) | with_reducible (refine Flows.releaseSems ?_)
    | with_reducible (refine Flows.trib! ?_) | with_reducible (refine Flows.ite ?_ ?_) | with_reducible (refine Flows.foldl ?_ ?_) | with_reducible intro _
    | dsimp only | split

end Sys2Proof.Machine
end

