-- ==== Sys2Proof/Laws/FlowContain.lean ====
section
/-! SUPPORT. What the operations and meanings of Machine/Contain.lean keep. -/

set_option Elab.async false

namespace Sys2Proof.Machine

theorem Flows.coll! {w0 : Nat} {s0 : State} {s : State} {k : Nat} {f : Coll → Coll} (h : Flows w0 s0 s) (hw0 : 16 ||| w0 = w0 := by first | assumption | exact parts (by assumption) (by decide)) :
    Flows w0 s0 (State.coll! s k f) := by
  unfold State.coll!
  repeat' first | with_reducible exact h | with_reducible (refine Flows.search! ?_)

theorem Flows.query! {w0 : Nat} {s0 : State} {s : State} {b : Nat} {q : Nat} {f : Query → Query} (h : Flows w0 s0 s) (hw0 : 16 ||| w0 = w0 := by first | assumption | exact parts (by assumption) (by decide)) :
    Flows w0 s0 (State.query! s b q f) := by
  unfold State.query!
  repeat' first | with_reducible exact h | with_reducible (refine Flows.search! ?_)

theorem Flows.cell! {w0 : Nat} {s0 : State} {s : State} {n : Nat} {f : Cell → Cell} (h : Flows w0 s0 s) (hw0 : 32 ||| w0 = w0 := by first | assumption | exact parts (by assumption) (by decide)) :
    Flows w0 s0 (State.cell! s n f) := by
  unfold State.cell!
  repeat' first | with_reducible exact h | with_reducible (refine Flows.mrc! ?_)

theorem Flows.abandon {w0 : Nat} {s0 : State} {s : State} {cell : Nat} {i : Issue} {lanes : List Nat} (h : Flows w0 s0 s) (hw0 : 48 ||| w0 = w0 := by first | assumption | exact parts (by assumption) (by decide)) :
    Flows w0 s0 (State.abandon s cell i lanes) := by
  unfold State.abandon
  repeat' first
    | with_reducible exact h | with_reducible assumption | with_reducible (refine Flows.cell! ?_) | with_reducible (refine Flows.query! ?_)
    | with_reducible (refine Flows.foldl ?_ ?_) | with_reducible intro _ | dsimp only | split

theorem Flows.fenceCell {w0 : Nat} {s0 : State} {s : State} {n : Nat} (h : Flows w0 s0 s) (hw0 : 48 ||| w0 = w0 := by first | assumption | exact parts (by assumption) (by decide)) :
    Flows w0 s0 (State.fenceCell s n) := by
  unfold State.fenceCell
  repeat' first
    | with_reducible exact h | with_reducible assumption | with_reducible (refine Flows.abandon ?_) | with_reducible (refine Flows.cell! ?_)
    | with_reducible (refine Flows.foldl ?_ ?_) | with_reducible intro _ | dsimp only | split

theorem Flows.fenceCore {w0 : Nat} {s0 : State} {s : State} {n : Nat} (h : Flows w0 s0 s) (hw0 : 8 ||| w0 = w0 := by first | assumption | exact parts (by assumption) (by decide)) :
    Flows w0 s0 (State.fenceCore s n) := by
  unfold State.fenceCore
  repeat' first | with_reducible exact h | with_reducible (refine Flows.core! ?_)

theorem Flows.offline {w0 : Nat} {s0 : State} {s : State} {p : Coll → Bool} (h : Flows w0 s0 s) (hw0 : 16 ||| w0 = w0 := by first | assumption | exact parts (by assumption) (by decide)) :
    Flows w0 s0 (State.offline s p) := by
  unfold State.offline
  repeat' first | with_reducible exact h | with_reducible (refine Flows.search! ?_)

theorem Flows.fenceUnit {w0 : Nat} {s0 : State} {s : State} {unit : Nat} (h : Flows w0 s0 s) (hw0 : 444 ||| w0 = w0 := by first | assumption | exact parts (by assumption) (by decide)) :
    Flows w0 s0 (State.fenceUnit s unit) := by
  unfold State.fenceUnit
  repeat' first
    | with_reducible exact h | with_reducible assumption | with_reducible (refine Flows.delta! ?_) | with_reducible (refine Flows.fenceCell ?_)
    | with_reducible (refine Flows.fenceCore ?_) | with_reducible (refine Flows.gauge! ?_) | with_reducible (refine Flows.mrc! ?_)
    | with_reducible (refine Flows.offline ?_) | with_reducible (refine Flows.trib! ?_) | with_reducible (refine Flows.ite ?_ ?_)
    | with_reducible (refine Flows.foldl ?_ ?_) | with_reducible intro _

theorem Flows.pend {w0 : Nat} {s0 : State} {s : State} {k : ErrClass} (h : Flows w0 s0 s) (hw0 : 3 ||| w0 = w0 := by first | assumption | exact parts (by assumption) (by decide)) :
    Flows w0 s0 (State.pend s k) := by
  unfold State.pend
  repeat' first | with_reducible exact h | with_reducible (refine Flows.emit ?_) | with_reducible (refine Flows.setRaw ?_) | with_reducible (refine Flows.ite ?_ ?_)

theorem dropFirst_length (p : GRec → Bool) (l : List GRec) (h : l.any p = true) : (dropFirst p l).length + 1 = l.length := by
  induction l with
  | nil => cases h
  | cons a l ih =>
    unfold dropFirst at ih ⊢
    unfold takeFirst
    by_cases ha : p a = true
    · rw [if_pos ha]; rfl
    · rw [if_neg ha]
      have hl : l.any p = true := by rw [List.any_cons] at h; simpa [ha] using h
      have := ih hl
      cases ht : takeFirst p l with
      | none => rw [ht] at this; simp only [Option.map, List.length_cons] at this ⊢; omega
      | some x => rw [ht] at this; simp only [Option.map, List.length_cons] at this ⊢; omega

theorem minL_foldl (l : List Nat) (a : Nat) : l.foldl Nat.min a = a ∨ l.foldl Nat.min a ∈ l := by
  induction l generalizing a with
  | nil => exact .inl rfl
  | cons x l ih =>
    rcases ih (Nat.min a x) with h | h
    · rw [List.foldl_cons, h]
      rcases Nat.le_total a x with e | e
      · exact .inl (Nat.min_eq_left e)
      · exact .inr (by rw [show Nat.min a x = x from Nat.min_eq_right e]; exact List.mem_cons_self)
    · exact .inr (List.mem_cons_of_mem _ h)

theorem minL_mem {l : List Nat} {m : Nat} (h : minL l = some m) : m ∈ l := by
  cases l with
  | nil => cases h
  | cons a l =>
    simp only [minL, Option.some.injEq] at h
    rcases minL_foldl l a with e | e
    · rw [h] at e; rw [e]; exact List.mem_cons_self
    · rw [h] at e; exact List.mem_cons_of_mem _ e

/-- The node log never holds more than its capacity (R530). -/
theorem logInsert_length (log : List GRec) (r : GRec) (h : log.length ≤ 65536) : (logInsert 65536 log r).1.length ≤ 65536 := by
  unfold logInsert
  split
  · simp only [List.length_append, List.length_cons, List.length_nil]; omega
  · rename_i hl
    dsimp only
    have hne : log ≠ [] := by intro e; rw [e] at hl; simp at hl
    split
    · exact h
    · split
      · rename_i hc
        have := dropFirst_length _ _ hc.2
        simp only [List.length_append, List.length_cons, List.length_nil]; omega
      · have : log.any (fun x => decide (tierOf x.cls = (minL (log.map (fun x => tierOf x.cls))).getD 0)) = true := by
          cases hm : minL (log.map (fun x => tierOf x.cls)) with
          | none => cases log with
            | nil => exact absurd rfl hne
            | cons a l => simp [minL] at hm
          | some m =>
            obtain ⟨x, hx, e⟩ := List.mem_map.1 (minL_mem hm)
            rw [List.any_eq_true]; exact ⟨x, hx, by simp [e]⟩
        have := dropFirst_length _ _ this
        simp only [List.length_append, List.length_cons, List.length_nil]; omega

theorem Flows.drainOne {w0 : Nat} {s0 s : State} (h : Flows w0 s0 s) (hw0 : 7 ||| w0 = w0 := by first | assumption | exact parts (by assumption) (by decide)) :
    Flows w0 s0 s.drainOne := by
  unfold State.drainOne
  split
  · exact h
  · split
    · rename_i u r rest hf
      dsimp only
      have hg : Flows w0 s0 (s.gauge! (fun g => { g with
          queues := if rest = [] then Tbl.erase u g.queues else Tbl.put u rest g.queues, log := (logInsert 65536 s.gauge.log r).1 })) := by
        refine Flows.gauge! h (Nat.le_refl _) ?_
        intro hg
        have hq : queueBounded (r :: rest) = true := by
          have hg1 := hg
          simp only [gaugeBounded, Bool.and_eq_true] at hg1
          exact List.all_eq_true.1 hg1.1 _ (List.mem_of_find?_eq_some hf)
        simp only [gaugeBounded, Bool.and_eq_true, decide_eq_true_eq] at hg ⊢
        refine ⟨?_, logInsert_length _ _ hg.2⟩
        split
        · exact all_erase hg.1
        · refine all_put ?_ hg.1
          simp only [queueBounded, Bool.and_eq_true, decide_eq_true_eq, List.length_cons, List.filter_cons] at hq ⊢
          refine ⟨by omega, ?_⟩
          have := hq.2
          split at this
          · simp only [List.length_cons] at this; omega
          · exact this
      split
      · refine Flows.pend (Flows.count ?_)
        split
        · exact Flows.count hg
        · exact hg
      · split
        · exact Flows.count hg
        · exact hg
    · exact h

theorem Flows.drainAll {w0 : Nat} {s0 : State} {s : State} {x1 : Nat} (h : Flows w0 s0 s) (hw0 : 7 ||| w0 = w0 := by first | assumption | exact parts (by assumption) (by decide)) :
    Flows w0 s0 (State.drainAll s x1) := by
  induction x1 generalizing s with
  | zero => exact h
  | succ _ ih => exact ih (Flows.drainOne h)

theorem Flows.holdUnits {w0 : Nat} {s0 : State} {s : State} (h : Flows w0 s0 s) (hw0 : 505 ||| w0 = w0 := by first | assumption | exact parts (by assumption) (by decide)) :
    Flows w0 s0 (State.holdUnits s) := by
  have p (k : Nat) (e : 2 ^ k ||| 505 = 505) : 2 ^ k ||| w0 = w0 := parts hw0 e
  exact { h with
    quiet := h.quiet
    mems := fun q => by
      have := h.mems q
      simp only [memsWf, Bool.and_eq_true] at this ⊢
      refine ⟨rfl, ?_⟩
      show (tblOf 65 boxReset).all (fun b => Mem.wf b.2.window) = true
      decide +kernel
    host := fun e => (partBit (p 0 (by decide)) e).elim, slc := fun e => (partBit (p 3 (by decide)) e).elim, search := fun e => (partBit (p 4 (by decide)) e).elim
    mrc := fun e => (partBit (p 5 (by decide)) e).elim, ferry := fun e => (partBit (p 6 (by decide)) e).elim, delta := fun e => (partBit (p 7 (by decide)) e).elim
    trib := fun e => (partBit (p 8 (by decide)) e).elim }

theorem Flows.quarantine {w0 : Nat} {s0 : State} {s : State} {cause : Nat} {unit : Nat} (h : Flows w0 s0 s) (hw0 : 1021 ||| w0 = w0 := by first | assumption | exact parts (by assumption) (by decide)) :
    Flows w0 s0 (State.quarantine s cause unit) := by
  unfold State.quarantine
  repeat' first
    | with_reducible exact h | with_reducible (refine Flows.drive ?_) | with_reducible (refine Flows.gauge! ?_) | with_reducible (refine Flows.holdUnits ?_)
    | with_reducible (refine Flows.trib! ?_) | with_reducible (refine Flows.weir! ?_) | with_reducible (refine Flows.ite ?_ ?_)

theorem Flows.fatal {w0 : Nat} {s0 : State} {s : State} {unit : Nat} (h : Flows w0 s0 s) (hw0 : 1021 ||| w0 = w0 := by first | assumption | exact parts (by assumption) (by decide)) :
    Flows w0 s0 (State.fatal s unit) := by
  unfold State.fatal
  repeat' first
    | with_reducible exact h | with_reducible assumption | with_reducible (refine Flows.drive ?_) | with_reducible (refine Flows.gauge! ?_)
    | with_reducible (refine Flows.quarantine ?_) | with_reducible (refine Flows.ite ?_ ?_) | with_reducible (refine Flows.foldl ?_ ?_) | with_reducible intro _
    | dsimp only | split

theorem Flows.raise {w0 : Nat} {s0 : State} {s : State} {unit : Nat} {typ : Nat} {k : ErrClass} {batch : Option Nat} {comp : Nat} {ctx : Nat} {addr : Nat} {detail : Nat} {status : Nat} (h : Flows w0 s0 s) (hw0 : 1023 ||| w0 = w0 := by first | assumption | exact parts (by assumption) (by decide)) :
    Flows w0 s0 (State.raise s unit typ k batch comp ctx addr detail status) := by
  unfold State.raise
  repeat' first
    | with_reducible exact h | with_reducible (refine Flows.count ?_) | with_reducible (refine Flows.fatal ?_) | with_reducible (refine Flows.fenceUnit ?_)
    | with_reducible (refine Flows.form ?_) | with_reducible (refine Flows.logC ?_) | with_reducible (refine Flows.openHandler ?_)
    | with_reducible (refine Flows.teardown ?_) | with_reducible (refine Flows.ite ?_ ?_) | dsimp only | split

theorem Flows.memRaiseAt {w0 : Nat} {s0 : State} {s : State} {at_ : Nat} {unit : Nat} {typ : Nat} {k : ErrClass} {tier : Nat} {kind : Nat} {id : Nat} {off : Nat} {comp : Nat} {ctx : Nat} {batch : Option Nat} {status : Nat} (h : Flows w0 s0 s) (hw0 : 9215 ||| w0 = w0 := by first | assumption | exact parts (by assumption) (by decide)) :
    Flows w0 s0 (State.memRaiseAt s at_ unit typ k tier kind id off comp ctx batch status) := by
  unfold State.memRaiseAt
  repeat' first | with_reducible exact h | with_reducible (refine Flows.free2 ?_) | with_reducible (refine Flows.raise ?_)

theorem Flows.memRaise {w0 : Nat} {s0 : State} {s : State} {unit : Nat} {typ : Nat} {k : ErrClass} {tier : Nat} {kind : Nat} {id : Nat} {off : Nat} {comp : Nat} {ctx : Nat} {batch : Option Nat} {status : Nat} (h : Flows w0 s0 s) (hw0 : 9215 ||| w0 = w0 := by first | assumption | exact parts (by assumption) (by decide)) :
    Flows w0 s0 (State.memRaise s unit typ k tier kind id off comp ctx batch status) := by
  unfold State.memRaise
  repeat' first | with_reducible exact h | with_reducible (refine Flows.memRaiseAt ?_)

theorem Flows.basinUnit {w0 : Nat} {s0 : State} {s : State} (h : Flows w0 s0 s) (hw0 : 8192 ||| w0 = w0 := by first | assumption | exact parts (by assumption) (by decide)) :
    Flows w0 s0 (State.basinUnit s).2 := by
  unfold State.basinUnit
  repeat' first | with_reducible exact h | with_reducible (refine Flows.free2 ?_)

end Sys2Proof.Machine
end

