-- ==== Sys2Proof/Laws/FlowRegCmd.lean ====
section
/-! SUPPORT. What the operations and meanings of Machine/RegCmd.lean keep. -/

set_option Elab.async false

namespace Sys2Proof.Machine

theorem Flows.urIfQuarantined {w0 : Nat} {s0 : State} {s : State} {fn : Nat} {addr : Nat} {f : State → State} (h : Flows w0 s0 s) (hf : ∀ y0, Flows w0 s0 y0 → Flows w0 s0 (f y0)) (hw0 : 1 ||| w0 = w0 := by first | assumption | exact parts (by assumption) (by decide)) :
    Flows w0 s0 (State.urIfQuarantined s fn addr f) := by
  unfold State.urIfQuarantined
  repeat' first | with_reducible exact h | with_reducible (refine hf _ ?_) | with_reducible (refine Flows.drive ?_) | with_reducible (refine Flows.ite ?_ ?_)

theorem Flows.answerRead {w0 : Nat} {s0 : State} {s : State} {fn : Nat} {addr : Nat} {bs : List Byte} {poisoned : Bool} (h : Flows w0 s0 s) (hw0 : 1 ||| w0 = w0 := by first | assumption | exact parts (by assumption) (by decide)) :
    Flows w0 s0 (State.answerRead s fn addr bs poisoned) := by
  unfold State.answerRead
  repeat' first | with_reducible exact h | with_reducible (refine Flows.drive ?_)

theorem Flows.badAccess {w0 : Nat} {s0 : State} {s : State} {isWrite : Bool} {addr : Nat} {size : Nat} {why : Nat} (h : Flows w0 s0 s) (hw0 : 7 ||| w0 = w0 := by first | assumption | exact parts (by assumption) (by decide)) :
    Flows w0 s0 (State.badAccess s isWrite addr size why) := by
  unfold State.badAccess
  repeat' first
    | with_reducible exact h | with_reducible (refine Flows.answerRead ?_) | with_reducible (refine Flows.logAccess ?_) | with_reducible (refine Flows.ite ?_ ?_)

theorem Flows.hostField {w0 : Nat} {s0 : State} {s : State} {a : Nat} {v : Nat} {coverLo : Nat} {coverHi : Nat} {f : RField} (h : Flows w0 s0 s) (hw0 : 2 ||| w0 = w0 := by first | assumption | exact parts (by assumption) (by decide)) :
    Flows w0 s0 (State.hostField s a v coverLo coverHi f) := by
  unfold State.hostField
  repeat' first
    | with_reducible exact h | with_reducible (refine Flows.setFld ?_) | with_reducible (refine Flows.writeS ?_) | with_reducible (refine Flows.ite ?_ ?_)
    | dsimp only | split

theorem Flows.clearFault {w0 : Nat} {s0 : State} {s : State} {n : Nat} (h : Flows w0 s0 s) (hw0 : 8 ||| w0 = w0 := by first | assumption | exact parts (by assumption) (by decide)) :
    Flows w0 s0 (State.clearFault s n) := by
  unfold State.clearFault
  repeat' first | with_reducible exact h | with_reducible (refine Flows.core! ?_)

theorem Flows.clearPend {w0 : Nat} {s0 : State} {s : State} {mask : Nat} (h : Flows w0 s0 s) (hw0 : 2 ||| w0 = w0 := by first | assumption | exact parts (by assumption) (by decide)) :
    Flows w0 s0 (State.clearPend s mask) := by
  unfold State.clearPend
  repeat' first | with_reducible exact h | with_reducible (refine Flows.setFld ?_)

theorem Flows.regWrite {w0 : Nat} {s0 : State} {s : State} {addr : Nat} {size : Nat} {value : Nat} (h : Flows w0 s0 s) (hw0 : 15 ||| w0 = w0 := by first | assumption | exact parts (by assumption) (by decide)) :
    Flows w0 s0 (State.regWrite s addr size value) := by
  unfold State.regWrite
  repeat' first
    | with_reducible exact h | with_reducible assumption | with_reducible (refine Flows.badAccess ?_) | with_reducible (refine Flows.clearFault ?_)
    | with_reducible (refine Flows.core! ?_) | with_reducible (refine Flows.hostField ?_) | with_reducible (refine Flows.logAccess ?_)
    | with_reducible (refine Flows.ite ?_ ?_) | with_reducible (refine Flows.foldl ?_ ?_) | with_reducible intro _ | dsimp only | split

theorem Flows.bar0Write {w0 : Nat} {s0 : State} {s : State} {addr : Nat} {size : Nat} {value : Nat} (h : Flows w0 s0 s) (hw0 : 15 ||| w0 = w0 := by first | assumption | exact parts (by assumption) (by decide)) :
    Flows w0 s0 (State.bar0Write s addr size value) := by
  unfold State.bar0Write
  repeat' first
    | with_reducible exact h | with_reducible (refine Flows.badAccess ?_) | with_reducible (refine Flows.regWrite ?_) | with_reducible (refine Flows.ite ?_ ?_)

theorem Flows.execRegisterWrite {w0 : Nat} {s0 : State} {addr : Nat} {size : Nat} {value : Nat} {s : State} (h : Flows w0 s0 s) (hw0 : 15 ||| w0 = w0 := by first | assumption | exact parts (by assumption) (by decide)) :
    FlowsX w0 s0 (Sys2Proof.Machine.execRegisterWrite addr size value s) := by
  unfold Sys2Proof.Machine.execRegisterWrite
  repeat' first
    | with_reducible exact h | with_reducible assumption | with_reducible (refine Flows.bar0Write ?_) | with_reducible (refine Flows.urIfQuarantined ?_ ?_)
    | with_reducible (refine FlowsX.ok ?_) | with_reducible intro _

theorem Flows.execBadSizeAccess {w0 : Nat} {s0 : State} {isWrite : Bool} {addr : Nat} {size : Nat} {s : State} (h : Flows w0 s0 s) (hw0 : 7 ||| w0 = w0 := by first | assumption | exact parts (by assumption) (by decide)) :
    FlowsX w0 s0 (Sys2Proof.Machine.execBadSizeAccess isWrite addr size s) := by
  unfold Sys2Proof.Machine.execBadSizeAccess
  repeat' first
    | with_reducible exact h | with_reducible assumption | with_reducible (refine Flows.badAccess ?_) | with_reducible (refine Flows.urIfQuarantined ?_ ?_)
    | with_reducible (refine FlowsX.ok ?_) | with_reducible (refine Flows.ite ?_ ?_) | with_reducible intro _

theorem Flows.execUnassignedAccess {w0 : Nat} {s0 : State} {isWrite : Bool} {addr : Nat} {size : Nat} {s : State} (h : Flows w0 s0 s) (hw0 : 7 ||| w0 = w0 := by first | assumption | exact parts (by assumption) (by decide)) :
    FlowsX w0 s0 (Sys2Proof.Machine.execUnassignedAccess isWrite addr size s) := by
  unfold Sys2Proof.Machine.execUnassignedAccess
  repeat' first
    | with_reducible exact h | with_reducible assumption | with_reducible (refine Flows.badAccess ?_) | with_reducible (refine Flows.urIfQuarantined ?_ ?_)
    | with_reducible (refine FlowsX.ok ?_) | with_reducible (refine Flows.ite ?_ ?_) | with_reducible intro _

theorem Flows.execDisabledCoreAccess {w0 : Nat} {s0 : State} {isWrite : Bool} {addr : Nat} {s : State} (h : Flows w0 s0 s) (hw0 : 7 ||| w0 = w0 := by first | assumption | exact parts (by assumption) (by decide)) :
    FlowsX w0 s0 (Sys2Proof.Machine.execDisabledCoreAccess isWrite addr s) := by
  unfold Sys2Proof.Machine.execDisabledCoreAccess
  repeat' first
    | with_reducible exact h | with_reducible assumption | with_reducible (refine Flows.answerRead ?_) | with_reducible (refine Flows.badAccess ?_)
    | with_reducible (refine Flows.urIfQuarantined ?_ ?_) | with_reducible (refine FlowsX.ok ?_) | with_reducible (refine Flows.ite ?_ ?_) | with_reducible intro _

theorem Flows.execRilFaultClear {w0 : Nat} {s0 : State} {core : Nat} {s : State} (h : Flows w0 s0 s) (hw0 : 15 ||| w0 = w0 := by first | assumption | exact parts (by assumption) (by decide)) :
    FlowsX w0 s0 (Sys2Proof.Machine.execRilFaultClear core s) := by
  unfold Sys2Proof.Machine.execRilFaultClear
  repeat' first
    | with_reducible exact h | with_reducible assumption | with_reducible (refine Flows.bar0Write ?_) | with_reducible (refine Flows.urIfQuarantined ?_ ?_)
    | with_reducible (refine FlowsX.onUnit ?_) | with_reducible intro _

theorem Flows.execErrIntPendClear {w0 : Nat} {s0 : State} {mask : Nat} {s : State} (h : Flows w0 s0 s) (hw0 : 3 ||| w0 = w0 := by first | assumption | exact parts (by assumption) (by decide)) :
    FlowsX w0 s0 (Sys2Proof.Machine.execErrIntPendClear mask s) := by
  unfold Sys2Proof.Machine.execErrIntPendClear
  repeat' first
    | with_reducible exact h | with_reducible assumption | with_reducible (refine Flows.clearPend ?_) | with_reducible (refine Flows.urIfQuarantined ?_ ?_)
    | with_reducible (refine FlowsX.ok ?_) | with_reducible (refine Flows.ite ?_ ?_) | with_reducible intro _

theorem Flows.execConsumedWrite {w0 : Nat} {s0 : State} {value : Nat} {s : State} (h : Flows w0 s0 s) (hw0 : 15 ||| w0 = w0 := by first | assumption | exact parts (by assumption) (by decide)) :
    FlowsX w0 s0 (Sys2Proof.Machine.execConsumedWrite value s) := by
  unfold Sys2Proof.Machine.execConsumedWrite
  repeat' first
    | with_reducible exact h | with_reducible assumption | with_reducible (refine Flows.bar0Write ?_) | with_reducible (refine Flows.urIfQuarantined ?_ ?_)
    | with_reducible (refine FlowsX.ok ?_) | with_reducible intro _

theorem Flows.execHwdWinWrite {w0 : Nat} {s0 : State} {value : Nat} {s : State} (h : Flows w0 s0 s) (hw0 : 15 ||| w0 = w0 := by first | assumption | exact parts (by assumption) (by decide)) :
    FlowsX w0 s0 (Sys2Proof.Machine.execHwdWinWrite value s) := by
  unfold Sys2Proof.Machine.execHwdWinWrite
  repeat' first
    | with_reducible exact h | with_reducible assumption | with_reducible (refine Flows.bar0Write ?_) | with_reducible (refine Flows.urIfQuarantined ?_ ?_)
    | with_reducible (refine FlowsX.ok ?_) | with_reducible intro _

end Sys2Proof.Machine
end

