-- ==== Sys2Proof/Laws/FlowHost.lean ====
section
/-! SUPPORT. What the operations and meanings of Machine/Host.lean keep. -/

set_option Elab.async false

namespace Sys2Proof.Machine

theorem Flows.mbAccess {w0 : Nat} {s0 : State} {s : State} {mb : Nat} {off : Nat} {f : State → State} (h : Flows w0 s0 s) (hf : ∀ y0, Flows w0 s0 y0 → Flows w0 s0 (f y0)) (hw0 : 1 ||| w0 = w0 := by first | assumption | exact parts (by assumption) (by decide)) :
    Flows w0 s0 (State.mbAccess s mb off f) := by
  unfold State.mbAccess
  repeat' first | with_reducible exact h | with_reducible (refine hf _ ?_) | with_reducible (refine Flows.drive ?_) | with_reducible (refine Flows.ite ?_ ?_)

theorem Flows.discardWrite {w0 : Nat} {s0 : State} {s : State} {mb : Nat} (h : Flows w0 s0 s) (hw0 : 3 ||| w0 = w0 := by first | assumption | exact parts (by assumption) (by decide)) :
    Flows w0 s0 (State.discardWrite s mb) := by
  unfold State.discardWrite
  repeat' first | with_reducible exact h | with_reducible (refine Flows.box! ?_) | with_reducible (refine Flows.count ?_)

theorem Flows.submit {w0 : Nat} {s0 : State} {s : State} {mb : Nat} {value : Nat} (h : Flows w0 s0 s) (hw0 : 3 ||| w0 = w0 := by first | assumption | exact parts (by assumption) (by decide)) :
    Flows w0 s0 (State.submit s mb value) := by
  unfold State.submit
  repeat' first
    | with_reducible exact h | with_reducible (refine Flows.box! ?_ (fun b hb => Mem.wf_writeBytes _ _ _ hb)) | with_reducible (refine Flows.discardWrite ?_)
    | with_reducible (refine Flows.ite ?_ ?_)

theorem windowWrite_wf (bs : List Byte) : ∀ (m : Mem) (a : Nat), Mem.wf m = true → Mem.wf (windowWrite m a bs) = true := by
  induction bs with
  | nil => intro m a h; exact h
  | cons b bs ih =>
    intro m a h
    unfold windowWrite
    refine ih _ _ ?_
    split
    · exact Mem.wf_write m a b h
    · exact h

theorem Flows.execMailboxWindowWrite {w0 : Nat} {s0 : State} {mb : Nat} {off : Nat} {bs : List Byte} {s : State} (h : Flows w0 s0 s) (hw0 : 3 ||| w0 = w0 := by first | assumption | exact parts (by assumption) (by decide)) :
    FlowsX w0 s0 (Sys2Proof.Machine.execMailboxWindowWrite mb off bs s) := by
  unfold Sys2Proof.Machine.execMailboxWindowWrite
  repeat' first
    | with_reducible exact h | with_reducible assumption | with_reducible (refine Flows.box! ?_ (fun b hb => windowWrite_wf _ _ _ hb))
    | with_reducible (refine Flows.discardWrite ?_) | with_reducible (refine Flows.mbAccess ?_ ?_) | with_reducible (refine Flows.submit ?_)
    | with_reducible (refine FlowsX.onUnit ?_) | with_reducible (refine Flows.ite ?_ ?_) | with_reducible intro _

theorem Flows.execSubmitWrite {w0 : Nat} {s0 : State} {mb : Nat} {value : Nat} {s : State} (h : Flows w0 s0 s) (hw0 : 3 ||| w0 = w0 := by first | assumption | exact parts (by assumption) (by decide)) :
    FlowsX w0 s0 (Sys2Proof.Machine.execSubmitWrite mb value s) := by
  unfold Sys2Proof.Machine.execSubmitWrite
  repeat' first
    | with_reducible exact h | with_reducible assumption | with_reducible (refine Flows.mbAccess ?_ ?_) | with_reducible (refine Flows.submit ?_)
    | with_reducible (refine FlowsX.onUnit ?_) | with_reducible intro _

theorem Flows.take {w0 : Nat} {s0 : State} {s : State} {mb : Nat} (h : Flows w0 s0 s) (hw0 : 3 ||| w0 = w0 := by first | assumption | exact parts (by assumption) (by decide)) :
    Flows w0 s0 (State.take s mb) := by
  unfold State.take
  repeat' first
    | with_reducible exact h | with_reducible (refine Flows.box! ?_ (fun _ _ => rfl)) | with_reducible (refine Flows.box! ?_)
    | with_reducible (refine Flows.count ?_) | with_reducible (refine Flows.reply ?_) | with_reducible (refine Flows.ite ?_ ?_) | dsimp only | split

theorem Flows.execMessageTake {w0 : Nat} {s0 : State} {mb : Nat} {s : State} (h : Flows w0 s0 s) (hw0 : 3 ||| w0 = w0 := by first | assumption | exact parts (by assumption) (by decide)) :
    FlowsX w0 s0 (Sys2Proof.Machine.execMessageTake mb s) := by
  unfold Sys2Proof.Machine.execMessageTake
  repeat' first | with_reducible exact h | with_reducible (refine Flows.take ?_) | with_reducible (refine FlowsX.onUnit ?_) | with_reducible (refine Flows.ite ?_ ?_)

theorem Flows.meetInjected {w0 : Nat} {s0 : State} {s : State} {k : Nat} {id : Nat} {hits : List (Nat × Nat)} (h : Flows w0 s0 s) (hw0 : 9215 ||| w0 = w0 := by first | assumption | exact parts (by assumption) (by decide)) :
    Flows w0 s0 (State.meetInjected s k id hits) := by
  unfold State.meetInjected
  repeat' first
    | with_reducible exact h | with_reducible assumption | with_reducible (refine Flows.basinUnit ?_) | with_reducible (refine Flows.count ?_)
    | with_reducible (refine Flows.memRaise ?_) | with_reducible (refine Flows.obj! ?_) | with_reducible (refine Flows.ite ?_ ?_)
    | with_reducible (refine Flows.foldl ?_ ?_) | with_reducible intro _

theorem Flows.execBar2Read {w0 : Nat} {s0 : State} {off : Nat} {len : Nat} {s : State} (h : Flows w0 s0 s) (hw0 : 9215 ||| w0 = w0 := by first | assumption | exact parts (by assumption) (by decide)) :
    FlowsX w0 s0 (Sys2Proof.Machine.execBar2Read off len s) := by
  unfold Sys2Proof.Machine.execBar2Read
  repeat' first
    | with_reducible exact h | with_reducible assumption | with_reducible (refine Flows.answerRead ?_) | with_reducible (refine Flows.count ?_)
    | with_reducible (refine Flows.meetInjected ?_) | with_reducible (refine Flows.urIfQuarantined ?_ ?_) | with_reducible (refine FlowsX.ok ?_)
    | with_reducible (refine Flows.ite ?_ ?_) | with_reducible intro _ | dsimp only | split

theorem Flows.execBar2Write {w0 : Nat} {s0 : State} {off : Nat} {bs : List Byte} {s : State} (h : Flows w0 s0 s) (hw0 : 11 ||| w0 = w0 := by first | assumption | exact parts (by assumption) (by decide)) :
    FlowsX w0 s0 (Sys2Proof.Machine.execBar2Write off bs s) := by
  unfold Sys2Proof.Machine.execBar2Write
  repeat' first
    | with_reducible exact h | with_reducible assumption
    | with_reducible (refine Flows.host! ?_ (by with_unfolding_all rfl) (by with_unfolding_all exact fun q => (Bool.and_eq_true _ _).mpr ⟨Mem.wf_writeBytes _ _ _ ((Bool.and_eq_true _ _).mp q).1, ((Bool.and_eq_true _ _).mp q).2⟩))
    | with_reducible (refine Flows.count ?_) | with_reducible (refine Flows.obj! ?_) | with_reducible (refine Flows.urIfQuarantined ?_ ?_)
    | with_reducible (refine FlowsX.ok ?_) | with_reducible (refine Flows.ite ?_ ?_) | with_reducible intro _ | dsimp only | split

theorem Flows.execNodeInfo {w0 : Nat} {s0 : State} {mb : Nat} {s : State} (h : Flows w0 s0 s) (hw0 : 859 ||| w0 = w0 := by first | assumption | exact parts (by assumption) (by decide)) :
    FlowsX w0 s0 (Sys2Proof.Machine.execNodeInfo mb s) := by
  unfold Sys2Proof.Machine.execNodeInfo
  repeat' first
    | with_reducible exact h | with_reducible assumption | with_reducible (refine Flows.done ?_) | with_reducible (refine Flows.onMsg ?_ ?_)
    | with_reducible (refine Flows.refuse ?_) | with_reducible (refine Flows.ite ?_ ?_) | with_reducible intro _

theorem Flows.execRingSet {w0 : Nat} {s0 : State} {mb : Nat} {s : State} (h : Flows w0 s0 s) (hw0 : 859 ||| w0 = w0 := by first | assumption | exact parts (by assumption) (by decide)) :
    FlowsX w0 s0 (Sys2Proof.Machine.execRingSet mb s) := by
  unfold Sys2Proof.Machine.execRingSet
  repeat' first
    | with_reducible exact h | with_reducible assumption | with_reducible (refine Flows.box! ?_) | with_reducible (refine Flows.done ?_)
    | with_reducible (refine Flows.onMsg ?_ ?_) | with_reducible (refine Flows.refuse ?_) | with_reducible (refine Flows.ite ?_ ?_) | with_reducible intro _

/-- Node time moved forward. -/
theorem Flows.setNow {w0 : Nat} {s0 t : State} {n : Nat} (h :
    Flows w0 s0 t) (hn : ¬n < t.now) (hw0 : 2 ^ 12 ||| w0 = w0 := by first | assumption | exact parts (by assumption) (by decide)) :
    Flows w0 s0 { t with now := n } :=
  { h with time := Nat.le_trans h.time (Nat.le_of_not_lt hn), now := fun e => (partBit hw0 e).elim }

theorem Flows.execTimeSet {w0 : Nat} {s0 : State} {mb : Nat} {s : State} (h : Flows w0 s0 s) (hw0 : 4955 ||| w0 = w0 := by first | assumption | exact parts (by assumption) (by decide)) :
    FlowsX w0 s0 (Sys2Proof.Machine.execTimeSet mb s) := by
  unfold Sys2Proof.Machine.execTimeSet
  refine Flows.onMsg h ?_
  intro m t ht
  split
  · exact Flows.refuse ht
  · exact Flows.done (Flows.setNow ht (by assumption))

theorem Flows.execRwpWrite {w0 : Nat} {s0 : State} {mb : Nat} {s : State} (h : Flows w0 s0 s) (hw0 : 859 ||| w0 = w0 := by first | assumption | exact parts (by assumption) (by decide)) :
    FlowsX w0 s0 (Sys2Proof.Machine.execRwpWrite mb s) := by
  unfold Sys2Proof.Machine.execRwpWrite
  repeat' first
    | with_reducible exact h | with_reducible assumption | with_reducible (refine Flows.done ?_) | with_reducible (refine Flows.onMsg ?_ ?_)
    | with_reducible (refine Flows.refuse ?_) | with_reducible (refine Flows.setRaw ?_) | with_reducible (refine Flows.ite ?_ ?_) | with_reducible intro _

theorem Flows.execBusMasterEnable {w0 : Nat} {s0 : State} {fn : Nat} {on : Bool} {s : State} (h : Flows w0 s0 s) (hw0 : 1 ||| w0 = w0 := by first | assumption | exact parts (by assumption) (by decide)) :
    FlowsX w0 s0 (Sys2Proof.Machine.execBusMasterEnable fn on s) := by
  unfold Sys2Proof.Machine.execBusMasterEnable
  repeat' first
    | with_reducible exact h | with_reducible assumption | with_reducible (refine Flows.emit ?_) | with_reducible (refine Flows.func! ?_)
    | with_reducible (refine FlowsX.onUnit ?_) | with_reducible (refine Flows.ite ?_ ?_) | with_reducible (refine Flows.foldl ?_ ?_) | with_reducible intro _

theorem Flows.execVfEnableWrite {w0 : Nat} {s0 : State} {on : Bool} {s : State} (h : Flows w0 s0 s) (hw0 : 1 ||| w0 = w0 := by first | assumption | exact parts (by assumption) (by decide)) :
    FlowsX w0 s0 (Sys2Proof.Machine.execVfEnableWrite on s) := by
  unfold Sys2Proof.Machine.execVfEnableWrite
  repeat' first | with_reducible exact h | with_reducible (refine Flows.host! ?_) | with_reducible (refine FlowsX.ok ?_) | with_reducible (refine Flows.ite ?_ ?_)

theorem Flows.mute {w0 : Nat} {s0 : State} {s : State} {mb : Nat} (h : Flows w0 s0 s) (hw0 : 1 ||| w0 = w0 := by first | assumption | exact parts (by assumption) (by decide)) :
    Flows w0 s0 (State.mute s mb) := by
  unfold State.mute
  repeat' first | with_reducible exact h | with_reducible (refine Flows.box! ?_)

theorem Flows.execVfFunctionLevelReset {w0 : Nat} {s0 : State} {vf : Nat} {s : State} (h : Flows w0 s0 s) (hw0 : 379 ||| w0 = w0 := by first | assumption | exact parts (by assumption) (by decide)) :
    FlowsX w0 s0 (Sys2Proof.Machine.execVfFunctionLevelReset vf s) := by
  unfold Sys2Proof.Machine.execVfFunctionLevelReset
  repeat' first
    | with_reducible exact h | with_reducible assumption | with_reducible (refine Flows.box! ?_ (fun _ _ => rfl)) | with_reducible (refine Flows.func! ?_)
    | with_reducible (refine Flows.mute ?_) | with_reducible (refine Flows.teardown ?_) | with_reducible (refine FlowsX.onUnit ?_)
    | with_reducible (refine Flows.ite ?_ ?_) | with_reducible (refine Flows.foldl ?_ ?_) | with_reducible intro _

end Sys2Proof.Machine
end

