-- ==== Sys2Proof/Laws/FlowGauge.lean ====
section
/-! SUPPORT. What the operations and meanings of Machine/Gauge.lean keep. -/

set_option Elab.async false

namespace Sys2Proof.Machine

theorem Flows.execErrLogRead {w0 : Nat} {s0 : State} {mb : Nat} {s : State} (h : Flows w0 s0 s) (hw0 : 859 ||| w0 = w0 := by first | assumption | exact parts (by assumption) (by decide)) :
    FlowsX w0 s0 (Sys2Proof.Machine.execErrLogRead mb s) := by
  unfold Sys2Proof.Machine.execErrLogRead
  repeat' first
    | with_reducible exact h | with_reducible assumption | with_reducible (refine Flows.done ?_) | with_reducible (refine Flows.onMsg ?_ ?_)
    | with_reducible (refine Flows.output ?_) | with_reducible (refine Flows.refuse ?_) | with_reducible (refine Flows.ite ?_ ?_) | with_reducible intro _

theorem Flows.scrub! {w0 : Nat} {s0 : State} {s : State} {target : Nat} {f : ScrubSt → ScrubSt} (h : Flows w0 s0 s) (hw0 : 4 ||| w0 = w0 := by first | assumption | exact parts (by assumption) (by decide)) :
    Flows w0 s0 (State.scrub! s target f) := by
  unfold State.scrub!
  repeat' first | with_reducible exact h | with_reducible (refine Flows.gauge! ?_)

theorem Flows.execScrubCtl {w0 : Nat} {s0 : State} {mb : Nat} {s : State} (h : Flows w0 s0 s) (hw0 : 863 ||| w0 = w0 := by first | assumption | exact parts (by assumption) (by decide)) :
    FlowsX w0 s0 (Sys2Proof.Machine.execScrubCtl mb s) := by
  unfold Sys2Proof.Machine.execScrubCtl
  repeat' first
    | with_reducible exact h | with_reducible assumption | with_reducible (refine Flows.done ?_) | with_reducible (refine Flows.onMsg ?_ ?_)
    | with_reducible (refine Flows.refuse ?_) | with_reducible (refine Flows.scrub! ?_) | with_reducible (refine Flows.setFld ?_)
    | with_reducible (refine Flows.ite ?_ ?_) | with_reducible intro _

theorem Flows.execCounterSnapshot {w0 : Nat} {s0 : State} {mb : Nat} {s : State} (h : Flows w0 s0 s) (hw0 : 859 ||| w0 = w0 := by first | assumption | exact parts (by assumption) (by decide)) :
    FlowsX w0 s0 (Sys2Proof.Machine.execCounterSnapshot mb s) := by
  unfold Sys2Proof.Machine.execCounterSnapshot
  repeat' first
    | with_reducible exact h | with_reducible assumption | with_reducible (refine Flows.done ?_) | with_reducible (refine Flows.obj! ?_)
    | with_reducible (refine Flows.onMsg ?_ ?_) | with_reducible (refine Flows.refuse ?_) | with_reducible (refine Flows.ite ?_ ?_) | with_reducible intro _
    | dsimp only | split

theorem Flows.execErrorInject {w0 : Nat} {s0 : State} {mb : Nat} {s : State} (h : Flows w0 s0 s) (hw0 : 9215 ||| w0 = w0 := by first | assumption | exact parts (by assumption) (by decide)) :
    FlowsX w0 s0 (Sys2Proof.Machine.execErrorInject mb s) := by
  unfold Sys2Proof.Machine.execErrorInject
  repeat' first
    | with_reducible exact h | with_reducible assumption | with_reducible (refine Flows.done ?_) | with_reducible (refine Flows.memRaise ?_)
    | with_reducible (refine Flows.obj! ?_) | with_reducible (refine Flows.onMsg ?_ ?_) | with_reducible (refine Flows.raise ?_)
    | with_reducible (refine Flows.refuse ?_) | with_reducible (refine Flows.ite ?_ ?_) | with_reducible intro _ | dsimp only | split

theorem Flows.execLogDrain {w0 : Nat} {s0 : State} {s : State} (h : Flows w0 s0 s) (hw0 : 7 ||| w0 = w0 := by first | assumption | exact parts (by assumption) (by decide)) :
    FlowsX w0 s0 (Sys2Proof.Machine.execLogDrain s) := by
  unfold Sys2Proof.Machine.execLogDrain
  repeat' first | with_reducible exact h | with_reducible (refine Flows.drainOne ?_) | with_reducible (refine FlowsX.ok ?_) | with_reducible (refine Flows.ite ?_ ?_)

theorem Flows.execCeStormSecond {w0 : Nat} {s0 : State} {s : State} (h : Flows w0 s0 s) (hw0 : 4100 ||| w0 = w0 := by first | assumption | exact parts (by assumption) (by decide)) :
    FlowsX w0 s0 (Sys2Proof.Machine.execCeStormSecond s) := by
  unfold Sys2Proof.Machine.execCeStormSecond
  repeat' first | with_reducible exact h | with_reducible (refine Flows.ceRoll ?_) | with_reducible (refine Flows.reach ?_) | with_reducible (refine FlowsX.ok ?_)

theorem Flows.seeTj {w0 : Nat} {s0 : State} {s : State} {tj : Nat} (h : Flows w0 s0 s) (hw0 : 512 ||| w0 = w0 := by first | assumption | exact parts (by assumption) (by decide)) :
    Flows w0 s0 (State.seeTj s tj) := by
  unfold State.seeTj
  repeat' first | with_reducible exact h | with_reducible (refine Flows.weir! ?_)

theorem Flows.execThermalTrip {w0 : Nat} {s0 : State} {tj : Nat} {s : State} (h : Flows w0 s0 s) (hw0 : 1021 ||| w0 = w0 := by first | assumption | exact parts (by assumption) (by decide)) :
    FlowsX w0 s0 (Sys2Proof.Machine.execThermalTrip tj s) := by
  unfold Sys2Proof.Machine.execThermalTrip
  repeat' first
    | with_reducible exact h | with_reducible (refine Flows.quarantine ?_) | with_reducible (refine Flows.seeTj ?_) | with_reducible (refine FlowsX.ok ?_)
    | with_reducible (refine Flows.ite ?_ ?_)

theorem Flows.execPowerTrip {w0 : Nat} {s0 : State} {watts : Nat} {s : State} (h : Flows w0 s0 s) (hw0 : 1021 ||| w0 = w0 := by first | assumption | exact parts (by assumption) (by decide)) :
    FlowsX w0 s0 (Sys2Proof.Machine.execPowerTrip watts s) := by
  unfold Sys2Proof.Machine.execPowerTrip
  repeat' first | with_reducible exact h | with_reducible (refine Flows.quarantine ?_) | with_reducible (refine FlowsX.ok ?_) | with_reducible (refine Flows.ite ?_ ?_)

theorem Flows.execQuarantineEntry {w0 : Nat} {s0 : State} {cause : Nat} {unit : Nat} {s : State} (h : Flows w0 s0 s) (hw0 : 1023 ||| w0 = w0 := by first | assumption | exact parts (by assumption) (by decide)) :
    FlowsX w0 s0 (Sys2Proof.Machine.execQuarantineEntry cause unit s) := by
  unfold Sys2Proof.Machine.execQuarantineEntry
  repeat' first
    | with_reducible exact h | with_reducible (refine Flows.drainAll ?_) | with_reducible (refine Flows.gauge! ?_) | with_reducible (refine Flows.quarantine ?_)
    | with_reducible (refine FlowsX.ok ?_) | with_reducible (refine Flows.ite ?_ ?_) | split

theorem Flows.execHeadwaterFault {w0 : Nat} {s0 : State} {detail : Nat} {s : State} (h : Flows w0 s0 s) (hw0 : 1023 ||| w0 = w0 := by first | assumption | exact parts (by assumption) (by decide)) :
    FlowsX w0 s0 (Sys2Proof.Machine.execHeadwaterFault detail s) := by
  unfold Sys2Proof.Machine.execHeadwaterFault
  repeat' first | with_reducible exact h | with_reducible (refine Flows.raise ?_) | with_reducible (refine FlowsX.ok ?_) | with_reducible (refine Flows.ite ?_ ?_)

end Sys2Proof.Machine
end

