-- ==== Sys2Proof/Laws/FlowWeir.lean ====
section
/-! SUPPORT. What the operations and meanings of Machine/Weir.lean keep. -/

set_option Elab.async false

namespace Sys2Proof.Machine

theorem Flows.putSlot {w0 : Nat} {s0 : State} {s : State} {code : Nat} {key : List Byte} (h : Flows w0 s0 s) (hw0 : 512 ||| w0 = w0 := by first | assumption | exact parts (by assumption) (by decide)) :
    Flows w0 s0 (State.putSlot s code key) := by
  unfold State.putSlot
  repeat' first | with_reducible exact h | with_reducible (refine Flows.weir! ?_)

theorem Flows.zeroSlot {w0 : Nat} {s0 : State} {s : State} {code : Nat} (h : Flows w0 s0 s) (hw0 : 512 ||| w0 = w0 := by first | assumption | exact parts (by assumption) (by decide)) :
    Flows w0 s0 (State.zeroSlot s code) := by
  unfold State.zeroSlot
  repeat' first | with_reducible exact h | with_reducible (refine Flows.weir! ?_)

theorem newest_go (l : List (Nat × StateRec)) : ∀ (acc : Option (Nat × StateRec)), ∃ y : Option (Nat × StateRec),
    l.foldl (fun (acc : Option (Nat × StateRec)) x => match acc with
      | some y => if y.2.seq < x.2.seq then some x else some y
      | none => some x) acc = y ∧ (∀ a, acc = some a → ∃ b, y = some b ∧ a.2.seq ≤ b.2.seq) ∧ (∀ x ∈ l, ∃ b, y = some b ∧ x.2.seq ≤ b.2.seq) ∧
      (∀ b, y = some b → acc = some b ∨ b ∈ l) := by
  induction l with
  | nil => intro acc; exact ⟨acc, rfl, fun a e => ⟨a, e, Nat.le_refl _⟩, fun _ h => (nomatch h), fun _ e => .inl e⟩
  | cons x l ih =>
    intro acc
    obtain ⟨y, e, h1, h2, h3⟩ := ih (match acc with
      | some y => if y.2.seq < x.2.seq then some x else some y
      | none => some x)
    refine ⟨y, e, ?_, ?_, ?_⟩
    · intro a ea; subst ea
      by_cases hc : a.2.seq < x.2.seq
      · obtain ⟨b, eb, hb⟩ := h1 x (if_pos hc); exact ⟨b, eb, by omega⟩
      · exact h1 a (if_neg hc)
    · intro z hz
      rcases List.mem_cons.1 hz with rfl | hz
      · cases acc with
        | none => exact h1 z rfl
        | some a =>
          by_cases hc : a.2.seq < z.2.seq
          · exact h1 z (if_pos hc)
          · obtain ⟨b, eb, hb⟩ := h1 a (if_neg hc); exact ⟨b, eb, by omega⟩
      · exact h2 z hz
    · intro b eb
      rcases h3 b eb with h | h
      · cases acc with
        | none => cases h; exact .inr List.mem_cons_self
        | some a =>
          by_cases hc : a.2.seq < x.2.seq
          · have := h.symm.trans (if_pos hc); cases this; exact .inr List.mem_cons_self
          · exact .inl (h.symm.trans (if_neg hc)).symm
      · exact .inr (List.mem_cons_of_mem _ h)

/-- The record picked has the greatest SEQ of the authentic ones (R497). -/
theorem newestRec_max {log : Tbl StateRec} {y : Nat × StateRec} (h : newestRec log = some y) : ∀ x ∈ log, x.2.authentic = true → x.2.seq ≤ y.2.seq := by
  intro x hx ha
  obtain ⟨z, e, -, h2, -⟩ := newest_go (log.filter (fun x => x.2.authentic)) none
  obtain ⟨b, eb, hb⟩ := h2 x (List.mem_filter.2 ⟨hx, ha⟩)
  have : z = some y := e.symm.trans h
  rw [this] at eb; cases eb; exact hb

/-- The record picked is one of the authentic ones. -/
theorem newestRec_mem {log : Tbl StateRec} {y : Nat × StateRec} (h : newestRec log = some y) : y ∈ log ∧ y.2.authentic = true := by
  obtain ⟨z, e, -, -, h3⟩ := newest_go (log.filter (fun x => x.2.authentic)) none
  have : z = some y := e.symm.trans h
  rcases h3 y this with h | h
  · cases h
  · exact List.mem_filter.1 h

theorem mem_put {α : Type} {k : Nat} {a : α} {t : Tbl α} {x : Nat × α} (h : x ∈ Tbl.put k a t) : x = (k, a) ∨ x ∈ t := by
  induction t with
  | nil => exact .inl (by simpa [Tbl.put] using h)
  | cons y t ih =>
    obtain ⟨j, b⟩ := y
    unfold Tbl.put at h
    split at h
    · exact (List.mem_cons.1 h)
    · split at h
      · rcases List.mem_cons.1 h with h | h
        · exact .inl h
        · exact .inr (List.mem_cons_of_mem _ h)
      · rcases List.mem_cons.1 h with h | h
        · exact .inr (by rw [h]; exact List.mem_cons_self)
        · rcases ih h with h | h
          · exact .inl h
          · exact .inr (List.mem_cons_of_mem _ h)

theorem put_mem {α : Type} (k : Nat) (a : α) (t : Tbl α) : (k, a) ∈ Tbl.put k a t := by
  induction t with
  | nil => exact List.mem_cons_self
  | cons y t ih =>
    obtain ⟨j, b⟩ := y
    unfold Tbl.put
    split
    · exact List.mem_cons_self
    · split
      · exact List.mem_cons_self
      · exact List.mem_cons_of_mem _ ih

/-- A record that is authentic and newer than all others is the newest after it is written (R497). -/
theorem newestRec_put {log : Tbl StateRec} {k : Nat} {r : StateRec} (ha : r.authentic = true) (h : ∀ x ∈ log, x.2.authentic = true → x.2.seq < r.seq) :
    (newestRec (Tbl.put k r log)).map (fun x => x.2) = some r := by
  obtain ⟨z, e, -, h2, h3⟩ := newest_go ((Tbl.put k r log).filter (fun x => x.2.authentic)) none
  obtain ⟨b, eb, hb⟩ := h2 (k, r) (List.mem_filter.2 ⟨put_mem k r log, ha⟩)
  have hz : newestRec (Tbl.put k r log) = some b := e.trans eb
  rw [hz]
  rcases h3 b eb with h' | h'
  · cases h'
  · obtain ⟨m, ab⟩ := List.mem_filter.1 h'
    rcases mem_put m with rfl | m
    · rfl
    · exact absurd (h b m ab) (by simp only at hb; omega)


theorem Flows.newRecord {w0 : Nat} {s0 s : State} {f : StateRec → StateRec} (h : Flows w0 s0 s)
    (hr : s.weir.record.rollback ≤ (f s.weir.record).rollback := by with_unfolding_all exact Nat.le_refl _)
    (ha : (f s.weir.record).authentic = s.weir.record.authentic := by with_unfolding_all rfl) (hw0 : 512 ||| w0 = w0 := by first | assumption | exact parts (by assumption) (by decide)) : Flows w0 s0 (s.newRecord f) := by
  refine Flows.weir! h rfl (fun _ => hr) id ?_
  intro hs
  have hs := of_decide_eq_true hs
  obtain ⟨y, hy, hv⟩ := Option.map_eq_some_iff.1 hs
  refine decide_eq_true (newestRec_put ?_ ?_)
  · show (f s.weir.record).authentic = true
    rw [ha, ← hv]; exact (newestRec_mem hy).2
  · intro x hx e
    have := newestRec_max hy x hx e
    rw [hv] at this
    exact Nat.lt_succ_of_le this

theorem Flows.newKeys {w0 : Nat} {s0 : State} {s : State} {f : List KeyEnt → List KeyEnt} (h : Flows w0 s0 s) (hw0 : 512 ||| w0 = w0 := by first | assumption | exact parts (by assumption) (by decide)) :
    Flows w0 s0 (State.newKeys s f) := by
  unfold State.newKeys
  repeat' first | with_reducible exact h | with_reducible (refine Flows.weir! ?_)

theorem Flows.execFlashKeyCreate {w0 : Nat} {s0 : State} {mb : Nat} {s : State} (h : Flows w0 s0 s) (hw0 : 859 ||| w0 = w0 := by first | assumption | exact parts (by assumption) (by decide)) :
    FlowsX w0 s0 (Sys2Proof.Machine.execFlashKeyCreate mb s) := by
  unfold Sys2Proof.Machine.execFlashKeyCreate
  repeat' first
    | with_reducible exact h | with_reducible assumption | with_reducible (refine Flows.done ?_) | with_reducible (refine Flows.newKeys ?_)
    | with_reducible (refine Flows.onMsg ?_ ?_) | with_reducible (refine Flows.putSlot ?_) | with_reducible (refine Flows.refuse ?_)
    | with_reducible (refine Flows.weir! ?_) | with_reducible (refine Flows.ite ?_ ?_) | with_reducible intro _ | dsimp only | split

theorem Flows.dropFlashKey {w0 : Nat} {s0 : State} {s : State} {c : Nat} (h : Flows w0 s0 s) (hw0 : 512 ||| w0 = w0 := by first | assumption | exact parts (by assumption) (by decide)) :
    Flows w0 s0 (State.dropFlashKey s c) := by
  unfold State.dropFlashKey
  repeat' first | with_reducible exact h | with_reducible (refine Flows.weir! ?_) | with_reducible (refine Flows.zeroSlot ?_)

theorem Flows.execFlashKeyDestroy {w0 : Nat} {s0 : State} {mb : Nat} {s : State} (h : Flows w0 s0 s) (hw0 : 859 ||| w0 = w0 := by first | assumption | exact parts (by assumption) (by decide)) :
    FlowsX w0 s0 (Sys2Proof.Machine.execFlashKeyDestroy mb s) := by
  unfold Sys2Proof.Machine.execFlashKeyDestroy
  repeat' first
    | with_reducible exact h | with_reducible assumption | with_reducible (refine Flows.done ?_) | with_reducible (refine Flows.dropFlashKey ?_)
    | with_reducible (refine Flows.onMsg ?_ ?_) | with_reducible (refine Flows.refuse ?_) | with_reducible (refine Flows.ite ?_ ?_) | with_reducible intro _

theorem Flows.execFwStage {w0 : Nat} {s0 : State} {mb : Nat} {s : State} (h : Flows w0 s0 s) (hw0 : 9215 ||| w0 = w0 := by first | assumption | exact parts (by assumption) (by decide)) :
    FlowsX w0 s0 (Sys2Proof.Machine.execFwStage mb s) := by
  unfold Sys2Proof.Machine.execFwStage
  repeat' first
    | with_reducible exact h | with_reducible assumption | with_reducible (refine Flows.count ?_) | with_reducible (refine Flows.done ?_)
    | with_reducible (refine Flows.meetInjected ?_) | with_reducible (refine Flows.onMsg ?_ ?_) | with_reducible (refine Flows.refuse ?_)
    | with_reducible (refine Flows.reply ?_) | with_reducible (refine Flows.weir! ?_) | with_reducible (refine Flows.ite ?_ ?_) | with_reducible intro _ | dsimp only
    | split

theorem Flows.execFwActivate {w0 : Nat} {s0 : State} {mb : Nat} {s : State} (h : Flows w0 s0 s) (hw0 : 859 ||| w0 = w0 := by first | assumption | exact parts (by assumption) (by decide)) :
    FlowsX w0 s0 (Sys2Proof.Machine.execFwActivate mb s) := by
  unfold Sys2Proof.Machine.execFwActivate
  repeat' first
    | with_reducible exact h | with_reducible assumption | with_reducible (refine Flows.onMsg ?_ ?_) | with_reducible (refine Flows.refuse ?_)
    | with_reducible (refine Flows.weir! ?_) | with_reducible (refine Flows.ite ?_ ?_) | with_reducible intro _

theorem Flows.execAttestReport {w0 : Nat} {s0 : State} {mb : Nat} {s : State} (h : Flows w0 s0 s) (hw0 : 859 ||| w0 = w0 := by first | assumption | exact parts (by assumption) (by decide)) :
    FlowsX w0 s0 (Sys2Proof.Machine.execAttestReport mb s) := by
  unfold Sys2Proof.Machine.execAttestReport
  repeat' first
    | with_reducible exact h | with_reducible assumption | with_reducible (refine Flows.count ?_) | with_reducible (refine Flows.done ?_)
    | with_reducible (refine Flows.onMsg ?_ ?_) | with_reducible (refine Flows.refuse ?_) | with_reducible (refine Flows.ite ?_ ?_) | with_reducible intro _

theorem Flows.spdm! {w0 : Nat} {s0 : State} {s : State} {port : Nat} {f : Spdm → Spdm} (h : Flows w0 s0 s) (hw0 : 512 ||| w0 = w0 := by first | assumption | exact parts (by assumption) (by decide)) :
    Flows w0 s0 (State.spdm! s port f) := by
  unfold State.spdm!
  repeat' first | with_reducible exact h | with_reducible (refine Flows.weir! ?_)

theorem Flows.answer {w0 : Nat} {s0 : State} {s : State} {port : Nat} {code : Nat} {content : List Byte} (h : Flows w0 s0 s) (hw0 : 1 ||| w0 = w0 := by first | assumption | exact parts (by assumption) (by decide)) :
    Flows w0 s0 (State.answer s port code content) := by
  unfold State.answer
  repeat' first | with_reducible exact h | with_reducible (refine Flows.drive ?_)

theorem Flows.spdmError {w0 : Nat} {s0 : State} {s : State} {port : Nat} (h : Flows w0 s0 s) (hw0 : 1 ||| w0 = w0 := by first | assumption | exact parts (by assumption) (by decide)) :
    Flows w0 s0 (State.spdmError s port) := by
  unfold State.spdmError
  repeat' first | with_reducible exact h | with_reducible (refine Flows.answer ?_)

theorem Flows.onSpdm {w0 : Nat} {s0 : State} {s : State} {port : Nat} {allowed : Bool} {f : State → State} (h : Flows w0 s0 s) (hf : ∀ y0, Flows w0 s0 y0 → Flows w0 s0 (f y0)) (hw0 : 1 ||| w0 = w0 := by first | assumption | exact parts (by assumption) (by decide)) :
    FlowsX w0 s0 (Sys2Proof.Machine.onSpdm s port allowed f) := by
  unfold Sys2Proof.Machine.onSpdm
  repeat' first
    | with_reducible exact h | with_reducible (refine hf _ ?_) | with_reducible (refine Flows.spdmError ?_) | with_reducible (refine FlowsX.onUnit ?_)
    | with_reducible (refine Flows.ite ?_ ?_)

theorem Flows.execGetVersion {w0 : Nat} {s0 : State} {port : Nat} {ureq1 : List Byte} {s : State} (h : Flows w0 s0 s) (hw0 : 513 ||| w0 = w0 := by first | assumption | exact parts (by assumption) (by decide)) :
    FlowsX w0 s0 (Sys2Proof.Machine.execGetVersion port ureq1 s) := by
  unfold Sys2Proof.Machine.execGetVersion
  repeat' first
    | with_reducible exact h | with_reducible assumption | with_reducible (refine Flows.answer ?_) | with_reducible (refine Flows.onSpdm ?_ ?_)
    | with_reducible (refine Flows.spdm! ?_) | with_reducible intro _

theorem Flows.execGetCapabilities {w0 : Nat} {s0 : State} {port : Nat} {ureq1 : List Byte} {s : State} (h : Flows w0 s0 s) (hw0 : 513 ||| w0 = w0 := by first | assumption | exact parts (by assumption) (by decide)) :
    FlowsX w0 s0 (Sys2Proof.Machine.execGetCapabilities port ureq1 s) := by
  unfold Sys2Proof.Machine.execGetCapabilities
  repeat' first
    | with_reducible exact h | with_reducible assumption | with_reducible (refine Flows.answer ?_) | with_reducible (refine Flows.onSpdm ?_ ?_)
    | with_reducible (refine Flows.spdm! ?_) | with_reducible intro _

theorem Flows.execNegotiateAlgorithms {w0 : Nat} {s0 : State} {port : Nat} {ureq1 : List Byte} {s : State} (h : Flows w0 s0 s) (hw0 : 513 ||| w0 = w0 := by first | assumption | exact parts (by assumption) (by decide)) :
    FlowsX w0 s0 (Sys2Proof.Machine.execNegotiateAlgorithms port ureq1 s) := by
  unfold Sys2Proof.Machine.execNegotiateAlgorithms
  repeat' first
    | with_reducible exact h | with_reducible assumption | with_reducible (refine Flows.answer ?_) | with_reducible (refine Flows.onSpdm ?_ ?_)
    | with_reducible (refine Flows.spdm! ?_) | with_reducible intro _

theorem Flows.execGetDigests {w0 : Nat} {s0 : State} {port : Nat} {ureq1 : List Byte} {s : State} (h : Flows w0 s0 s) (hw0 : 1 ||| w0 = w0 := by first | assumption | exact parts (by assumption) (by decide)) :
    FlowsX w0 s0 (Sys2Proof.Machine.execGetDigests port ureq1 s) := by
  unfold Sys2Proof.Machine.execGetDigests
  repeat' first
    | with_reducible exact h | with_reducible assumption | with_reducible (refine Flows.answer ?_) | with_reducible (refine Flows.onSpdm ?_ ?_)
    | with_reducible intro _

theorem Flows.execGetCertificate {w0 : Nat} {s0 : State} {port : Nat} {off : Nat} {len : Nat} {s : State} (h : Flows w0 s0 s) (hw0 : 1 ||| w0 = w0 := by first | assumption | exact parts (by assumption) (by decide)) :
    FlowsX w0 s0 (Sys2Proof.Machine.execGetCertificate port off len s) := by
  unfold Sys2Proof.Machine.execGetCertificate
  repeat' first
    | with_reducible exact h | with_reducible assumption | with_reducible (refine Flows.answer ?_) | with_reducible (refine Flows.onSpdm ?_ ?_)
    | with_reducible intro _

theorem Flows.execChallenge {w0 : Nat} {s0 : State} {port : Nat} {nonce : List Byte} {s : State} (h : Flows w0 s0 s) (hw0 : 1 ||| w0 = w0 := by first | assumption | exact parts (by assumption) (by decide)) :
    FlowsX w0 s0 (Sys2Proof.Machine.execChallenge port nonce s) := by
  unfold Sys2Proof.Machine.execChallenge
  repeat' first
    | with_reducible exact h | with_reducible assumption | with_reducible (refine Flows.answer ?_) | with_reducible (refine Flows.onSpdm ?_ ?_)
    | with_reducible intro _

theorem Flows.execGetMeasurements {w0 : Nat} {s0 : State} {port : Nat} {index : Nat} {nonce : List Byte} {s : State} (h : Flows w0 s0 s) (hw0 : 1 ||| w0 = w0 := by first | assumption | exact parts (by assumption) (by decide)) :
    FlowsX w0 s0 (Sys2Proof.Machine.execGetMeasurements port index nonce s) := by
  unfold Sys2Proof.Machine.execGetMeasurements
  repeat' first
    | with_reducible exact h | with_reducible assumption | with_reducible (refine Flows.answer ?_) | with_reducible (refine Flows.onSpdm ?_ ?_)
    | with_reducible intro _

theorem Flows.execKemKey {w0 : Nat} {s0 : State} {port : Nat} {nonce : List Byte} {s : State} (h : Flows w0 s0 s) (hw0 : 8705 ||| w0 = w0 := by first | assumption | exact parts (by assumption) (by decide)) :
    FlowsX w0 s0 (Sys2Proof.Machine.execKemKey port nonce s) := by
  unfold Sys2Proof.Machine.execKemKey
  repeat' first
    | with_reducible exact h | with_reducible assumption | with_reducible (refine Flows.answer ?_) | with_reducible (refine Flows.free2 ?_)
    | with_reducible (refine Flows.onSpdm ?_ ?_) | with_reducible (refine Flows.spdm! ?_) | with_reducible intro _

theorem Flows.execKemFinish {w0 : Nat} {s0 : State} {port : Nat} {cipher : List Byte} {verify : List Byte} {s : State} (h : Flows w0 s0 s) (hw0 : 515 ||| w0 = w0 := by first | assumption | exact parts (by assumption) (by decide)) :
    FlowsX w0 s0 (Sys2Proof.Machine.execKemFinish port cipher verify s) := by
  unfold Sys2Proof.Machine.execKemFinish
  repeat' first
    | with_reducible exact h | with_reducible assumption | with_reducible (refine Flows.answer ?_) | with_reducible (refine Flows.count ?_)
    | with_reducible (refine Flows.onSpdm ?_ ?_) | with_reducible (refine Flows.spdm! ?_) | with_reducible (refine Flows.spdmError ?_)
    | with_reducible (refine Flows.ite ?_ ?_) | with_reducible intro _

theorem Flows.execEndSession {w0 : Nat} {s0 : State} {port : Nat} {session : Nat} {s : State} (h : Flows w0 s0 s) (hw0 : 513 ||| w0 = w0 := by first | assumption | exact parts (by assumption) (by decide)) :
    FlowsX w0 s0 (Sys2Proof.Machine.execEndSession port session s) := by
  unfold Sys2Proof.Machine.execEndSession
  repeat' first
    | with_reducible exact h | with_reducible assumption | with_reducible (refine Flows.answer ?_) | with_reducible (refine Flows.onSpdm ?_ ?_)
    | with_reducible (refine Flows.spdm! ?_) | with_reducible intro _

theorem Flows.execHeartbeat {w0 : Nat} {s0 : State} {port : Nat} {session : Nat} {s : State} (h : Flows w0 s0 s) (hw0 : 1 ||| w0 = w0 := by first | assumption | exact parts (by assumption) (by decide)) :
    FlowsX w0 s0 (Sys2Proof.Machine.execHeartbeat port session s) := by
  unfold Sys2Proof.Machine.execHeartbeat
  repeat' first
    | with_reducible exact h | with_reducible assumption | with_reducible (refine Flows.answer ?_) | with_reducible (refine Flows.onSpdm ?_ ?_)
    | with_reducible intro _

theorem Flows.execKeyUpdate {w0 : Nat} {s0 : State} {port : Nat} {session : Nat} {s : State} (h : Flows w0 s0 s) (hw0 : 513 ||| w0 = w0 := by first | assumption | exact parts (by assumption) (by decide)) :
    FlowsX w0 s0 (Sys2Proof.Machine.execKeyUpdate port session s) := by
  unfold Sys2Proof.Machine.execKeyUpdate
  repeat' first
    | with_reducible exact h | with_reducible assumption | with_reducible (refine Flows.answer ?_) | with_reducible (refine Flows.onSpdm ?_ ?_)
    | with_reducible (refine Flows.spdm! ?_) | with_reducible intro _

theorem Flows.execTenantSecret {w0 : Nat} {s0 : State} {port : Nat} {session : Nat} {secret : List Byte} {s : State} (h : Flows w0 s0 s) (hw0 : 513 ||| w0 = w0 := by first | assumption | exact parts (by assumption) (by decide)) :
    FlowsX w0 s0 (Sys2Proof.Machine.execTenantSecret port session secret s) := by
  unfold Sys2Proof.Machine.execTenantSecret
  repeat' first
    | with_reducible exact h | with_reducible assumption | with_reducible (refine Flows.answer ?_) | with_reducible (refine Flows.onSpdm ?_ ?_)
    | with_reducible (refine Flows.weir! ?_) | with_reducible intro _

theorem Flows.execIdeKm {w0 : Nat} {s0 : State} {port : Nat} {session : Nat} {fn : Nat} {keys : List Byte} {enable : Bool} {s : State} (h : Flows w0 s0 s) (hw0 : 513 ||| w0 = w0 := by first | assumption | exact parts (by assumption) (by decide)) :
    FlowsX w0 s0 (Sys2Proof.Machine.execIdeKm port session fn keys enable s) := by
  unfold Sys2Proof.Machine.execIdeKm
  repeat' first
    | with_reducible exact h | with_reducible assumption | with_reducible (refine Flows.answer ?_) | with_reducible (refine Flows.func! ?_)
    | with_reducible (refine Flows.onSpdm ?_ ?_) | with_reducible (refine Flows.putSlot ?_) | with_reducible (refine Flows.ite ?_ ?_) | with_reducible intro _

theorem Flows.execEntdaa {w0 : Nat} {s0 : State} {bus : Nat} {addr : Nat} {s : State} (h : Flows w0 s0 s) (hw0 : 513 ||| w0 = w0 := by first | assumption | exact parts (by assumption) (by decide)) :
    FlowsX w0 s0 (Sys2Proof.Machine.execEntdaa bus addr s) := by
  unfold Sys2Proof.Machine.execEntdaa
  repeat' first
    | with_reducible exact h | with_reducible (refine Flows.drive ?_) | with_reducible (refine Flows.weir! ?_) | with_reducible (refine FlowsX.onUnit ?_)
    | with_reducible (refine Flows.ite ?_ ?_)

theorem Flows.execBypass {w0 : Nat} {s0 : State} {s : State} (h : Flows w0 s0 s) (hw0 : 513 ||| w0 = w0 := by first | assumption | exact parts (by assumption) (by decide)) :
    FlowsX w0 s0 (Sys2Proof.Machine.execBypass s) := by
  unfold Sys2Proof.Machine.execBypass
  repeat' first | with_reducible exact h | with_reducible (refine Flows.drive ?_) | with_reducible (refine Flows.weir! ?_) | with_reducible (refine FlowsX.ok ?_)

theorem Flows.execSamplePreload {w0 : Nat} {s0 : State} {s : State} (h : Flows w0 s0 s) (hw0 : 512 ||| w0 = w0 := by first | assumption | exact parts (by assumption) (by decide)) :
    FlowsX w0 s0 (Sys2Proof.Machine.execSamplePreload s) := by
  unfold Sys2Proof.Machine.execSamplePreload
  repeat' first | with_reducible exact h | with_reducible (refine Flows.weir! ?_) | with_reducible (refine FlowsX.ok ?_)

theorem Flows.execExtest {w0 : Nat} {s0 : State} {s : State} (h : Flows w0 s0 s) (hw0 : 1021 ||| w0 = w0 := by first | assumption | exact parts (by assumption) (by decide)) :
    FlowsX w0 s0 (Sys2Proof.Machine.execExtest s) := by
  unfold Sys2Proof.Machine.execExtest
  repeat' first | with_reducible exact h | with_reducible (refine Flows.quarantine ?_) | with_reducible (refine Flows.weir! ?_) | with_reducible (refine FlowsX.ok ?_)

theorem Flows.execIdcode {w0 : Nat} {s0 : State} {s : State} (h : Flows w0 s0 s) (hw0 : 513 ||| w0 = w0 := by first | assumption | exact parts (by assumption) (by decide)) :
    FlowsX w0 s0 (Sys2Proof.Machine.execIdcode s) := by
  unfold Sys2Proof.Machine.execIdcode
  repeat' first | with_reducible exact h | with_reducible (refine Flows.drive ?_) | with_reducible (refine Flows.weir! ?_) | with_reducible (refine FlowsX.ok ?_)

end Sys2Proof.Machine
end

