-- ==== Sys2Proof/Laws/FlowReset.lean ====
section
/-! SUPPORT. What the operations and meanings of Machine/Reset.lean keep. -/

set_option Elab.async false

namespace Sys2Proof.Machine

/-- What start-up loads from package flash: the newest authentic state record, and the key table (R497). -/
theorem Flows.loadRecord {w0 : Nat} {s0 s : State} {r : Nat × StateRec} {w : WeirSt → WeirSt} (h : Flows w0 s0 s) (e : newestRec s.weir.stateLog = some r)
    (hm : (w s.weir).mfg = s.weir.mfg := by with_unfolding_all rfl) (hr : (w s.weir).record = r.2 := by with_unfolding_all rfl)
    (hl : (w s.weir).stateLog = s.weir.stateLog := by with_unfolding_all rfl)
    (hq : s.weir.state = .quarantined → (w s.weir).state = .quarantined := by with_unfolding_all (intro h; first | exact h | rfl))
    (hw0 : 512 ||| w0 = w0 := by first | assumption | exact parts (by assumption) (by decide)) : Flows w0 s0 (s.weir! w) := by
  have key : recordSynced s.weir = true → r.2 = s.weir.record := by
    intro hs
    have hs := of_decide_eq_true hs
    rw [e] at hs; exact Option.some.inj hs
  refine Flows.weir! h hm (fun hs => ?_) hq (fun _ => ?_) hw0
  · exact Nat.le_of_eq (congrArg (·.rollback) (hr.trans (key hs)).symm)
  · unfold recordSynced; rw [hl, hr, e]; exact decide_eq_true rfl

theorem Flows.weirBoot {w0 : Nat} {s0 s : State} (h :
    Flows w0 s0 s) (hq : s.weir.state ≠ .quarantined) (hw0 : 514 ||| w0 = w0 := by first | assumption | exact parts (by assumption) (by decide)) :
    Flows w0 s0 s.weirBoot.1 := by
  have at_ (n : Nat) : Flows w0 s0 (s.weir! (fun w => { w with bootStep := n, identity := decide (2 ≤ n) })) := Flows.weir! h
  unfold State.weirBoot
  dsimp only
  split
  · exact at_ 1
  · split
    · exact at_ 1
    · split
      · exact at_ 2
      · split
        · exact at_ 3
        · rename_i r e
          have h1 := Flows.newRecord (f := fun r => { r with incarnation := (r.incarnation + 1) % 2 ^ 32 })
            (Flows.loadRecord (w := fun w => { w with record := r.2, keyTable := (newestKeys w.keyCopies).2.entries }) (at_ 5) e)
          split
          · exact h1
          · split
            · exact Flows.count h1
            · split
              · exact Flows.count (Flows.weir! (f := fun w => { w with bootStep := 6 }) h1)
              · refine Flows.putSlot (Flows.weir! h1 ?_ ?_ ?_ ?_)
                · rfl
                · exact fun _ => Nat.le_refl _
                · exact fun e => absurd e hq
                · exact id

theorem weirBoot_state {s : State} (h : s.weir.state = .boot) : s.weirBoot.1.weir.state ≠ .quarantined := by
  unfold State.weirBoot State.count State.newRecord State.putSlot
  dsimp only
  repeat' split
  all_goals simp [State.weir!, State.setFld, State.setRaw, h]
  all_goals (repeat' split) <;> simp [h]

theorem Flows.trainPcie {w0 : Nat} {s0 : State} {s : State} (h : Flows w0 s0 s) (hw0 : 8199 ||| w0 = w0 := by first | assumption | exact parts (by assumption) (by decide)) :
    Flows w0 s0 (State.trainPcie s) := by
  unfold State.trainPcie
  repeat' first
    | with_reducible exact h | with_reducible (refine Flows.free2 ?_) | with_reducible (refine Flows.host! ?_) | with_reducible (refine Flows.logC ?_)
    | with_reducible (refine Flows.ite ?_ ?_)

theorem Flows.startRecovery {w0 : Nat} {s0 s : State} {cause : Nat} (h :
    Flows w0 s0 s) (hq : s.weir.state ≠ .quarantined) (hw0 : 10759 ||| w0 = w0 := by first | assumption | exact parts (by assumption) (by decide)) :
    Flows w0 s0 (s.startRecovery cause) := by
  unfold State.startRecovery
  exact Flows.box! (Flows.trainPcie (Flows.host! (Flows.cru! (Flows.weir! h rfl (fun _ => Nat.le_refl _) (fun e => absurd e hq))) rfl
    (fun q => (Bool.and_eq_true _ _).mpr ⟨rfl, ((Bool.and_eq_true _ _).mp q).2⟩)))

theorem Flows.raiseRollback {w0 : Nat} {s0 : State} {s : State} (h : Flows w0 s0 s) (hw0 : 512 ||| w0 = w0 := by first | assumption | exact parts (by assumption) (by decide)) :
    Flows w0 s0 (State.raiseRollback s) := by
  unfold State.raiseRollback
  dsimp only
  split
  · exact Flows.newRecord h (Nat.le_max_left _ _)
  · exact h

theorem Flows.loadCells {w0 : Nat} {s0 : State} {s : State} (h : Flows w0 s0 s) (hw0 : 32 ||| w0 = w0 := by first | assumption | exact parts (by assumption) (by decide)) :
    Flows w0 s0 (State.loadCells s) := by
  unfold State.loadCells
  repeat' first | with_reducible exact h | with_reducible (refine Flows.mrc! ?_)

theorem Flows.startNode {w0 : Nat} {s0 : State} {s : State} {failed : List Nat} (h : Flows w0 s0 s) (hw0 : 11263 ||| w0 = w0 := by first | assumption | exact parts (by assumption) (by decide)) :
    Flows w0 s0 (State.startNode s failed) := by
  unfold State.startNode
  repeat' first
    | with_reducible exact h | with_reducible assumption | with_reducible (refine Flows.box! ?_) | with_reducible (refine Flows.cru! ?_)
    | with_reducible (refine Flows.host! ?_) | with_reducible (refine Flows.loadCells ?_) | with_reducible (refine Flows.raise ?_)
    | with_reducible (refine Flows.raiseRollback ?_) | with_reducible (refine Flows.trainPcie ?_) | with_reducible (refine Flows.ite ?_ ?_)
    | with_reducible (refine Flows.foldl ?_ ?_) | with_reducible intro _

theorem Flows.execStartUp {w0 : Nat} {s0 : State} {failed : List Nat} {s : State} (h : Flows w0 s0 s) (hw0 : 11263 ||| w0 = w0 := by first | assumption | exact parts (by assumption) (by decide)) :
    FlowsX w0 s0 (Sys2Proof.Machine.execStartUp failed s) := by
  unfold Sys2Proof.Machine.execStartUp
  refine FlowsX.ok ?_
  split
  · exact h
  · rename_i hs
    have hb : s.weir.state = .boot := by
      cases hw : s.weir.state <;> simp_all
    have hq : s.weir.state ≠ .quarantined := by rw [hb]; decide
    dsimp only
    split
    · exact Flows.startNode (Flows.weirBoot h hq)
    · exact Flows.startRecovery (Flows.weirBoot h hq) (weirBoot_state hb)

theorem Flows.execClockLoss {w0 : Nat} {s0 : State} {pll : Nat} {s : State} (h : Flows w0 s0 s) (hw0 : 3071 ||| w0 = w0 := by first | assumption | exact parts (by assumption) (by decide)) :
    FlowsX w0 s0 (Sys2Proof.Machine.execClockLoss pll s) := by
  unfold Sys2Proof.Machine.execClockLoss
  repeat' first
    | with_reducible exact h | with_reducible (refine Flows.cru! ?_) | with_reducible (refine Flows.drive ?_) | with_reducible (refine Flows.holdUnits ?_)
    | with_reducible (refine Flows.raise ?_) | with_reducible (refine Flows.weir! ?_) | with_reducible (refine FlowsX.onUnit ?_)
    | with_reducible (refine Flows.ite ?_ ?_)

theorem Flows.spwVector {w0 : Nat} {s0 : State} {s : State} (h : Flows w0 s0 s) (hw0 : 1 ||| w0 = w0 := by first | assumption | exact parts (by assumption) (by decide)) :
    Flows w0 s0 (State.spwVector s) := by
  unfold State.spwVector
  repeat' first | with_reducible exact h | with_reducible (refine Flows.emit ?_)

theorem Flows.spwState {w0 : Nat} {s0 : State} {s : State} (h : Flows w0 s0 s) (hw0 : 1025 ||| w0 = w0 := by first | assumption | exact parts (by assumption) (by decide)) :
    Flows w0 s0 (State.spwState s) := by
  unfold State.spwState
  repeat' first | with_reducible exact h | with_reducible (refine Flows.spw! ?_) | with_reducible (refine Flows.spwVector ?_) | with_reducible (refine Flows.ite ?_ ?_)

theorem Flows.throttle {w0 : Nat} {s0 : State} {s : State} (h : Flows w0 s0 s) (hw0 : 1025 ||| w0 = w0 := by first | assumption | exact parts (by assumption) (by decide)) :
    FlowsO w0 s0 (State.throttle s) := by
  unfold State.throttle
  repeat' first
    | with_reducible exact h | with_reducible (refine Flows.spw! ?_) | with_reducible (refine Flows.spwVector ?_) | with_reducible exact FlowsO.none
    | with_reducible (refine FlowsO.some ?_) | with_reducible (refine FlowsO.ite ?_ ?_)

theorem Flows.retreat {w0 : Nat} {s0 : State} {s : State} (h : Flows w0 s0 s) (hw0 : 1024 ||| w0 = w0 := by first | assumption | exact parts (by assumption) (by decide)) :
    Flows w0 s0 (State.retreat s) := by
  unfold State.retreat
  repeat' first | with_reducible exact h | with_reducible (refine Flows.spw! ?_) | with_reducible (refine Flows.ite ?_ ?_)

theorem Flows.execSpillwaySample {w0 : Nat} {s0 : State} {powerW : Nat} {tjC : Nat} {s : State} (h : Flows w0 s0 s) (hw0 : 5635 ||| w0 = w0 := by first | assumption | exact parts (by assumption) (by decide)) :
    FlowsX w0 s0 (Sys2Proof.Machine.execSpillwaySample powerW tjC s) := by
  unfold Sys2Proof.Machine.execSpillwaySample
  repeat' first
    | with_reducible exact h | with_reducible (refine Flows.count ?_) | with_reducible (refine Flows.reach ?_) | with_reducible (refine Flows.retreat ?_)
    | with_reducible (refine Flows.seeTj ?_) | with_reducible (refine Flows.spw! ?_) | with_reducible (refine Flows.spwState ?_)
    | with_reducible (refine FlowsO.get (Flows.throttle ?_) (by with_reducible assumption)) | with_reducible (refine FlowsX.ok ?_)
    | with_reducible (refine Flows.ite ?_ ?_) | split

end Sys2Proof.Machine
end

