-- ==== Sys2Proof/Laws/FlowSched.lean ====
section
/-! SUPPORT. What the operations and meanings of Machine/Sched.lean keep. -/

set_option Elab.async false

namespace Sys2Proof.Machine

theorem Flows.onTask {w0 : Nat} {s0 : State} {s : State} {n : Nat} {f : Nat → Task → State} (h : Flows w0 s0 s) (hf : ∀ y0 y1, Flows w0 s0 (f y0 y1)) (hw0 : 0 ||| w0 = w0 := by first | assumption | exact parts (by assumption) (by decide)) :
    FlowsX w0 s0 (Sys2Proof.Machine.onTask s n f) := by
  unfold Sys2Proof.Machine.onTask
  repeat' first | with_reducible exact h | with_reducible (exact hf _ _ ) | with_reducible (refine FlowsX.onUnit ?_) | split

theorem Flows.pcNext {w0 : Nat} {s0 : State} {s : State} {n : Nat} (h : Flows w0 s0 s) (hw0 : 8 ||| w0 = w0 := by first | assumption | exact parts (by assumption) (by decide)) :
    Flows w0 s0 (State.pcNext s n) := by
  unfold State.pcNext
  repeat' first | with_reducible exact h | with_reducible (refine Flows.core! ?_)

theorem Flows.touchSegs {w0 : Nat} {s0 : State} {s : State} {core : Nat} {comp : Nat} {off : Nat} {n : Nat} (h : Flows w0 s0 s) (hw0 : 8 ||| w0 = w0 := by first | assumption | exact parts (by assumption) (by decide)) :
    Flows w0 s0 (State.touchSegs s core comp off n) := by
  unfold State.touchSegs
  repeat' first
    | with_reducible exact h | with_reducible assumption | with_reducible (refine Flows.core! ?_) | with_reducible (refine Flows.ite ?_ ?_)
    | with_reducible (refine Flows.foldl ?_ ?_) | with_reducible intro _

theorem Flows.taskFault {w0 : Nat} {s0 : State} {s : State} {n : Nat} {cause : Nat} {detail : Nat} (h : Flows w0 s0 s) (hw0 : 1023 ||| w0 = w0 := by first | assumption | exact parts (by assumption) (by decide)) :
    Flows w0 s0 (State.taskFault s n cause detail) := by
  unfold State.taskFault
  repeat' first
    | with_reducible exact h | with_reducible (refine Flows.core! ?_) | with_reducible (refine Flows.count ?_) | with_reducible (refine Flows.raise ?_)
    | with_reducible (refine Flows.ite ?_ ?_) | dsimp only | split

theorem Flows.faultTask {w0 : Nat} {s0 : State} {s : State} {t : Nat} {cause : Nat} {detail : Nat} (h : Flows w0 s0 s) (hw0 : 1023 ||| w0 = w0 := by first | assumption | exact parts (by assumption) (by decide)) :
    Flows w0 s0 (State.faultTask s t cause detail) := by
  unfold State.faultTask
  repeat' first
    | with_reducible exact h | with_reducible (refine Flows.core! ?_) | with_reducible (refine Flows.count ?_) | with_reducible (refine Flows.raise ?_)
    | with_reducible (refine Flows.taskFault ?_) | with_reducible (refine Flows.ite ?_ ?_) | dsimp only | split

theorem Flows.illegal {w0 : Nat} {s0 : State} {s : State} {n : Nat} (h : Flows w0 s0 s) (hw0 : 9215 ||| w0 = w0 := by first | assumption | exact parts (by assumption) (by decide)) :
    Flows w0 s0 (State.illegal s n) := by
  unfold State.illegal
  repeat' first | with_reducible exact h | with_reducible (refine Flows.free2 ?_) | with_reducible (refine Flows.taskFault ?_)

theorem Flows.queueTask {w0 : Nat} {s0 : State} {s : State} {n : Nat} {level : Nat} {t : Nat} {newest : Bool} (h : Flows w0 s0 s) (hw0 : 8 ||| w0 = w0 := by first | assumption | exact parts (by assumption) (by decide)) :
    Flows w0 s0 (State.queueTask s n level t newest) := by
  unfold State.queueTask
  repeat' first | with_reducible exact h | with_reducible (refine Flows.core! ?_)

theorem Flows.newTask {w0 : Nat} {s0 : State} {s : State} {batch : Nat} {comp : Nat} {handle : Nat} {level : Nat} {args : List Byte} {ctx : Option Nat} {parent : Option Nat} {st : TaskState} (h : Flows w0 s0 s) (hw0 : 8 ||| w0 = w0 := by first | assumption | exact parts (by assumption) (by decide)) :
    Flows w0 s0 (State.newTask s batch comp handle level args ctx parent st).2 := by
  unfold State.newTask
  repeat' first | with_reducible exact h | with_reducible (refine Flows.slc! ?_)

theorem Flows.startRoot {w0 : Nat} {s0 : State} {s : State} {b : Nat} {handle : Nat} {args : List Byte} {data : List Nat} (h : Flows w0 s0 s) (hw0 : 8 ||| w0 = w0 := by first | assumption | exact parts (by assumption) (by decide)) :
    Flows w0 s0 (State.startRoot s b handle args data) := by
  unfold State.startRoot
  repeat' first
    | with_reducible exact h | with_reducible (refine Flows.ctx! ?_) | with_reducible (refine Flows.newTask ?_) | with_reducible (refine Flows.queueTask ?_)
    | dsimp only | split

theorem Flows.startTask {w0 : Nat} {s0 : State} {s : State} {n : Nat} {t : Nat} (h : Flows w0 s0 s) (hw0 : 74 ||| w0 = w0 := by first | assumption | exact parts (by assumption) (by decide)) :
    Flows w0 s0 (State.startTask s n t) := by
  unfold State.startTask
  repeat' first
    | with_reducible exact h | with_reducible (refine Flows.boundary ?_) | with_reducible (refine Flows.core! ?_) | with_reducible (refine Flows.count ?_)
    | with_reducible (refine Flows.ctx! ?_) | with_reducible (refine Flows.freeSave ?_) | with_reducible (refine Flows.slc! ?_)
    | with_reducible (refine Flows.takeCtx ?_) | with_reducible (refine Flows.task! ?_) | dsimp only | split

theorem Flows.execTaskDispatch {w0 : Nat} {s0 : State} {core : Nat} {s : State} (h : Flows w0 s0 s) (hw0 : 74 ||| w0 = w0 := by first | assumption | exact parts (by assumption) (by decide)) :
    FlowsX w0 s0 (Sys2Proof.Machine.execTaskDispatch core s) := by
  unfold Sys2Proof.Machine.execTaskDispatch
  repeat' first
    | with_reducible exact h | with_reducible (refine Flows.count ?_) | with_reducible (refine Flows.startTask ?_) | with_reducible (refine FlowsX.onUnit ?_)
    | with_reducible (refine Flows.ite ?_ ?_) | split

theorem Flows.suspend {w0 : Nat} {s0 : State} {s01 : State} {n : Nat} (h : Flows w0 s0 s01) (hw0 : 74 ||| w0 = w0 := by first | assumption | exact parts (by assumption) (by decide)) :
    Flows w0 s0 (State.suspend s01 n) := by
  unfold State.suspend
  repeat' first
    | with_reducible exact h | with_reducible (refine Flows.core! ?_) | with_reducible (refine Flows.creditCore ?_) | with_reducible (refine Flows.ctx! ?_)
    | with_reducible (refine Flows.ferry! ?_) | with_reducible (refine Flows.queueTask ?_) | with_reducible (refine Flows.task! ?_)
    | with_reducible (refine Flows.touchSegs ?_) | dsimp only | split

theorem Flows.startPreempt {w0 : Nat} {s0 : State} {s : State} {n : Nat} {t : Option Nat} (h : Flows w0 s0 s) (hw0 : 10 ||| w0 = w0 := by first | assumption | exact parts (by assumption) (by decide)) :
    Flows w0 s0 (State.startPreempt s n t) := by
  unfold State.startPreempt
  repeat' first
    | with_reducible exact h | with_reducible (refine Flows.batch! ?_) | with_reducible (refine Flows.core! ?_) | with_reducible (refine Flows.count ?_) | dsimp only
    | split

theorem Flows.settleModify {w0 : Nat} {s0 : State} {s : State} {c : Nat} (h : Flows w0 s0 s) (hw0 : 11 ||| w0 = w0 := by first | assumption | exact parts (by assumption) (by decide)) :
    Flows w0 s0 (State.settleModify s c) := by
  unfold State.settleModify
  repeat' first
    | with_reducible exact h | with_reducible assumption | with_reducible (refine Flows.comp! ?_) | with_reducible (refine Flows.done ?_)
    | with_reducible (refine Flows.startPreempt ?_) | with_reducible (refine Flows.ite ?_ ?_) | with_reducible (refine Flows.foldl ?_ ?_) | with_reducible intro _
    | dsimp only | split

theorem Flows.settleModifies {w0 : Nat} {s0 : State} {s : State} (h : Flows w0 s0 s) (hw0 : 11 ||| w0 = w0 := by first | assumption | exact parts (by assumption) (by decide)) :
    Flows w0 s0 (State.settleModifies s) := by
  unfold State.settleModifies
  repeat' first
    | with_reducible exact h | with_reducible assumption | with_reducible (refine Flows.settleModify ?_) | with_reducible (refine Flows.ite ?_ ?_)
    | with_reducible (refine Flows.foldl ?_ ?_) | with_reducible intro _

theorem Flows.tryPreempt {w0 : Nat} {s0 : State} {s : State} {n : Nat} (h : Flows w0 s0 s) (hw0 : 10 ||| w0 = w0 := by first | assumption | exact parts (by assumption) (by decide)) :
    Flows w0 s0 (State.tryPreempt s n) := by
  unfold State.tryPreempt
  repeat' first
    | with_reducible exact h | with_reducible (refine Flows.count ?_) | with_reducible (refine Flows.startPreempt ?_) | with_reducible (refine Flows.ite ?_ ?_)
    | split

theorem Flows.execPreempt {w0 : Nat} {s0 : State} {core : Nat} {s : State} (h : Flows w0 s0 s) (hw0 : 11 ||| w0 = w0 := by first | assumption | exact parts (by assumption) (by decide)) :
    FlowsX w0 s0 (Sys2Proof.Machine.execPreempt core s) := by
  unfold Sys2Proof.Machine.execPreempt
  repeat' first
    | with_reducible exact h | with_reducible (refine Flows.settleModifies ?_) | with_reducible (refine Flows.tryPreempt ?_)
    | with_reducible (refine FlowsX.onUnit ?_)

theorem Flows.execMinRunElapsed {w0 : Nat} {s0 : State} {core : Nat} {s : State} (h : Flows w0 s0 s) (hw0 : 4106 ||| w0 = w0 := by first | assumption | exact parts (by assumption) (by decide)) :
    FlowsX w0 s0 (Sys2Proof.Machine.execMinRunElapsed core s) := by
  unfold Sys2Proof.Machine.execMinRunElapsed
  repeat' first
    | with_reducible exact h | with_reducible (refine Flows.reach ?_) | with_reducible (refine Flows.tryPreempt ?_) | with_reducible (refine FlowsX.onUnit ?_)
    | split

theorem Flows.execPreemptSave {w0 : Nat} {s0 : State} {core : Nat} {s : State} (h : Flows w0 s0 s) (hw0 : 4171 ||| w0 = w0 := by first | assumption | exact parts (by assumption) (by decide)) :
    FlowsX w0 s0 (Sys2Proof.Machine.execPreemptSave core s) := by
  unfold Sys2Proof.Machine.execPreemptSave
  repeat' first
    | with_reducible exact h | with_reducible (refine Flows.reach ?_) | with_reducible (refine Flows.settleModifies ?_) | with_reducible (refine Flows.startTask ?_)
    | with_reducible (refine Flows.suspend ?_) | with_reducible (refine FlowsX.onUnit ?_) | with_reducible (refine Flows.ite ?_ ?_) | dsimp only | split

theorem Flows.execTaskWatchdog {w0 : Nat} {s0 : State} {core : Nat} {s : State} (h : Flows w0 s0 s) (hw0 : 5119 ||| w0 = w0 := by first | assumption | exact parts (by assumption) (by decide)) :
    FlowsX w0 s0 (Sys2Proof.Machine.execTaskWatchdog core s) := by
  unfold Sys2Proof.Machine.execTaskWatchdog
  repeat' first
    | with_reducible exact h | with_reducible (refine Flows.onTask ?_ ?_) | with_reducible (refine Flows.reach ?_) | with_reducible (refine Flows.taskFault ?_)
    | with_reducible intro _

theorem Flows.execLeaseExpiry {w0 : Nat} {s0 : State} {sem : Nat} {ctx : Nat} {s : State} (h : Flows w0 s0 s) (hw0 : 5119 ||| w0 = w0 := by first | assumption | exact parts (by assumption) (by decide)) :
    FlowsX w0 s0 (Sys2Proof.Machine.execLeaseExpiry sem ctx s) := by
  unfold Sys2Proof.Machine.execLeaseExpiry
  repeat' first
    | with_reducible exact h | with_reducible (refine Flows.count ?_) | with_reducible (refine Flows.faultTask ?_) | with_reducible (refine Flows.reach ?_)
    | with_reducible (refine FlowsX.ok ?_) | dsimp only | split

theorem Flows.execCtxQuietExpiry {w0 : Nat} {s0 : State} {ctx : Nat} {s : State} (h : Flows w0 s0 s) (hw0 : 4104 ||| w0 = w0 := by first | assumption | exact parts (by assumption) (by decide)) :
    FlowsX w0 s0 (Sys2Proof.Machine.execCtxQuietExpiry ctx s) := by
  unfold Sys2Proof.Machine.execCtxQuietExpiry
  repeat' first
    | with_reducible exact h | with_reducible (refine Flows.reach ?_) | with_reducible (refine Flows.slc! ?_) | with_reducible (refine FlowsX.ok ?_)
    | with_reducible (refine Flows.ite ?_ ?_) | split

theorem Flows.execShareWindow {w0 : Nat} {s0 : State} {s : State} (h : Flows w0 s0 s) (hw0 : 4106 ||| w0 = w0 := by first | assumption | exact parts (by assumption) (by decide)) :
    FlowsX w0 s0 (Sys2Proof.Machine.execShareWindow s) := by
  unfold Sys2Proof.Machine.execShareWindow
  repeat' first
    | with_reducible exact h | with_reducible (refine Flows.boundary ?_) | with_reducible (refine Flows.reach ?_) | with_reducible (refine Flows.slc! ?_)
    | with_reducible (refine FlowsX.ok ?_)

theorem Flows.execSpawn {w0 : Nat} {s0 : State} {core : Nat} {handle : Nat} {args : List Byte} {s : State} (h : Flows w0 s0 s) (hw0 : 1023 ||| w0 = w0 := by first | assumption | exact parts (by assumption) (by decide)) :
    FlowsX w0 s0 (Sys2Proof.Machine.execSpawn core handle args s) := by
  unfold Sys2Proof.Machine.execSpawn
  repeat' first
    | with_reducible exact h | with_reducible (refine Flows.newTask ?_) | with_reducible (refine Flows.onTask ?_ ?_) | with_reducible (refine Flows.pcNext ?_)
    | with_reducible (refine Flows.queueTask ?_) | with_reducible (refine Flows.taskFault ?_) | with_reducible (refine Flows.ite ?_ ?_) | with_reducible intro _
    | dsimp only | split

theorem Flows.execSemAcq {w0 : Nat} {s0 : State} {core : Nat} {sem : Nat} {s : State} (h : Flows w0 s0 s) (hw0 : 9215 ||| w0 = w0 := by first | assumption | exact parts (by assumption) (by decide)) :
    FlowsX w0 s0 (Sys2Proof.Machine.execSemAcq core sem s) := by
  unfold Sys2Proof.Machine.execSemAcq
  repeat' first
    | with_reducible exact h | with_reducible (refine Flows.ctx! ?_) | with_reducible (refine Flows.illegal ?_) | with_reducible (refine Flows.onTask ?_ ?_)
    | with_reducible (refine Flows.pcNext ?_) | with_reducible (refine Flows.sem! ?_) | with_reducible (refine Flows.setResult ?_)
    | with_reducible (refine Flows.task! ?_) | with_reducible (refine Flows.ite ?_ ?_) | with_reducible intro _ | dsimp only | split

theorem Flows.execSemRel {w0 : Nat} {s0 : State} {core : Nat} {sem : Nat} {s : State} (h : Flows w0 s0 s) (hw0 : 9215 ||| w0 = w0 := by first | assumption | exact parts (by assumption) (by decide)) :
    FlowsX w0 s0 (Sys2Proof.Machine.execSemRel core sem s) := by
  unfold Sys2Proof.Machine.execSemRel
  repeat' first
    | with_reducible exact h | with_reducible (refine Flows.grantSem ?_) | with_reducible (refine Flows.illegal ?_) | with_reducible (refine Flows.onTask ?_ ?_)
    | with_reducible (refine Flows.pcNext ?_) | with_reducible (refine Flows.sem! ?_) | with_reducible (refine Flows.settleModifies ?_)
    | with_reducible (refine Flows.ite ?_ ?_) | with_reducible intro _ | dsimp only | split

theorem Flows.collect {w0 : Nat} {s0 : State} {s : State} {t : Nat} {c : Nat} {k : Task} {w : WaitOn} (h : Flows w0 s0 s) (hw0 : 8 ||| w0 = w0 := by first | assumption | exact parts (by assumption) (by decide)) :
    FlowsO w0 s0 (State.collect s t c k w) := by
  unfold State.collect
  repeat' first
    | with_reducible exact h | with_reducible (refine Flows.ctx! ?_) | with_reducible (refine Flows.setResult ?_) | with_reducible exact FlowsO.none
    | with_reducible (refine FlowsO.some ?_) | with_reducible (refine FlowsO.ite ?_ ?_) | dsimp only | split

theorem Flows.deliver {w0 : Nat} {s0 : State} {s : State} {c : Nat} {h1 : Held} (h : Flows w0 s0 s) (hw0 : 8 ||| w0 = w0 := by first | assumption | exact parts (by assumption) (by decide)) :
    Flows w0 s0 (State.deliver s c h1) := by
  unfold State.deliver
  repeat' first
    | with_reducible exact h | with_reducible (refine FlowsO.get (Flows.collect ?_) (by with_reducible assumption)) | with_reducible (refine Flows.hold ?_)
    | with_reducible (refine Flows.wakeCtx ?_) | dsimp only | split

theorem Flows.execWaitOn {w0 : Nat} {s0 : State} {core : Nat} {on_ : WaitOn} {s : State} (h : Flows w0 s0 s) (hw0 : 9215 ||| w0 = w0 := by first | assumption | exact parts (by assumption) (by decide)) :
    FlowsX w0 s0 (Sys2Proof.Machine.execWaitOn core on_ s) := by
  unfold Sys2Proof.Machine.execWaitOn
  repeat' first
    | with_reducible exact h | with_reducible (refine FlowsO.get (Flows.collect ?_) (by with_reducible assumption)) | with_reducible (refine Flows.ctx! ?_)
    | with_reducible (refine Flows.illegal ?_) | with_reducible (refine Flows.onTask ?_ ?_) | with_reducible (refine Flows.pcNext ?_)
    | with_reducible (refine Flows.task! ?_) | with_reducible intro _ | dsimp only | split

theorem Flows.execYieldTask {w0 : Nat} {s0 : State} {core : Nat} {s : State} (h : Flows w0 s0 s) (hw0 : 74 ||| w0 = w0 := by first | assumption | exact parts (by assumption) (by decide)) :
    FlowsX w0 s0 (Sys2Proof.Machine.execYieldTask core s) := by
  unfold Sys2Proof.Machine.execYieldTask
  repeat' first
    | with_reducible exact h | with_reducible (refine Flows.onTask ?_ ?_) | with_reducible (refine Flows.pcNext ?_) | with_reducible (refine Flows.suspend ?_)
    | with_reducible (refine Flows.task! ?_) | with_reducible (refine Flows.ite ?_ ?_) | with_reducible intro _

end Sys2Proof.Machine
end

