-- ==== Sys2Proof/Laws/FlowDelta.lean ====
section
/-! SUPPORT. What the operations and meanings of Machine/Delta.lean keep. -/

set_option Elab.async false

namespace Sys2Proof.Machine

theorem Flows.blk! {w0 : Nat} {s0 : State} {s : State} {b : Nat} {f : Block → Block} (h : Flows w0 s0 s) (hw0 : 128 ||| w0 = w0 := by first | assumption | exact parts (by assumption) (by decide)) :
    Flows w0 s0 (State.blk! s b f) := by
  unfold State.blk!
  repeat' first | with_reducible exact h | with_reducible (refine Flows.delta! ?_)

theorem Flows.page! {w0 : Nat} {s0 : State} {s : State} {space : Nat} {page : Nat} {f : MapPage → MapPage} (h : Flows w0 s0 s) (hw0 : 128 ||| w0 = w0 := by first | assumption | exact parts (by assumption) (by decide)) :
    Flows w0 s0 (State.page! s space page f) := by
  unfold State.page!
  repeat' first | with_reducible exact h | with_reducible (refine Flows.delta! ?_)

theorem Flows.setMap {w0 : Nat} {s0 : State} {s : State} {space : Nat} {lsn : Nat} {e : MapEnt} (h : Flows w0 s0 s) (hw0 : 128 ||| w0 = w0 := by first | assumption | exact parts (by assumption) (by decide)) :
    Flows w0 s0 (State.setMap s space lsn e) := by
  unfold State.setMap
  repeat' first | with_reducible exact h | with_reducible (refine Flows.delta! ?_) | with_reducible (refine Flows.page! ?_)

theorem Flows.writePoint {w0 : Nat} {s0 : State} {s : State} {lun : Nat} {space : Nat} {slc : Bool} (h : Flows w0 s0 s) (hw0 : 128 ||| w0 = w0 := by first | assumption | exact parts (by assumption) (by decide)) :
    FlowsP w0 s0 (State.writePoint s lun space slc) := by
  unfold State.writePoint
  repeat' first
    | with_reducible exact h | with_reducible (refine Flows.blk! ?_) | with_reducible (refine FlowsP.some ?_) | with_reducible (refine FlowsP.map ?_)
    | with_reducible intro _ | dsimp only | split

theorem Flows.program {w0 : Nat} {s0 : State} {s : State} {b : Nat} {space : Nat} {l : List (Nat × Option Nat)} (h : Flows w0 s0 s) (hw0 : 128 ||| w0 = w0 := by first | assumption | exact parts (by assumption) (by decide)) :
    Flows w0 s0 (State.program s b space l) := by
  unfold State.program
  repeat' first | with_reducible exact h | with_reducible (refine Flows.delta! ?_)

theorem Flows.writePages {w0 : Nat} {s0 : State} {s : State} {luns : List Nat} {space : Nat} {slc : Bool} {x4 : List (List (Nat × Option Nat))} (h : Flows w0 s0 s) (hw0 : 128 ||| w0 = w0 := by first | assumption | exact parts (by assumption) (by decide)) :
    FlowsO w0 s0 (State.writePages s luns space slc x4) := by
  induction x4 generalizing s with
  | nil =>
    unfold State.writePages
    repeat' first
      | with_reducible exact h | with_reducible (refine ih ?_) | with_reducible (refine Flows.program ?_) | with_reducible (refine Flows.writePoint ?_)
      | with_reducible (refine FlowsP.get ?_ (by with_reducible assumption)) | with_reducible exact FlowsO.none | with_reducible exact FlowsP.none
      | with_reducible (refine FlowsO.some ?_) | with_reducible (refine FlowsP.ite ?_ ?_) | with_reducible (refine FlowsP.findSome? ?_) | with_reducible intro _
      | dsimp only | split
  | cons _ _ ih =>
    unfold State.writePages
    repeat' first
      | with_reducible exact h | with_reducible (refine ih ?_) | with_reducible (refine Flows.program ?_) | with_reducible (refine Flows.writePoint ?_)
      | with_reducible (refine FlowsP.get ?_ (by with_reducible assumption)) | with_reducible exact FlowsO.none | with_reducible exact FlowsP.none
      | with_reducible (refine FlowsO.some ?_) | with_reducible (refine FlowsP.ite ?_ ?_) | with_reducible (refine FlowsP.findSome? ?_) | with_reducible intro _
      | dsimp only | split

theorem Flows.openLsn {w0 : Nat} {s0 : State} {s : State} {space : Nat} {lsn : Nat} (h : Flows w0 s0 s) (hw0 : 128 ||| w0 = w0 := by first | assumption | exact parts (by assumption) (by decide)) :
    Flows w0 s0 (State.openLsn s space lsn) := by
  unfold State.openLsn
  repeat' first | with_reducible exact h | with_reducible (refine Flows.delta! ?_)

theorem Flows.flush {w0 : Nat} {s0 : State} {s : State} {space : Nat} {mask : Nat} (h : Flows w0 s0 s) (hw0 : 130 ||| w0 = w0 := by first | assumption | exact parts (by assumption) (by decide)) :
    FlowsO w0 s0 (State.flush s space mask) := by
  unfold State.flush
  repeat' first
    | with_reducible exact h | with_reducible (refine Flows.count ?_) | with_reducible (refine Flows.delta! ?_)
    | with_reducible (refine FlowsO.get (Flows.writePages ?_) (by with_reducible assumption)) | with_reducible (refine FlowsO.some ?_)
    | with_reducible (refine FlowsO.ite ?_ ?_) | with_reducible (refine FlowsO.map ?_) | with_reducible intro _

theorem Flows.discard {w0 : Nat} {s0 : State} {s : State} {space : Nat} {lsn : Nat} (h : Flows w0 s0 s) (hw0 : 130 ||| w0 = w0 := by first | assumption | exact parts (by assumption) (by decide)) :
    Flows w0 s0 (State.discard s space lsn) := by
  unfold State.discard
  repeat' first | with_reducible exact h | with_reducible (refine Flows.count ?_) | with_reducible (refine Flows.setMap ?_) | split

theorem Flows.discardAll {w0 : Nat} {s0 : State} {s : State} {space : Nat} {lsns : List Nat} (h : Flows w0 s0 s) (hw0 : 130 ||| w0 = w0 := by first | assumption | exact parts (by assumption) (by decide)) :
    Flows w0 s0 (State.discardAll s space lsns) := by
  unfold State.discardAll
  repeat' first
    | with_reducible exact h | with_reducible assumption | with_reducible (refine Flows.discard ?_) | with_reducible (refine Flows.foldl ?_ ?_)
    | with_reducible intro _

theorem Flows.damageLsn {w0 : Nat} {s0 : State} {s : State} {space : Nat} {lsn : Nat} (h : Flows w0 s0 s) (hw0 : 16 ||| w0 = w0 := by first | assumption | exact parts (by assumption) (by decide)) :
    Flows w0 s0 (State.damageLsn s space lsn) := by
  unfold State.damageLsn
  repeat' first | with_reducible exact h | with_reducible (refine Flows.search! ?_)

theorem Flows.sectorLost {w0 : Nat} {s0 : State} {s : State} {space : Nat} {lsn : Nat} (h : Flows w0 s0 s) (hw0 : 9215 ||| w0 = w0 := by first | assumption | exact parts (by assumption) (by decide)) :
    Flows w0 s0 (State.sectorLost s space lsn) := by
  unfold State.sectorLost
  repeat' first
    | with_reducible exact h | with_reducible (refine Flows.blk! ?_) | with_reducible (refine Flows.count ?_) | with_reducible (refine Flows.damageLsn ?_)
    | with_reducible (refine Flows.free2 ?_) | with_reducible (refine Flows.raise ?_) | with_reducible (refine Flows.setMap ?_) | dsimp only | split

theorem Flows.damageExt {w0 : Nat} {s0 : State} {s : State} {e : Nat} {i : Nat} (h : Flows w0 s0 s) (hw0 : 16 ||| w0 = w0 := by first | assumption | exact parts (by assumption) (by decide)) :
    Flows w0 s0 (State.damageExt s e i) := by
  unfold State.damageExt
  repeat' first | with_reducible exact h | with_reducible (refine Flows.search! ?_)

theorem Flows.extentLost {w0 : Nat} {s0 : State} {s : State} {e : Nat} {i : Nat} {stale : Bool} (h : Flows w0 s0 s) (hw0 : 9215 ||| w0 = w0 := by first | assumption | exact parts (by assumption) (by decide)) :
    Flows w0 s0 (State.extentLost s e i stale) := by
  unfold State.extentLost
  repeat' first
    | with_reducible exact h | with_reducible (refine Flows.count ?_) | with_reducible (refine Flows.damageExt ?_) | with_reducible (refine Flows.delta! ?_)
    | with_reducible (refine Flows.free2 ?_) | with_reducible (refine Flows.raise ?_) | with_reducible (refine Flows.ite ?_ ?_) | dsimp only | split

theorem Flows.readNote {w0 : Nat} {s0 : State} {s : State} {outcome : ReadOutcome} (h : Flows w0 s0 s) (hw0 : 2 ||| w0 = w0 := by first | assumption | exact parts (by assumption) (by decide)) :
    Flows w0 s0 (State.readNote s outcome).1 := by
  unfold State.readNote
  repeat' first | with_reducible exact h | with_reducible (refine Flows.count ?_) | dsimp only | split

theorem Flows.closeFull {w0 : Nat} {s0 : State} {s : State} {b : Nat} (h : Flows w0 s0 s) (hw0 : 128 ||| w0 = w0 := by first | assumption | exact parts (by assumption) (by decide)) :
    Flows w0 s0 (State.closeFull s b) := by
  unfold State.closeFull
  repeat' first | with_reducible exact h | with_reducible (refine Flows.blk! ?_) | with_reducible (refine Flows.delta! ?_) | with_reducible (refine Flows.ite ?_ ?_)

theorem Flows.mapPage {w0 : Nat} {s0 : State} {s : State} {b : Nat} {first : Nat} {l : List (Sector × Option Nat)} (h : Flows w0 s0 s) (hw0 : 128 ||| w0 = w0 := by first | assumption | exact parts (by assumption) (by decide)) :
    Flows w0 s0 (State.mapPage s b first l) := by
  unfold State.mapPage
  repeat' first
    | with_reducible exact h | with_reducible assumption | with_reducible (refine Flows.setMap ?_) | with_reducible (refine Flows.ite ?_ ?_)
    | with_reducible (refine Flows.foldl ?_ ?_) | with_reducible intro _ | split

theorem Flows.reprogram {w0 : Nat} {s0 : State} {s : State} {b : Nat} (h : Flows w0 s0 s) (hw0 : 128 ||| w0 = w0 := by first | assumption | exact parts (by assumption) (by decide)) :
    Flows w0 s0 (State.reprogram s b) := by
  unfold State.reprogram
  repeat' first
    | with_reducible exact h | with_reducible assumption | with_reducible (refine Flows.delta! ?_) | with_reducible (refine Flows.openLsn ?_)
    | with_reducible (refine FlowsO.get (Flows.writePages ?_) (by with_reducible assumption)) | with_reducible (refine Flows.foldl ?_ ?_) | with_reducible intro _
    | dsimp only | split

theorem Flows.retire {w0 : Nat} {s0 : State} {s : State} {b : Nat} (h : Flows w0 s0 s) (hw0 : 130 ||| w0 = w0 := by first | assumption | exact parts (by assumption) (by decide)) :
    Flows w0 s0 (State.retire s b) := by
  unfold State.retire
  repeat' first | with_reducible exact h | with_reducible (refine Flows.blk! ?_) | with_reducible (refine Flows.count ?_) | with_reducible (refine Flows.reprogram ?_)

theorem Flows.relocate {w0 : Nat} {s0 : State} {s : State} {b : Nat} {cnt : Nat} (h : Flows w0 s0 s) (hw0 : 130 ||| w0 = w0 := by first | assumption | exact parts (by assumption) (by decide)) :
    FlowsO w0 s0 (State.relocate s b cnt) := by
  unfold State.relocate
  repeat' first
    | with_reducible exact h | with_reducible (refine Flows.blk! ?_) | with_reducible (refine Flows.count ?_) | with_reducible (refine Flows.program ?_)
    | with_reducible (refine Flows.writePoint ?_) | with_reducible exact FlowsO.get (by with_reducible assumption) (by with_reducible assumption)
    | with_reducible (refine FlowsO.get ?_ (by with_reducible assumption)) | with_reducible (refine FlowsP.get ?_ (by with_reducible assumption))
    | with_reducible (refine FlowsO.some ?_) | with_reducible (refine FlowsO.bind ?_) | with_reducible (refine FlowsO.map ?_)
    | with_reducible (refine FlowsO.foldl ?_ ?_) | with_reducible (refine FlowsP.findSome? ?_) | with_reducible intro _

theorem Flows.execFold {w0 : Nat} {s0 : State} {lun : Nat} {s : State} (h : Flows w0 s0 s) (hw0 : 130 ||| w0 = w0 := by first | assumption | exact parts (by assumption) (by decide)) :
    FlowsX w0 s0 (Sys2Proof.Machine.execFold lun s) := by
  unfold Sys2Proof.Machine.execFold
  repeat' first
    | with_reducible exact h | with_reducible (refine Flows.relocate ?_) | with_reducible (refine FlowsX.ok ?_) | with_reducible (refine Flows.ite ?_ ?_)
    | with_reducible (refine Flows.getD ?_ ?_) | split

theorem Flows.execReclaim {w0 : Nat} {s0 : State} {lun : Nat} {s : State} (h : Flows w0 s0 s) (hw0 : 130 ||| w0 = w0 := by first | assumption | exact parts (by assumption) (by decide)) :
    FlowsX w0 s0 (Sys2Proof.Machine.execReclaim lun s) := by
  unfold Sys2Proof.Machine.execReclaim
  repeat' first
    | with_reducible exact h | with_reducible (refine Flows.delta! ?_) | with_reducible (refine Flows.relocate ?_) | with_reducible (refine FlowsX.ok ?_)
    | with_reducible (refine Flows.ite ?_ ?_) | with_reducible (refine Flows.getD ?_ ?_) | dsimp only | split

theorem Flows.checkpoint {w0 : Nat} {s0 : State} {s : State} (h : Flows w0 s0 s) (hw0 : 130 ||| w0 = w0 := by first | assumption | exact parts (by assumption) (by decide)) :
    Flows w0 s0 (State.checkpoint s) := by
  unfold State.checkpoint
  repeat' first | with_reducible exact h | with_reducible (refine Flows.count ?_) | with_reducible (refine Flows.delta! ?_)

theorem Flows.execCheckpoint {w0 : Nat} {s0 : State} {s : State} (h : Flows w0 s0 s) (hw0 : 4226 ||| w0 = w0 := by first | assumption | exact parts (by assumption) (by decide)) :
    FlowsX w0 s0 (Sys2Proof.Machine.execCheckpoint s) := by
  unfold Sys2Proof.Machine.execCheckpoint
  repeat' first
    | with_reducible exact h | with_reducible (refine Flows.checkpoint ?_) | with_reducible (refine Flows.reach ?_) | with_reducible (refine FlowsX.ok ?_)
    | with_reducible (refine Flows.ite ?_ ?_)

theorem Flows.execMapRebuild {w0 : Nat} {s0 : State} {space : Nat} {page : Nat} {unreadable : List Nat} {s : State} (h : Flows w0 s0 s) (hw0 : 9215 ||| w0 = w0 := by first | assumption | exact parts (by assumption) (by decide)) :
    FlowsX w0 s0 (Sys2Proof.Machine.execMapRebuild space page unreadable s) := by
  unfold Sys2Proof.Machine.execMapRebuild
  repeat' first
    | with_reducible exact h | with_reducible assumption | with_reducible (refine Flows.page! ?_) | with_reducible (refine Flows.sectorLost ?_)
    | with_reducible (refine Flows.setMap ?_) | with_reducible (refine FlowsX.ok ?_) | with_reducible (refine Flows.ite ?_ ?_)
    | with_reducible (refine Flows.foldl ?_ ?_) | with_reducible intro _ | dsimp only | split

theorem Flows.execDeltaStartup {w0 : Nat} {s0 : State} {targets : List TargetInfo} {failed : List Nat} {uverified2 : Bool} {s : State} (h : Flows w0 s0 s) (hw0 : 8326 ||| w0 = w0 := by first | assumption | exact parts (by assumption) (by decide)) :
    FlowsX w0 s0 (Sys2Proof.Machine.execDeltaStartup targets failed uverified2 s) := by
  unfold Sys2Proof.Machine.execDeltaStartup
  repeat' first
    | with_reducible exact h | with_reducible assumption | with_reducible (refine Flows.delta! ?_) | with_reducible (refine Flows.free2 ?_)
    | with_reducible (refine Flows.logC ?_) | with_reducible (refine FlowsX.ok ?_) | with_reducible (refine Flows.ite ?_ ?_)
    | with_reducible (refine Flows.foldl ?_ ?_) | with_reducible intro _

theorem Flows.takeBlocks {w0 : Nat} {s0 : State} {s : State} {luns : List Nat} {x2 : Nat} {x3 : Nat} {x4 : List Nat} (h : Flows w0 s0 s) (hw0 : 128 ||| w0 = w0 := by first | assumption | exact parts (by assumption) (by decide)) :
    FlowsP w0 s0 (State.takeBlocks s luns x2 x3 x4) := by
  induction x2 generalizing s x3 x4 with
  | zero =>
    unfold State.takeBlocks
    repeat' first
      | with_reducible exact h | with_reducible (refine ih ?_) | with_reducible (refine Flows.blk! ?_) | with_reducible exact FlowsP.none
      | with_reducible (refine FlowsP.some ?_) | dsimp only | split
  | succ _ ih =>
    unfold State.takeBlocks
    repeat' first
      | with_reducible exact h | with_reducible (refine ih ?_) | with_reducible (refine Flows.blk! ?_) | with_reducible exact FlowsP.none
      | with_reducible (refine FlowsP.some ?_) | dsimp only | split

theorem Flows.sealExtent {w0 : Nat} {s0 : State} {s : State} {space : Nat} {mask : Nat} {kind : Nat} {src : Nat} {bytes : Nat} {data : Mem} {objBytes : Nat} {lost : List Nat} (h : Flows w0 s0 s) (hw0 : 130 ||| w0 = w0 := by first | assumption | exact parts (by assumption) (by decide)) :
    FlowsP w0 s0 (State.sealExtent s space mask kind src bytes data objBytes lost) := by
  unfold State.sealExtent
  repeat' first
    | with_reducible exact h | with_reducible assumption | with_reducible (refine Flows.blk! ?_) | with_reducible (refine Flows.count ?_)
    | with_reducible (refine Flows.delta! ?_) | with_reducible (refine FlowsP.get (Flows.takeBlocks ?_) (by with_reducible assumption))
    | with_reducible (refine Flows.foldl ?_ ?_) | with_reducible exact FlowsP.none | with_reducible (refine FlowsP.some ?_) | with_reducible intro _ | dsimp only
    | split

theorem Flows.freeExtent {w0 : Nat} {s0 : State} {s : State} {id : Nat} (h : Flows w0 s0 s) (hw0 : 128 ||| w0 = w0 := by first | assumption | exact parts (by assumption) (by decide)) :
    Flows w0 s0 (State.freeExtent s id) := by
  unfold State.freeExtent
  repeat' first
    | with_reducible exact h | with_reducible assumption | with_reducible (refine Flows.blk! ?_) | with_reducible (refine Flows.delta! ?_)
    | with_reducible (refine Flows.ite ?_ ?_) | with_reducible (refine Flows.foldl ?_ ?_) | with_reducible intro _ | dsimp only | split

theorem Flows.exportReply {w0 : Nat} {s0 : State} {s : State} {m : Msg} {id : Nat} (h : Flows w0 s0 s) (hw0 : 3 ||| w0 = w0 := by first | assumption | exact parts (by assumption) (by decide)) :
    Flows w0 s0 (State.exportReply s m id) := by
  unfold State.exportReply
  repeat' first
    | with_reducible exact h | with_reducible (refine Flows.done ?_) | with_reducible (refine Flows.output ?_) | with_reducible (refine Flows.refuse ?_)
    | with_reducible (refine Flows.ite ?_ ?_) | dsimp only | split

theorem Flows.sealColl {w0 : Nat} {s0 : State} {s : State} {k : Nat} {c : Coll} (h : Flows w0 s0 s) (hw0 : 146 ||| w0 = w0 := by first | assumption | exact parts (by assumption) (by decide)) :
    FlowsP w0 s0 (State.sealColl s k c) := by
  unfold State.sealColl
  repeat' first
    | with_reducible exact h | with_reducible (refine Flows.coll! ?_) | with_reducible (refine Flows.discardAll ?_)
    | with_reducible (refine FlowsP.get (Flows.sealExtent ?_) (by with_reducible assumption)) | with_reducible (refine FlowsP.map ?_) | with_reducible intro _

theorem Flows.execExtExport {w0 : Nat} {s0 : State} {mb : Nat} {s : State} (h : Flows w0 s0 s) (hw0 : 987 ||| w0 = w0 := by first | assumption | exact parts (by assumption) (by decide)) :
    FlowsX w0 s0 (Sys2Proof.Machine.execExtExport mb s) := by
  unfold Sys2Proof.Machine.execExtExport
  repeat' first
    | with_reducible exact h | with_reducible assumption | with_reducible (refine Flows.exportReply ?_) | with_reducible (refine Flows.onMsg ?_ ?_)
    | with_reducible (refine Flows.refuse ?_) | with_reducible (refine FlowsP.get (Flows.sealColl ?_) (by with_reducible assumption))
    | with_reducible (refine Flows.ite ?_ ?_) | with_reducible intro _ | dsimp only | split

theorem Flows.execExtAttach {w0 : Nat} {s0 : State} {mb : Nat} {dma : HostRead} {s : State} (h : Flows w0 s0 s) (hw0 : 987 ||| w0 = w0 := by first | assumption | exact parts (by assumption) (by decide)) :
    FlowsX w0 s0 (Sys2Proof.Machine.execExtAttach mb dma s) := by
  unfold Sys2Proof.Machine.execExtAttach
  repeat' first
    | with_reducible exact h | with_reducible assumption | with_reducible (refine Flows.delta! ?_) | with_reducible (refine Flows.done ?_)
    | with_reducible (refine Flows.onMsg ?_ ?_) | with_reducible (refine Flows.refuse ?_) | with_reducible (refine Flows.reply ?_)
    | with_reducible (refine Flows.slc! ?_) | with_reducible (refine Flows.ite ?_ ?_) | with_reducible intro _ | dsimp only | split

theorem Flows.execExtRead {w0 : Nat} {s0 : State} {mb : Nat} {s : State} (h : Flows w0 s0 s) (hw0 : 859 ||| w0 = w0 := by first | assumption | exact parts (by assumption) (by decide)) :
    FlowsX w0 s0 (Sys2Proof.Machine.execExtRead mb s) := by
  unfold Sys2Proof.Machine.execExtRead
  repeat' first
    | with_reducible exact h | with_reducible assumption | with_reducible (refine Flows.chargeLun ?_) | with_reducible (refine Flows.count ?_)
    | with_reducible (refine Flows.done ?_) | with_reducible (refine Flows.onMsg ?_ ?_) | with_reducible (refine Flows.output ?_)
    | with_reducible (refine Flows.refuse ?_) | with_reducible (refine Flows.ite ?_ ?_) | with_reducible intro _ | dsimp only | split

theorem Flows.execExtRelease {w0 : Nat} {s0 : State} {mb : Nat} {dma : HostRead} {s : State} (h : Flows w0 s0 s) (hw0 : 987 ||| w0 = w0 := by first | assumption | exact parts (by assumption) (by decide)) :
    FlowsX w0 s0 (Sys2Proof.Machine.execExtRelease mb dma s) := by
  unfold Sys2Proof.Machine.execExtRelease
  repeat' first
    | with_reducible exact h | with_reducible assumption | with_reducible (refine Flows.done ?_) | with_reducible (refine Flows.freeExtent ?_)
    | with_reducible (refine Flows.onMsg ?_ ?_) | with_reducible (refine Flows.refuse ?_) | with_reducible (refine Flows.reply ?_)
    | with_reducible (refine Flows.ite ?_ ?_) | with_reducible intro _ | dsimp only | split

theorem Flows.execSpaceRelease {w0 : Nat} {s0 : State} {mb : Nat} {s : State} (h : Flows w0 s0 s) (hw0 : 987 ||| w0 = w0 := by first | assumption | exact parts (by assumption) (by decide)) :
    FlowsX w0 s0 (Sys2Proof.Machine.execSpaceRelease mb s) := by
  unfold Sys2Proof.Machine.execSpaceRelease
  repeat' first
    | with_reducible exact h | with_reducible assumption | with_reducible (refine Flows.discardAll ?_) | with_reducible (refine Flows.done ?_)
    | with_reducible (refine Flows.freeExtent ?_) | with_reducible (refine Flows.newKeys ?_) | with_reducible (refine Flows.onMsg ?_ ?_)
    | with_reducible (refine Flows.refuse ?_) | with_reducible (refine Flows.slc! ?_) | with_reducible (refine Flows.ite ?_ ?_)
    | with_reducible (refine Flows.foldl ?_ ?_) | with_reducible intro _ | split

end Sys2Proof.Machine
end

