-- ==== Sys2Proof/Laws/FlowLuns.lean ====
section
/-! SUPPORT. What the operations and meanings of Machine/Luns.lean keep. -/

set_option Elab.async false

namespace Sys2Proof.Machine

theorem Flows.programDone {w0 : Nat} {s0 : State} {s : State} {block : Nat} {passed : Bool} (h : Flows w0 s0 s) (hw0 : 138 ||| w0 = w0 := by first | assumption | exact parts (by assumption) (by decide)) :
    Flows w0 s0 (State.programDone s block passed) := by
  unfold State.programDone
  repeat' first
    | with_reducible exact h | with_reducible (refine Flows.blk! ?_) | with_reducible (refine Flows.chargeLun ?_) | with_reducible (refine Flows.closeFull ?_)
    | with_reducible (refine Flows.delta! ?_) | with_reducible (refine Flows.mapPage ?_) | with_reducible (refine Flows.retire ?_)
    | with_reducible (refine Flows.ite ?_ ?_) | dsimp only | split

theorem Flows.execEraseComplete {w0 : Nat} {s0 : State} {block : Nat} {passed : Bool} {s : State} (h : Flows w0 s0 s) (hw0 : 138 ||| w0 = w0 := by first | assumption | exact parts (by assumption) (by decide)) :
    FlowsX w0 s0 (Sys2Proof.Machine.execEraseComplete block passed s) := by
  unfold Sys2Proof.Machine.execEraseComplete
  repeat' first
    | with_reducible exact h | with_reducible (refine Flows.blk! ?_) | with_reducible (refine Flows.chargeLun ?_) | with_reducible (refine Flows.retire ?_)
    | with_reducible (refine FlowsX.ok ?_) | with_reducible (refine Flows.ite ?_ ?_) | dsimp only | split

end Sys2Proof.Machine
end

