-- ==== Sys2Proof/Laws/FlowFerry.lean ====
section
/-! SUPPORT. What the operations and meanings of Machine/Ferry.lean keep. -/

set_option Elab.async false

namespace Sys2Proof.Machine

theorem Flows.allocate {w0 : Nat} {s0 : State} {s : State} {comp : Nat} {tier : Nat} {bytes : Nat} (h : Flows w0 s0 s) (hw0 : 8 ||| w0 = w0 := by first | assumption | exact parts (by assumption) (by decide)) :
    FlowsO w0 s0 (State.allocate s comp tier bytes) := by
  unfold State.allocate
  repeat' first
    | with_reducible exact h | with_reducible (refine Flows.comp! ?_) | with_reducible exact FlowsO.none | with_reducible (refine FlowsO.some ?_)
    | with_reducible (refine FlowsO.ite ?_ ?_) | split

theorem Flows.release {w0 : Nat} {s0 : State} {s : State} {comp : Nat} {tier : Nat} {bytes : Nat} (h : Flows w0 s0 s) (hw0 : 8 ||| w0 = w0 := by first | assumption | exact parts (by assumption) (by decide)) :
    Flows w0 s0 (State.release s comp tier bytes) := by
  unfold State.release
  repeat' first | with_reducible exact h | with_reducible (refine Flows.comp! ?_)

theorem Flows.endTasks {w0 : Nat} {s0 : State} {s : State} {b : Nat} (h : Flows w0 s0 s) (hw0 : 379 ||| w0 = w0 := by first | assumption | exact parts (by assumption) (by decide)) :
    Flows w0 s0 (State.endTasks s b) := by
  unfold State.endTasks
  repeat' first
    | with_reducible exact h | with_reducible assumption | with_reducible (refine Flows.dropTask ?_) | with_reducible (refine Flows.ferry! ?_)
    | with_reducible (refine Flows.haltBatch ?_) | with_reducible (refine Flows.releaseSems ?_) | with_reducible (refine Flows.trib! ?_)
    | with_reducible (refine Flows.foldl ?_ ?_) | with_reducible intro _

theorem Flows.failQueries {w0 : Nat} {s0 : State} {s : State} {b : Nat} {status : Nat} (h : Flows w0 s0 s) (hw0 : 19 ||| w0 = w0 := by first | assumption | exact parts (by assumption) (by decide)) :
    Flows w0 s0 (State.failQueries s b status) := by
  unfold State.failQueries
  repeat' first
    | with_reducible exact h | with_reducible assumption | with_reducible (refine Flows.count ?_) | with_reducible (refine Flows.output ?_)
    | with_reducible (refine Flows.search! ?_) | with_reducible (refine Flows.ite ?_ ?_) | with_reducible (refine Flows.foldl ?_ ?_) | with_reducible intro _
    | dsimp only | split

theorem Flows.poisonBatch {w0 : Nat} {s0 : State} {s : State} {b : Nat} (h : Flows w0 s0 s) (hw0 : 891 ||| w0 = w0 := by first | assumption | exact parts (by assumption) (by decide)) :
    Flows w0 s0 (State.poisonBatch s b) := by
  unfold State.poisonBatch
  repeat' first
    | with_reducible exact h | with_reducible (refine Flows.endTasks ?_) | with_reducible (refine Flows.failQueries ?_) | with_reducible (refine Flows.replyBatch ?_)
    | split

theorem Flows.poisonBatches {w0 : Nat} {s0 : State} {s : State} {k : Nat} (h : Flows w0 s0 s) (hw0 : 891 ||| w0 = w0 := by first | assumption | exact parts (by assumption) (by decide)) :
    Flows w0 s0 (State.poisonBatches s k) := by
  unfold State.poisonBatches
  repeat' first
    | with_reducible exact h | with_reducible assumption | with_reducible (refine Flows.poisonBatch ?_) | with_reducible (refine Flows.foldl ?_ ?_)
    | with_reducible intro _

theorem Flows.poisonObj {w0 : Nat} {s0 : State} {s : State} {k : Nat} (h : Flows w0 s0 s) (hw0 : 9215 ||| w0 = w0 := by first | assumption | exact parts (by assumption) (by decide)) :
    Flows w0 s0 (State.poisonObj s k) := by
  unfold State.poisonObj
  repeat' first
    | with_reducible exact h | with_reducible (refine Flows.ferry! ?_) | with_reducible (refine Flows.free2 ?_) | with_reducible (refine Flows.obj! ?_)
    | with_reducible (refine Flows.poisonBatches ?_) | with_reducible (refine Flows.raise ?_) | with_reducible (refine Flows.ite ?_ ?_) | dsimp only | split

theorem Flows.startRefetch {w0 : Nat} {s0 : State} {s : State} {k : Nat} {tile : Nat} {mirror : Nat} (h : Flows w0 s0 s) (hw0 : 270 ||| w0 = w0 := by first | assumption | exact parts (by assumption) (by decide)) :
    Flows w0 s0 (State.startRefetch s k tile mirror) := by
  unfold State.startRefetch
  repeat' first | with_reducible exact h | with_reducible (refine Flows.logC ?_) | with_reducible (refine Flows.obj! ?_) | with_reducible (refine Flows.trib! ?_)

theorem Flows.weightLoss {w0 : Nat} {s0 : State} {s : State} {k : Nat} {tile : Nat} (h : Flows w0 s0 s) (hw0 : 9215 ||| w0 = w0 := by first | assumption | exact parts (by assumption) (by decide)) :
    Flows w0 s0 (State.weightLoss s k tile).1 := by
  unfold State.weightLoss
  repeat' first
    | with_reducible exact h | with_reducible (refine Flows.poisonObj ?_) | with_reducible (refine Flows.startRefetch ?_) | with_reducible (refine Flows.ite ?_ ?_)
    | split

theorem Flows.frames! {w0 : Nat} {s0 : State} {s : State} {l : Level} {f : Tbl Frame → Tbl Frame} (h : Flows w0 s0 s) (hw0 : 64 ||| w0 = w0 := by first | assumption | exact parts (by assumption) (by decide)) :
    Flows w0 s0 (State.frames! s l f) := by
  unfold State.frames!
  repeat' first | with_reducible exact h | with_reducible (refine Flows.ferry! ?_)

theorem Flows.evictBasin {w0 : Nat} {s0 : State} {s : State} {i : Nat} (h : Flows w0 s0 s) (hw0 : 66 ||| w0 = w0 := by first | assumption | exact parts (by assumption) (by decide)) :
    Flows w0 s0 (State.evictBasin s i) := by
  unfold State.evictBasin
  repeat' first | with_reducible exact h | with_reducible (refine Flows.count ?_) | with_reducible (refine Flows.frames! ?_)

theorem Flows.evictLake {w0 : Nat} {s0 : State} {s : State} {i : Nat} (h : Flows w0 s0 s) (hw0 : 66 ||| w0 = w0 := by first | assumption | exact parts (by assumption) (by decide)) :
    Flows w0 s0 (State.evictLake s i) := by
  unfold State.evictLake
  repeat' first
    | with_reducible exact h | with_reducible (refine Flows.count ?_) | with_reducible (refine Flows.evictBasin ?_) | with_reducible (refine Flows.frames! ?_)
    | with_reducible (refine Flows.ite ?_ ?_) | dsimp only | split

theorem Flows.startFill {w0 : Nat} {s0 : State} {s : State} {obj : Nat} {page : Nat} {c : Nat} {quad : Nat} {prefetch : Bool} (h : Flows w0 s0 s) (hw0 : 66 ||| w0 = w0 := by first | assumption | exact parts (by assumption) (by decide)) :
    FlowsO w0 s0 (State.startFill s obj page c quad prefetch) := by
  unfold State.startFill
  repeat' first
    | with_reducible exact h | with_reducible (refine Flows.count ?_) | with_reducible (refine Flows.evictLake ?_) | with_reducible (refine Flows.ferry! ?_)
    | with_reducible (refine Flows.setRaw ?_) | with_reducible (refine Flows.ite ?_ ?_) | with_reducible exact FlowsO.none | with_reducible (refine FlowsO.some ?_)
    | with_reducible (refine FlowsO.ite ?_ ?_) | dsimp only | split

theorem Flows.prefetchPage {w0 : Nat} {s0 : State} {s : State} {obj : Nat} {page : Nat} {c : Nat} {quad : Nat} (h : Flows w0 s0 s) (hw0 : 66 ||| w0 = w0 := by first | assumption | exact parts (by assumption) (by decide)) :
    Flows w0 s0 (State.prefetchPage s obj page c quad) := by
  unfold State.prefetchPage
  repeat' first
    | with_reducible exact h | with_reducible (refine Flows.count ?_) | with_reducible (refine Flows.startFill ?_) | with_reducible (refine Flows.ite ?_ ?_)
    | with_reducible (refine FlowsO.get ?_ (by with_reducible assumption)) | with_reducible exact FlowsO.none | with_reducible (refine FlowsO.ite ?_ ?_) | dsimp only
    | split

theorem Flows.lookup {w0 : Nat} {s0 : State} {s : State} {obj : Nat} {c : Nat} {quad : Nat} {noPool : Bool} {m : Move} {x6 : List Nat} (h : Flows w0 s0 s) (hw0 : 66 ||| w0 = w0 := by first | assumption | exact parts (by assumption) (by decide)) :
    Flows w0 s0 (State.lookup s obj c quad noPool m x6).1 := by
  induction x6 generalizing s m with
  | nil =>
    unfold State.lookup
    repeat' first
      | with_reducible exact h | with_reducible (refine ih ?_) | with_reducible (refine Flows.startFill ?_)
      | with_reducible (refine FlowsO.get ?_ (by with_reducible assumption)) | with_reducible exact FlowsO.none | with_reducible (refine FlowsO.ite ?_ ?_)
      | dsimp only | split
  | cons _ _ ih =>
    unfold State.lookup
    repeat' first
      | with_reducible exact h | with_reducible (refine ih ?_) | with_reducible (refine Flows.startFill ?_)
      | with_reducible (refine FlowsO.get ?_ (by with_reducible assumption)) | with_reducible exact FlowsO.none | with_reducible (refine FlowsO.ite ?_ ?_)
      | dsimp only | split

theorem Flows.descAt {w0 : Nat} {s0 : State} {s : State} {n : Nat} {comp : Nat} {a : DescAt} (h : Flows w0 s0 s) (hw0 : 8 ||| w0 = w0 := by first | assumption | exact parts (by assumption) (by decide)) :
    Flows w0 s0 (State.descAt s n comp a).2 := by
  unfold State.descAt
  repeat' first | with_reducible exact h | with_reducible (refine Flows.touchSegs ?_) | split

theorem Flows.issueMove {w0 : Nat} {s0 : State} {s : State} {n : Nat} {t : Nat} {k : Task} {d : FDesc} {extra : Bool} (h : Flows w0 s0 s) (hw0 : 74 ||| w0 = w0 := by first | assumption | exact parts (by assumption) (by decide)) :
    Flows w0 s0 (State.issueMove s n t k d extra) := by
  unfold State.issueMove
  repeat' first
    | with_reducible exact h | with_reducible assumption | with_reducible (refine Flows.ferry! ?_) | with_reducible (refine Flows.lookup ?_)
    | with_reducible (refine Flows.pcNext ?_) | with_reducible (refine Flows.prefetchPage ?_) | with_reducible (refine Flows.task! ?_)
    | with_reducible (refine Flows.ite ?_ ?_) | with_reducible (refine Flows.foldl ?_ ?_) | with_reducible intro _ | dsimp only | split

theorem Flows.execTileGet {w0 : Nat} {s0 : State} {core : Nat} {desc : DescAt} {s : State} (h : Flows w0 s0 s) (hw0 : 9215 ||| w0 = w0 := by first | assumption | exact parts (by assumption) (by decide)) :
    FlowsX w0 s0 (Sys2Proof.Machine.execTileGet core desc s) := by
  unfold Sys2Proof.Machine.execTileGet
  repeat' first
    | with_reducible exact h | with_reducible (refine Flows.descAt ?_) | with_reducible (refine Flows.illegal ?_) | with_reducible (refine Flows.issueMove ?_)
    | with_reducible (refine Flows.onTask ?_ ?_) | with_reducible (refine Flows.taskFault ?_) | with_reducible (refine Flows.ite ?_ ?_) | with_reducible intro _
    | dsimp only | split

theorem Flows.execTilePut {w0 : Nat} {s0 : State} {core : Nat} {desc : DescAt} {s : State} (h : Flows w0 s0 s) (hw0 : 9215 ||| w0 = w0 := by first | assumption | exact parts (by assumption) (by decide)) :
    FlowsX w0 s0 (Sys2Proof.Machine.execTilePut core desc s) := by
  unfold Sys2Proof.Machine.execTilePut
  repeat' first
    | with_reducible exact h | with_reducible (refine Flows.descAt ?_) | with_reducible (refine Flows.illegal ?_) | with_reducible (refine Flows.issueMove ?_)
    | with_reducible (refine Flows.onTask ?_ ?_) | with_reducible (refine Flows.taskFault ?_) | with_reducible (refine Flows.ite ?_ ?_) | with_reducible intro _
    | dsimp only | split

theorem Flows.taskScratch {w0 : Nat} {s0 : State} {s : State} {t : Nat} {off : Nat} {bs : List Byte} (h : Flows w0 s0 s) (hw0 : 8 ||| w0 = w0 := by first | assumption | exact parts (by assumption) (by decide)) :
    Flows w0 s0 (State.taskScratch s t off bs) := by
  unfold State.taskScratch
  repeat' first | with_reducible exact h | with_reducible (refine Flows.core! ?_) | with_reducible (refine Flows.task! ?_) | split

theorem Flows.readTaskScratch {w0 : Nat} {s0 : State} {s : State} {t : Nat} {off : Nat} {n : Nat} (h : Flows w0 s0 s) (hw0 : 8200 ||| w0 = w0 := by first | assumption | exact parts (by assumption) (by decide)) :
    Flows w0 s0 (State.readTaskScratch s t off n).2 := by
  unfold State.readTaskScratch
  repeat' first | with_reducible exact h | with_reducible (refine Flows.free2 ?_) | with_reducible (refine Flows.touchSegs ?_) | dsimp only | split

theorem Flows.moveSrc {w0 : Nat} {s0 : State} {s : State} {m : Move} {d : FDesc} {host : List Byte} (h : Flows w0 s0 s) (hw0 : 8200 ||| w0 = w0 := by first | assumption | exact parts (by assumption) (by decide)) :
    Flows w0 s0 (State.moveSrc s m d host).2 := by
  unfold State.moveSrc
  repeat' first | with_reducible exact h | with_reducible (refine Flows.readTaskScratch ?_) | split

theorem Flows.moveDst {w0 : Nat} {s0 : State} {s : State} {m : Move} {d : FDesc} {bs : List Byte} (h : Flows w0 s0 s) (hw0 : 9 ||| w0 = w0 := by first | assumption | exact parts (by assumption) (by decide)) :
    Flows w0 s0 (State.moveDst s m d bs) := by
  unfold State.moveDst
  repeat' first
    | with_reducible exact h | with_reducible (refine Flows.batch! ?_) | with_reducible (refine Flows.hostWrite ?_) | with_reducible (refine Flows.obj! ?_)
    | with_reducible (refine Flows.taskScratch ?_) | with_reducible (refine Flows.ite ?_ ?_) | split

theorem Flows.finishMove {w0 : Nat} {s0 : State} {s : State} {id : Nat} {m : Move} {status : Nat} (h : Flows w0 s0 s) (hw0 : 9215 ||| w0 = w0 := by first | assumption | exact parts (by assumption) (by decide)) :
    Flows w0 s0 (State.finishMove s id m status) := by
  unfold State.finishMove
  repeat' first
    | with_reducible exact h | with_reducible (refine Flows.count ?_) | with_reducible (refine Flows.deliver ?_) | with_reducible (refine Flows.faultTask ?_)
    | with_reducible (refine Flows.ferry! ?_) | with_reducible (refine Flows.free2 ?_) | with_reducible (refine Flows.moveDst ?_)
    | with_reducible (refine Flows.poisonBatch ?_) | with_reducible (refine Flows.task! ?_) | with_reducible (refine Flows.ite ?_ ?_) | dsimp only | split

theorem Flows.chargeFerry {w0 : Nat} {s0 : State} {s : State} {b : Nat} {bytes : Nat} (h : Flows w0 s0 s) (hw0 : 8 ||| w0 = w0 := by first | assumption | exact parts (by assumption) (by decide)) :
    Flows w0 s0 (State.chargeFerry s b bytes) := by
  unfold State.chargeFerry
  repeat' first | with_reducible exact h | with_reducible (refine Flows.batch! ?_) | with_reducible (refine Flows.chargeComp ?_) | dsimp only | split

theorem Flows.refill {w0 : Nat} {s0 : State} {s : State} {l : Level} {i : Nat} {c : Nat} (h : Flows w0 s0 s) (hw0 : 8262 ||| w0 = w0 := by first | assumption | exact parts (by assumption) (by decide)) :
    Flows w0 s0 (State.refill s l i c) := by
  unfold State.refill
  repeat' first
    | with_reducible exact h | with_reducible (refine Flows.basinUnit ?_) | with_reducible (refine Flows.count ?_) | with_reducible (refine Flows.frames! ?_)
    | with_reducible (refine Flows.logC ?_) | split

theorem Flows.moveEnds {w0 : Nat} {s0 : State} {s : State} {move : Nat} {outcome : MoveOutcome} (h : Flows w0 s0 s) (hw0 : 9215 ||| w0 = w0 := by first | assumption | exact parts (by assumption) (by decide)) :
    Flows w0 s0 (State.moveEnds s move outcome) := by
  unfold State.moveEnds
  repeat' first
    | with_reducible exact h | with_reducible (refine Flows.chargeFerry ?_) | with_reducible (refine Flows.count ?_) | with_reducible (refine Flows.ferry! ?_)
    | with_reducible (refine Flows.finishMove ?_) | with_reducible (refine Flows.moveDst ?_) | with_reducible (refine Flows.moveSrc ?_)
    | with_reducible (refine Flows.refill ?_) | with_reducible (refine FlowsO.get (Flows.startFill ?_) (by with_reducible assumption))
    | with_reducible (refine Flows.weightLoss ?_) | with_reducible (refine Flows.ite ?_ ?_) | dsimp only | split

theorem Flows.servePage {w0 : Nat} {s0 : State} {s : State} {k : Nat} {p : Nat} {frame : Nat} (h : Flows w0 s0 s) (hw0 : 64 ||| w0 = w0 := by first | assumption | exact parts (by assumption) (by decide)) :
    Flows w0 s0 (State.servePage s k p frame) := by
  unfold State.servePage
  repeat' first | with_reducible exact h | with_reducible (refine Flows.ferry! ?_)

theorem Flows.execFillComplete {w0 : Nat} {s0 : State} {frame : Nat} {outcome : MoveOutcome} {s : State} (h : Flows w0 s0 s) (hw0 : 9215 ||| w0 = w0 := by first | assumption | exact parts (by assumption) (by decide)) :
    FlowsX w0 s0 (Sys2Proof.Machine.execFillComplete frame outcome s) := by
  unfold Sys2Proof.Machine.execFillComplete
  repeat' first
    | with_reducible exact h | with_reducible (refine Flows.count ?_) | with_reducible (refine Flows.ferry! ?_) | with_reducible (refine Flows.refill ?_)
    | with_reducible (refine Flows.servePage ?_) | with_reducible (refine Flows.weightLoss ?_) | with_reducible (refine FlowsX.ok ?_)
    | with_reducible (refine Flows.ite ?_ ?_) | dsimp only | split

theorem Flows.execAgeTick {w0 : Nat} {s0 : State} {s : State} (h : Flows w0 s0 s) (hw0 : 64 ||| w0 = w0 := by first | assumption | exact parts (by assumption) (by decide)) :
    FlowsX w0 s0 (Sys2Proof.Machine.execAgeTick s) := by
  unfold Sys2Proof.Machine.execAgeTick
  repeat' first | with_reducible exact h | with_reducible (refine Flows.ferry! ?_) | with_reducible (refine FlowsX.ok ?_)

theorem Flows.execSectorReadComplete {w0 : Nat} {s0 : State} {space : Nat} {lsn : Nat} {outcome : ReadOutcome} {s : State} (h : Flows w0 s0 s) (hw0 : 9215 ||| w0 = w0 := by first | assumption | exact parts (by assumption) (by decide)) :
    FlowsX w0 s0 (Sys2Proof.Machine.execSectorReadComplete space lsn outcome s) := by
  unfold Sys2Proof.Machine.execSectorReadComplete
  repeat' first
    | with_reducible exact h | with_reducible (refine Flows.chargeLun ?_) | with_reducible (refine Flows.extentLost ?_) | with_reducible (refine Flows.readNote ?_)
    | with_reducible (refine Flows.sectorLost ?_) | with_reducible (refine Flows.weightLoss ?_) | with_reducible (refine FlowsX.ok ?_)
    | with_reducible (refine Flows.ite ?_ ?_) | dsimp only | split

theorem Flows.execBufAlloc {w0 : Nat} {s0 : State} {mb : Nat} {s : State} (h : Flows w0 s0 s) (hw0 : 859 ||| w0 = w0 := by first | assumption | exact parts (by assumption) (by decide)) :
    FlowsX w0 s0 (Sys2Proof.Machine.execBufAlloc mb s) := by
  unfold Sys2Proof.Machine.execBufAlloc
  repeat' first
    | with_reducible exact h | with_reducible assumption | with_reducible (refine FlowsO.get (Flows.allocate ?_) (by with_reducible assumption))
    | with_reducible (refine Flows.done ?_) | with_reducible (refine Flows.onMsg ?_ ?_) | with_reducible (refine Flows.refuse ?_)
    | with_reducible (refine Flows.slc! ?_) | with_reducible (refine Flows.ite ?_ ?_) | with_reducible intro _ | split

theorem Flows.execObjPrefetch {w0 : Nat} {s0 : State} {mb : Nat} {s : State} (h : Flows w0 s0 s) (hw0 : 859 ||| w0 = w0 := by first | assumption | exact parts (by assumption) (by decide)) :
    FlowsX w0 s0 (Sys2Proof.Machine.execObjPrefetch mb s) := by
  unfold Sys2Proof.Machine.execObjPrefetch
  repeat' first
    | with_reducible exact h | with_reducible assumption | with_reducible (refine Flows.done ?_) | with_reducible (refine Flows.onMsg ?_ ?_)
    | with_reducible (refine Flows.prefetchPage ?_) | with_reducible (refine Flows.refuse ?_) | with_reducible (refine Flows.reply ?_)
    | with_reducible (refine Flows.ite ?_ ?_) | with_reducible (refine Flows.foldl ?_ ?_) | with_reducible intro _ | dsimp only | split

end Sys2Proof.Machine
end

