-- ==== Sys2Proof/Laws/FlowJro.lean ====
section
/-! SUPPORT. What the operations and meanings of Machine/Jro.lean keep. -/

set_option Elab.async false

namespace Sys2Proof.Machine

theorem Flows.link! {w0 : Nat} {s0 : State} {s : State} {l : Nat} {f : Link → Link} (h : Flows w0 s0 s) (hw0 : 256 ||| w0 = w0 := by first | assumption | exact parts (by assumption) (by decide)) :
    Flows w0 s0 (State.link! s l f) := by
  unfold State.link!
  repeat' first | with_reducible exact h | with_reducible (refine Flows.trib! ?_)

theorem Flows.control {w0 : Nat} {s0 : State} {s : State} {l : Nat} {c : Ctl} (h : Flows w0 s0 s) (hw0 : 256 ||| w0 = w0 := by first | assumption | exact parts (by assumption) (by decide)) :
    Flows w0 s0 (State.control s l c) := by
  unfold State.control
  repeat' first | with_reducible exact h | with_reducible (refine Flows.link! ?_) | with_reducible (refine Flows.ite ?_ ?_)

theorem Flows.returnCredit {w0 : Nat} {s0 : State} {s : State} {inl : Nat} {pair : Nat} {units : Nat} (h : Flows w0 s0 s) (hw0 : 256 ||| w0 = w0 := by first | assumption | exact parts (by assumption) (by decide)) :
    Flows w0 s0 (State.returnCredit s inl pair units) := by
  unfold State.returnCredit
  repeat' first | with_reducible exact h | with_reducible (refine Flows.control ?_) | with_reducible (refine Flows.ite ?_ ?_)

theorem Flows.wrrStep {w0 : Nat} {s0 : State} {s : State} {l : Nat} (h : Flows w0 s0 s) (hw0 : 258 ||| w0 = w0 := by first | assumption | exact parts (by assumption) (by decide)) :
    Flows w0 s0 (State.wrrStep s l) := by
  unfold State.wrrStep
  repeat' first | with_reducible exact h | with_reducible (refine Flows.boundary ?_) | with_reducible (refine Flows.link! ?_) | with_reducible (refine Flows.ite ?_ ?_)

theorem Flows.transmit {w0 : Nat} {s0 : State} {s : State} {l : Nat} {i : Nat} (h : Flows w0 s0 s) (hw0 : 266 ||| w0 = w0 := by first | assumption | exact parts (by assumption) (by decide)) :
    Flows w0 s0 (State.transmit s l i) := by
  unfold State.transmit
  repeat' first
    | with_reducible exact h | with_reducible (refine Flows.chargeComp ?_) | with_reducible (refine Flows.chargeLink ?_) | with_reducible (refine Flows.count ?_)
    | with_reducible (refine Flows.link! ?_) | with_reducible (refine Flows.returnCredit ?_) | with_reducible (refine Flows.ite ?_ ?_) | dsimp only | split

theorem Flows.pump {w0 : Nat} {s0 : State} {s : State} {l : Nat} {x2 : Nat} (h : Flows w0 s0 s) (hw0 : 266 ||| w0 = w0 := by first | assumption | exact parts (by assumption) (by decide)) :
    Flows w0 s0 (State.pump s l x2) := by
  induction x2 generalizing s with
  | zero =>
    unfold State.pump
    repeat' first
      | with_reducible exact h | with_reducible (refine ih ?_) | with_reducible (refine Flows.transmit ?_) | with_reducible (refine Flows.wrrStep ?_)
      | with_reducible (refine Flows.ite ?_ ?_) | dsimp only | split
  | succ _ ih =>
    unfold State.pump
    repeat' first
      | with_reducible exact h | with_reducible (refine ih ?_) | with_reducible (refine Flows.transmit ?_) | with_reducible (refine Flows.wrrStep ?_)
      | with_reducible (refine Flows.ite ?_ ?_) | dsimp only | split

theorem Flows.pumpLink {w0 : Nat} {s0 : State} {s : State} {l : Nat} (h : Flows w0 s0 s) (hw0 : 266 ||| w0 = w0 := by first | assumption | exact parts (by assumption) (by decide)) :
    Flows w0 s0 (State.pumpLink s l) := by
  unfold State.pumpLink
  repeat' first | with_reducible exact h | with_reducible (refine Flows.pump ?_)

theorem Flows.flushHeld {w0 : Nat} {s0 : State} {s : State} (h : Flows w0 s0 s) (hw0 : 266 ||| w0 = w0 := by first | assumption | exact parts (by assumption) (by decide)) :
    Flows w0 s0 (State.flushHeld s) := by
  unfold State.flushHeld
  repeat' first
    | with_reducible exact h | with_reducible assumption | with_reducible (refine Flows.link! ?_) | with_reducible (refine Flows.pumpLink ?_)
    | with_reducible (refine Flows.trib! ?_) | with_reducible (refine Flows.foldl ?_ ?_) | with_reducible intro _ | split

theorem Flows.forgetIn {w0 : Nat} {s0 : State} {s : State} {l : Nat} (h : Flows w0 s0 s) (hw0 : 256 ||| w0 = w0 := by first | assumption | exact parts (by assumption) (by decide)) :
    Flows w0 s0 (State.forgetIn s l) := by
  unfold State.forgetIn
  repeat' first | with_reducible exact h | with_reducible (refine Flows.trib! ?_)

theorem Flows.leaveLink {w0 : Nat} {s0 : State} {s : State} {l : Nat} {st : LinkSt} {boundNs : Nat} {resume : Bool} (h : Flows w0 s0 s) (hw0 : 266 ||| w0 = w0 := by first | assumption | exact parts (by assumption) (by decide)) :
    Flows w0 s0 (State.leaveLink s l st boundNs resume) := by
  unfold State.leaveLink
  repeat' first
    | with_reducible exact h | with_reducible (refine Flows.count ?_) | with_reducible (refine Flows.flushHeld ?_) | with_reducible (refine Flows.forgetIn ?_)
    | with_reducible (refine Flows.link! ?_) | with_reducible (refine Flows.trib! ?_)

theorem Flows.wakeLink {w0 : Nat} {s0 : State} {s : State} {l : Nat} {tell : Bool} (h : Flows w0 s0 s) (hw0 : 266 ||| w0 = w0 := by first | assumption | exact parts (by assumption) (by decide)) :
    Flows w0 s0 (State.wakeLink s l tell) := by
  unfold State.wakeLink
  repeat' first | with_reducible exact h | with_reducible (refine Flows.control ?_) | with_reducible (refine Flows.leaveLink ?_) | with_reducible (refine Flows.ite ?_ ?_)

theorem Flows.route {w0 : Nat} {s0 : State} {s : State} {p : Packet} {inl : Nat} (h : Flows w0 s0 s) (hw0 : 266 ||| w0 = w0 := by first | assumption | exact parts (by assumption) (by decide)) :
    Flows w0 s0 (State.route s p inl) := by
  unfold State.route
  repeat' first
    | with_reducible exact h | with_reducible assumption | with_reducible (refine Flows.flushHeld ?_) | with_reducible (refine Flows.trib! ?_)
    | with_reducible (refine Flows.wakeLink ?_) | with_reducible (refine Flows.ite ?_ ?_) | with_reducible (refine Flows.foldl ?_ ?_) | with_reducible intro _

theorem Flows.peer! {w0 : Nat} {s0 : State} {s : State} {n : Nat} {f : Peer → Peer} (h : Flows w0 s0 s) (hw0 : 256 ||| w0 = w0 := by first | assumption | exact parts (by assumption) (by decide)) :
    Flows w0 s0 (State.peer! s n f) := by
  unfold State.peer!
  repeat' first | with_reducible exact h | with_reducible (refine Flows.trib! ?_)

theorem Flows.probe {w0 : Nat} {s0 : State} {s : State} {n : Nat} (h : Flows w0 s0 s) (hw0 : 266 ||| w0 = w0 := by first | assumption | exact parts (by assumption) (by decide)) :
    Flows w0 s0 (State.probe s n) := by
  unfold State.probe
  repeat' first
    | with_reducible exact h | with_reducible assumption | with_reducible (refine Flows.link! ?_) | with_reducible (refine Flows.peer! ?_)
    | with_reducible (refine Flows.pumpLink ?_) | with_reducible (refine Flows.ite ?_ ?_) | with_reducible (refine Flows.foldl ?_ ?_) | with_reducible intro _

theorem Flows.jroRead {w0 : Nat} {s0 : State} {s : State} {pl : JroPlace} {n : Nat} (h : Flows w0 s0 s) (hw0 : 8200 ||| w0 = w0 := by first | assumption | exact parts (by assumption) (by decide)) :
    Flows w0 s0 (State.jroRead s pl n).2 := by
  unfold State.jroRead
  repeat' first | with_reducible exact h | with_reducible (refine Flows.free2 ?_) | with_reducible (refine Flows.readTaskScratch ?_) | dsimp only | split

theorem Flows.putSeen {w0 : Nat} {s0 : State} {s : State} {p : Packet} {pl : JroPlace} (h : Flows w0 s0 s) (hw0 : 8 ||| w0 = w0 := by first | assumption | exact parts (by assumption) (by decide)) :
    Flows w0 s0 (State.putSeen s p pl) := by
  unfold State.putSeen
  repeat' first | with_reducible exact h | with_reducible (refine Flows.task! ?_) | dsimp only | split

theorem Flows.jroWrite {w0 : Nat} {s0 : State} {s : State} {pl : JroPlace} {bs : List Byte} (h : Flows w0 s0 s) (hw0 : 8 ||| w0 = w0 := by first | assumption | exact parts (by assumption) (by decide)) :
    Flows w0 s0 (State.jroWrite s pl bs) := by
  unfold State.jroWrite
  repeat' first | with_reducible exact h | with_reducible (refine Flows.obj! ?_) | with_reducible (refine Flows.taskScratch ?_) | split

theorem Flows.jroAtomic {w0 : Nat} {s0 : State} {s : State} {p : Packet} (h : Flows w0 s0 s) (hw0 : 8200 ||| w0 = w0 := by first | assumption | exact parts (by assumption) (by decide)) :
    Flows w0 s0 (State.jroAtomic s p).2 := by
  unfold State.jroAtomic
  repeat' first
    | with_reducible exact h | with_reducible (refine Flows.free2 ?_) | with_reducible (refine Flows.jroRead ?_) | with_reducible (refine Flows.jroWrite ?_)
    | with_reducible (refine Flows.slc! ?_) | dsimp only | split

theorem Flows.mirrorPut {w0 : Nat} {s0 : State} {s : State} {p : Packet} (h : Flows w0 s0 s) (hw0 : 8 ||| w0 = w0 := by first | assumption | exact parts (by assumption) (by decide)) :
    Flows w0 s0 (State.mirrorPut s p).2 := by
  unfold State.mirrorPut
  repeat' first
    | with_reducible exact h | with_reducible (refine FlowsO.get (Flows.allocate ?_) (by with_reducible assumption)) | with_reducible (refine Flows.slc! ?_)
    | dsimp only | split

theorem Flows.jroPerform {w0 : Nat} {s0 : State} {s : State} {p : Packet} (h : Flows w0 s0 s) (hw0 : 8456 ||| w0 = w0 := by first | assumption | exact parts (by assumption) (by decide)) :
    Flows w0 s0 (State.jroPerform s p).2 := by
  unfold State.jroPerform
  repeat' first
    | with_reducible exact h | with_reducible (refine Flows.deliver ?_) | with_reducible (refine Flows.jroAtomic ?_) | with_reducible (refine Flows.jroRead ?_)
    | with_reducible (refine Flows.jroWrite ?_) | with_reducible (refine Flows.mirrorPut ?_) | with_reducible (refine Flows.putSeen ?_)
    | with_reducible (refine Flows.trib! ?_) | dsimp only | split

theorem Flows.finishOp {w0 : Nat} {s0 : State} {s : State} {id : Nat} {o : JroOp} {status : Nat} {value : Nat} (h : Flows w0 s0 s) (hw0 : 1023 ||| w0 = w0 := by first | assumption | exact parts (by assumption) (by decide)) :
    Flows w0 s0 (State.finishOp s id o status value) := by
  unfold State.finishOp
  repeat' first
    | with_reducible exact h | with_reducible (refine Flows.deliver ?_) | with_reducible (refine Flows.faultTask ?_) | with_reducible (refine Flows.task! ?_)
    | with_reducible (refine Flows.trib! ?_) | with_reducible (refine Flows.ite ?_ ?_) | dsimp only | split

theorem Flows.sendFlow {w0 : Nat} {s0 : State} {s : State} {ps : List Packet} (h : Flows w0 s0 s) (hw0 : 266 ||| w0 = w0 := by first | assumption | exact parts (by assumption) (by decide)) :
    Flows w0 s0 (State.sendFlow s ps) := by
  unfold State.sendFlow
  repeat' first
    | with_reducible exact h | with_reducible assumption | with_reducible (refine Flows.route ?_) | with_reducible (refine Flows.trib! ?_)
    | with_reducible (refine Flows.foldl ?_ ?_) | with_reducible intro _

theorem Flows.answerPkt {w0 : Nat} {s0 : State} {s : State} {p : Packet} {status : Nat} {a : JroAns} (h : Flows w0 s0 s) (hw0 : 266 ||| w0 = w0 := by first | assumption | exact parts (by assumption) (by decide)) :
    Flows w0 s0 (State.answerPkt s p status a) := by
  unfold State.answerPkt
  repeat' first | with_reducible exact h | with_reducible (refine Flows.route ?_)

theorem Flows.meshOp {w0 : Nat} {s0 : State} {s : State} {x1 : List Packet} {x2 : JroAns} (h : Flows w0 s0 s) (hw0 : 8456 ||| w0 = w0 := by first | assumption | exact parts (by assumption) (by decide)) :
    Flows w0 s0 (State.meshOp s x1 x2).2 := by
  induction x1 generalizing s x2 with
  | nil =>
    unfold State.meshOp
    repeat' first | with_reducible exact h | with_reducible (refine ih ?_) | with_reducible (refine Flows.jroPerform ?_)
  | cons _ _ ih =>
    unfold State.meshOp
    repeat' first | with_reducible exact h | with_reducible (refine ih ?_) | with_reducible (refine Flows.jroPerform ?_)

theorem Flows.issueOp {w0 : Nat} {s0 : State} {s : State} {t : Nat} {k : Task} {base : Packet} {total : Nat} {data : List Byte} {localAt : Nat} (h : Flows w0 s0 s) (hw0 : 9215 ||| w0 = w0 := by first | assumption | exact parts (by assumption) (by decide)) :
    Flows w0 s0 (State.issueOp s t k base total data localAt) := by
  unfold State.issueOp
  repeat' first
    | with_reducible exact h | with_reducible (refine Flows.finishOp ?_) | with_reducible (refine Flows.meshOp ?_) | with_reducible (refine Flows.sendFlow ?_)
    | with_reducible (refine Flows.task! ?_) | with_reducible (refine Flows.taskScratch ?_) | with_reducible (refine Flows.trib! ?_)
    | with_reducible (refine Flows.ite ?_ ?_)

theorem Flows.fwOpAt {w0 : Nat} {s0 : State} {s : State} {comp : Nat} {op : Nat} {cls : Nat} {dst : Nat} {off : Nat} {owner : Nat} {a : Nat} {b : Nat} {total : Nat} {data : List Byte} (h : Flows w0 s0 s) (hw0 : 266 ||| w0 = w0 := by first | assumption | exact parts (by assumption) (by decide)) :
    Flows w0 s0 (State.fwOpAt s comp op cls dst off owner a b total data) := by
  unfold State.fwOpAt
  repeat' first | with_reducible exact h | with_reducible (refine Flows.sendFlow ?_) | with_reducible (refine Flows.trib! ?_)

theorem Flows.fwOp {w0 : Nat} {s0 : State} {s : State} {comp : Nat} {op : Nat} {cls : Nat} {dst : Nat} {region : Nat} {owner : Nat} {a : Nat} {b : Nat} {total : Nat} {data : List Byte} (h : Flows w0 s0 s) (hw0 : 266 ||| w0 = w0 := by first | assumption | exact parts (by assumption) (by decide)) :
    Flows w0 s0 (State.fwOp s comp op cls dst region owner a b total data) := by
  unfold State.fwOp
  repeat' first | with_reducible exact h | with_reducible (refine Flows.fwOpAt ?_)

theorem Flows.fwGet {w0 : Nat} {s0 : State} {s : State} {comp : Nat} {dst : Nat} {batch : Nat} {bytes : Nat} (h : Flows w0 s0 s) (hw0 : 266 ||| w0 = w0 := by first | assumption | exact parts (by assumption) (by decide)) :
    Flows w0 s0 (State.fwGet s comp dst batch bytes) := by
  unfold State.fwGet
  repeat' first | with_reducible exact h | with_reducible (refine Flows.fwOpAt ?_)

theorem Flows.onJro {w0 : Nat} {s0 : State} {s : State} {core : Nat} {a : JroArgs} {n : Nat} {f : Nat → Task → State} (h : Flows w0 s0 s) (hf : ∀ y0 y1, Flows w0 s0 (f y0 y1)) (hw0 : 9215 ||| w0 = w0 := by first | assumption | exact parts (by assumption) (by decide)) :
    FlowsX w0 s0 (Sys2Proof.Machine.onJro s core a n f) := by
  unfold Sys2Proof.Machine.onJro
  repeat' first
    | with_reducible exact h | with_reducible (exact hf _ _ ) | with_reducible (refine Flows.illegal ?_) | with_reducible (refine Flows.onTask ?_ ?_)
    | with_reducible (refine Flows.taskFault ?_) | with_reducible (refine Flows.ite ?_ ?_) | with_reducible intro _

theorem Flows.jroIssue {w0 : Nat} {s0 : State} {s : State} {core : Nat} {t : Nat} {k : Task} {base : Packet} {total : Nat} {data : List Byte} {localAt : Nat} (h : Flows w0 s0 s) (hw0 : 9215 ||| w0 = w0 := by first | assumption | exact parts (by assumption) (by decide)) :
    Flows w0 s0 (State.jroIssue s core t k base total data localAt) := by
  unfold State.jroIssue
  repeat' first
    | with_reducible exact h | with_reducible (refine Flows.count ?_) | with_reducible (refine Flows.issueOp ?_) | with_reducible (refine Flows.pcNext ?_)
    | with_reducible (refine Flows.setResult ?_)

theorem Flows.jroSend {w0 : Nat} {s0 : State} {s : State} {core : Nat} {t : Nat} {k : Task} {base : Packet} {off : Nat} {n : Nat} (h : Flows w0 s0 s) (hw0 : 9215 ||| w0 = w0 := by first | assumption | exact parts (by assumption) (by decide)) :
    Flows w0 s0 (State.jroSend s core t k base off n) := by
  unfold State.jroSend
  repeat' first
    | with_reducible exact h | with_reducible (refine Flows.count ?_) | with_reducible (refine Flows.deliver ?_) | with_reducible (refine Flows.jroIssue ?_)
    | with_reducible (refine Flows.pcNext ?_) | with_reducible (refine Flows.setResult ?_) | with_reducible (refine Flows.touchSegs ?_)
    | with_reducible (refine Flows.trib! ?_) | with_reducible (refine Flows.ite ?_ ?_)

theorem Flows.execJroPut {w0 : Nat} {s0 : State} {core : Nat} {a : JroArgs} {s : State} (h : Flows w0 s0 s) (hw0 : 9215 ||| w0 = w0 := by first | assumption | exact parts (by assumption) (by decide)) :
    FlowsX w0 s0 (Sys2Proof.Machine.execJroPut core a s) := by
  unfold Sys2Proof.Machine.execJroPut
  repeat' first | with_reducible exact h | with_reducible (refine Flows.jroSend ?_) | with_reducible (refine Flows.onJro ?_ ?_) | with_reducible intro _

theorem Flows.execJroGet {w0 : Nat} {s0 : State} {core : Nat} {a : JroArgs} {s : State} (h : Flows w0 s0 s) (hw0 : 9215 ||| w0 = w0 := by first | assumption | exact parts (by assumption) (by decide)) :
    FlowsX w0 s0 (Sys2Proof.Machine.execJroGet core a s) := by
  unfold Sys2Proof.Machine.execJroGet
  repeat' first | with_reducible exact h | with_reducible (refine Flows.jroIssue ?_) | with_reducible (refine Flows.onJro ?_ ?_) | with_reducible intro _

theorem Flows.execJroAtom {w0 : Nat} {s0 : State} {core : Nat} {a : JroArgs} {s : State} (h : Flows w0 s0 s) (hw0 : 9215 ||| w0 = w0 := by first | assumption | exact parts (by assumption) (by decide)) :
    FlowsX w0 s0 (Sys2Proof.Machine.execJroAtom core a s) := by
  unfold Sys2Proof.Machine.execJroAtom
  repeat' first | with_reducible exact h | with_reducible (refine Flows.jroIssue ?_) | with_reducible (refine Flows.onJro ?_ ?_) | with_reducible intro _

theorem Flows.execJroNput {w0 : Nat} {s0 : State} {core : Nat} {a : JroArgs} {s : State} (h : Flows w0 s0 s) (hw0 : 9215 ||| w0 = w0 := by first | assumption | exact parts (by assumption) (by decide)) :
    FlowsX w0 s0 (Sys2Proof.Machine.execJroNput core a s) := by
  unfold Sys2Proof.Machine.execJroNput
  repeat' first | with_reducible exact h | with_reducible (refine Flows.jroSend ?_) | with_reducible (refine Flows.onJro ?_ ?_) | with_reducible intro _

theorem Flows.execJroTopk {w0 : Nat} {s0 : State} {core : Nat} {a : JroArgs} {s : State} (h : Flows w0 s0 s) (hw0 : 9215 ||| w0 = w0 := by first | assumption | exact parts (by assumption) (by decide)) :
    FlowsX w0 s0 (Sys2Proof.Machine.execJroTopk core a s) := by
  unfold Sys2Proof.Machine.execJroTopk
  repeat' first | with_reducible exact h | with_reducible (refine Flows.jroSend ?_) | with_reducible (refine Flows.onJro ?_ ?_) | with_reducible intro _

end Sys2Proof.Machine
end

