-- ==== Sys2Proof/Laws/FlowLock.lean ====
section
/-! SUPPORT. What the operations and meanings of Machine/Lock.lean keep. -/

set_option Elab.async false

namespace Sys2Proof.Machine

theorem Flows.send {w0 : Nat} {s0 : State} {s : State} {node : Nat} {cls : Nat} {f : FwMsg} (h : Flows w0 s0 s) (hw0 : 256 ||| w0 = w0 := by first | assumption | exact parts (by assumption) (by decide)) :
    Flows w0 s0 (State.send s node cls f) := by
  unfold State.send
  repeat' first | with_reducible exact h | with_reducible (refine Flows.trib! ?_)

theorem Flows.sendUpd {w0 : Nat} {s0 : State} {s : State} {node : Nat} {k : Nat} {f : FwMsg} (h : Flows w0 s0 s) (hw0 : 266 ||| w0 = w0 := by first | assumption | exact parts (by assumption) (by decide)) :
    Flows w0 s0 (State.sendUpd s node k f) := by
  unfold State.sendUpd
  repeat' first
    | with_reducible exact h | with_reducible (refine Flows.fwOp ?_) | with_reducible (refine Flows.send ?_) | with_reducible (refine Flows.trib! ?_)
    | with_reducible (refine Flows.ite ?_ ?_)

theorem Flows.updSent {w0 : Nat} {s0 : State} {s : State} {id : Nat} {st : Nat} (h : Flows w0 s0 s) (hw0 : 266 ||| w0 = w0 := by first | assumption | exact parts (by assumption) (by decide)) :
    Flows w0 s0 (State.updSent s id st) := by
  unfold State.updSent
  repeat' first
    | with_reducible exact h | with_reducible (refine Flows.sendUpd ?_) | with_reducible (refine Flows.trib! ?_) | with_reducible (refine Flows.ite ?_ ?_)
    | dsimp only | split

theorem Flows.raiseStable {w0 : Nat} {s0 : State} {s : State} {k : Nat} {e : Nat} (h : Flows w0 s0 s) (hw0 : 16 ||| w0 = w0 := by first | assumption | exact parts (by assumption) (by decide)) :
    Flows w0 s0 (State.raiseStable s k e) := by
  unfold State.raiseStable
  repeat' first | with_reducible exact h | with_reducible (refine Flows.coll! ?_)

theorem Flows.pruneRecs {w0 : Nat} {s0 : State} {s : State} {k : Nat} (h : Flows w0 s0 s) (hw0 : 16 ||| w0 = w0 := by first | assumption | exact parts (by assumption) (by decide)) :
    Flows w0 s0 (State.pruneRecs s k) := by
  unfold State.pruneRecs
  repeat' first | with_reducible exact h | with_reducible (refine Flows.coll! ?_) | split

theorem Flows.epochDone {w0 : Nat} {s0 : State} {s : State} {k : Nat} {e : Nat} (h : Flows w0 s0 s) (hw0 : 16 ||| w0 = w0 := by first | assumption | exact parts (by assumption) (by decide)) :
    Flows w0 s0 (State.epochDone s k e) := by
  unfold State.epochDone
  repeat' first
    | with_reducible exact h | with_reducible (refine Flows.coll! ?_) | with_reducible (refine Flows.pruneRecs ?_) | with_reducible (refine Flows.raiseStable ?_)
    | dsimp only | split

theorem Flows.grantEpoch {w0 : Nat} {s0 : State} {s : State} {k : Nat} {coord : Nat} {seq : Nat} (h : Flows w0 s0 s) (hw0 : 22 ||| w0 = w0 := by first | assumption | exact parts (by assumption) (by decide)) :
    FlowsP w0 s0 (State.grantEpoch s k coord seq) := by
  unfold State.grantEpoch
  repeat' first
    | with_reducible exact h | with_reducible (refine Flows.coll! ?_) | with_reducible (refine Flows.logC ?_) | with_reducible (refine Flows.ite ?_ ?_)
    | with_reducible exact FlowsP.none | with_reducible (refine FlowsP.some ?_) | with_reducible (refine FlowsP.ite ?_ ?_) | dsimp only | split

theorem Flows.reserve {w0 : Nat} {s0 : State} {s : State} {comp : Nat} {n : Nat × Nat × Nat} (h : Flows w0 s0 s) (hw0 : 8 ||| w0 = w0 := by first | assumption | exact parts (by assumption) (by decide)) :
    FlowsO w0 s0 (State.reserve s comp n) := by
  unfold State.reserve
  repeat' first
    | with_reducible exact h | with_reducible (refine Flows.allocate ?_) | with_reducible (refine FlowsO.get (Flows.allocate ?_) (by with_reducible assumption))
    | with_reducible (refine FlowsO.get ?_ (by with_reducible assumption)) | with_reducible (refine FlowsO.bind ?_) | with_reducible intro _

theorem Flows.unreserve {w0 : Nat} {s0 : State} {s : State} {comp : Nat} {n : Nat × Nat × Nat} (h : Flows w0 s0 s) (hw0 : 8 ||| w0 = w0 := by first | assumption | exact parts (by assumption) (by decide)) :
    Flows w0 s0 (State.unreserve s comp n) := by
  unfold State.unreserve
  repeat' first | with_reducible exact h | with_reducible (refine Flows.release ?_)

theorem Flows.publish {w0 : Nat} {s0 : State} {s : State} {key : Nat} {i : Nat} (h : Flows w0 s0 s) (hw0 : 282 ||| w0 = w0 := by first | assumption | exact parts (by assumption) (by decide)) :
    Flows w0 s0 (State.publish s key i) := by
  unfold State.publish
  repeat' first
    | with_reducible exact h | with_reducible assumption | with_reducible (refine Flows.coll! ?_) | with_reducible (refine Flows.count ?_)
    | with_reducible (refine Flows.fwOp ?_) | with_reducible (refine Flows.send ?_) | with_reducible (refine Flows.foldl ?_ ?_) | with_reducible intro _ | dsimp only
    | split

theorem Flows.publishAll {w0 : Nat} {s0 : State} {s : State} {key : Nat} (h : Flows w0 s0 s) (hw0 : 282 ||| w0 = w0 := by first | assumption | exact parts (by assumption) (by decide)) :
    Flows w0 s0 (State.publishAll s key) := by
  unfold State.publishAll
  repeat' first
    | with_reducible exact h | with_reducible assumption | with_reducible (refine Flows.publish ?_) | with_reducible (refine Flows.ite ?_ ?_)
    | with_reducible (refine Flows.foldl ?_ ?_) | with_reducible intro _ | split

theorem Flows.pubAck {w0 : Nat} {s0 : State} {s : State} {key : Nat} {seq : Nat} {node : Nat} (h : Flows w0 s0 s) (hw0 : 16 ||| w0 = w0 := by first | assumption | exact parts (by assumption) (by decide)) :
    Flows w0 s0 (State.pubAck s key seq node) := by
  unfold State.pubAck
  repeat' first | with_reducible exact h | with_reducible (refine Flows.coll! ?_)

theorem Flows.source! {w0 : Nat} {s0 : State} {s : State} {k : Nat} {n : Nat} {f : SourceSums → SourceSums} (h : Flows w0 s0 s) (hw0 : 16 ||| w0 = w0 := by first | assumption | exact parts (by assumption) (by decide)) :
    Flows w0 s0 (State.source! s k n f) := by
  unfold State.source!
  repeat' first | with_reducible exact h | with_reducible (refine Flows.coll! ?_)

theorem Flows.askResync {w0 : Nat} {s0 : State} {s : State} {k : Nat} {n : Nat} (h : Flows w0 s0 s) (hw0 : 282 ||| w0 = w0 := by first | assumption | exact parts (by assumption) (by decide)) :
    Flows w0 s0 (State.askResync s k n) := by
  unfold State.askResync
  repeat' first | with_reducible exact h | with_reducible (refine Flows.fwOpAt ?_) | with_reducible (refine Flows.send ?_) | with_reducible (refine Flows.source! ?_)

theorem Flows.askFirst {w0 : Nat} {s0 : State} {s : State} {k : Nat} {n : Nat} (h : Flows w0 s0 s) (hw0 : 282 ||| w0 = w0 := by first | assumption | exact parts (by assumption) (by decide)) :
    Flows w0 s0 (State.askFirst s k n) := by
  unfold State.askFirst
  repeat' first | with_reducible exact h | with_reducible (refine Flows.askResync ?_) | with_reducible (refine Flows.source! ?_)

theorem Flows.publishGrown {w0 : Nat} {s0 : State} {s : State} {key : Nat} (h : Flows w0 s0 s) (hw0 : 282 ||| w0 = w0 := by first | assumption | exact parts (by assumption) (by decide)) :
    Flows w0 s0 (State.publishGrown s key) := by
  unfold State.publishGrown
  repeat' first
    | with_reducible exact h | with_reducible assumption | with_reducible (refine Flows.publish ?_) | with_reducible (refine Flows.ite ?_ ?_)
    | with_reducible (refine Flows.foldl ?_ ?_) | with_reducible intro _ | split

theorem Flows.repairTest {w0 : Nat} {s0 : State} {s : State} {key : Nat} {r : Nat} (h : Flows w0 s0 s) (hw0 : 16 ||| w0 = w0 := by first | assumption | exact parts (by assumption) (by decide)) :
    Flows w0 s0 (State.repairTest s key r) := by
  unfold State.repairTest
  repeat' first | with_reducible exact h | with_reducible (refine Flows.search! ?_) | with_reducible (refine Flows.ite ?_ ?_) | dsimp only | split

theorem Flows.queueLink {w0 : Nat} {s0 : State} {s : State} {key : Nat} {i : Nat} (h : Flows w0 s0 s) (hw0 : 18 ||| w0 = w0 := by first | assumption | exact parts (by assumption) (by decide)) :
    Flows w0 s0 (State.queueLink s key i) := by
  unfold State.queueLink
  repeat' first
    | with_reducible exact h | with_reducible (refine Flows.coll! ?_) | with_reducible (refine Flows.count ?_) | with_reducible (refine Flows.search! ?_)
    | with_reducible (refine Flows.ite ?_ ?_)

theorem Flows.freeSlot {w0 : Nat} {s0 : State} {s : State} {key : Nat} {i : Nat} (h : Flows w0 s0 s) (hw0 : 146 ||| w0 = w0 := by first | assumption | exact parts (by assumption) (by decide)) :
    Flows w0 s0 (State.freeSlot s key i) := by
  unfold State.freeSlot
  repeat' first | with_reducible exact h | with_reducible (refine Flows.coll! ?_) | with_reducible (refine Flows.discardAll ?_) | dsimp only | split

end Sys2Proof.Machine
end

