-- ==== Sys2Proof/Laws/FlowCollections.lean ====
section
/-! SUPPORT. What the operations and meanings of Machine/Collections.lean keep. -/

set_option Elab.async false

namespace Sys2Proof.Machine

theorem Flows.collDone {w0 : Nat} {s0 : State} {s : State} {m : Msg} {k : Nat} {rest : List Byte} (h : Flows w0 s0 s) (hw0 : 3 ||| w0 = w0 := by first | assumption | exact parts (by assumption) (by decide)) :
    Flows w0 s0 (State.collDone s m k rest) := by
  unfold State.collDone
  repeat' first | with_reducible exact h | with_reducible (refine Flows.reply ?_)

theorem Flows.collRefuse {w0 : Nat} {s0 : State} {s : State} {m : Msg} {k : Nat} {reason : Nat} (h : Flows w0 s0 s) (hw0 : 3 ||| w0 = w0 := by first | assumption | exact parts (by assumption) (by decide)) :
    Flows w0 s0 (State.collRefuse s m k reason) := by
  unfold State.collRefuse
  repeat' first | with_reducible exact h | with_reducible (refine Flows.reply ?_)

theorem Flows.onColl {w0 : Nat} {s0 : State} {s : State} {m : Msg} {reservedOk : Bool} {f : Nat → Coll → State} (h : Flows w0 s0 s) (hf : ∀ y0 y1, Flows w0 s0 (f y0 y1)) (hw0 : 3 ||| w0 = w0 := by first | assumption | exact parts (by assumption) (by decide)) :
    Flows w0 s0 (State.onColl s m reservedOk f) := by
  unfold State.onColl
  repeat' first
    | with_reducible exact h | with_reducible (exact hf _ _ ) | with_reducible (refine Flows.collRefuse ?_) | with_reducible (refine Flows.reply ?_)
    | with_reducible (refine Flows.ite ?_ ?_) | dsimp only | split

theorem Flows.execCollCreate {w0 : Nat} {s0 : State} {mb : Nat} {s : State} (h : Flows w0 s0 s) (hw0 : 987 ||| w0 = w0 := by first | assumption | exact parts (by assumption) (by decide)) :
    FlowsX w0 s0 (Sys2Proof.Machine.execCollCreate mb s) := by
  unfold Sys2Proof.Machine.execCollCreate
  repeat' first
    | with_reducible exact h | with_reducible assumption | with_reducible (refine Flows.askFirst ?_) | with_reducible (refine Flows.collDone ?_)
    | with_reducible (refine Flows.collRefuse ?_) | with_reducible (refine Flows.delta! ?_) | with_reducible (refine Flows.onMsg ?_ ?_)
    | with_reducible (refine Flows.reply ?_) | with_reducible (refine FlowsO.get (Flows.reserve ?_) (by with_reducible assumption))
    | with_reducible (refine Flows.search! ?_) | with_reducible (refine Flows.ite ?_ ?_) | with_reducible (refine Flows.foldl ?_ ?_) | with_reducible intro _
    | dsimp only | split

theorem Flows.execCollFreeze {w0 : Nat} {s0 : State} {mb : Nat} {s : State} (h : Flows w0 s0 s) (hw0 : 859 ||| w0 = w0 := by first | assumption | exact parts (by assumption) (by decide)) :
    FlowsX w0 s0 (Sys2Proof.Machine.execCollFreeze mb s) := by
  unfold Sys2Proof.Machine.execCollFreeze
  repeat' first
    | with_reducible exact h | with_reducible assumption | with_reducible (refine Flows.coll! ?_) | with_reducible (refine Flows.collRefuse ?_)
    | with_reducible (refine Flows.onColl ?_ ?_) | with_reducible (refine Flows.onMsg ?_ ?_) | with_reducible (refine Flows.ite ?_ ?_) | with_reducible intro _

theorem Flows.execFreezeSet {w0 : Nat} {s0 : State} {coll : Nat} {s : State} (h : Flows w0 s0 s) (hw0 : 147 ||| w0 = w0 := by first | assumption | exact parts (by assumption) (by decide)) :
    FlowsX w0 s0 (Sys2Proof.Machine.execFreezeSet coll s) := by
  unfold Sys2Proof.Machine.execFreezeSet
  repeat' first
    | with_reducible exact h | with_reducible (refine Flows.coll! ?_) | with_reducible (refine Flows.collDone ?_)
    | with_reducible (refine FlowsP.get (Flows.sealColl ?_) (by with_reducible assumption)) | with_reducible (refine FlowsX.ok ?_)
    | with_reducible (refine Flows.ite ?_ ?_) | dsimp only | split

theorem Flows.abandonRecode {w0 : Nat} {s0 : State} {s : State} {k : Nat} (h : Flows w0 s0 s) (hw0 : 27 ||| w0 = w0 := by first | assumption | exact parts (by assumption) (by decide)) :
    Flows w0 s0 (State.abandonRecode s k) := by
  unfold State.abandonRecode
  repeat' first
    | with_reducible exact h | with_reducible (refine Flows.coll! ?_) | with_reducible (refine Flows.collRefuse ?_) | with_reducible (refine Flows.unreserve ?_)
    | with_reducible (refine Flows.ite ?_ ?_) | dsimp only | split

theorem Flows.execCollDrop {w0 : Nat} {s0 : State} {mb : Nat} {s : State} (h : Flows w0 s0 s) (hw0 : 859 ||| w0 = w0 := by first | assumption | exact parts (by assumption) (by decide)) :
    FlowsX w0 s0 (Sys2Proof.Machine.execCollDrop mb s) := by
  unfold Sys2Proof.Machine.execCollDrop
  repeat' first
    | with_reducible exact h | with_reducible assumption | with_reducible (refine Flows.abandonRecode ?_) | with_reducible (refine Flows.coll! ?_)
    | with_reducible (refine Flows.collRefuse ?_) | with_reducible (refine Flows.onColl ?_ ?_) | with_reducible (refine Flows.onMsg ?_ ?_)
    | with_reducible (refine Flows.ite ?_ ?_) | with_reducible intro _

theorem Flows.leaveRetain {w0 : Nat} {s0 : State} {s : State} {k : Nat} (h : Flows w0 s0 s) (hw0 : 2 ||| w0 = w0 := by first | assumption | exact parts (by assumption) (by decide)) :
    Flows w0 s0 (State.leaveRetain s k) := by
  unfold State.leaveRetain
  repeat' first | with_reducible exact h | with_reducible (refine Flows.boundary ?_)

theorem Flows.execDropComplete {w0 : Nat} {s0 : State} {coll : Nat} {s : State} (h : Flows w0 s0 s) (hw0 : 219 ||| w0 = w0 := by first | assumption | exact parts (by assumption) (by decide)) :
    FlowsX w0 s0 (Sys2Proof.Machine.execDropComplete coll s) := by
  unfold Sys2Proof.Machine.execDropComplete
  repeat' first
    | with_reducible exact h | with_reducible assumption | with_reducible (refine Flows.collDone ?_) | with_reducible (refine Flows.collRefuse ?_)
    | with_reducible (refine Flows.discardAll ?_) | with_reducible (refine Flows.ferry! ?_) | with_reducible (refine Flows.leaveRetain ?_)
    | with_reducible (refine Flows.search! ?_) | with_reducible (refine Flows.unreserve ?_) | with_reducible (refine FlowsX.ok ?_)
    | with_reducible (refine Flows.ite ?_ ?_) | with_reducible (refine Flows.foldl ?_ ?_) | with_reducible intro _ | dsimp only | split

theorem Flows.finishRecode {w0 : Nat} {s0 : State} {s : State} {k : Nat} (h : Flows w0 s0 s) (hw0 : 27 ||| w0 = w0 := by first | assumption | exact parts (by assumption) (by decide)) :
    Flows w0 s0 (State.finishRecode s k) := by
  unfold State.finishRecode
  repeat' first
    | with_reducible exact h | with_reducible (refine Flows.coll! ?_) | with_reducible (refine Flows.collDone ?_) | with_reducible (refine Flows.unreserve ?_)
    | with_reducible (refine Flows.ite ?_ ?_) | dsimp only | split

theorem Flows.execCollRecode {w0 : Nat} {s0 : State} {mb : Nat} {s : State} (h : Flows w0 s0 s) (hw0 : 859 ||| w0 = w0 := by first | assumption | exact parts (by assumption) (by decide)) :
    FlowsX w0 s0 (Sys2Proof.Machine.execCollRecode mb s) := by
  unfold Sys2Proof.Machine.execCollRecode
  repeat' first
    | with_reducible exact h | with_reducible assumption | with_reducible (refine Flows.coll! ?_) | with_reducible (refine Flows.collRefuse ?_)
    | with_reducible (refine Flows.finishRecode ?_) | with_reducible (refine Flows.onColl ?_ ?_) | with_reducible (refine Flows.onMsg ?_ ?_)
    | with_reducible (refine FlowsO.get (Flows.reserve ?_) (by with_reducible assumption)) | with_reducible (refine Flows.ite ?_ ?_) | with_reducible intro _ | split

theorem Flows.execRecodeReachSwitch {w0 : Nat} {s0 : State} {coll : Nat} {reach : Nat} {s : State} (h : Flows w0 s0 s) (hw0 : 27 ||| w0 = w0 := by first | assumption | exact parts (by assumption) (by decide)) :
    FlowsX w0 s0 (Sys2Proof.Machine.execRecodeReachSwitch coll reach s) := by
  unfold Sys2Proof.Machine.execRecodeReachSwitch
  repeat' first
    | with_reducible exact h | with_reducible (refine Flows.chargeNode ?_) | with_reducible (refine Flows.coll! ?_) | with_reducible (refine Flows.finishRecode ?_)
    | with_reducible (refine FlowsX.ok ?_) | with_reducible (refine Flows.ite ?_ ?_) | dsimp only | split

theorem Flows.execOldReachStorageFree {w0 : Nat} {s0 : State} {coll : Nat} {reach : Nat} {s : State} (h : Flows w0 s0 s) (hw0 : 27 ||| w0 = w0 := by first | assumption | exact parts (by assumption) (by decide)) :
    FlowsX w0 s0 (Sys2Proof.Machine.execOldReachStorageFree coll reach s) := by
  unfold Sys2Proof.Machine.execOldReachStorageFree
  repeat' first
    | with_reducible exact h | with_reducible (refine Flows.coll! ?_) | with_reducible (refine Flows.finishRecode ?_) | with_reducible (refine FlowsX.ok ?_)
    | with_reducible (refine Flows.ite ?_ ?_) | split

theorem Flows.execCollPlace {w0 : Nat} {s0 : State} {mb : Nat} {s : State} (h : Flows w0 s0 s) (hw0 : 859 ||| w0 = w0 := by first | assumption | exact parts (by assumption) (by decide)) :
    FlowsX w0 s0 (Sys2Proof.Machine.execCollPlace mb s) := by
  unfold Sys2Proof.Machine.execCollPlace
  repeat' first
    | with_reducible exact h | with_reducible assumption | with_reducible (refine Flows.coll! ?_) | with_reducible (refine Flows.collDone ?_)
    | with_reducible (refine Flows.collRefuse ?_) | with_reducible (refine Flows.onColl ?_ ?_) | with_reducible (refine Flows.onMsg ?_ ?_)
    | with_reducible (refine Flows.ite ?_ ?_) | with_reducible intro _

theorem Flows.execCollInfo {w0 : Nat} {s0 : State} {mb : Nat} {s : State} (h : Flows w0 s0 s) (hw0 : 859 ||| w0 = w0 := by first | assumption | exact parts (by assumption) (by decide)) :
    FlowsX w0 s0 (Sys2Proof.Machine.execCollInfo mb s) := by
  unfold Sys2Proof.Machine.execCollInfo
  repeat' first
    | with_reducible exact h | with_reducible assumption | with_reducible (refine Flows.collDone ?_) | with_reducible (refine Flows.onColl ?_ ?_)
    | with_reducible (refine Flows.onMsg ?_ ?_) | with_reducible intro _

end Sys2Proof.Machine
end

