-- ==== Sys2Proof/Laws/FlowUpdates.lean ====
section
/-! SUPPORT. What the operations and meanings of Machine/Updates.lean keep. -/

set_option Elab.async false

namespace Sys2Proof.Machine

theorem Flows.tryRoot {w0 : Nat} {s0 : State} {s : State} {b : Nat} (h : Flows w0 s0 s) (hw0 : 10 ||| w0 = w0 := by first | assumption | exact parts (by assumption) (by decide)) :
    Flows w0 s0 (State.tryRoot s b) := by
  unfold State.tryRoot
  repeat' first
    | with_reducible exact h | with_reducible (refine Flows.batch! ?_) | with_reducible (refine Flows.count ?_) | with_reducible (refine Flows.takeCtx ?_)
    | with_reducible (refine Flows.ite ?_ ?_) | with_reducible (refine Flows.ofSnd ?_ (by with_reducible assumption)) | dsimp only | split

theorem Flows.enroll {w0 : Nat} {s0 : State} {s : State} {m : Msg} {level : Nat} {tag : Nat} {coll : Option Nat} {objs : List Nat} (h : Flows w0 s0 s) (hw0 : 10 ||| w0 = w0 := by first | assumption | exact parts (by assumption) (by decide)) :
    Flows w0 s0 (State.enroll s m level tag coll objs).2 := by
  unfold State.enroll
  repeat' first | with_reducible exact h | with_reducible (refine Flows.addBatch ?_) | with_reducible (refine Flows.tryRoot ?_)

theorem Flows.holdReq {w0 : Nat} {s0 : State} {s : State} {r : MapReq} (h : Flows w0 s0 s) (hw0 : 256 ||| w0 = w0 := by first | assumption | exact parts (by assumption) (by decide)) :
    Flows w0 s0 (State.holdReq s r) := by
  unfold State.holdReq
  repeat' first | with_reducible exact h | with_reducible (refine Flows.trib! ?_)

theorem Flows.takeWaits {w0 : Nat} {s0 : State} {s : State} {p : MapReq → Bool} (h : Flows w0 s0 s) (hw0 : 256 ||| w0 = w0 := by first | assumption | exact parts (by assumption) (by decide)) :
    Flows w0 s0 (State.takeWaits s p).2 := by
  unfold State.takeWaits
  repeat' first | with_reducible exact h | with_reducible (refine Flows.trib! ?_)

theorem Flows.upd! {w0 : Nat} {s0 : State} {s : State} {b : Nat} {f : UpdBatch → UpdBatch} (h : Flows w0 s0 s) (hw0 : 16 ||| w0 = w0 := by first | assumption | exact parts (by assumption) (by decide)) :
    Flows w0 s0 (State.upd! s b f) := by
  unfold State.upd!
  repeat' first | with_reducible exact h | with_reducible (refine Flows.search! ?_)

theorem Flows.part! {w0 : Nat} {s0 : State} {s : State} {coll : Nat} {coord : Nat} {seq : Nat} {f : Part → Part} (h : Flows w0 s0 s) (hw0 : 16 ||| w0 = w0 := by first | assumption | exact parts (by assumption) (by decide)) :
    Flows w0 s0 (State.part! s coll coord seq f) := by
  unfold State.part!
  repeat' first | with_reducible exact h | with_reducible (refine Flows.search! ?_)

theorem Flows.dropPart {w0 : Nat} {s0 : State} {s : State} {coll : Nat} {coord : Nat} {seq : Nat} (h : Flows w0 s0 s) (hw0 : 16 ||| w0 = w0 := by first | assumption | exact parts (by assumption) (by decide)) :
    Flows w0 s0 (State.dropPart s coll coord seq) := by
  unfold State.dropPart
  repeat' first | with_reducible exact h | with_reducible (refine Flows.search! ?_)

theorem Flows.execUpdBatch {w0 : Nat} {s0 : State} {mb : Nat} {dma : HostRead} {s : State} (h : Flows w0 s0 s) (hw0 : 859 ||| w0 = w0 := by first | assumption | exact parts (by assumption) (by decide)) :
    FlowsX w0 s0 (Sys2Proof.Machine.execUpdBatch mb dma s) := by
  unfold Sys2Proof.Machine.execUpdBatch
  repeat' first
    | with_reducible exact h | with_reducible assumption | with_reducible (refine Flows.enroll ?_) | with_reducible (refine Flows.onMsg ?_ ?_)
    | with_reducible (refine Flows.refuseBatch ?_) | with_reducible (refine Flows.search! ?_) | with_reducible (refine Flows.ite ?_ ?_) | with_reducible intro _
    | dsimp only | split

theorem Flows.promote {w0 : Nat} {s0 : State} {s : State} (h : Flows w0 s0 s) (hw0 : 16 ||| w0 = w0 := by first | assumption | exact parts (by assumption) (by decide)) :
    Flows w0 s0 (State.promote s) := by
  unfold State.promote
  repeat' first
    | with_reducible exact h | with_reducible assumption | with_reducible (refine Flows.part! ?_) | with_reducible (refine Flows.ite ?_ ?_)
    | with_reducible (refine Flows.foldl ?_ ?_) | with_reducible intro _

theorem Flows.forwardOps {w0 : Nat} {s0 : State} {s : State} {k : Nat} {c : Coll} {ops : List UpdOp} (h : Flows w0 s0 s) (hw0 : 8458 ||| w0 = w0 := by first | assumption | exact parts (by assumption) (by decide)) :
    Flows w0 s0 (State.forwardOps s k c ops).2 := by
  unfold State.forwardOps
  repeat' first
    | with_reducible exact h | with_reducible assumption | with_reducible (refine Flows.free2 ?_) | with_reducible (refine Flows.sendUpd ?_)
    | with_reducible (refine Flows.foldl2 ?_ ?_) | with_reducible intro _ | dsimp only | split

theorem Flows.forwardBack {w0 : Nat} {s0 : State} {s : State} {k : Nat} {node : Nat} {rows : List Nat} (h : Flows w0 s0 s) (hw0 : 8474 ||| w0 = w0 := by first | assumption | exact parts (by assumption) (by decide)) :
    Flows w0 s0 (State.forwardBack s k node rows) := by
  unfold State.forwardBack
  repeat' first
    | with_reducible exact h | with_reducible assumption | with_reducible (refine Flows.free2 ?_) | with_reducible (refine Flows.part! ?_)
    | with_reducible (refine Flows.sendUpd ?_) | with_reducible (refine Flows.foldl ?_ ?_) | with_reducible (refine Flows.foldl2 ?_ ?_) | with_reducible intro _
    | dsimp only | split

theorem Flows.failOps {w0 : Nat} {s0 : State} {s : State} {b : Nat} {status : Nat} {reason : Nat} (h : Flows w0 s0 s) (hw0 : 16 ||| w0 = w0 := by first | assumption | exact parts (by assumption) (by decide)) :
    Flows w0 s0 (State.failOps s b status reason) := by
  unfold State.failOps
  repeat' first | with_reducible exact h | with_reducible (refine Flows.upd! ?_)

theorem Flows.abortOne {w0 : Nat} {s0 : State} {s : State} {p : Part} (h : Flows w0 s0 s) (hw0 : 8602 ||| w0 = w0 := by first | assumption | exact parts (by assumption) (by decide)) :
    Flows w0 s0 (State.abortOne s p) := by
  unfold State.abortOne
  repeat' first
    | with_reducible exact h | with_reducible assumption | with_reducible (refine Flows.count ?_) | with_reducible (refine Flows.forwardBack ?_)
    | with_reducible (refine Flows.freeSlot ?_) | with_reducible (refine Flows.part! ?_) | with_reducible (refine Flows.promote ?_)
    | with_reducible (refine Flows.search! ?_) | with_reducible (refine Flows.ite ?_ ?_) | with_reducible (refine Flows.foldl ?_ ?_) | with_reducible intro _

theorem Flows.abortPart {w0 : Nat} {s0 : State} {s : State} {coll : Nat} {coord : Nat} {seq : Nat} (h : Flows w0 s0 s) (hw0 : 8602 ||| w0 = w0 := by first | assumption | exact parts (by assumption) (by decide)) :
    Flows w0 s0 (State.abortPart s coll coord seq) := by
  unfold State.abortPart
  repeat' first
    | with_reducible exact h | with_reducible assumption | with_reducible (refine Flows.abortOne ?_) | with_reducible (refine Flows.foldl ?_ ?_)
    | with_reducible intro _

theorem Flows.abortBatch {w0 : Nat} {s0 : State} {s : State} {b : Nat} {status : Nat} {reason : Nat} (h : Flows w0 s0 s) (hw0 : 8602 ||| w0 = w0 := by first | assumption | exact parts (by assumption) (by decide)) :
    Flows w0 s0 (State.abortBatch s b status reason) := by
  unfold State.abortBatch
  repeat' first
    | with_reducible exact h | with_reducible assumption | with_reducible (refine Flows.abortPart ?_) | with_reducible (refine Flows.failOps ?_)
    | with_reducible (refine Flows.sendUpd ?_) | with_reducible (refine Flows.upd! ?_) | with_reducible (refine Flows.ite ?_ ?_)
    | with_reducible (refine Flows.foldl ?_ ?_) | with_reducible intro _ | dsimp only | split

theorem Flows.replan {w0 : Nat} {s0 : State} {s : State} {b : Nat} (h : Flows w0 s0 s) (hw0 : 24 ||| w0 = w0 := by first | assumption | exact parts (by assumption) (by decide)) :
    Flows w0 s0 (State.replan s b) := by
  unfold State.replan
  repeat' first | with_reducible exact h | with_reducible (refine Flows.batch! ?_) | with_reducible (refine Flows.upd! ?_) | dsimp only | split

theorem Flows.askEpoch {w0 : Nat} {s0 : State} {s : State} {b : Nat} (h : Flows w0 s0 s) (hw0 : 282 ||| w0 = w0 := by first | assumption | exact parts (by assumption) (by decide)) :
    Flows w0 s0 (State.askEpoch s b) := by
  unfold State.askEpoch
  repeat' first
    | with_reducible exact h | with_reducible (refine Flows.sendUpd ?_) | with_reducible (refine Flows.upd! ?_) | with_reducible (refine Flows.ite ?_ ?_)
    | dsimp only | split

theorem Flows.execPartSend {w0 : Nat} {s0 : State} {batch : Nat} {s : State} (h : Flows w0 s0 s) (hw0 : 8602 ||| w0 = w0 := by first | assumption | exact parts (by assumption) (by decide)) :
    FlowsX w0 s0 (Sys2Proof.Machine.execPartSend batch s) := by
  unfold Sys2Proof.Machine.execPartSend
  repeat' first
    | with_reducible exact h | with_reducible (refine Flows.abortBatch ?_) | with_reducible (refine Flows.askEpoch ?_) | with_reducible (refine Flows.count ?_)
    | with_reducible (refine Flows.replan ?_) | with_reducible (refine Flows.sendUpd ?_) | with_reducible (refine Flows.upd! ?_)
    | with_reducible (refine FlowsX.ok ?_) | with_reducible (refine Flows.ite ?_ ?_) | dsimp only | split

theorem Flows.partBounced {w0 : Nat} {s0 : State} {s : State} {b : Nat} {needed : Nat} (h : Flows w0 s0 s) (hw0 : 16 ||| w0 = w0 := by first | assumption | exact parts (by assumption) (by decide)) :
    Flows w0 s0 (State.partBounced s b needed) := by
  unfold State.partBounced
  repeat' first | with_reducible exact h | with_reducible (refine Flows.upd! ?_)

theorem Flows.bouncePart {w0 : Nat} {s0 : State} {s : State} {part : PartMsg} (h : Flows w0 s0 s) (hw0 : 282 ||| w0 = w0 := by first | assumption | exact parts (by assumption) (by decide)) :
    Flows w0 s0 (State.bouncePart s part) := by
  unfold State.bouncePart
  repeat' first
    | with_reducible exact h | with_reducible (refine Flows.count ?_) | with_reducible (refine Flows.partBounced ?_) | with_reducible (refine Flows.sendUpd ?_)
    | dsimp only | split

theorem Flows.takePart {w0 : Nat} {s0 : State} {s : State} {part : PartMsg} (h : Flows w0 s0 s) (hw0 : 8474 ||| w0 = w0 := by first | assumption | exact parts (by assumption) (by decide)) :
    Flows w0 s0 (State.takePart s part) := by
  unfold State.takePart
  repeat' first
    | with_reducible exact h | with_reducible (refine Flows.bouncePart ?_) | with_reducible (refine Flows.forwardOps ?_) | with_reducible (refine Flows.holdReq ?_)
    | with_reducible (refine Flows.promote ?_) | with_reducible (refine Flows.search! ?_) | with_reducible (refine Flows.sendUpd ?_)
    | with_reducible (refine Flows.ite ?_ ?_) | dsimp only | split

theorem Flows.execPartArrive {w0 : Nat} {s0 : State} {part : PartMsg} {s : State} (h : Flows w0 s0 s) (hw0 : 8474 ||| w0 = w0 := by first | assumption | exact parts (by assumption) (by decide)) :
    FlowsX w0 s0 (Sys2Proof.Machine.execPartArrive part s) := by
  unfold Sys2Proof.Machine.execPartArrive
  repeat' first | with_reducible exact h | with_reducible (refine Flows.takePart ?_) | with_reducible (refine FlowsX.ok ?_)

theorem Flows.pinCentre {w0 : Nat} {s0 : State} {s : State} {k : Nat} {r : Nat} (h : Flows w0 s0 s) (hw0 : 66 ||| w0 = w0 := by first | assumption | exact parts (by assumption) (by decide)) :
    Flows w0 s0 (State.pinCentre s k r) := by
  unfold State.pinCentre
  repeat' first
    | with_reducible exact h | with_reducible (refine Flows.evictLake ?_) | with_reducible (refine Flows.ferry! ?_) | with_reducible (refine Flows.ite ?_ ?_)
    | dsimp only | split

theorem Flows.makeReach {w0 : Nat} {s0 : State} {s : State} {k : Nat} {r : Nat} {catchment : Nat} {centre : List F16} (h : Flows w0 s0 s) (hw0 : 82 ||| w0 = w0 := by first | assumption | exact parts (by assumption) (by decide)) :
    Flows w0 s0 (State.makeReach s k r catchment centre) := by
  unfold State.makeReach
  repeat' first | with_reducible exact h | with_reducible (refine Flows.coll! ?_) | with_reducible (refine Flows.pinCentre ?_) | dsimp only | split

theorem Flows.copySlot {w0 : Nat} {s0 : State} {s : State} {k : Nat} {i : Nat} {r : Nat} (h : Flows w0 s0 s) (hw0 : 16 ||| w0 = w0 := by first | assumption | exact parts (by assumption) (by decide)) :
    Flows w0 s0 (State.copySlot s k i r).2 := by
  unfold State.copySlot
  repeat' first | with_reducible exact h | with_reducible (refine Flows.coll! ?_) | dsimp only | split

theorem Flows.commitSlot {w0 : Nat} {s0 : State} {s : State} {k : Nat} {i : Nat} {e : Nat} (h : Flows w0 s0 s) (hw0 : 18 ||| w0 = w0 := by first | assumption | exact parts (by assumption) (by decide)) :
    Flows w0 s0 (State.commitSlot s k i e) := by
  unfold State.commitSlot
  repeat' first | with_reducible exact h | with_reducible (refine Flows.coll! ?_) | with_reducible (refine Flows.queueLink ?_)

theorem Flows.endSlot {w0 : Nat} {s0 : State} {s : State} {k : Nat} {i : Nat} {e : Nat} {fwd : Option (Nat × Nat)} (h : Flows w0 s0 s) (hw0 : 16 ||| w0 = w0 := by first | assumption | exact parts (by assumption) (by decide)) :
    Flows w0 s0 (State.endSlot s k i e fwd) := by
  unfold State.endSlot
  repeat' first | with_reducible exact h | with_reducible (refine Flows.coll! ?_) | with_reducible (refine Flows.repairTest ?_)

theorem Flows.tightenReach {w0 : Nat} {s0 : State} {s : State} {k : Nat} {r : Nat} (h : Flows w0 s0 s) (hw0 : 16 ||| w0 = w0 := by first | assumption | exact parts (by assumption) (by decide)) :
    Flows w0 s0 (State.tightenReach s k r) := by
  unfold State.tightenReach
  repeat' first | with_reducible exact h | with_reducible (refine Flows.coll! ?_)

theorem Flows.commitMoves {w0 : Nat} {s0 : State} {s : State} {k : Nat} {b : Nat} {e : Nat} {moves : List (Nat × Nat)} {node : Nat} (h : Flows w0 s0 s) (hw0 : 18 ||| w0 = w0 := by first | assumption | exact parts (by assumption) (by decide)) :
    Flows w0 s0 (State.commitMoves s k b e moves node) := by
  unfold State.commitMoves
  repeat' first
    | with_reducible exact h | with_reducible assumption | with_reducible (refine Flows.commitSlot ?_) | with_reducible (refine Flows.count ?_)
    | with_reducible (refine Flows.endSlot ?_) | with_reducible (refine Flows.search! ?_) | with_reducible (refine Flows.upd! ?_)
    | with_reducible (refine Flows.ite ?_ ?_) | with_reducible (refine Flows.foldl ?_ ?_) | with_reducible intro _

theorem Flows.newSlot {w0 : Nat} {s0 : State} {s : State} {k : Nat} {r : Nat} {o : UpdOp} {ref : List Byte} {version : Nat} {payload : Nat} {width : Nat} {damaged : Bool} {old : Option Nat} {bitsOf : Nat → Bool} (h : Flows w0 s0 s) (hw0 : 144 ||| w0 = w0 := by first | assumption | exact parts (by assumption) (by decide)) :
    Flows w0 s0 (State.newSlot s k r o ref version payload width damaged old bitsOf).2 := by
  unfold State.newSlot
  repeat' first
    | with_reducible exact h | with_reducible assumption | with_reducible (refine Flows.coll! ?_) | with_reducible (refine Flows.openLsn ?_)
    | with_reducible (refine Flows.foldl ?_ ?_) | with_reducible intro _ | dsimp only | split

/-- Flows to the state of a room search. -/
def FlowsRoom (b : Nat) (s : State) (o : Room) : Prop := match o with | .have _ t => Flows b s t | .wait t => Flows b s t | .full => True
/-- Flows to the state of a prepared operation. -/
def FlowsPrep (b : Nat) (s : State) (o : Prep) : Prop := match o with | .did _ _ t => Flows b s t | .wait t => Flows b s t

theorem FlowsRoom.ofWait {b : Nat} {s t : State} {r : Room} (h : FlowsRoom b s r) (e : r = .wait t) : Flows b s t := by rw [e] at h; exact h
theorem FlowsRoom.ofHave {b : Nat} {s t : State} {r : Room} {n : Nat} (h : FlowsRoom b s r) (e : r = .have n t) : Flows b s t := by rw [e] at h; exact h
theorem FlowsPrep.wait {b : Nat} {s t : State} (h : Flows b s t) : FlowsPrep b s (.wait t) := h
theorem FlowsPrep.did {b : Nat} {s t : State} {o : UpdOp} {p : Part} (h : Flows b s t) : FlowsPrep b s (.did o p t) := h

theorem FlowsPrep.ite {b : Nat} {s : State} {u v : Prep} {c : Prop} [Decidable c] (ha : FlowsPrep b s u) (hb : FlowsPrep b s v) : FlowsPrep b s (if c then u else v) := by
  by_cases hc : c
  · rw [if_pos hc]; exact ha
  · rw [if_neg hc]; exact hb

theorem FlowsRoom.full {b : Nat} {s : State} : FlowsRoom b s .full := trivial
theorem FlowsRoom.wait {b : Nat} {s t : State} (h : Flows b s t) : FlowsRoom b s (.wait t) := h
theorem FlowsRoom.have_ {b : Nat} {s t : State} {r : Nat} (h : Flows b s t) : FlowsRoom b s (.have r t) := h
theorem FlowsRoom.ite {b : Nat} {s : State} {u v : Room} {c : Prop} [Decidable c] (ha : FlowsRoom b s u) (hb : FlowsRoom b s v) : FlowsRoom b s (if c then u else v) := by
  by_cases hc : c
  · rw [if_pos hc]; exact ha
  · rw [if_neg hc]; exact hb

theorem Flows.splitFor {w0 : Nat} {s0 s : State} {k r opIdx coord seq : Nat} {x : List Dy} (h :
    Flows w0 s0 s) (hw0 : 350 ||| w0 = w0 := by first | assumption | exact parts (by assumption) (by decide)) :
    FlowsRoom w0 s0 (s.splitFor k r opIdx coord seq x) := by
  unfold State.splitFor
  dsimp only
  repeat' first
    | with_reducible exact FlowsRoom.full | with_reducible exact h | with_reducible assumption | with_reducible (refine FlowsRoom.wait ?_)
    | with_reducible (refine FlowsRoom.have_ ?_) | with_reducible (refine FlowsRoom.ite ?_ ?_) | with_reducible (refine Flows.part! ?_)
    | with_reducible (refine Flows.sendUpd ?_) | with_reducible (refine Flows.publishGrown ?_) | with_reducible (refine Flows.search! ?_)
    | with_reducible (refine Flows.slc! ?_) | with_reducible (refine Flows.tightenReach ?_) | with_reducible (refine Flows.upd! ?_)
    | with_reducible (refine Flows.epochDone ?_) | with_reducible (refine Flows.commitMoves ?_) | with_reducible (refine Flows.makeReach ?_)
    | with_reducible (refine Flows.copySlot ?_) | with_reducible (refine Flows.foldl2 ?_ ?_)
    | with_reducible (refine FlowsP.get' (Flows.grantEpoch ?_) (by with_reducible assumption)) | with_reducible intro _ | split

theorem Flows.roomFor {w0 : Nat} {s0 s : State} {k opIdx coord seq : Nat} {x : List Dy} (h :
    Flows w0 s0 s) (hw0 : 350 ||| w0 = w0 := by first | assumption | exact parts (by assumption) (by decide)) :
    FlowsRoom w0 s0 (s.roomFor k opIdx coord seq x) := by
  unfold State.roomFor
  repeat' first
    | with_reducible exact FlowsRoom.full | with_reducible exact h | with_reducible exact Flows.splitFor h | with_reducible (refine FlowsRoom.ite ?_ ?_)
    | with_reducible (refine FlowsRoom.wait ?_) | with_reducible (refine FlowsRoom.have_ ?_) | with_reducible (refine Flows.part! ?_)
    | with_reducible (refine Flows.makeReach ?_) | split

theorem Flows.prepOp {w0 : Nat} {s0 s : State} {k : Nat} {p : Part} {i : Nat} {o : UpdOp} (h :
    Flows w0 s0 s) (hw0 : 478 ||| w0 = w0 := by first | assumption | exact parts (by assumption) (by decide)) :
    FlowsPrep w0 s0 (s.prepOp k p i o) := by
  unfold State.prepOp
  split
  · exact h
  · rename_i c _
    have hr : ∀ x, FlowsRoom w0 s0 (s.roomFor k i p.coord p.seq x) := fun x => Flows.roomFor h
    dsimp only
    repeat' first
      | with_reducible exact FlowsPrep.did h | with_reducible (refine FlowsPrep.ite ?_ ?_) | with_reducible (refine FlowsPrep.did ?_) | with_reducible exact h
      | with_reducible (refine Flows.coll! ?_) | with_reducible (refine Flows.freeSlot ?_) | with_reducible (refine Flows.openLsn ?_)
      | with_reducible (refine Flows.foldl ?_ ?_) | with_reducible assumption | with_reducible intro _ | with_reducible (refine FlowsPrep.wait ?_)
      | with_reducible (refine Flows.newSlot ?_) | with_reducible exact FlowsRoom.ofWait (hr _) (by with_reducible assumption)
      | with_reducible exact FlowsRoom.ofHave (hr _) (by with_reducible assumption) | split

theorem Flows.prepAll {w0 : Nat} {s0 : State} {s : State} {k : Nat} {coord : Nat} {seq : Nat} {x4 : List Nat} (h : Flows w0 s0 s) (hw0 : 478 ||| w0 = w0 := by first | assumption | exact parts (by assumption) (by decide)) :
    Flows w0 s0 (State.prepAll s k coord seq x4).1 := by
  induction x4 generalizing s with
  | nil => exact h
  | cons i rest ih =>
    unfold State.prepAll
    split
    · exact h
    · split
      · exact h
      · split
        · exact ih h
        · rename_i p _ _ o _ _
          have hp := Flows.prepOp (k := k) (p := p) (i := i) (o := o) h
          split
          · rename_i e; rw [e] at hp; exact hp
          · rename_i e; rw [e] at hp; exact ih (Flows.part! hp)

theorem Flows.partPrepared {w0 : Nat} {s0 : State} {s : State} {k : Nat} {coord : Nat} {seq : Nat} (h : Flows w0 s0 s) (hw0 : 282 ||| w0 = w0 := by first | assumption | exact parts (by assumption) (by decide)) :
    Flows w0 s0 (State.partPrepared s k coord seq) := by
  unfold State.partPrepared
  repeat' first | with_reducible exact h | with_reducible (refine Flows.part! ?_) | with_reducible (refine Flows.sendUpd ?_) | with_reducible (refine Flows.ite ?_ ?_)

theorem Flows.settleWrites {w0 : Nat} {s0 : State} {s : State} {k : Nat} {coord : Nat} {seq : Nat} (h : Flows w0 s0 s) (hw0 : 282 ||| w0 = w0 := by first | assumption | exact parts (by assumption) (by decide)) :
    Flows w0 s0 (State.settleWrites s k coord seq) := by
  unfold State.settleWrites
  repeat' first | with_reducible exact h | with_reducible (refine Flows.partPrepared ?_) | with_reducible (refine Flows.ite ?_ ?_) | split

theorem Flows.execPartPrepare {w0 : Nat} {s0 : State} {coll : Nat} {coord : Nat} {seq : Nat} {s : State} (h : Flows w0 s0 s) (hw0 : 8670 ||| w0 = w0 := by first | assumption | exact parts (by assumption) (by decide)) :
    FlowsX w0 s0 (Sys2Proof.Machine.execPartPrepare coll coord seq s) := by
  unfold Sys2Proof.Machine.execPartPrepare
  repeat' first
    | with_reducible exact h | with_reducible (refine Flows.flush ?_) | with_reducible (refine Flows.forwardOps ?_) | with_reducible (refine Flows.part! ?_)
    | with_reducible (refine Flows.prepAll ?_) | with_reducible (refine Flows.publishGrown ?_) | with_reducible (refine Flows.settleWrites ?_)
    | with_reducible (refine FlowsX.ok ?_) | with_reducible (refine Flows.ite ?_ ?_) | with_reducible (refine Flows.getD ?_ ?_) | dsimp only | split

theorem Flows.execProgramComplete {w0 : Nat} {s0 : State} {block : Nat} {passed : Bool} {s : State} (h : Flows w0 s0 s) (hw0 : 410 ||| w0 = w0 := by first | assumption | exact parts (by assumption) (by decide)) :
    FlowsX w0 s0 (Sys2Proof.Machine.execProgramComplete block passed s) := by
  unfold Sys2Proof.Machine.execProgramComplete
  repeat' first
    | with_reducible exact h | with_reducible assumption | with_reducible (refine Flows.flush ?_) | with_reducible (refine Flows.programDone ?_)
    | with_reducible (refine Flows.settleWrites ?_) | with_reducible (refine FlowsX.ok ?_) | with_reducible (refine Flows.foldl ?_ ?_)
    | with_reducible (refine Flows.getD ?_ ?_) | with_reducible intro _ | split

theorem Flows.execPartPrepared {w0 : Nat} {s0 : State} {batch : Nat} {home : Nat} {ops : List UpdOp} {s : State} (h : Flows w0 s0 s) (hw0 : 282 ||| w0 = w0 := by first | assumption | exact parts (by assumption) (by decide)) :
    FlowsX w0 s0 (Sys2Proof.Machine.execPartPrepared batch home ops s) := by
  unfold Sys2Proof.Machine.execPartPrepared
  repeat' first
    | with_reducible exact h | with_reducible (refine Flows.askEpoch ?_) | with_reducible (refine Flows.upd! ?_) | with_reducible (refine FlowsX.ok ?_)
    | with_reducible (refine Flows.ite ?_ ?_) | dsimp only | split

theorem Flows.execUpdatePartReroute {w0 : Nat} {s0 : State} {batch : Nat} {home : Nat} {needed : Nat} {notHeld : Bool} {s : State} (h : Flows w0 s0 s) (hw0 : 282 ||| w0 = w0 := by first | assumption | exact parts (by assumption) (by decide)) :
    FlowsX w0 s0 (Sys2Proof.Machine.execUpdatePartReroute batch home needed notHeld s) := by
  unfold Sys2Proof.Machine.execUpdatePartReroute
  repeat' first
    | with_reducible exact h | with_reducible (refine Flows.askEpoch ?_) | with_reducible (refine Flows.partBounced ?_) | with_reducible (refine Flows.upd! ?_)
    | with_reducible (refine FlowsX.ok ?_) | with_reducible (refine Flows.ite ?_ ?_) | dsimp only | split

theorem Flows.takeEpochReq {w0 : Nat} {s0 : State} {s : State} {coll : Nat} {coord : Nat} {seq : Nat} {version : Nat} (h : Flows w0 s0 s) (hw0 : 8606 ||| w0 = w0 := by first | assumption | exact parts (by assumption) (by decide)) :
    Flows w0 s0 (State.takeEpochReq s coll coord seq version) := by
  unfold State.takeEpochReq
  repeat' first
    | with_reducible exact h | with_reducible (refine Flows.abortPart ?_) | with_reducible (refine FlowsP.get (Flows.grantEpoch ?_) (by with_reducible assumption))
    | with_reducible (refine Flows.holdReq ?_) | with_reducible (refine Flows.sendUpd ?_) | with_reducible (refine Flows.ite ?_ ?_) | dsimp only | split

theorem Flows.execEpochRequest {w0 : Nat} {s0 : State} {coll : Nat} {coord : Nat} {seq : Nat} {version : Nat} {s : State} (h : Flows w0 s0 s) (hw0 : 8606 ||| w0 = w0 := by first | assumption | exact parts (by assumption) (by decide)) :
    FlowsX w0 s0 (Sys2Proof.Machine.execEpochRequest coll coord seq version s) := by
  unfold Sys2Proof.Machine.execEpochRequest
  repeat' first | with_reducible exact h | with_reducible (refine Flows.takeEpochReq ?_) | with_reducible (refine FlowsX.ok ?_)

theorem Flows.resumeEpochs {w0 : Nat} {s0 : State} {s : State} {coll : Nat} (h : Flows w0 s0 s) (hw0 : 8606 ||| w0 = w0 := by first | assumption | exact parts (by assumption) (by decide)) :
    Flows w0 s0 (State.resumeEpochs s coll) := by
  unfold State.resumeEpochs
  repeat' first
    | with_reducible exact h | with_reducible assumption | with_reducible (refine Flows.takeEpochReq ?_) | with_reducible (refine Flows.takeWaits ?_)
    | with_reducible (refine Flows.foldl ?_ ?_) | with_reducible intro _ | split

theorem Flows.abortMoves {w0 : Nat} {s0 : State} {s : State} {b : Nat} {u : UpdBatch} {moves : List (Nat × Nat)} (h : Flows w0 s0 s) (hw0 : 146 ||| w0 = w0 := by first | assumption | exact parts (by assumption) (by decide)) :
    Flows w0 s0 (State.abortMoves s b u moves) := by
  unfold State.abortMoves
  repeat' first
    | with_reducible exact h | with_reducible assumption | with_reducible (refine Flows.coll! ?_) | with_reducible (refine Flows.freeSlot ?_)
    | with_reducible (refine Flows.promote ?_) | with_reducible (refine Flows.search! ?_) | with_reducible (refine Flows.ite ?_ ?_)
    | with_reducible (refine Flows.foldl ?_ ?_) | with_reducible intro _

theorem Flows.logAbort {w0 : Nat} {s0 : State} {s : State} {comp : Nat} (h : Flows w0 s0 s) (hw0 : 6 ||| w0 = w0 := by first | assumption | exact parts (by assumption) (by decide)) :
    Flows w0 s0 (State.logAbort s comp) := by
  unfold State.logAbort
  repeat' first | with_reducible exact h | with_reducible (refine Flows.logC ?_)

theorem Flows.commitBitmap {w0 : Nat} {s0 : State} {s : State} {w : BitWrite} {e : Nat} (h : Flows w0 s0 s) (hw0 : 19 ||| w0 = w0 := by first | assumption | exact parts (by assumption) (by decide)) :
    Flows w0 s0 (State.commitBitmap s w e) := by
  unfold State.commitBitmap
  repeat' first | with_reducible exact h | with_reducible (refine Flows.coll! ?_) | with_reducible (refine Flows.reply ?_) | dsimp only | split

theorem Flows.commitMigration {w0 : Nat} {s0 : State} {s : State} {b : Nat} {u : UpdBatch} {moves : List (Nat × Nat)} {e : Nat} (h : Flows w0 s0 s) (hw0 : 282 ||| w0 = w0 := by first | assumption | exact parts (by assumption) (by decide)) :
    Flows w0 s0 (State.commitMigration s b u moves e) := by
  unfold State.commitMigration
  repeat' first
    | with_reducible exact h | with_reducible (refine Flows.commitMoves ?_) | with_reducible (refine Flows.search! ?_) | with_reducible (refine Flows.sendUpd ?_)
    | with_reducible (refine Flows.tightenReach ?_) | with_reducible (refine Flows.upd! ?_) | with_reducible (refine Flows.ite ?_ ?_) | dsimp only | split

theorem Flows.resumeMoves {w0 : Nat} {s0 : State} {s : State} (h : Flows w0 s0 s) (hw0 : 282 ||| w0 = w0 := by first | assumption | exact parts (by assumption) (by decide)) :
    Flows w0 s0 (State.resumeMoves s) := by
  unfold State.resumeMoves
  repeat' first
    | with_reducible exact h | with_reducible assumption | with_reducible (refine Flows.commitMigration ?_) | with_reducible (refine Flows.foldl ?_ ?_)
    | with_reducible intro _ | split

theorem Flows.loseHomes {w0 : Nat} {s0 : State} {s : State} {b : Nat} (h : Flows w0 s0 s) (hw0 : 16 ||| w0 = w0 := by first | assumption | exact parts (by assumption) (by decide)) :
    Flows w0 s0 (State.loseHomes s b) := by
  unfold State.loseHomes
  repeat' first | with_reducible exact h | with_reducible (refine Flows.upd! ?_)

theorem Flows.decided {w0 : Nat} {s0 : State} {s : State} {b : Nat} {u : UpdBatch} {e : Nat} (h : Flows w0 s0 s) (hw0 : 282 ||| w0 = w0 := by first | assumption | exact parts (by assumption) (by decide)) :
    Flows w0 s0 (State.decided s b u e) := by
  unfold State.decided
  repeat' first
    | with_reducible exact h | with_reducible assumption | with_reducible (refine Flows.loseHomes ?_) | with_reducible (refine Flows.sendUpd ?_)
    | with_reducible (refine Flows.upd! ?_) | with_reducible (refine Flows.ite ?_ ?_) | with_reducible (refine Flows.foldl ?_ ?_) | with_reducible intro _

theorem Flows.execEpochGrant {w0 : Nat} {s0 : State} {batch : Nat} {ans : EpochReply} {s : State} (h : Flows w0 s0 s) (hw0 : 8607 ||| w0 = w0 := by first | assumption | exact parts (by assumption) (by decide)) :
    FlowsX w0 s0 (Sys2Proof.Machine.execEpochGrant batch ans s) := by
  unfold Sys2Proof.Machine.execEpochGrant
  repeat' first
    | with_reducible exact h | with_reducible assumption | with_reducible (refine Flows.abortBatch ?_) | with_reducible (refine Flows.abortMoves ?_)
    | with_reducible (refine Flows.askEpoch ?_) | with_reducible (refine Flows.commitBitmap ?_) | with_reducible (refine Flows.commitMigration ?_)
    | with_reducible (refine Flows.decided ?_) | with_reducible (refine Flows.epochDone ?_) | with_reducible (refine Flows.logAbort ?_)
    | with_reducible (refine Flows.reply ?_) | with_reducible (refine Flows.search! ?_) | with_reducible (refine Flows.sendUpd ?_)
    | with_reducible (refine Flows.upd! ?_) | with_reducible (refine FlowsX.ok ?_) | with_reducible (refine Flows.ite ?_ ?_)
    | with_reducible (refine Flows.foldl ?_ ?_) | with_reducible intro _ | dsimp only | split

theorem Flows.commitPart {w0 : Nat} {s0 : State} {s : State} {k : Nat} {coord : Nat} {seq : Nat} {e : Nat} (h : Flows w0 s0 s) (hw0 : 18 ||| w0 = w0 := by first | assumption | exact parts (by assumption) (by decide)) :
    Flows w0 s0 (State.commitPart s k coord seq e) := by
  unfold State.commitPart
  repeat' first
    | with_reducible exact h | with_reducible assumption | with_reducible (refine Flows.boundary ?_) | with_reducible (refine Flows.coll! ?_)
    | with_reducible (refine Flows.commitSlot ?_) | with_reducible (refine Flows.count ?_) | with_reducible (refine Flows.endSlot ?_)
    | with_reducible (refine Flows.part! ?_) | with_reducible (refine Flows.promote ?_) | with_reducible (refine Flows.foldl ?_ ?_) | with_reducible intro _
    | dsimp only | split

theorem Flows.execPartCommit {w0 : Nat} {s0 : State} {coll : Nat} {coord : Nat} {seq : Nat} {epoch : Nat} {s : State} (h : Flows w0 s0 s) (hw0 : 282 ||| w0 = w0 := by first | assumption | exact parts (by assumption) (by decide)) :
    FlowsX w0 s0 (Sys2Proof.Machine.execPartCommit coll coord seq epoch s) := by
  unfold Sys2Proof.Machine.execPartCommit
  repeat' first
    | with_reducible exact h | with_reducible assumption | with_reducible (refine Flows.commitPart ?_) | with_reducible (refine Flows.sendUpd ?_)
    | with_reducible (refine FlowsX.ok ?_) | with_reducible (refine Flows.ite ?_ ?_) | with_reducible (refine Flows.foldl ?_ ?_) | with_reducible intro _
    | dsimp only | split

theorem Flows.tryReport {w0 : Nat} {s0 : State} {s : State} {b : Nat} (h : Flows w0 s0 s) (hw0 : 282 ||| w0 = w0 := by first | assumption | exact parts (by assumption) (by decide)) :
    Flows w0 s0 (State.tryReport s b) := by
  unfold State.tryReport
  repeat' first
    | with_reducible exact h | with_reducible (refine Flows.sendUpd ?_) | with_reducible (refine Flows.upd! ?_) | with_reducible (refine Flows.ite ?_ ?_)
    | dsimp only | split

theorem Flows.execCommitReport {w0 : Nat} {s0 : State} {batch : Nat} {home : Nat} {s : State} (h : Flows w0 s0 s) (hw0 : 282 ||| w0 = w0 := by first | assumption | exact parts (by assumption) (by decide)) :
    FlowsX w0 s0 (Sys2Proof.Machine.execCommitReport batch home s) := by
  unfold Sys2Proof.Machine.execCommitReport
  repeat' first
    | with_reducible exact h | with_reducible (refine Flows.tryReport ?_) | with_reducible (refine Flows.upd! ?_) | with_reducible (refine FlowsX.ok ?_)
    | with_reducible (refine Flows.ite ?_ ?_) | dsimp only | split

theorem Flows.execEpochComplete {w0 : Nat} {s0 : State} {coll : Nat} {epoch : Nat} {s : State} (h : Flows w0 s0 s) (hw0 : 16 ||| w0 = w0 := by first | assumption | exact parts (by assumption) (by decide)) :
    FlowsX w0 s0 (Sys2Proof.Machine.execEpochComplete coll epoch s) := by
  unfold Sys2Proof.Machine.execEpochComplete
  repeat' first
    | with_reducible exact h | with_reducible (refine Flows.epochDone ?_) | with_reducible (refine Flows.upd! ?_) | with_reducible (refine FlowsX.ok ?_)
    | with_reducible (refine Flows.ite ?_ ?_) | dsimp only | split

theorem Flows.execStableEpochPush {w0 : Nat} {s0 : State} {coll : Nat} {s : State} (h : Flows w0 s0 s) (hw0 : 4378 ||| w0 = w0 := by first | assumption | exact parts (by assumption) (by decide)) :
    FlowsX w0 s0 (Sys2Proof.Machine.execStableEpochPush coll s) := by
  unfold Sys2Proof.Machine.execStableEpochPush
  repeat' first
    | with_reducible exact h | with_reducible assumption | with_reducible (refine Flows.coll! ?_) | with_reducible (refine Flows.reach ?_)
    | with_reducible (refine Flows.sendUpd ?_) | with_reducible (refine FlowsX.ok ?_) | with_reducible (refine Flows.ite ?_ ?_)
    | with_reducible (refine Flows.foldl ?_ ?_) | with_reducible intro _ | dsimp only | split

theorem Flows.execStableEpochReceive {w0 : Nat} {s0 : State} {coll : Nat} {epoch : Nat} {s : State} (h : Flows w0 s0 s) (hw0 : 16 ||| w0 = w0 := by first | assumption | exact parts (by assumption) (by decide)) :
    FlowsX w0 s0 (Sys2Proof.Machine.execStableEpochReceive coll epoch s) := by
  unfold Sys2Proof.Machine.execStableEpochReceive
  repeat' first
    | with_reducible exact h | with_reducible (refine Flows.raiseStable ?_) | with_reducible (refine Flows.search! ?_) | with_reducible (refine FlowsX.ok ?_)
    | with_reducible (refine Flows.ite ?_ ?_) | split

theorem Flows.execUpdateComplete {w0 : Nat} {s0 : State} {batch : Nat} {s : State} (h : Flows w0 s0 s) (hw0 : 859 ||| w0 = w0 := by first | assumption | exact parts (by assumption) (by decide)) :
    FlowsX w0 s0 (Sys2Proof.Machine.execUpdateComplete batch s) := by
  unfold Sys2Proof.Machine.execUpdateComplete
  repeat' first
    | with_reducible exact h | with_reducible (refine Flows.count ?_) | with_reducible (refine Flows.dropPart ?_) | with_reducible (refine Flows.output ?_)
    | with_reducible (refine Flows.replyBatch ?_) | with_reducible (refine Flows.search! ?_) | with_reducible (refine FlowsX.ok ?_)
    | with_reducible (refine Flows.ite ?_ ?_) | dsimp only | split

theorem Flows.partOutcome {w0 : Nat} {s0 : State} {s : State} {coll : Nat} {coord : Nat} {seq : Nat} {o : Outcome2} (h : Flows w0 s0 s) (hw0 : 8602 ||| w0 = w0 := by first | assumption | exact parts (by assumption) (by decide)) :
    Flows w0 s0 (State.partOutcome s coll coord seq o) := by
  unfold State.partOutcome
  repeat' first
    | with_reducible exact h | with_reducible (refine Flows.abortPart ?_) | with_reducible (refine Flows.commitPart ?_) | with_reducible (refine Flows.part! ?_)
    | with_reducible (refine Flows.sendUpd ?_) | with_reducible (refine Flows.ite ?_ ?_) | dsimp only | split

theorem Flows.judgeOutcome {w0 : Nat} {s0 : State} {s : State} {k : Nat} {coord : Nat} {seq : Nat} (h : Flows w0 s0 s) (hw0 : 16 ||| w0 = w0 := by first | assumption | exact parts (by assumption) (by decide)) :
    FlowsP w0 s0 (State.judgeOutcome s k coord seq) := by
  unfold State.judgeOutcome
  repeat' first
    | with_reducible exact h | with_reducible (refine Flows.coll! ?_) | with_reducible exact FlowsP.none | with_reducible (refine FlowsP.some ?_)
    | with_reducible (refine FlowsP.ite ?_ ?_) | split

theorem Flows.outcomeAsked {w0 : Nat} {s0 : State} {s : State} {src : Nat} {k : Nat} {coord : Nat} {seq : Nat} (h : Flows w0 s0 s) (hw0 : 282 ||| w0 = w0 := by first | assumption | exact parts (by assumption) (by decide)) :
    Flows w0 s0 (State.outcomeAsked s src k coord seq) := by
  unfold State.outcomeAsked
  repeat' first
    | with_reducible exact h | with_reducible (refine FlowsP.get (Flows.judgeOutcome ?_) (by with_reducible assumption)) | with_reducible (refine Flows.sendUpd ?_)
    | split

theorem Flows.execPrepTimeout {w0 : Nat} {s0 : State} {coll : Nat} {coord : Nat} {seq : Nat} {s : State} (h : Flows w0 s0 s) (hw0 : 12698 ||| w0 = w0 := by first | assumption | exact parts (by assumption) (by decide)) :
    FlowsX w0 s0 (Sys2Proof.Machine.execPrepTimeout coll coord seq s) := by
  unfold Sys2Proof.Machine.execPrepTimeout
  repeat' first
    | with_reducible exact h | with_reducible (refine FlowsP.get (Flows.judgeOutcome ?_) (by with_reducible assumption)) | with_reducible (refine Flows.part! ?_)
    | with_reducible (refine Flows.partOutcome ?_) | with_reducible (refine Flows.reach ?_) | with_reducible (refine Flows.sendUpd ?_)
    | with_reducible (refine FlowsX.ok ?_) | with_reducible (refine Flows.ite ?_ ?_) | dsimp only | split

theorem Flows.execOutcomeReply {w0 : Nat} {s0 : State} {coll : Nat} {coord : Nat} {seq : Nat} {outcome : Outcome2} {s : State} (h : Flows w0 s0 s) (hw0 : 8602 ||| w0 = w0 := by first | assumption | exact parts (by assumption) (by decide)) :
    FlowsX w0 s0 (Sys2Proof.Machine.execOutcomeReply coll coord seq outcome s) := by
  unfold Sys2Proof.Machine.execOutcomeReply
  repeat' first
    | with_reducible exact h | with_reducible (refine Flows.partOutcome ?_) | with_reducible (refine FlowsX.ok ?_) | with_reducible (refine Flows.ite ?_ ?_) | split

theorem Flows.rehome {w0 : Nat} {s0 : State} {s : State} {comp : Nat} (h : Flows w0 s0 s) (hw0 : 282 ||| w0 = w0 := by first | assumption | exact parts (by assumption) (by decide)) :
    Flows w0 s0 (State.rehome s comp) := by
  unfold State.rehome
  repeat' first
    | with_reducible exact h | with_reducible assumption | with_reducible (refine Flows.search! ?_) | with_reducible (refine Flows.sendUpd ?_)
    | with_reducible (refine Flows.ite ?_ ?_) | with_reducible (refine Flows.foldl ?_ ?_) | with_reducible intro _

theorem Flows.homeLost {w0 : Nat} {s0 : State} {s : State} {n : Nat} (h : Flows w0 s0 s) (hw0 : 8602 ||| w0 = w0 := by first | assumption | exact parts (by assumption) (by decide)) :
    Flows w0 s0 (State.homeLost s n) := by
  unfold State.homeLost
  repeat' first
    | with_reducible exact h | with_reducible assumption | with_reducible (refine Flows.abortBatch ?_) | with_reducible (refine Flows.abortMoves ?_)
    | with_reducible (refine Flows.loseHomes ?_) | with_reducible (refine Flows.promote ?_) | with_reducible (refine Flows.rehome ?_)
    | with_reducible (refine Flows.resumeMoves ?_) | with_reducible (refine Flows.tryReport ?_) | with_reducible (refine Flows.ite ?_ ?_)
    | with_reducible (refine Flows.foldl ?_ ?_) | with_reducible intro _ | split

end Sys2Proof.Machine
end

