-- ==== Sys2Proof/Laws/FlowRows.lean ====
section
/-! SUPPORT. What the operations and meanings of Machine/Rows.lean keep. -/

set_option Elab.async false

namespace Sys2Proof.Machine

theorem Flows.execMigrationStart {w0 : Nat} {s0 : State} {coll : Nat} {row : Nat} {node : Nat} {s : State} (h : Flows w0 s0 s) (hw0 : 8474 ||| w0 = w0 := by first | assumption | exact parts (by assumption) (by decide)) :
    FlowsX w0 s0 (Sys2Proof.Machine.execMigrationStart coll row node s) := by
  unfold Sys2Proof.Machine.execMigrationStart
  repeat' first
    | with_reducible exact h | with_reducible (refine Flows.free2 ?_) | with_reducible (refine Flows.search! ?_) | with_reducible (refine Flows.sendUpd ?_)
    | with_reducible (refine Flows.slc! ?_) | with_reducible (refine FlowsX.ok ?_) | with_reducible (refine Flows.ite ?_ ?_) | dsimp only | split

theorem Flows.execMigrationRelease {w0 : Nat} {s0 : State} {coll : Nat} {row : Nat} {s : State} (h : Flows w0 s0 s) (hw0 : 16 ||| w0 = w0 := by first | assumption | exact parts (by assumption) (by decide)) :
    FlowsX w0 s0 (Sys2Proof.Machine.execMigrationRelease coll row s) := by
  unfold Sys2Proof.Machine.execMigrationRelease
  repeat' first
    | with_reducible exact h | with_reducible (refine Flows.promote ?_) | with_reducible (refine Flows.search! ?_) | with_reducible (refine FlowsX.ok ?_)
    | with_reducible (refine Flows.ite ?_ ?_) | dsimp only | split

theorem Flows.execTighten {w0 : Nat} {s0 : State} {coll : Nat} {ball : BallId} {s : State} (h : Flows w0 s0 s) (hw0 : 16 ||| w0 = w0 := by first | assumption | exact parts (by assumption) (by decide)) :
    FlowsX w0 s0 (Sys2Proof.Machine.execTighten coll ball s) := by
  unfold Sys2Proof.Machine.execTighten
  repeat' first
    | with_reducible exact h | with_reducible assumption | with_reducible (refine Flows.coll! ?_) | with_reducible (refine Flows.tightenReach ?_)
    | with_reducible (refine FlowsX.ok ?_) | with_reducible (refine Flows.foldl ?_ ?_) | with_reducible intro _ | dsimp only | split

theorem Flows.execRadiusReplace {w0 : Nat} {s0 : State} {coll : Nat} {ball : BallId} {s : State} (h : Flows w0 s0 s) (hw0 : 16 ||| w0 = w0 := by first | assumption | exact parts (by assumption) (by decide)) :
    FlowsX w0 s0 (Sys2Proof.Machine.execRadiusReplace coll ball s) := by
  unfold Sys2Proof.Machine.execRadiusReplace
  repeat' first | with_reducible exact h | with_reducible (refine Flows.coll! ?_) | with_reducible (refine FlowsX.ok ?_) | with_reducible (refine Flows.ite ?_ ?_) | split

theorem Flows.execSlotFree {w0 : Nat} {s0 : State} {coll : Nat} {slot : Nat} {s : State} (h : Flows w0 s0 s) (hw0 : 146 ||| w0 = w0 := by first | assumption | exact parts (by assumption) (by decide)) :
    FlowsX w0 s0 (Sys2Proof.Machine.execSlotFree coll slot s) := by
  unfold Sys2Proof.Machine.execSlotFree
  repeat' first
    | with_reducible exact h | with_reducible (refine Flows.count ?_) | with_reducible (refine Flows.freeSlot ?_) | with_reducible (refine FlowsX.ok ?_)
    | with_reducible (refine Flows.ite ?_ ?_) | split

theorem Flows.execPopDecay {w0 : Nat} {s0 : State} {coll : Nat} {s : State} (h : Flows w0 s0 s) (hw0 : 4112 ||| w0 = w0 := by first | assumption | exact parts (by assumption) (by decide)) :
    FlowsX w0 s0 (Sys2Proof.Machine.execPopDecay coll s) := by
  unfold Sys2Proof.Machine.execPopDecay
  repeat' first
    | with_reducible exact h | with_reducible (refine Flows.coll! ?_) | with_reducible (refine Flows.reach ?_) | with_reducible (refine FlowsX.ok ?_)
    | with_reducible (refine Flows.ite ?_ ?_) | dsimp only | split

theorem Flows.execPopRecode {w0 : Nat} {s0 : State} {coll : Nat} {slot : Nat} {s : State} (h : Flows w0 s0 s) (hw0 : 24 ||| w0 = w0 := by first | assumption | exact parts (by assumption) (by decide)) :
    FlowsX w0 s0 (Sys2Proof.Machine.execPopRecode coll slot s) := by
  unfold Sys2Proof.Machine.execPopRecode
  repeat' first
    | with_reducible exact h | with_reducible (refine Flows.coll! ?_) | with_reducible (refine FlowsX.ok ?_) | with_reducible (refine Flows.ite ?_ ?_) | dsimp only
    | split

theorem Flows.execCodeRewrite {w0 : Nat} {s0 : State} {coll : Nat} {slot : Nat} {media : Bool} {s : State} (h : Flows w0 s0 s) (hw0 : 9215 ||| w0 = w0 := by first | assumption | exact parts (by assumption) (by decide)) :
    FlowsX w0 s0 (Sys2Proof.Machine.execCodeRewrite coll slot media s) := by
  unfold Sys2Proof.Machine.execCodeRewrite
  repeat' first
    | with_reducible exact h | with_reducible (refine Flows.chargeNode ?_) | with_reducible (refine Flows.coll! ?_) | with_reducible (refine Flows.extentLost ?_)
    | with_reducible (refine Flows.sectorLost ?_) | with_reducible (refine FlowsX.ok ?_) | with_reducible (refine Flows.ite ?_ ?_) | dsimp only | split

theorem Flows.epochRefused {w0 : Nat} {s0 : State} {s : State} {status : Nat} (h : Flows w0 s0 s) (hw0 : 2 ||| w0 = w0 := by first | assumption | exact parts (by assumption) (by decide)) :
    Flows w0 s0 (State.epochRefused s status) := by
  unfold State.epochRefused
  repeat' first | with_reducible exact h | with_reducible (refine Flows.count ?_) | with_reducible (refine Flows.ite ?_ ?_)

theorem Flows.gatherSend {w0 : Nat} {s0 : State} {s : State} {b : Nat} {n : Nat} {g : Gather} {ids : List Nat} (h : Flows w0 s0 s) (hw0 : 266 ||| w0 = w0 := by first | assumption | exact parts (by assumption) (by decide)) :
    Flows w0 s0 (State.gatherSend s b n g ids) := by
  unfold State.gatherSend
  repeat' first
    | with_reducible exact h | with_reducible assumption | with_reducible (refine Flows.fwGet ?_) | with_reducible (refine Flows.fwOp ?_)
    | with_reducible (refine Flows.send ?_) | with_reducible (refine Flows.foldl ?_ ?_) | with_reducible intro _

theorem Flows.gather! {w0 : Nat} {s0 : State} {s : State} {b : Nat} {f : Gather → Gather} (h : Flows w0 s0 s) (hw0 : 16 ||| w0 = w0 := by first | assumption | exact parts (by assumption) (by decide)) :
    Flows w0 s0 (State.gather! s b f) := by
  unfold State.gather!
  repeat' first | with_reducible exact h | with_reducible (refine Flows.search! ?_)

theorem Flows.finishGather {w0 : Nat} {s0 : State} {s : State} {b : Nat} (h : Flows w0 s0 s) (hw0 : 859 ||| w0 = w0 := by first | assumption | exact parts (by assumption) (by decide)) :
    Flows w0 s0 (State.finishGather s b) := by
  unfold State.finishGather
  repeat' first
    | with_reducible exact h | with_reducible (refine Flows.output ?_) | with_reducible (refine Flows.replyBatch ?_) | with_reducible (refine Flows.search! ?_)
    | with_reducible (refine Flows.ite ?_ ?_) | dsimp only | split

theorem Flows.askGather {w0 : Nat} {s0 : State} {s : State} {b : Nat} {idx : List Nat} (h : Flows w0 s0 s) (hw0 : 282 ||| w0 = w0 := by first | assumption | exact parts (by assumption) (by decide)) :
    Flows w0 s0 (State.askGather s b idx) := by
  unfold State.askGather
  repeat' first
    | with_reducible exact h | with_reducible assumption | with_reducible (refine Flows.chargeRead ?_) | with_reducible (refine Flows.gather! ?_)
    | with_reducible (refine Flows.gatherSend ?_) | with_reducible (refine Flows.ite ?_ ?_) | with_reducible (refine Flows.foldl ?_ ?_) | with_reducible intro _
    | dsimp only | split

theorem Flows.reaskGather {w0 : Nat} {s0 : State} {s : State} {b : Nat} {idx : List Nat} (h : Flows w0 s0 s) (hw0 : 282 ||| w0 = w0 := by first | assumption | exact parts (by assumption) (by decide)) :
    Flows w0 s0 (State.reaskGather s b idx) := by
  unfold State.reaskGather
  repeat' first | with_reducible exact h | with_reducible (refine Flows.askGather ?_) | with_reducible (refine Flows.gather! ?_)

theorem Flows.serveGather {w0 : Nat} {s0 : State} {s : State} {b : Nat} (h : Flows w0 s0 s) (hw0 : 859 ||| w0 = w0 := by first | assumption | exact parts (by assumption) (by decide)) :
    Flows w0 s0 (State.serveGather s b) := by
  unfold State.serveGather
  repeat' first
    | with_reducible exact h | with_reducible (refine Flows.askGather ?_) | with_reducible (refine Flows.finishGather ?_) | with_reducible (refine Flows.ite ?_ ?_)
    | split

theorem Flows.gatherAnswer {w0 : Nat} {s0 : State} {s : State} {b : Nat} {home : Nat} {a : GatherAns} (h : Flows w0 s0 s) (hw0 : 859 ||| w0 = w0 := by first | assumption | exact parts (by assumption) (by decide)) :
    Flows w0 s0 (State.gatherAnswer s b home a) := by
  unfold State.gatherAnswer
  repeat' first
    | with_reducible exact h | with_reducible (refine Flows.batch! ?_) | with_reducible (refine Flows.finishGather ?_) | with_reducible (refine Flows.gather! ?_)
    | with_reducible (refine Flows.reaskGather ?_) | with_reducible (refine Flows.ite ?_ ?_) | dsimp only | split

theorem Flows.resumeGathers {w0 : Nat} {s0 : State} {s : State} {comp : Nat} (h : Flows w0 s0 s) (hw0 : 859 ||| w0 = w0 := by first | assumption | exact parts (by assumption) (by decide)) :
    Flows w0 s0 (State.resumeGathers s comp) := by
  unfold State.resumeGathers
  repeat' first
    | with_reducible exact h | with_reducible assumption | with_reducible (refine Flows.finishGather ?_) | with_reducible (refine Flows.reaskGather ?_)
    | with_reducible (refine Flows.foldl ?_ ?_) | with_reducible intro _

theorem Flows.execGather {w0 : Nat} {s0 : State} {mb : Nat} {dma : HostRead} {s : State} (h : Flows w0 s0 s) (hw0 : 859 ||| w0 = w0 := by first | assumption | exact parts (by assumption) (by decide)) :
    FlowsX w0 s0 (Sys2Proof.Machine.execGather mb dma s) := by
  unfold Sys2Proof.Machine.execGather
  repeat' first
    | with_reducible exact h | with_reducible assumption | with_reducible (refine Flows.addBatch ?_) | with_reducible (refine Flows.enroll ?_)
    | with_reducible (refine Flows.epochRefused ?_) | with_reducible (refine Flows.onMsg ?_ ?_) | with_reducible (refine Flows.refuseBatch ?_)
    | with_reducible (refine Flows.search! ?_) | with_reducible (refine Flows.send ?_) | with_reducible (refine Flows.serveGather ?_)
    | with_reducible (refine Flows.ite ?_ ?_) | with_reducible intro _ | dsimp only | split

theorem Flows.gatherNote {w0 : Nat} {s0 : State} {s : State} {src : Nat} {bs : List Byte} (h : Flows w0 s0 s) (hw0 : 256 ||| w0 = w0 := by first | assumption | exact parts (by assumption) (by decide)) :
    Flows w0 s0 (State.gatherNote s src bs) := by
  unfold State.gatherNote
  repeat' first | with_reducible exact h | with_reducible (refine Flows.trib! ?_)

theorem Flows.gatherGet {w0 : Nat} {s0 : State} {s : State} {src : Nat} {addr : Nat} {len : Nat} (h : Flows w0 s0 s) (hw0 : 8210 ||| w0 = w0 := by first | assumption | exact parts (by assumption) (by decide)) :
    Flows w0 s0 (State.gatherGet s src addr len).2 := by
  unfold State.gatherGet
  repeat' first
    | with_reducible exact h | with_reducible (refine Flows.count ?_) | with_reducible (refine Flows.free2 ?_) | with_reducible (refine Flows.raiseStable ?_)
    | with_reducible (refine Flows.ite ?_ ?_) | dsimp only | split

theorem Flows.execDefaultRow {w0 : Nat} {s0 : State} {mb : Nat} {dma : HostRead} {s : State} (h : Flows w0 s0 s) (hw0 : 859 ||| w0 = w0 := by first | assumption | exact parts (by assumption) (by decide)) :
    FlowsX w0 s0 (Sys2Proof.Machine.execDefaultRow mb dma s) := by
  unfold Sys2Proof.Machine.execDefaultRow
  repeat' first
    | with_reducible exact h | with_reducible assumption | with_reducible (refine Flows.coll! ?_) | with_reducible (refine Flows.done ?_)
    | with_reducible (refine Flows.onMsg ?_ ?_) | with_reducible (refine Flows.refuse ?_) | with_reducible (refine Flows.reply ?_)
    | with_reducible (refine Flows.ite ?_ ?_) | with_reducible intro _ | dsimp only | split

theorem Flows.refuseInfo {w0 : Nat} {s0 : State} {s : State} {m : Msg} {reason : Nat} (h : Flows w0 s0 s) (hw0 : 8195 ||| w0 = w0 := by first | assumption | exact parts (by assumption) (by decide)) :
    Flows w0 s0 (State.refuseInfo s m reason) := by
  unfold State.refuseInfo
  repeat' first | with_reducible exact h | with_reducible (refine Flows.free2 ?_) | with_reducible (refine Flows.reply ?_)

theorem Flows.execEpochInfo {w0 : Nat} {s0 : State} {mb : Nat} {s : State} (h : Flows w0 s0 s) (hw0 : 9051 ||| w0 = w0 := by first | assumption | exact parts (by assumption) (by decide)) :
    FlowsX w0 s0 (Sys2Proof.Machine.execEpochInfo mb s) := by
  unfold Sys2Proof.Machine.execEpochInfo
  repeat' first
    | with_reducible exact h | with_reducible assumption | with_reducible (refine Flows.done ?_) | with_reducible (refine Flows.onMsg ?_ ?_)
    | with_reducible (refine Flows.refuseInfo ?_) | with_reducible (refine Flows.ite ?_ ?_) | with_reducible intro _ | split

end Sys2Proof.Machine
end

