-- ==== Sys2Proof/Laws/FlowBitmaps.lean ====
section
/-! SUPPORT. What the operations and meanings of Machine/Bitmaps.lean keep. -/

set_option Elab.async false

namespace Sys2Proof.Machine

theorem Flows.execBitmapWrite {w0 : Nat} {s0 : State} {mb : Nat} {dma : HostRead} {s : State} (h : Flows w0 s0 s) (hw0 : 859 ||| w0 = w0 := by first | assumption | exact parts (by assumption) (by decide)) :
    FlowsX w0 s0 (Sys2Proof.Machine.execBitmapWrite mb dma s) := by
  unfold Sys2Proof.Machine.execBitmapWrite
  repeat' first
    | with_reducible exact h | with_reducible assumption | with_reducible (refine Flows.askEpoch ?_) | with_reducible (refine Flows.onMsg ?_ ?_)
    | with_reducible (refine Flows.reply ?_) | with_reducible (refine Flows.search! ?_) | with_reducible (refine Flows.slc! ?_)
    | with_reducible (refine Flows.ite ?_ ?_) | with_reducible intro _ | dsimp only | split

theorem Flows.settleBitmaps {w0 : Nat} {s0 : State} {s : State} {k : Nat} (h : Flows w0 s0 s) (hw0 : 283 ||| w0 = w0 := by first | assumption | exact parts (by assumption) (by decide)) :
    Flows w0 s0 (State.settleBitmaps s k) := by
  unfold State.settleBitmaps
  repeat' first
    | with_reducible exact h | with_reducible assumption | with_reducible (refine Flows.askEpoch ?_) | with_reducible (refine Flows.coll! ?_)
    | with_reducible (refine Flows.done ?_) | with_reducible (refine Flows.ite ?_ ?_) | with_reducible (refine Flows.foldl ?_ ?_) | with_reducible intro _
    | dsimp only | split

theorem Flows.execBitmapDrop {w0 : Nat} {s0 : State} {mb : Nat} {s : State} (h : Flows w0 s0 s) (hw0 : 859 ||| w0 = w0 := by first | assumption | exact parts (by assumption) (by decide)) :
    FlowsX w0 s0 (Sys2Proof.Machine.execBitmapDrop mb s) := by
  unfold Sys2Proof.Machine.execBitmapDrop
  repeat' first
    | with_reducible exact h | with_reducible assumption | with_reducible (refine Flows.coll! ?_) | with_reducible (refine Flows.onMsg ?_ ?_)
    | with_reducible (refine Flows.refuse ?_) | with_reducible (refine Flows.settleBitmaps ?_) | with_reducible (refine Flows.ite ?_ ?_) | with_reducible intro _
    | split

theorem Flows.resyncEnds {w0 : Nat} {s0 : State} {s : State} {k : Nat} {n : Nat} {st : Nat} {count : Nat} (h : Flows w0 s0 s) (hw0 : 283 ||| w0 = w0 := by first | assumption | exact parts (by assumption) (by decide)) :
    Flows w0 s0 (State.resyncEnds s k n st count) := by
  unfold State.resyncEnds
  repeat' first
    | with_reducible exact h | with_reducible assumption | with_reducible (refine Flows.askResync ?_) | with_reducible (refine Flows.done ?_)
    | with_reducible (refine Flows.refuse ?_) | with_reducible (refine Flows.source! ?_) | with_reducible (refine Flows.ite ?_ ?_)
    | with_reducible (refine Flows.foldl ?_ ?_) | with_reducible intro _ | dsimp only | split

theorem Flows.execSummaryResync {w0 : Nat} {s0 : State} {mb : Nat} {s : State} (h : Flows w0 s0 s) (hw0 : 859 ||| w0 = w0 := by first | assumption | exact parts (by assumption) (by decide)) :
    FlowsX w0 s0 (Sys2Proof.Machine.execSummaryResync mb s) := by
  unfold Sys2Proof.Machine.execSummaryResync
  repeat' first
    | with_reducible exact h | with_reducible assumption | with_reducible (refine Flows.askResync ?_) | with_reducible (refine Flows.done ?_)
    | with_reducible (refine Flows.onMsg ?_ ?_) | with_reducible (refine Flows.refuse ?_) | with_reducible (refine Flows.source! ?_)
    | with_reducible (refine Flows.ite ?_ ?_) | with_reducible intro _ | dsimp only | split

theorem Flows.takeSummary {w0 : Nat} {s0 : State} {s : State} {coll : Nat} {source : Nat} {catchment : Nat} {summary : Summary} {version : Nat} {last : Bool} (h : Flows w0 s0 s) (hw0 : 283 ||| w0 = w0 := by first | assumption | exact parts (by assumption) (by decide)) :
    Flows w0 s0 (State.takeSummary s coll source catchment summary version last) := by
  unfold State.takeSummary
  repeat' first
    | with_reducible exact h | with_reducible assumption | with_reducible (refine Flows.askResync ?_) | with_reducible (refine Flows.count ?_)
    | with_reducible (refine Flows.done ?_) | with_reducible (refine Flows.holdReq ?_) | with_reducible (refine Flows.send ?_)
    | with_reducible (refine Flows.source! ?_) | with_reducible (refine Flows.ite ?_ ?_) | with_reducible (refine Flows.foldl ?_ ?_) | with_reducible intro _
    | dsimp only | split

theorem Flows.execSummaryReceive {w0 : Nat} {s0 : State} {coll : Nat} {source : Nat} {catchment : Nat} {summary : Summary} {version : Nat} {last : Bool} {s : State} (h : Flows w0 s0 s) (hw0 : 283 ||| w0 = w0 := by first | assumption | exact parts (by assumption) (by decide)) :
    FlowsX w0 s0 (Sys2Proof.Machine.execSummaryReceive coll source catchment summary version last s) := by
  unfold Sys2Proof.Machine.execSummaryReceive
  repeat' first | with_reducible exact h | with_reducible (refine Flows.takeSummary ?_) | with_reducible (refine FlowsX.ok ?_)

theorem Flows.execPubSlow {w0 : Nat} {s0 : State} {coll : Nat} {seq : Nat} {s : State} (h : Flows w0 s0 s) (hw0 : 4118 ||| w0 = w0 := by first | assumption | exact parts (by assumption) (by decide)) :
    FlowsX w0 s0 (Sys2Proof.Machine.execPubSlow coll seq s) := by
  unfold Sys2Proof.Machine.execPubSlow
  repeat' first
    | with_reducible exact h | with_reducible (refine Flows.coll! ?_) | with_reducible (refine Flows.logC ?_) | with_reducible (refine Flows.reach ?_)
    | with_reducible (refine FlowsX.ok ?_) | with_reducible (refine Flows.ite ?_ ?_) | dsimp only | split

theorem Flows.sourceLost {w0 : Nat} {s0 : State} {s : State} {n : Nat} (h : Flows w0 s0 s) (hw0 : 16 ||| w0 = w0 := by first | assumption | exact parts (by assumption) (by decide)) :
    Flows w0 s0 (State.sourceLost s n) := by
  unfold State.sourceLost
  repeat' first | with_reducible exact h | with_reducible (refine Flows.search! ?_)

theorem Flows.reconnected {w0 : Nat} {s0 : State} {s : State} {n : Nat} (h : Flows w0 s0 s) (hw0 : 282 ||| w0 = w0 := by first | assumption | exact parts (by assumption) (by decide)) :
    Flows w0 s0 (State.reconnected s n) := by
  unfold State.reconnected
  repeat' first
    | with_reducible exact h | with_reducible assumption | with_reducible (refine Flows.askResync ?_) | with_reducible (refine Flows.publishAll ?_)
    | with_reducible (refine Flows.ite ?_ ?_) | with_reducible (refine Flows.foldl ?_ ?_) | with_reducible intro _

end Sys2Proof.Machine
end

