-- ==== Sys2Proof/Laws/FlowSweep.lean ====
section
/-! SUPPORT. What the operations and meanings of Machine/Sweep.lean keep. -/

set_option Elab.async false

namespace Sys2Proof.Machine

theorem Flows.mslot! {w0 : Nat} {s0 : State} {s : State} {i : Nat} {f : MergeSlot → MergeSlot} (h : Flows w0 s0 s) (hw0 : 16 ||| w0 = w0 := by first | assumption | exact parts (by assumption) (by decide)) :
    Flows w0 s0 (State.mslot! s i f) := by
  unfold State.mslot!
  repeat' first | with_reducible exact h | with_reducible (refine Flows.search! ?_)

theorem Flows.giveSlot {w0 : Nat} {s0 : State} {s : State} {b : Nat} {q : Nat} (h : Flows w0 s0 s) (hw0 : 16 ||| w0 = w0 := by first | assumption | exact parts (by assumption) (by decide)) :
    Flows w0 s0 (State.giveSlot s b q) := by
  unfold State.giveSlot
  repeat' first | with_reducible exact h | with_reducible (refine Flows.mslot! ?_) | with_reducible (refine Flows.query! ?_) | split

theorem Flows.freeSlotOf {w0 : Nat} {s0 : State} {s : State} {b : Nat} {q : Nat} (h : Flows w0 s0 s) (hw0 : 16 ||| w0 = w0 := by first | assumption | exact parts (by assumption) (by decide)) :
    Flows w0 s0 (State.freeSlotOf s b q) := by
  unfold State.freeSlotOf
  repeat' first | with_reducible exact h | with_reducible (refine Flows.mslot! ?_) | with_reducible (refine Flows.ite ?_ ?_) | split

theorem Flows.grantSlots {w0 : Nat} {s0 : State} {s : State} {b : Nat} (h : Flows w0 s0 s) (hw0 : 26 ||| w0 = w0 := by first | assumption | exact parts (by assumption) (by decide)) :
    Flows w0 s0 (State.grantSlots s b) := by
  unfold State.grantSlots
  repeat' first
    | with_reducible exact h | with_reducible assumption | with_reducible (refine Flows.batch! ?_) | with_reducible (refine Flows.giveSlot ?_)
    | with_reducible (refine Flows.tryRoot ?_) | with_reducible (refine Flows.ite ?_ ?_) | with_reducible (refine Flows.foldl ?_ ?_) | with_reducible intro _ | split

theorem Flows.haltLanes {w0 : Nat} {s0 : State} {s : State} {b : Nat} {q : Nat} (h : Flows w0 s0 s) (hw0 : 32 ||| w0 = w0 := by first | assumption | exact parts (by assumption) (by decide)) :
    Flows w0 s0 (State.haltLanes s b q) := by
  unfold State.haltLanes
  repeat' first | with_reducible exact h | with_reducible (refine Flows.mrc! ?_)

theorem Flows.batchOver {w0 : Nat} {s0 : State} {s : State} {b : Nat} (h : Flows w0 s0 s) (hw0 : 859 ||| w0 = w0 := by first | assumption | exact parts (by assumption) (by decide)) :
    Flows w0 s0 (State.batchOver s b) := by
  unfold State.batchOver
  repeat' first
    | with_reducible exact h | with_reducible (refine Flows.replyBatch ?_) | with_reducible (refine Flows.search! ?_)
    | with_reducible (refine Flows.settleBitmaps ?_) | with_reducible (refine Flows.ite ?_ ?_) | split

theorem Flows.countRows {w0 : Nat} {s0 : State} {s : State} {k : Nat} {ids : List Nat} (h : Flows w0 s0 s) (hw0 : 16 ||| w0 = w0 := by first | assumption | exact parts (by assumption) (by decide)) :
    Flows w0 s0 (State.countRows s k ids) := by
  unfold State.countRows
  repeat' first | with_reducible exact h | with_reducible (refine Flows.coll! ?_)

theorem Flows.tellAccess {w0 : Nat} {s0 : State} {s : State} {k : Nat} {node : Nat} {ids : List Nat} (h : Flows w0 s0 s) (hw0 : 266 ||| w0 = w0 := by first | assumption | exact parts (by assumption) (by decide)) :
    Flows w0 s0 (State.tellAccess s k node ids) := by
  unfold State.tellAccess
  repeat' first
    | with_reducible exact h | with_reducible assumption | with_reducible (refine Flows.fwOp ?_) | with_reducible (refine Flows.send ?_)
    | with_reducible (refine Flows.foldl ?_ ?_) | with_reducible intro _

theorem Flows.countAccess {w0 : Nat} {s0 : State} {s : State} {k : Nat} {p : PList} (h : Flows w0 s0 s) (hw0 : 282 ||| w0 = w0 := by first | assumption | exact parts (by assumption) (by decide)) :
    Flows w0 s0 (State.countAccess s k p) := by
  unfold State.countAccess
  repeat' first
    | with_reducible exact h | with_reducible assumption | with_reducible (refine Flows.countRows ?_) | with_reducible (refine Flows.tellAccess ?_)
    | with_reducible (refine Flows.ite ?_ ?_) | with_reducible (refine Flows.foldl ?_ ?_) | with_reducible intro _ | dsimp only | split

theorem Flows.attRecord {w0 : Nat} {s0 : State} {s : State} {qb : QBatch} {y : Query} {ag : AggOut} {outl : Bool} {hd : Nat} {ents : Bool} {good : Nat} {p : PList} (h : Flows w0 s0 s) (hw0 : 8192 ||| w0 = w0 := by first | assumption | exact parts (by assumption) (by decide)) :
    Flows w0 s0 (State.attRecord s qb y ag outl hd ents good p).2 := by
  unfold State.attRecord
  repeat' first
    | with_reducible exact h | with_reducible assumption | with_reducible (refine Flows.free2 ?_) | with_reducible (refine Flows.foldl2 ?_ ?_)
    | with_reducible intro _ | dsimp only | split

theorem Flows.finishQuery {w0 : Nat} {s0 : State} {s : State} {b : Nat} {q : Nat} (h : Flows w0 s0 s) (hw0 : 9083 ||| w0 = w0 := by first | assumption | exact parts (by assumption) (by decide)) :
    Flows w0 s0 (State.finishQuery s b q) := by
  unfold State.finishQuery
  repeat' first
    | with_reducible exact h | with_reducible (refine Flows.attRecord ?_) | with_reducible (refine Flows.batchOver ?_) | with_reducible (refine Flows.count ?_)
    | with_reducible (refine Flows.countAccess ?_) | with_reducible (refine Flows.free2 ?_) | with_reducible (refine Flows.freeSlotOf ?_)
    | with_reducible (refine Flows.haltLanes ?_) | with_reducible (refine Flows.output ?_) | with_reducible (refine Flows.query! ?_)
    | with_reducible (refine Flows.ite ?_ ?_) | dsimp only | split

theorem Flows.stopQuery {w0 : Nat} {s0 : State} {s : State} {b : Nat} {q : Nat} {st : Nat} (h : Flows w0 s0 s) (hw0 : 9083 ||| w0 = w0 := by first | assumption | exact parts (by assumption) (by decide)) :
    Flows w0 s0 (State.stopQuery s b q st) := by
  unfold State.stopQuery
  repeat' first | with_reducible exact h | with_reducible (refine Flows.finishQuery ?_) | with_reducible (refine Flows.query! ?_)

theorem Flows.refusePart {w0 : Nat} {s0 : State} {s : State} {b : Nat} {q : Nat} {st : Nat} (h : Flows w0 s0 s) (hw0 : 891 ||| w0 = w0 := by first | assumption | exact parts (by assumption) (by decide)) :
    Flows w0 s0 (State.refusePart s b q st) := by
  unfold State.refusePart
  repeat' first
    | with_reducible exact h | with_reducible (refine Flows.batchOver ?_) | with_reducible (refine Flows.freeSlotOf ?_) | with_reducible (refine Flows.haltLanes ?_)
    | with_reducible (refine Flows.query! ?_) | with_reducible (refine Flows.send ?_) | with_reducible (refine Flows.ite ?_ ?_) | split

theorem Flows.pushTheta {w0 : Nat} {s0 : State} {s : State} {b : Nat} {q : Nat} (h : Flows w0 s0 s) (hw0 : 32 ||| w0 = w0 := by first | assumption | exact parts (by assumption) (by decide)) :
    Flows w0 s0 (State.pushTheta s b q) := by
  unfold State.pushTheta
  repeat' first | with_reducible exact h | with_reducible (refine Flows.mrc! ?_) | dsimp only | split

theorem Flows.rethreshold {w0 : Nat} {s0 : State} {s : State} {b : Nat} {q : Nat} (h : Flows w0 s0 s) (hw0 : 50 ||| w0 = w0 := by first | assumption | exact parts (by assumption) (by decide)) :
    Flows w0 s0 (State.rethreshold s b q) := by
  unfold State.rethreshold
  repeat' first
    | with_reducible exact h | with_reducible (refine Flows.count ?_) | with_reducible (refine Flows.pushTheta ?_) | with_reducible (refine Flows.query! ?_)
    | with_reducible (refine Flows.ite ?_ ?_) | dsimp only | split

theorem Flows.offerCand {w0 : Nat} {s0 : State} {s : State} {b : Nat} {q : Nat} {cand : Cand} (h : Flows w0 s0 s) (hw0 : 16 ||| w0 = w0 := by first | assumption | exact parts (by assumption) (by decide)) :
    Flows w0 s0 (State.offerCand s b q cand) := by
  unfold State.offerCand
  repeat' first | with_reducible exact h | with_reducible (refine Flows.query! ?_) | split

theorem Flows.offerOpen {w0 : Nat} {s0 : State} {s : State} {b : Nat} {q : Nat} {cand : Cand} (h : Flows w0 s0 s) (hw0 : 16 ||| w0 = w0 := by first | assumption | exact parts (by assumption) (by decide)) :
    Flows w0 s0 (State.offerOpen s b q cand) := by
  unfold State.offerOpen
  repeat' first | with_reducible exact h | with_reducible (refine Flows.offerCand ?_) | with_reducible (refine Flows.ite ?_ ?_) | split

theorem Flows.takeTally {w0 : Nat} {s0 : State} {s : State} {b : Nat} {q : Nat} {reach : Nat} {bound : BoundPart} {dropped : Nat} (h : Flows w0 s0 s) (hw0 : 16 ||| w0 = w0 := by first | assumption | exact parts (by assumption) (by decide)) :
    Flows w0 s0 (State.takeTally s b q reach bound dropped) := by
  unfold State.takeTally
  repeat' first | with_reducible exact h | with_reducible (refine Flows.query! ?_)

theorem Flows.boundAll {w0 : Nat} {s0 : State} {s : State} {b : Nat} {q : Nat} (h : Flows w0 s0 s) (hw0 : 18 ||| w0 = w0 := by first | assumption | exact parts (by assumption) (by decide)) :
    Flows w0 s0 (State.boundAll s b q).1 := by
  unfold State.boundAll
  repeat' first | with_reducible exact h | with_reducible (refine Flows.count ?_) | with_reducible (refine Flows.query! ?_) | dsimp only | split

theorem Flows.sendParts {w0 : Nat} {s0 : State} {s : State} {b : Nat} {q : Nat} {nodes : List Nat} (h : Flows w0 s0 s) (hw0 : 266 ||| w0 = w0 := by first | assumption | exact parts (by assumption) (by decide)) :
    Flows w0 s0 (State.sendParts s b q nodes) := by
  unfold State.sendParts
  repeat' first
    | with_reducible exact h | with_reducible assumption | with_reducible (refine Flows.fwOp ?_) | with_reducible (refine Flows.send ?_)
    | with_reducible (refine Flows.foldl ?_ ?_) | with_reducible intro _ | dsimp only | split

theorem Flows.visit {w0 : Nat} {s0 : State} {s : State} {b : Nat} {q : Nat} {round : Nat} {nodes : List Nat} (h : Flows w0 s0 s) (hw0 : 9083 ||| w0 = w0 := by first | assumption | exact parts (by assumption) (by decide)) :
    Flows w0 s0 (State.visit s b q round nodes) := by
  unfold State.visit
  repeat' first
    | with_reducible exact h | with_reducible (refine Flows.query! ?_) | with_reducible (refine Flows.sendParts ?_) | with_reducible (refine Flows.stopQuery ?_)
    | with_reducible (refine Flows.ite ?_ ?_) | dsimp only | split

theorem Flows.roundTwo {w0 : Nat} {s0 : State} {s : State} {b : Nat} {q : Nat} (h : Flows w0 s0 s) (hw0 : 9083 ||| w0 = w0 := by first | assumption | exact parts (by assumption) (by decide)) :
    Flows w0 s0 (State.roundTwo s b q) := by
  unfold State.roundTwo
  repeat' first
    | with_reducible exact h | with_reducible (refine Flows.count ?_) | with_reducible (refine Flows.mslot! ?_) | with_reducible (refine Flows.query! ?_)
    | with_reducible (refine Flows.visit ?_) | with_reducible (refine Flows.ite ?_ ?_) | dsimp only | split

theorem Flows.logDiverge {w0 : Nat} {s0 : State} {s : State} {comp : Nat} {l : List (Entry × Entry)} (h : Flows w0 s0 s) (hw0 : 6 ||| w0 = w0 := by first | assumption | exact parts (by assumption) (by decide)) :
    Flows w0 s0 (State.logDiverge s comp l) := by
  unfold State.logDiverge
  repeat' first
    | with_reducible exact h | with_reducible assumption | with_reducible (refine Flows.count ?_) | with_reducible (refine Flows.logC ?_)
    | with_reducible (refine Flows.foldl ?_ ?_) | with_reducible intro _

theorem Flows.mergeList {w0 : Nat} {s0 : State} {s : State} {tag : Nat} {p : PList} (h : Flows w0 s0 s) (hw0 : 9087 ||| w0 = w0 := by first | assumption | exact parts (by assumption) (by decide)) :
    Flows w0 s0 (State.mergeList s tag p) := by
  unfold State.mergeList
  repeat' first
    | with_reducible exact h | with_reducible (refine Flows.count ?_) | with_reducible (refine Flows.logDiverge ?_) | with_reducible (refine Flows.mslot! ?_)
    | with_reducible (refine Flows.query! ?_) | with_reducible (refine Flows.roundTwo ?_) | with_reducible (refine Flows.ite ?_ ?_) | dsimp only | split

end Sys2Proof.Machine
end

