-- ==== Sys2Proof/Laws/FlowBraid.lean ====
section
/-! SUPPORT. What the operations and meanings of Machine/Braid.lean keep. -/

set_option Elab.async false

namespace Sys2Proof.Machine

theorem Flows.countStale {w0 : Nat} {s0 : State} {s : State} {k : Nat} {i : Nat} (h : Flows w0 s0 s) (hw0 : 18 ||| w0 = w0 := by first | assumption | exact parts (by assumption) (by decide)) :
    Flows w0 s0 (State.countStale s k i) := by
  unfold State.countStale
  repeat' first
    | with_reducible exact h | with_reducible (refine Flows.coll! ?_) | with_reducible (refine Flows.count ?_) | with_reducible (refine Flows.repairTest ?_) | split

theorem Flows.edgeList {w0 : Nat} {s0 : State} {s : State} {k : Nat} {i : Nat} (h : Flows w0 s0 s) (hw0 : 22 ||| w0 = w0 := by first | assumption | exact parts (by assumption) (by decide)) :
    Flows w0 s0 (State.edgeList s k i).2 := by
  unfold State.edgeList
  repeat' first
    | with_reducible exact h | with_reducible (refine Flows.coll! ?_) | with_reducible (refine Flows.count ?_) | with_reducible (refine Flows.logC ?_)
    | with_reducible (refine Flows.queueLink ?_) | dsimp only | split

theorem Flows.reachSlot {w0 : Nat} {s0 : State} {s : State} {k : Nat} {visited : List Nat} {acc : List Nat} {i : Nat} (h : Flows w0 s0 s) (hw0 : 2 ||| w0 = w0 := by first | assumption | exact parts (by assumption) (by decide)) :
    Flows w0 s0 (State.reachSlot s k visited acc i).2 := by
  unfold State.reachSlot
  repeat' first | with_reducible exact h | with_reducible (refine Flows.count ?_) | dsimp only | split

theorem Flows.neighbours {w0 : Nat} {s0 : State} {s : State} {k : Nat} {i : Nat} {visited : List Nat} (h : Flows w0 s0 s) (hw0 : 22 ||| w0 = w0 := by first | assumption | exact parts (by assumption) (by decide)) :
    Flows w0 s0 (State.neighbours s k i visited).2 := by
  unfold State.neighbours
  repeat' first
    | with_reducible exact h | with_reducible assumption | with_reducible (refine Flows.countStale ?_) | with_reducible (refine Flows.edgeList ?_)
    | with_reducible (refine Flows.reachSlot ?_) | with_reducible (refine Flows.foldl2 ?_ ?_) | with_reducible intro _ | split

theorem Flows.reachSeeds {w0 : Nat} {s0 : State} {s : State} {k : Nat} {seeds : List Nat} (h : Flows w0 s0 s) (hw0 : 2 ||| w0 = w0 := by first | assumption | exact parts (by assumption) (by decide)) :
    Flows w0 s0 (State.reachSeeds s k seeds).2 := by
  unfold State.reachSeeds
  repeat' first
    | with_reducible exact h | with_reducible assumption | with_reducible (refine Flows.reachSlot ?_) | with_reducible (refine Flows.foldl2 ?_ ?_)
    | with_reducible intro _

theorem Flows.prefetch {w0 : Nat} {s0 : State} {s : State} {k : Nat} {lead : List Nat} (h : Flows w0 s0 s) (hw0 : 22 ||| w0 = w0 := by first | assumption | exact parts (by assumption) (by decide)) :
    Flows w0 s0 (State.prefetch s k lead).2 := by
  unfold State.prefetch
  repeat' first
    | with_reducible exact h | with_reducible assumption | with_reducible (refine Flows.edgeList ?_) | with_reducible (refine Flows.foldl2 ?_ ?_)
    | with_reducible intro _ | dsimp only | split

theorem Flows.storeWalk {w0 : Nat} {s0 : State} {s : State} {b : Nat} {q : Nat} {w : Walk} {old : Nat} (h : Flows w0 s0 s) (hw0 : 50 ||| w0 = w0 := by first | assumption | exact parts (by assumption) (by decide)) :
    Flows w0 s0 (State.storeWalk s b q w old) := by
  unfold State.storeWalk
  repeat' first
    | with_reducible exact h | with_reducible assumption | with_reducible (refine Flows.count ?_) | with_reducible (refine Flows.offerOpen ?_)
    | with_reducible (refine Flows.query! ?_) | with_reducible (refine Flows.rethreshold ?_) | with_reducible (refine Flows.ite ?_ ?_)
    | with_reducible (refine Flows.foldl ?_ ?_) | with_reducible intro _ | dsimp only | split

theorem Flows.startWalk {w0 : Nat} {s0 : State} {s : State} {b : Nat} {q : Nat} {catches : List (Nat × F32)} (h : Flows w0 s0 s) (hw0 : 50 ||| w0 = w0 := by first | assumption | exact parts (by assumption) (by decide)) :
    Flows w0 s0 (State.startWalk s b q catches) := by
  unfold State.startWalk
  repeat' first
    | with_reducible exact h | with_reducible (refine Flows.reachSeeds ?_) | with_reducible (refine Flows.storeWalk ?_) | with_reducible (refine Flows.ite ?_ ?_)
    | dsimp only | split

theorem Flows.walkRound {w0 : Nat} {s0 : State} {s : State} {b : Nat} {q : Nat} {w : Walk} (h : Flows w0 s0 s) (hw0 : 54 ||| w0 = w0 := by first | assumption | exact parts (by assumption) (by decide)) :
    Flows w0 s0 (State.walkRound s b q w) := by
  unfold State.walkRound
  repeat' first
    | with_reducible exact h | with_reducible assumption | with_reducible (refine Flows.count ?_) | with_reducible (refine Flows.neighbours ?_)
    | with_reducible (refine Flows.prefetch ?_) | with_reducible (refine Flows.query! ?_) | with_reducible (refine Flows.storeWalk ?_)
    | with_reducible (refine Flows.ite ?_ ?_) | with_reducible (refine Flows.foldl2 ?_ ?_) | with_reducible intro _ | dsimp only | split

theorem Flows.execWalkRound {w0 : Nat} {s0 : State} {batch : Nat} {query : Nat} {s : State} (h : Flows w0 s0 s) (hw0 : 54 ||| w0 = w0 := by first | assumption | exact parts (by assumption) (by decide)) :
    FlowsX w0 s0 (Sys2Proof.Machine.execWalkRound batch query s) := by
  unfold Sys2Proof.Machine.execWalkRound
  repeat' first
    | with_reducible exact h | with_reducible (refine Flows.walkRound ?_) | with_reducible (refine FlowsX.ok ?_) | with_reducible (refine Flows.ite ?_ ?_) | split

theorem Flows.execWalkTimeout {w0 : Nat} {s0 : State} {batch : Nat} {query : Nat} {s : State} (h : Flows w0 s0 s) (hw0 : 4114 ||| w0 = w0 := by first | assumption | exact parts (by assumption) (by decide)) :
    FlowsX w0 s0 (Sys2Proof.Machine.execWalkTimeout batch query s) := by
  unfold Sys2Proof.Machine.execWalkTimeout
  repeat' first
    | with_reducible exact h | with_reducible (refine Flows.count ?_) | with_reducible (refine Flows.query! ?_) | with_reducible (refine Flows.reach ?_)
    | with_reducible (refine FlowsX.ok ?_) | split

theorem Flows.foldl3 {b : Nat} {s : State} {α β γ : Type} {f : β × γ × State → α → β × γ × State} {l : List α} {t : β × γ × State} (h : Flows b s t.2.2)
    (hf : ∀ u a, Flows b s u.2.2 → Flows b s (f u a).2.2) : Flows b s (l.foldl f t).2.2 := by
  induction l generalizing t with
  | nil => exact h
  | cons a l ih => exact ih (hf _ _ h)

theorem Flows.linkWalk {w0 : Nat} {s0 : State} {s : State} {k : Nat} {i : Nat} {width : Nat} {x4 : Nat} {x5 : List Nat} {x6 : List Nat} (h : Flows w0 s0 s) (hw0 : 22 ||| w0 = w0 := by first | assumption | exact parts (by assumption) (by decide)) :
    Flows w0 s0 (State.linkWalk s k i width x4 x5 x6).2 := by
  induction x4 generalizing s x5 x6 with
  | zero => exact h
  | succ _ ih =>
    unfold State.linkWalk
    split
    · exact h
    · dsimp only
      split
      · exact h
      · exact ih (Flows.foldl3 h (fun _ _ hu => Flows.neighbours hu))

theorem Flows.backEdge {w0 : Nat} {s0 : State} {s : State} {k : Nat} {i : Nat} {x : Nat} (h : Flows w0 s0 s) (hw0 : 22 ||| w0 = w0 := by first | assumption | exact parts (by assumption) (by decide)) :
    Flows w0 s0 (State.backEdge s k i x) := by
  unfold State.backEdge
  repeat' first
    | with_reducible exact h | with_reducible assumption | with_reducible (refine Flows.coll! ?_) | with_reducible (refine Flows.countStale ?_)
    | with_reducible (refine Flows.edgeList ?_) | with_reducible (refine Flows.ite ?_ ?_) | with_reducible (refine Flows.foldl ?_ ?_) | with_reducible intro _
    | dsimp only | split

theorem Flows.linkSlot {w0 : Nat} {s0 : State} {s : State} {k : Nat} {i : Nat} (h : Flows w0 s0 s) (hw0 : 22 ||| w0 = w0 := by first | assumption | exact parts (by assumption) (by decide)) :
    Flows w0 s0 (State.linkSlot s k i) := by
  unfold State.linkSlot
  repeat' first
    | with_reducible exact h | with_reducible assumption | with_reducible (refine Flows.backEdge ?_) | with_reducible (refine Flows.coll! ?_)
    | with_reducible (refine Flows.count ?_) | with_reducible (refine Flows.linkWalk ?_) | with_reducible (refine Flows.reachSeeds ?_)
    | with_reducible (refine Flows.ite ?_ ?_) | with_reducible (refine Flows.foldl ?_ ?_) | with_reducible intro _ | dsimp only | split

theorem Flows.execLinkSlot {w0 : Nat} {s0 : State} {engine : Nat} {s : State} (h : Flows w0 s0 s) (hw0 : 22 ||| w0 = w0 := by first | assumption | exact parts (by assumption) (by decide)) :
    FlowsX w0 s0 (Sys2Proof.Machine.execLinkSlot engine s) := by
  unfold Sys2Proof.Machine.execLinkSlot
  repeat' first
    | with_reducible exact h | with_reducible (refine Flows.linkSlot ?_) | with_reducible (refine Flows.search! ?_) | with_reducible (refine FlowsX.onUnit ?_)
    | split

theorem Flows.execLinkScan {w0 : Nat} {s0 : State} {coll : Nat} {s : State} (h : Flows w0 s0 s) (hw0 : 18 ||| w0 = w0 := by first | assumption | exact parts (by assumption) (by decide)) :
    FlowsX w0 s0 (Sys2Proof.Machine.execLinkScan coll s) := by
  unfold Sys2Proof.Machine.execLinkScan
  repeat' first
    | with_reducible exact h | with_reducible assumption | with_reducible (refine Flows.coll! ?_) | with_reducible (refine Flows.queueLink ?_)
    | with_reducible (refine FlowsX.ok ?_) | with_reducible (refine Flows.foldl1 ?_ ?_) | with_reducible intro _ | dsimp only | split

theorem Flows.tombTargets {w0 : Nat} {s0 : State} {s : State} {k : Nat} {i : Nat} (h : Flows w0 s0 s) (hw0 : 22 ||| w0 = w0 := by first | assumption | exact parts (by assumption) (by decide)) :
    Flows w0 s0 (State.tombTargets s k i).2 := by
  unfold State.tombTargets
  repeat' first
    | with_reducible exact h | with_reducible assumption | with_reducible (refine Flows.countStale ?_) | with_reducible (refine Flows.edgeList ?_)
    | with_reducible (refine Flows.foldl ?_ ?_) | with_reducible intro _ | dsimp only | split

theorem Flows.repairPool {w0 : Nat} {s0 : State} {s : State} {k : Nat} {i : Nat} (h : Flows w0 s0 s) (hw0 : 22 ||| w0 = w0 := by first | assumption | exact parts (by assumption) (by decide)) :
    Flows w0 s0 (State.repairPool s k i).2 := by
  unfold State.repairPool
  repeat' first
    | with_reducible exact h | with_reducible assumption | with_reducible (refine Flows.countStale ?_) | with_reducible (refine Flows.edgeList ?_)
    | with_reducible (refine Flows.tombTargets ?_) | with_reducible (refine Flows.foldl2 ?_ ?_) | with_reducible intro _ | dsimp only | split

theorem Flows.repairReach {w0 : Nat} {s0 : State} {s : State} {k : Nat} {r : Nat} (h : Flows w0 s0 s) (hw0 : 22 ||| w0 = w0 := by first | assumption | exact parts (by assumption) (by decide)) :
    Flows w0 s0 (State.repairReach s k r) := by
  unfold State.repairReach
  repeat' first
    | with_reducible exact h | with_reducible assumption | with_reducible (refine Flows.coll! ?_) | with_reducible (refine Flows.count ?_)
    | with_reducible (refine Flows.repairPool ?_) | with_reducible (refine Flows.foldl ?_ ?_) | with_reducible intro _ | dsimp only | split

theorem Flows.execRepairReach {w0 : Nat} {s0 : State} {engine : Nat} {s : State} (h : Flows w0 s0 s) (hw0 : 22 ||| w0 = w0 := by first | assumption | exact parts (by assumption) (by decide)) :
    FlowsX w0 s0 (Sys2Proof.Machine.execRepairReach engine s) := by
  unfold Sys2Proof.Machine.execRepairReach
  repeat' first
    | with_reducible exact h | with_reducible (refine Flows.repairReach ?_) | with_reducible (refine Flows.search! ?_) | with_reducible (refine FlowsX.onUnit ?_)
    | dsimp only | split

end Sys2Proof.Machine
end

