-- ==== Sys2Proof/Laws/FlowMillrace.lean ====
section
/-! SUPPORT. What the operations and meanings of Machine/Millrace.lean keep. -/

set_option Elab.async false

namespace Sys2Proof.Machine

theorem Flows.mrcCount {w0 : Nat} {s0 : State} {s : State} {cell : Nat} {i : Nat} {n : Nat} (h : Flows w0 s0 s) (hw0 : 2 ||| w0 = w0 := by first | assumption | exact parts (by assumption) (by decide)) :
    Flows w0 s0 (State.mrcCount s cell i n) := by
  unfold State.mrcCount
  repeat' first | with_reducible exact h | with_reducible (refine Flows.count ?_)

theorem Flows.onCell {w0 : Nat} {s0 : State} {cell : Nat} {s : State} (h : Flows w0 s0 s) (hw0 : 0 ||| w0 = w0 := by first | assumption | exact parts (by assumption) (by decide)) :
    FlowsX w0 s0 (Sys2Proof.Machine.onCell cell s) := by
  unfold Sys2Proof.Machine.onCell
  repeat' first | with_reducible exact h | with_reducible (refine FlowsX.onUnit ?_)

theorem Flows.execCellProg {w0 : Nat} {s0 : State} {cell : Nat} {off : Nat} {bytes : List Byte} {s : State} (h : Flows w0 s0 s) (hw0 : 32 ||| w0 = w0 := by first | assumption | exact parts (by assumption) (by decide)) :
    FlowsX w0 s0 (Sys2Proof.Machine.execCellProg cell off bytes s) := by
  unfold Sys2Proof.Machine.execCellProg
  repeat' first | with_reducible exact h | with_reducible (refine Flows.cell! ?_) | with_reducible (refine Flows.onCell ?_) | with_reducible (refine Flows.ite ?_ ?_)

theorem Flows.execQload {w0 : Nat} {s0 : State} {cell : Nat} {lane : Nat} {batch : Nat} {query : Nat} {s : State} (h : Flows w0 s0 s) (hw0 : 32 ||| w0 = w0 := by first | assumption | exact parts (by assumption) (by decide)) :
    FlowsX w0 s0 (Sys2Proof.Machine.execQload cell lane batch query s) := by
  unfold Sys2Proof.Machine.execQload
  repeat' first
    | with_reducible exact h | with_reducible (refine Flows.cell! ?_) | with_reducible (refine Flows.onCell ?_) | with_reducible (refine Flows.ite ?_ ?_)
    | dsimp only | split

theorem Flows.rillScan {w0 : Nat} {s0 : State} {s : State} {b : Nat} {q : Nat} {c : Coll} {reach : Nat} {width : Option Nat} {stackDown : Bool} (h : Flows w0 s0 s) (hw0 : 50 ||| w0 = w0 := by first | assumption | exact parts (by assumption) (by decide)) :
    Flows w0 s0 (State.rillScan s b q c reach width stackDown) := by
  unfold State.rillScan
  repeat' first
    | with_reducible exact h | with_reducible (refine Flows.query! ?_) | with_reducible (refine Flows.rethreshold ?_) | with_reducible (refine Flows.takeTally ?_)
    | dsimp only | split

theorem Flows.execReachIssue {w0 : Nat} {s0 : State} {cell : Nat} {coll : Nat} {reach : Nat} {mask : Nat} {readEpoch : Nat} {s : State} (h : Flows w0 s0 s) (hw0 : 50 ||| w0 = w0 := by first | assumption | exact parts (by assumption) (by decide)) :
    FlowsX w0 s0 (Sys2Proof.Machine.execReachIssue cell coll reach mask readEpoch s) := by
  unfold Sys2Proof.Machine.execReachIssue
  repeat' first
    | with_reducible exact h | with_reducible assumption | with_reducible (refine Flows.cell! ?_) | with_reducible (refine Flows.count ?_)
    | with_reducible (refine Flows.onCell ?_) | with_reducible (refine Flows.query! ?_) | with_reducible (refine Flows.rillScan ?_)
    | with_reducible (refine Flows.ite ?_ ?_) | with_reducible (refine Flows.foldl ?_ ?_) | with_reducible intro _ | dsimp only | split

theorem Flows.execThetaPush {w0 : Nat} {s0 : State} {cell : Nat} {lane : Nat} {key : Nat} {s : State} (h : Flows w0 s0 s) (hw0 : 32 ||| w0 = w0 := by first | assumption | exact parts (by assumption) (by decide)) :
    FlowsX w0 s0 (Sys2Proof.Machine.execThetaPush cell lane key s) := by
  unfold Sys2Proof.Machine.execThetaPush
  repeat' first | with_reducible exact h | with_reducible (refine Flows.cell! ?_) | with_reducible (refine Flows.onCell ?_)

theorem Flows.execTokenGrant {w0 : Nat} {s0 : State} {stack : Nat} {s : State} (h : Flows w0 s0 s) (hw0 : 34 ||| w0 = w0 := by first | assumption | exact parts (by assumption) (by decide)) :
    FlowsX w0 s0 (Sys2Proof.Machine.execTokenGrant stack s) := by
  unfold Sys2Proof.Machine.execTokenGrant
  repeat' first
    | with_reducible exact h | with_reducible (refine Flows.boundary ?_) | with_reducible (refine Flows.cell! ?_) | with_reducible (refine Flows.mrc! ?_)
    | with_reducible (refine FlowsX.onUnit ?_) | with_reducible (refine Flows.ite ?_ ?_) | dsimp only | split

theorem Flows.execBundleStart {w0 : Nat} {s0 : State} {cell : Nat} {s : State} (h : Flows w0 s0 s) (hw0 : 34 ||| w0 = w0 := by first | assumption | exact parts (by assumption) (by decide)) :
    FlowsX w0 s0 (Sys2Proof.Machine.execBundleStart cell s) := by
  unfold Sys2Proof.Machine.execBundleStart
  repeat' first
    | with_reducible exact h | with_reducible (refine Flows.boundary ?_) | with_reducible (refine Flows.cell! ?_) | with_reducible (refine Flows.onCell ?_)
    | with_reducible (refine Flows.ite ?_ ?_)

theorem Flows.maskMismatch {w0 : Nat} {s0 : State} {s : State} {cell : Nat} {i : Issue} {planes : List Nat} (h : Flows w0 s0 s) (hw0 : 54 ||| w0 = w0 := by first | assumption | exact parts (by assumption) (by decide)) :
    Flows w0 s0 (State.maskMismatch s cell i planes) := by
  unfold State.maskMismatch
  repeat' first
    | with_reducible exact h | with_reducible assumption | with_reducible (refine Flows.abandon ?_) | with_reducible (refine Flows.coll! ?_)
    | with_reducible (refine Flows.logC ?_) | with_reducible (refine Flows.mrcCount ?_) | with_reducible (refine Flows.foldl ?_ ?_) | with_reducible intro _
    | dsimp only | split

theorem Flows.codeLostAt {w0 : Nat} {s0 : State} {s : State} {cell : Nat} {i : Issue} {slot : Nat} {batch : Option Nat} (h : Flows w0 s0 s) (hw0 : 9215 ||| w0 = w0 := by first | assumption | exact parts (by assumption) (by decide)) :
    Flows w0 s0 (State.codeLostAt s cell i slot batch) := by
  unfold State.codeLostAt
  repeat' first
    | with_reducible exact h | with_reducible (refine Flows.coll! ?_) | with_reducible (refine Flows.logC ?_) | with_reducible (refine Flows.memRaise ?_)
    | with_reducible (refine Flows.poisonObj ?_) | with_reducible (refine Flows.ite ?_ ?_) | split

theorem Flows.endIssue {w0 : Nat} {s0 : State} {s : State} {cell : Nat} {i : Issue} (h : Flows w0 s0 s) (hw0 : 32 ||| w0 = w0 := by first | assumption | exact parts (by assumption) (by decide)) :
    Flows w0 s0 (State.endIssue s cell i) := by
  unfold State.endIssue
  repeat' first | with_reducible exact h | with_reducible (refine Flows.cell! ?_)

theorem Flows.issue! {w0 : Nat} {s0 : State} {s : State} {cell : Nat} {f : Issue → Issue} (h : Flows w0 s0 s) (hw0 : 32 ||| w0 = w0 := by first | assumption | exact parts (by assumption) (by decide)) :
    Flows w0 s0 (State.issue! s cell f) := by
  unfold State.issue!
  repeat' first | with_reducible exact h | with_reducible (refine Flows.cell! ?_)

theorem Flows.formFilter {w0 : Nat} {s0 : State} {s : State} {cell : Nat} {c : Coll} {i : Issue} {prog : List Byte} {row : Nat} (h : Flows w0 s0 s) (hw0 : 32 ||| w0 = w0 := by first | assumption | exact parts (by assumption) (by decide)) :
    Flows w0 s0 (State.formFilter s cell c i prog row) := by
  unfold State.formFilter
  repeat' first | with_reducible exact h | with_reducible (refine Flows.issue! ?_)

theorem Flows.formMasks {w0 : Nat} {s0 : State} {s : State} {cell : Nat} {c : Coll} {i : Issue} (h : Flows w0 s0 s) (hw0 : 32 ||| w0 = w0 := by first | assumption | exact parts (by assumption) (by decide)) :
    Flows w0 s0 (State.formMasks s cell c i) := by
  unfold State.formMasks
  repeat' first | with_reducible exact h | with_reducible (refine Flows.issue! ?_)

theorem Flows.scanRow {w0 : Nat} {s0 : State} {s : State} {cell : Nat} {faults : List RowFault} (h : Flows w0 s0 s) (hw0 : 9215 ||| w0 = w0 := by first | assumption | exact parts (by assumption) (by decide)) :
    Flows w0 s0 (State.scanRow s cell faults).1 := by
  unfold State.scanRow
  repeat' first
    | with_reducible exact h | with_reducible (refine Flows.cell! ?_) | with_reducible (refine Flows.codeLostAt ?_) | with_reducible (refine Flows.mrcCount ?_)
    | with_reducible (refine Flows.ite ?_ ?_) | dsimp only | split

theorem Flows.scanRows {w0 : Nat} {s0 : State} {s : State} {cell : Nat} {faults : List RowFault} {x3 : Nat} (h : Flows w0 s0 s) (hw0 : 9215 ||| w0 = w0 := by first | assumption | exact parts (by assumption) (by decide)) :
    Flows w0 s0 (State.scanRows s cell faults x3) := by
  induction x3 generalizing s with
  | zero =>
    unfold State.scanRows
    repeat' first | with_reducible exact h | with_reducible (refine ih ?_) | with_reducible (refine Flows.scanRow ?_) | with_reducible (refine Flows.ite ?_ ?_)
  | succ _ ih =>
    unfold State.scanRows
    repeat' first | with_reducible exact h | with_reducible (refine ih ?_) | with_reducible (refine Flows.scanRow ?_) | with_reducible (refine Flows.ite ?_ ?_)

theorem Flows.setClass {w0 : Nat} {s0 : State} {s : State} {block : Nat} {scratch : Bool} (h : Flows w0 s0 s) (hw0 : 8224 ||| w0 = w0 := by first | assumption | exact parts (by assumption) (by decide)) :
    Flows w0 s0 (State.setClass s block scratch) := by
  unfold State.setClass
  repeat' first
    | with_reducible exact h | with_reducible assumption | with_reducible (refine Flows.free2 ?_) | with_reducible (refine Flows.mrc! ?_)
    | with_reducible (refine Flows.ite ?_ ?_) | with_reducible (refine Flows.foldl2 ?_ ?_) | with_reducible intro _

theorem Flows.lateRct {w0 : Nat} {s0 : State} {s : State} {cell : Nat} (h : Flows w0 s0 s) (hw0 : 8224 ||| w0 = w0 := by first | assumption | exact parts (by assumption) (by decide)) :
    Flows w0 s0 (State.lateRct s cell) := by
  unfold State.lateRct
  repeat' first
    | with_reducible exact h | with_reducible assumption | with_reducible (refine Flows.mrc! ?_) | with_reducible (refine Flows.setClass ?_)
    | with_reducible (refine Flows.foldl ?_ ?_) | with_reducible intro _

theorem Flows.cellCheck {w0 : Nat} {s0 : State} {s : State} {cell : Nat} {faults : List RowFault} (h : Flows w0 s0 s) (hw0 : 9215 ||| w0 = w0 := by first | assumption | exact parts (by assumption) (by decide)) :
    FlowsO w0 s0 (State.cellCheck s cell faults) := by
  unfold State.cellCheck
  repeat' first
    | with_reducible exact h | with_reducible (refine Flows.memRaise ?_) | with_reducible (refine Flows.raise ?_) | with_reducible exact FlowsO.none
    | with_reducible (refine FlowsO.some ?_) | with_reducible (refine FlowsO.ite ?_ ?_)

theorem Flows.takeRecord {w0 : Nat} {s0 : State} {s : State} {lanes : Tbl Lane} {r : CellRec} (h : Flows w0 s0 s) (hw0 : 16 ||| w0 = w0 := by first | assumption | exact parts (by assumption) (by decide)) :
    Flows w0 s0 (State.takeRecord s lanes r) := by
  unfold State.takeRecord
  repeat' first | with_reducible exact h | with_reducible (refine Flows.offerCand ?_) | with_reducible (refine Flows.takeTally ?_) | split

theorem Flows.drain {w0 : Nat} {s0 : State} {s : State} {lanes : Tbl Lane} {x2 : List CellRec} {x3 : Nat} (h : Flows w0 s0 s) (hw0 : 16 ||| w0 = w0 := by first | assumption | exact parts (by assumption) (by decide)) :
    Flows w0 s0 (State.drain s lanes x2 x3).2 := by
  induction x2 generalizing s x3 with
  | nil =>
    unfold State.drain
    repeat' first | with_reducible exact h | with_reducible (refine ih ?_) | with_reducible (refine Flows.takeRecord ?_) | split
  | cons _ _ ih =>
    unfold State.drain
    repeat' first | with_reducible exact h | with_reducible (refine ih ?_) | with_reducible (refine Flows.takeRecord ?_) | split

theorem Flows.execOutRead {w0 : Nat} {s0 : State} {cell : Nat} {s : State} (h : Flows w0 s0 s) (hw0 : 50 ||| w0 = w0 := by first | assumption | exact parts (by assumption) (by decide)) :
    FlowsX w0 s0 (Sys2Proof.Machine.execOutRead cell s) := by
  unfold Sys2Proof.Machine.execOutRead
  repeat' first
    | with_reducible exact h | with_reducible assumption | with_reducible (refine Flows.cell! ?_) | with_reducible (refine Flows.drain ?_)
    | with_reducible (refine Flows.mrc! ?_) | with_reducible (refine Flows.onCell ?_) | with_reducible (refine Flows.rethreshold ?_)
    | with_reducible (refine Flows.ite ?_ ?_) | with_reducible (refine Flows.foldl ?_ ?_) | with_reducible intro _ | split

theorem Flows.execCellHalt {w0 : Nat} {s0 : State} {cell : Nat} {mask : Nat} {s : State} (h : Flows w0 s0 s) (hw0 : 48 ||| w0 = w0 := by first | assumption | exact parts (by assumption) (by decide)) :
    FlowsX w0 s0 (Sys2Proof.Machine.execCellHalt cell mask s) := by
  unfold Sys2Proof.Machine.execCellHalt
  repeat' first
    | with_reducible exact h | with_reducible assumption | with_reducible (refine Flows.abandon ?_) | with_reducible (refine Flows.cell! ?_)
    | with_reducible (refine Flows.onCell ?_) | with_reducible (refine Flows.query! ?_) | with_reducible (refine Flows.ite ?_ ?_)
    | with_reducible (refine Flows.foldl ?_ ?_) | with_reducible intro _ | split

theorem Flows.execCellStatus {w0 : Nat} {s0 : State} {cell : Nat} {s : State} (h : Flows w0 s0 s) (hw0 : 32 ||| w0 = w0 := by first | assumption | exact parts (by assumption) (by decide)) :
    FlowsX w0 s0 (Sys2Proof.Machine.execCellStatus cell s) := by
  unfold Sys2Proof.Machine.execCellStatus
  repeat' first | with_reducible exact h | with_reducible (refine Flows.cell! ?_) | with_reducible (refine Flows.onCell ?_)

theorem Flows.rowDone {w0 : Nat} {s0 : State} {s : State} {cell : Nat} {op : RowOp} (h : Flows w0 s0 s) (hw0 : 38 ||| w0 = w0 := by first | assumption | exact parts (by assumption) (by decide)) :
    Flows w0 s0 (State.rowDone s cell op) := by
  unfold State.rowDone
  repeat' first
    | with_reducible exact h | with_reducible (refine Flows.cell! ?_) | with_reducible (refine Flows.logC ?_) | with_reducible (refine Flows.mrc! ?_)
    | with_reducible (refine Flows.mrcCount ?_) | with_reducible (refine Flows.ite ?_ ?_)

theorem Flows.execRowop {w0 : Nat} {s0 : State} {cell : Nat} {op : RowOp} {s : State} (h : Flows w0 s0 s) (hw0 : 38 ||| w0 = w0 := by first | assumption | exact parts (by assumption) (by decide)) :
    FlowsX w0 s0 (Sys2Proof.Machine.execRowop cell op s) := by
  unfold Sys2Proof.Machine.execRowop
  repeat' first
    | with_reducible exact h | with_reducible (refine Flows.cell! ?_) | with_reducible (refine Flows.onCell ?_) | with_reducible (refine Flows.rowDone ?_)
    | with_reducible (refine Flows.ite ?_ ?_)

theorem Flows.execPlaneBits {w0 : Nat} {s0 : State} {coll : Nat} {plane : Nat} {slots : List Nat} {set : Bool} {s : State} (h : Flows w0 s0 s) (hw0 : 16 ||| w0 = w0 := by first | assumption | exact parts (by assumption) (by decide)) :
    FlowsX w0 s0 (Sys2Proof.Machine.execPlaneBits coll plane slots set s) := by
  unfold Sys2Proof.Machine.execPlaneBits
  repeat' first | with_reducible exact h | with_reducible (refine Flows.coll! ?_) | with_reducible (refine FlowsX.ok ?_)

theorem Flows.execRctSet {w0 : Nat} {s0 : State} {block : Nat} {scratch : Bool} {s : State} (h : Flows w0 s0 s) (hw0 : 8224 ||| w0 = w0 := by first | assumption | exact parts (by assumption) (by decide)) :
    FlowsX w0 s0 (Sys2Proof.Machine.execRctSet block scratch s) := by
  unfold Sys2Proof.Machine.execRctSet
  repeat' first
    | with_reducible exact h | with_reducible (refine Flows.free2 ?_) | with_reducible (refine Flows.mrc! ?_) | with_reducible (refine Flows.setClass ?_)
    | with_reducible (refine FlowsX.onUnit ?_) | with_reducible (refine Flows.ite ?_ ?_) | split

end Sys2Proof.Machine
end

