-- ==== Sys2Proof/Laws/FlowSounding.lean ====
section
/-! SUPPORT. What the operations and meanings of Machine/Sounding.lean keep. -/

set_option Elab.async false

namespace Sys2Proof.Machine

theorem Flows.searchBoundary {w0 : Nat} {s0 : State} {s : State} (h : Flows w0 s0 s) (hw0 : 2 ||| w0 = w0 := by first | assumption | exact parts (by assumption) (by decide)) :
    Flows w0 s0 (State.searchBoundary s) := by
  unfold State.searchBoundary
  repeat' first | with_reducible exact h | with_reducible (refine Flows.boundary ?_)

theorem Flows.finishStopped {w0 : Nat} {s0 : State} {s : State} {b : Nat} (h : Flows w0 s0 s) (hw0 : 9083 ||| w0 = w0 := by first | assumption | exact parts (by assumption) (by decide)) :
    Flows w0 s0 (State.finishStopped s b) := by
  unfold State.finishStopped
  repeat' first
    | with_reducible exact h | with_reducible assumption | with_reducible (refine Flows.finishQuery ?_) | with_reducible (refine Flows.ite ?_ ?_)
    | with_reducible (refine Flows.foldl ?_ ?_) | with_reducible intro _ | split

theorem Flows.qryRefuse {w0 : Nat} {s0 : State} {s : State} {m : Msg} {tag : Nat} {parent : Option Nat} {st : Nat} {r : Nat} (h : Flows w0 s0 s) (hw0 : 859 ||| w0 = w0 := by first | assumption | exact parts (by assumption) (by decide)) :
    Flows w0 s0 (State.qryRefuse s m tag parent st r) := by
  unfold State.qryRefuse
  repeat' first | with_reducible exact h | with_reducible (refine Flows.refuseBatch ?_) | with_reducible (refine Flows.replyOne ?_) | split

theorem Flows.qryAdmit {w0 : Nat} {s0 : State} {t : State} {m : Msg} {len : Nat} {parent : Option Nat} {bs : HostRead} (h : Flows w0 s0 t) (hw0 : 9083 ||| w0 = w0 := by first | assumption | exact parts (by assumption) (by decide)) :
    Flows w0 s0 (State.qryAdmit t m len parent bs) := by
  unfold State.qryAdmit
  repeat' first
    | with_reducible exact h | with_reducible (refine Flows.addBatch ?_) | with_reducible (refine Flows.batch! ?_) | with_reducible (refine Flows.epochRefused ?_)
    | with_reducible (refine Flows.finishStopped ?_) | with_reducible (refine Flows.grantSlots ?_) | with_reducible (refine Flows.qryRefuse ?_)
    | with_reducible (refine Flows.search! ?_) | with_reducible (refine Flows.searchBoundary ?_) | with_reducible (refine Flows.send ?_)
    | with_reducible (refine Flows.ite ?_ ?_) | dsimp only | split

theorem Flows.execQryBatch {w0 : Nat} {s0 : State} {mb : Nat} {dma : HostRead} {s : State} (h : Flows w0 s0 s) (hw0 : 9083 ||| w0 = w0 := by first | assumption | exact parts (by assumption) (by decide)) :
    FlowsX w0 s0 (Sys2Proof.Machine.execQryBatch mb dma s) := by
  unfold Sys2Proof.Machine.execQryBatch
  repeat' first
    | with_reducible exact h | with_reducible assumption | with_reducible (refine Flows.onMsg ?_ ?_) | with_reducible (refine Flows.qryAdmit ?_)
    | with_reducible intro _

theorem Flows.epochAnswered {w0 : Nat} {s0 : State} {s : State} {b : Nat} {home : Nat} (h : Flows w0 s0 s) (hw0 : 9083 ||| w0 = w0 := by first | assumption | exact parts (by assumption) (by decide)) :
    Flows w0 s0 (State.epochAnswered s b home) := by
  unfold State.epochAnswered
  repeat' first
    | with_reducible exact h | with_reducible (refine Flows.batch! ?_) | with_reducible (refine Flows.epochRefused ?_)
    | with_reducible (refine Flows.finishStopped ?_) | with_reducible (refine Flows.grantSlots ?_) | with_reducible (refine Flows.raiseStable ?_)
    | with_reducible (refine Flows.replyBatch ?_) | with_reducible (refine Flows.search! ?_) | with_reducible (refine Flows.serveGather ?_)
    | with_reducible (refine Flows.tryRoot ?_) | with_reducible (refine Flows.ite ?_ ?_) | dsimp only | split

theorem Flows.execReadEpochCheckReply {w0 : Nat} {s0 : State} {batch : Nat} {ans : EpochAns} {s : State} (h : Flows w0 s0 s) (hw0 : 9083 ||| w0 = w0 := by first | assumption | exact parts (by assumption) (by decide)) :
    FlowsX w0 s0 (Sys2Proof.Machine.execReadEpochCheckReply batch ans s) := by
  unfold Sys2Proof.Machine.execReadEpochCheckReply
  repeat' first
    | with_reducible exact h | with_reducible (refine Flows.epochAnswered ?_) | with_reducible (refine Flows.send ?_) | with_reducible (refine FlowsX.ok ?_)
    | with_reducible (refine Flows.ite ?_ ?_) | split

theorem Flows.answerChecks {w0 : Nat} {s0 : State} {s : State} {k : Nat} (h : Flows w0 s0 s) (hw0 : 9083 ||| w0 = w0 := by first | assumption | exact parts (by assumption) (by decide)) :
    Flows w0 s0 (State.answerChecks s k) := by
  unfold State.answerChecks
  repeat' first
    | with_reducible exact h | with_reducible assumption | with_reducible (refine Flows.epochAnswered ?_) | with_reducible (refine Flows.ite ?_ ?_)
    | with_reducible (refine Flows.foldl ?_ ?_) | with_reducible intro _ | split

theorem Flows.recheck {w0 : Nat} {s0 : State} {s : State} {t : State} (h : Flows w0 s0 s) (hw0 : 9083 ||| w0 = w0 := by first | assumption | exact parts (by assumption) (by decide)) :
    Flows w0 s0 (State.recheck s t) := by
  unfold State.recheck
  repeat' first
    | with_reducible exact h | with_reducible assumption | with_reducible (refine Flows.answerChecks ?_) | with_reducible (refine Flows.send ?_)
    | with_reducible (refine Flows.ite ?_ ?_) | with_reducible (refine Flows.foldl ?_ ?_) | with_reducible intro _

theorem Flows.execEpochHomeTakeover {w0 : Nat} {s0 : State} {coll : Nat} {survivors : List Survivor} {s : State} (h : Flows w0 s0 s) (hw0 : 9215 ||| w0 = w0 := by first | assumption | exact parts (by assumption) (by decide)) :
    FlowsX w0 s0 (Sys2Proof.Machine.execEpochHomeTakeover coll survivors s) := by
  unfold Sys2Proof.Machine.execEpochHomeTakeover
  repeat' first
    | with_reducible exact h | with_reducible (refine Flows.answerChecks ?_) | with_reducible (refine Flows.coll! ?_) | with_reducible (refine Flows.raiseStable ?_)
    | with_reducible (refine Flows.resumeEpochs ?_) | with_reducible (refine FlowsX.ok ?_) | with_reducible (refine Flows.ite ?_ ?_) | dsimp only | split

theorem Flows.execMergeSlotGrant {w0 : Nat} {s0 : State} {batch : Nat} {s : State} (h : Flows w0 s0 s) (hw0 : 9083 ||| w0 = w0 := by first | assumption | exact parts (by assumption) (by decide)) :
    FlowsX w0 s0 (Sys2Proof.Machine.execMergeSlotGrant batch s) := by
  unfold Sys2Proof.Machine.execMergeSlotGrant
  repeat' first
    | with_reducible exact h | with_reducible (refine Flows.finishStopped ?_) | with_reducible (refine Flows.grantSlots ?_) | with_reducible (refine FlowsX.ok ?_)

theorem Flows.startLocal {w0 : Nat} {s0 : State} {s : State} {b : Nat} {q : Nat} (h : Flows w0 s0 s) (hw0 : 50 ||| w0 = w0 := by first | assumption | exact parts (by assumption) (by decide)) :
    Flows w0 s0 (State.startLocal s b q) := by
  unfold State.startLocal
  repeat' first | with_reducible exact h | with_reducible (refine Flows.boundAll ?_) | with_reducible (refine Flows.startWalk ?_)

theorem Flows.execQueryStart {w0 : Nat} {s0 : State} {batch : Nat} {query : Nat} {s : State} (h : Flows w0 s0 s) (hw0 : 9083 ||| w0 = w0 := by first | assumption | exact parts (by assumption) (by decide)) :
    FlowsX w0 s0 (Sys2Proof.Machine.execQueryStart batch query s) := by
  unfold Sys2Proof.Machine.execQueryStart
  repeat' first
    | with_reducible exact h | with_reducible (refine Flows.query! ?_) | with_reducible (refine Flows.roundTwo ?_) | with_reducible (refine Flows.startLocal ?_)
    | with_reducible (refine Flows.visit ?_) | with_reducible (refine FlowsX.ok ?_) | with_reducible (refine Flows.ite ?_ ?_) | dsimp only | split

theorem Flows.bounceFan {w0 : Nat} {s0 : State} {s : State} {part : FanPart} (h : Flows w0 s0 s) (hw0 : 258 ||| w0 = w0 := by first | assumption | exact parts (by assumption) (by decide)) :
    Flows w0 s0 (State.bounceFan s part) := by
  unfold State.bounceFan
  repeat' first
    | with_reducible exact h | with_reducible assumption | with_reducible (refine Flows.count ?_) | with_reducible (refine Flows.send ?_)
    | with_reducible (refine Flows.foldl ?_ ?_) | with_reducible intro _

theorem Flows.takeFan {w0 : Nat} {s0 : State} {s : State} {part : FanPart} (h : Flows w0 s0 s) (hw0 : 314 ||| w0 = w0 := by first | assumption | exact parts (by assumption) (by decide)) :
    Flows w0 s0 (State.takeFan s part) := by
  unfold State.takeFan
  repeat' first
    | with_reducible exact h | with_reducible assumption | with_reducible (refine Flows.addBatch ?_) | with_reducible (refine Flows.bounceFan ?_)
    | with_reducible (refine Flows.epochRefused ?_) | with_reducible (refine Flows.grantSlots ?_) | with_reducible (refine Flows.holdReq ?_)
    | with_reducible (refine Flows.raiseStable ?_) | with_reducible (refine Flows.search! ?_) | with_reducible (refine Flows.searchBoundary ?_)
    | with_reducible (refine Flows.send ?_) | with_reducible (refine Flows.startLocal ?_) | with_reducible (refine Flows.ite ?_ ?_)
    | with_reducible (refine Flows.foldl ?_ ?_) | with_reducible intro _ | dsimp only | split

theorem Flows.execFanoutPartReceive {w0 : Nat} {s0 : State} {part : FanPart} {s : State} (h : Flows w0 s0 s) (hw0 : 314 ||| w0 = w0 := by first | assumption | exact parts (by assumption) (by decide)) :
    FlowsX w0 s0 (Sys2Proof.Machine.execFanoutPartReceive part s) := by
  unfold Sys2Proof.Machine.execFanoutPartReceive
  repeat' first | with_reducible exact h | with_reducible (refine Flows.takeFan ?_) | with_reducible (refine FlowsX.ok ?_)

theorem Flows.dropDamaged {w0 : Nat} {s0 : State} {s : State} {k : Nat} (h : Flows w0 s0 s) (hw0 : 16 ||| w0 = w0 := by first | assumption | exact parts (by assumption) (by decide)) :
    Flows w0 s0 (State.dropDamaged s k) := by
  unfold State.dropDamaged
  repeat' first | with_reducible exact h | with_reducible (refine Flows.search! ?_) | dsimp only | split

theorem Flows.absorbRow {w0 : Nat} {s0 : State} {s : State} {b : Nat} {q : Nat} {qb : QBatch} {c : Coll} {cand : Cand} {z : Slot} (h : Flows w0 s0 s) (hw0 : 50 ||| w0 = w0 := by first | assumption | exact parts (by assumption) (by decide)) :
    Flows w0 s0 (State.absorbRow s b q qb c cand z) := by
  unfold State.absorbRow
  repeat' first | with_reducible exact h | with_reducible (refine Flows.count ?_) | with_reducible (refine Flows.query! ?_) | with_reducible (refine Flows.rethreshold ?_)

theorem Flows.execRescoreComplete {w0 : Nat} {s0 : State} {batch : Nat} {query : Nat} {slot : Nat} {media : Bool} {s : State} (h : Flows w0 s0 s) (hw0 : 9215 ||| w0 = w0 := by first | assumption | exact parts (by assumption) (by decide)) :
    FlowsX w0 s0 (Sys2Proof.Machine.execRescoreComplete batch query slot media s) := by
  unfold Sys2Proof.Machine.execRescoreComplete
  repeat' first
    | with_reducible exact h | with_reducible (refine Flows.absorbRow ?_) | with_reducible (refine Flows.chargeRead ?_)
    | with_reducible (refine Flows.dropDamaged ?_) | with_reducible (refine Flows.extentLost ?_) | with_reducible (refine Flows.poisonObj ?_)
    | with_reducible (refine Flows.rethreshold ?_) | with_reducible (refine Flows.sectorLost ?_) | with_reducible (refine FlowsX.ok ?_)
    | with_reducible (refine Flows.ite ?_ ?_) | dsimp only | split

theorem Flows.countSelection {w0 : Nat} {s0 : State} {s : State} {k : Nat} {extra : Nat} (h : Flows w0 s0 s) (hw0 : 2 ||| w0 = w0 := by first | assumption | exact parts (by assumption) (by decide)) :
    Flows w0 s0 (State.countSelection s k extra) := by
  unfold State.countSelection
  repeat' first | with_reducible exact h | with_reducible (refine Flows.count ?_)

theorem Flows.execQueryLocalComplete {w0 : Nat} {s0 : State} {batch : Nat} {query : Nat} {s : State} (h : Flows w0 s0 s) (hw0 : 9087 ||| w0 = w0 := by first | assumption | exact parts (by assumption) (by decide)) :
    FlowsX w0 s0 (Sys2Proof.Machine.execQueryLocalComplete batch query s) := by
  unfold Sys2Proof.Machine.execQueryLocalComplete
  repeat' first
    | with_reducible exact h | with_reducible (refine Flows.batchOver ?_) | with_reducible (refine Flows.count ?_) | with_reducible (refine Flows.countSelection ?_)
    | with_reducible (refine Flows.freeSlotOf ?_) | with_reducible (refine Flows.fwOp ?_) | with_reducible (refine Flows.haltLanes ?_)
    | with_reducible (refine Flows.mergeList ?_) | with_reducible (refine Flows.query! ?_) | with_reducible (refine Flows.send ?_)
    | with_reducible (refine Flows.startLocal ?_) | with_reducible (refine FlowsX.ok ?_) | with_reducible (refine Flows.ite ?_ ?_) | dsimp only | split

theorem Flows.execTopkMerge {w0 : Nat} {s0 : State} {tag : Nat} {list : PList} {s : State} (h : Flows w0 s0 s) (hw0 : 9087 ||| w0 = w0 := by first | assumption | exact parts (by assumption) (by decide)) :
    FlowsX w0 s0 (Sys2Proof.Machine.execTopkMerge tag list s) := by
  unfold Sys2Proof.Machine.execTopkMerge
  repeat' first | with_reducible exact h | with_reducible (refine Flows.mergeList ?_) | with_reducible (refine FlowsX.ok ?_)

theorem Flows.execQueryComplete {w0 : Nat} {s0 : State} {batch : Nat} {query : Nat} {refusal : Option Nat} {s : State} (h : Flows w0 s0 s) (hw0 : 9083 ||| w0 = w0 := by first | assumption | exact parts (by assumption) (by decide)) :
    FlowsX w0 s0 (Sys2Proof.Machine.execQueryComplete batch query refusal s) := by
  unfold Sys2Proof.Machine.execQueryComplete
  repeat' first
    | with_reducible exact h | with_reducible (refine Flows.finishQuery ?_) | with_reducible (refine Flows.stopQuery ?_) | with_reducible (refine FlowsX.ok ?_)
    | with_reducible (refine Flows.ite ?_ ?_) | split

theorem Flows.execPeerTimeout {w0 : Nat} {s0 : State} {batch : Nat} {query : Nat} {s : State} (h : Flows w0 s0 s) (hw0 : 13179 ||| w0 = w0 := by first | assumption | exact parts (by assumption) (by decide)) :
    FlowsX w0 s0 (Sys2Proof.Machine.execPeerTimeout batch query s) := by
  unfold Sys2Proof.Machine.execPeerTimeout
  repeat' first
    | with_reducible exact h | with_reducible (refine Flows.reach ?_) | with_reducible (refine Flows.stopQuery ?_) | with_reducible (refine FlowsX.ok ?_)
    | with_reducible (refine Flows.ite ?_ ?_) | split

theorem Flows.queriesLose {w0 : Nat} {s0 : State} {s : State} {n : Nat} (h : Flows w0 s0 s) (hw0 : 9083 ||| w0 = w0 := by first | assumption | exact parts (by assumption) (by decide)) :
    Flows w0 s0 (State.queriesLose s n) := by
  unfold State.queriesLose
  repeat' first
    | with_reducible exact h | with_reducible assumption | with_reducible (refine Flows.stopQuery ?_) | with_reducible (refine Flows.ite ?_ ?_)
    | with_reducible (refine Flows.foldl ?_ ?_) | with_reducible intro _ | split

theorem Flows.readmit {w0 : Nat} {s0 : State} {s : State} {b : Nat} {q : Nat} (h : Flows w0 s0 s) (hw0 : 56 ||| w0 = w0 := by first | assumption | exact parts (by assumption) (by decide)) :
    Flows w0 s0 (State.readmit s b q) := by
  unfold State.readmit
  repeat' first
    | with_reducible exact h | with_reducible (refine Flows.batch! ?_) | with_reducible (refine Flows.freeSlotOf ?_) | with_reducible (refine Flows.giveSlot ?_)
    | with_reducible (refine Flows.haltLanes ?_) | with_reducible (refine Flows.query! ?_) | dsimp only | split

theorem Flows.execQueryReroute {w0 : Nat} {s0 : State} {batch : Nat} {query : Nat} {needed : Nat} {s : State} (h : Flows w0 s0 s) (hw0 : 9083 ||| w0 = w0 := by first | assumption | exact parts (by assumption) (by decide)) :
    FlowsX w0 s0 (Sys2Proof.Machine.execQueryReroute batch query needed s) := by
  unfold Sys2Proof.Machine.execQueryReroute
  repeat' first
    | with_reducible exact h | with_reducible (refine Flows.haltLanes ?_) | with_reducible (refine Flows.query! ?_) | with_reducible (refine Flows.readmit ?_)
    | with_reducible (refine Flows.stopQuery ?_) | with_reducible (refine FlowsX.ok ?_) | with_reducible (refine Flows.ite ?_ ?_) | split

theorem Flows.resumeQueries {w0 : Nat} {s0 : State} {s : State} {comp : Nat} {always : Bool} (h : Flows w0 s0 s) (hw0 : 56 ||| w0 = w0 := by first | assumption | exact parts (by assumption) (by decide)) :
    Flows w0 s0 (State.resumeQueries s comp always) := by
  unfold State.resumeQueries
  repeat' first
    | with_reducible exact h | with_reducible assumption | with_reducible (refine Flows.readmit ?_) | with_reducible (refine Flows.ite ?_ ?_)
    | with_reducible (refine Flows.foldl ?_ ?_) | with_reducible intro _ | split

end Sys2Proof.Machine
end

