-- ==== Sys2Proof/Laws/FlowRill.lean ====
section
/-! SUPPORT. What the operations and meanings of Machine/Rill.lean keep. -/

set_option Elab.async false

namespace Sys2Proof.Machine

theorem Flows.vpart! {w0 : Nat} {s0 : State} {s : State} {n : Nat} {r : Nat} {v : Nat} (h : Flows w0 s0 s) (hw0 : 8 ||| w0 = w0 := by first | assumption | exact parts (by assumption) (by decide)) :
    Flows w0 s0 (State.vpart! s n r v) := by
  unfold State.vpart!
  repeat' first | with_reducible exact h | with_reducible (refine Flows.core! ?_)

theorem Flows.vreg! {w0 : Nat} {s0 : State} {s : State} {n : Nat} {r : Nat} {v : Nat} (h : Flows w0 s0 s) (hw0 : 8 ||| w0 = w0 := by first | assumption | exact parts (by assumption) (by decide)) :
    Flows w0 s0 (State.vreg! s n r v) := by
  unfold State.vreg!
  repeat' first | with_reducible exact h | with_reducible (refine Flows.core! ?_) | with_reducible (refine Flows.vpart! ?_)

theorem Flows.xreg! {w0 : Nat} {s0 : State} {s : State} {n : Nat} {r : Nat} {v : Nat} (h : Flows w0 s0 s) (hw0 : 8 ||| w0 = w0 := by first | assumption | exact parts (by assumption) (by decide)) :
    Flows w0 s0 (State.xreg! s n r v) := by
  unfold State.xreg!
  repeat' first | with_reducible exact h | with_reducible (refine Flows.core! ?_)

theorem Flows.poison! {w0 : Nat} {s0 : State} {s : State} {n : Nat} {r : Nat} (h : Flows w0 s0 s) (hw0 : 8 ||| w0 = w0 := by first | assumption | exact parts (by assumption) (by decide)) :
    Flows w0 s0 (State.poison! s n r) := by
  unfold State.poison!
  repeat' first | with_reducible exact h | with_reducible (refine Flows.core! ?_)

theorem Flows.badReg! {w0 : Nat} {s0 : State} {s : State} {n : Nat} {r : Nat} (h : Flows w0 s0 s) (hw0 : 8 ||| w0 = w0 := by first | assumption | exact parts (by assumption) (by decide)) :
    Flows w0 s0 (State.badReg! s n r) := by
  unfold State.badReg!
  repeat' first | with_reducible exact h | with_reducible (refine Flows.core! ?_)

theorem Flows.eccNote {w0 : Nat} {s0 : State} {s : State} {n : Nat} {k : Task} {tier : Nat} {o : EccOutcome} (h : Flows w0 s0 s) (hw0 : 9215 ||| w0 = w0 := by first | assumption | exact parts (by assumption) (by decide)) :
    Flows w0 s0 (State.eccNote s n k tier o) := by
  unfold State.eccNote
  repeat' first | with_reducible exact h | with_reducible (refine Flows.memRaise ?_) | with_reducible (refine Flows.memRaiseAt ?_) | split

theorem Flows.onRegs {w0 : Nat} {s0 : State} {s : State} {n : Nat} {okForm : Bool} {reads : List Nat} {f : Nat → Task → State} (h : Flows w0 s0 s) (hf : ∀ y0 y1, Flows w0 s0 (f y0 y1)) (hw0 : 9215 ||| w0 = w0 := by first | assumption | exact parts (by assumption) (by decide)) :
    FlowsX w0 s0 (Sys2Proof.Machine.onRegs s n okForm reads f) := by
  unfold Sys2Proof.Machine.onRegs
  repeat' first
    | with_reducible exact h | with_reducible (exact hf _ _ ) | with_reducible (refine Flows.illegal ?_) | with_reducible (refine Flows.onTask ?_ ?_)
    | with_reducible (refine Flows.taskFault ?_) | with_reducible (refine Flows.ite ?_ ?_) | with_reducible intro _ | split

theorem Flows.rilCount {w0 : Nat} {s0 : State} {s : State} {n : Nat} {i : Nat} {d : Nat} (h : Flows w0 s0 s) (hw0 : 2 ||| w0 = w0 := by first | assumption | exact parts (by assumption) (by decide)) :
    Flows w0 s0 (State.rilCount s n i d) := by
  unfold State.rilCount
  repeat' first | with_reducible exact h | with_reducible (refine Flows.count ?_)

theorem Flows.aluOf {w0 : Nat} {s0 : State} {s : State} {f : Alu} {a : Nat} {b : Nat} (h : Flows w0 s0 s) (hw0 : 8192 ||| w0 = w0 := by first | assumption | exact parts (by assumption) (by decide)) :
    Flows w0 s0 (State.aluOf s f a b).2 := by
  unfold State.aluOf
  repeat' first | with_reducible exact h | with_reducible (refine Flows.free2 ?_) | dsimp only | split

theorem Flows.execScalar {w0 : Nat} {s0 : State} {core : Nat} {op : ScalarOp} {s : State} (h : Flows w0 s0 s) (hw0 : 9215 ||| w0 = w0 := by first | assumption | exact parts (by assumption) (by decide)) :
    FlowsX w0 s0 (Sys2Proof.Machine.execScalar core op s) := by
  unfold Sys2Proof.Machine.execScalar
  repeat' first
    | with_reducible exact h | with_reducible (refine Flows.aluOf ?_) | with_reducible (refine Flows.core! ?_) | with_reducible (refine Flows.illegal ?_)
    | with_reducible (refine Flows.onRegs ?_ ?_) | with_reducible (refine Flows.pcNext ?_) | with_reducible (refine Flows.xreg! ?_)
    | with_reducible (refine Flows.ite ?_ ?_) | with_reducible intro _ | dsimp only | split

theorem Flows.arrayReads {w0 : Nat} {s0 : State} {s : State} {n : Nat} {k : Task} {reads : List Nat} {ecc : List Nat} {f : State → State} (h : Flows w0 s0 s) (hf : ∀ y0, Flows w0 s0 y0 → Flows w0 s0 (f y0)) (hw0 : 9215 ||| w0 = w0 := by first | assumption | exact parts (by assumption) (by decide)) :
    Flows w0 s0 (State.arrayReads s n k reads ecc f) := by
  unfold State.arrayReads
  repeat' first
    | with_reducible exact h | with_reducible (refine hf _ ?_) | with_reducible (refine Flows.badReg! ?_) | with_reducible (refine Flows.eccNote ?_)
    | with_reducible (refine Flows.taskFault ?_) | with_reducible (refine Flows.ite ?_ ?_)

theorem Flows.execMxLoad {w0 : Nat} {s0 : State} {core : Nat} {buf : Nat} {mode : MxMode} {reg : SramRead} {s : State} (h : Flows w0 s0 s) (hw0 : 9215 ||| w0 = w0 := by first | assumption | exact parts (by assumption) (by decide)) :
    FlowsX w0 s0 (Sys2Proof.Machine.execMxLoad core buf mode reg s) := by
  unfold Sys2Proof.Machine.execMxLoad
  repeat' first
    | with_reducible exact h | with_reducible assumption | with_reducible (refine Flows.arrayReads ?_ ?_) | with_reducible (refine Flows.core! ?_)
    | with_reducible (refine Flows.onRegs ?_ ?_) | with_reducible (refine Flows.pcNext ?_) | with_reducible intro _

theorem Flows.accPut {w0 : Nat} {s0 : State} {s : State} {n : Nat} {i : Nat} {excess : Bool} {sums : List Int} (h : Flows w0 s0 s) (hw0 : 8 ||| w0 = w0 := by first | assumption | exact parts (by assumption) (by decide)) :
    Flows w0 s0 (State.accPut s n i excess sums) := by
  unfold State.accPut
  repeat' first | with_reducible exact h | with_reducible (refine Flows.core! ?_)

theorem Flows.stream {w0 : Nat} {s0 : State} {s : State} {core : Nat} {a : MxArgs} {put : State → State} (h : Flows w0 s0 s) (hput : ∀ y0, Flows w0 s0 y0 → Flows w0 s0 (put y0)) (hw0 : 9215 ||| w0 = w0 := by first | assumption | exact parts (by assumption) (by decide)) :
    Flows w0 s0 (State.stream s core a put) := by
  unfold State.stream
  repeat' first
    | with_reducible exact h | with_reducible (refine hput _ ?_) | with_reducible (refine Flows.illegal ?_) | with_reducible (refine Flows.pcNext ?_)
    | with_reducible (refine Flows.rilCount ?_) | with_reducible (refine Flows.taskFault ?_) | with_reducible (refine Flows.ite ?_ ?_) | split

theorem Flows.execMxMma {w0 : Nat} {s0 : State} {core : Nat} {a : MxArgs} {s : State} (h : Flows w0 s0 s) (hw0 : 9215 ||| w0 = w0 := by first | assumption | exact parts (by assumption) (by decide)) :
    FlowsX w0 s0 (Sys2Proof.Machine.execMxMma core a s) := by
  unfold Sys2Proof.Machine.execMxMma
  repeat' first
    | with_reducible exact h | with_reducible assumption | with_reducible (refine Flows.accPut ?_) | with_reducible (refine Flows.arrayReads ?_ ?_)
    | with_reducible (refine Flows.onRegs ?_ ?_) | with_reducible (refine Flows.stream ?_ ?_) | with_reducible intro _

theorem Flows.execMxMmaG32 {w0 : Nat} {s0 : State} {core : Nat} {a : MxArgs} {s : State} (h : Flows w0 s0 s) (hw0 : 9215 ||| w0 = w0 := by first | assumption | exact parts (by assumption) (by decide)) :
    FlowsX w0 s0 (Sys2Proof.Machine.execMxMmaG32 core a s) := by
  unfold Sys2Proof.Machine.execMxMmaG32
  repeat' first
    | with_reducible exact h | with_reducible assumption | with_reducible (refine Flows.accPut ?_) | with_reducible (refine Flows.arrayReads ?_ ?_)
    | with_reducible (refine Flows.onRegs ?_ ?_) | with_reducible (refine Flows.stream ?_ ?_) | with_reducible (refine Flows.foldl ?_ ?_) | with_reducible intro _

theorem Flows.execAccMov {w0 : Nat} {s0 : State} {core : Nat} {slot : Nat} {n : Nat} {vd : Nat} {s : State} (h : Flows w0 s0 s) (hw0 : 9215 ||| w0 = w0 := by first | assumption | exact parts (by assumption) (by decide)) :
    FlowsX w0 s0 (Sys2Proof.Machine.execAccMov core slot n vd s) := by
  unfold Sys2Proof.Machine.execAccMov
  repeat' first
    | with_reducible exact h | with_reducible assumption | with_reducible (refine Flows.onRegs ?_ ?_) | with_reducible (refine Flows.pcNext ?_)
    | with_reducible (refine Flows.rilCount ?_) | with_reducible (refine Flows.vpart! ?_) | with_reducible (refine Flows.vreg! ?_)
    | with_reducible (refine Flows.ite ?_ ?_) | with_reducible (refine Flows.foldl ?_ ?_) | with_reducible intro _

theorem Flows.execAccClr {w0 : Nat} {s0 : State} {core : Nat} {slot : Nat} {n : Nat} {s : State} (h : Flows w0 s0 s) (hw0 : 9215 ||| w0 = w0 := by first | assumption | exact parts (by assumption) (by decide)) :
    FlowsX w0 s0 (Sys2Proof.Machine.execAccClr core slot n s) := by
  unfold Sys2Proof.Machine.execAccClr
  repeat' first
    | with_reducible exact h | with_reducible (refine Flows.core! ?_) | with_reducible (refine Flows.onRegs ?_ ?_) | with_reducible (refine Flows.pcNext ?_)
    | with_reducible (refine Flows.rilCount ?_) | with_reducible intro _

theorem Flows.vecEnd {w0 : Nat} {s0 : State} {t : State} {core : Nat} {k : Task} {reads : List Nat} {dst : List Nat} {e : EccOutcome} (h : Flows w0 s0 t) (hw0 : 9215 ||| w0 = w0 := by first | assumption | exact parts (by assumption) (by decide)) :
    Flows w0 s0 (State.vecEnd t core k reads dst e) := by
  unfold State.vecEnd
  repeat' first
    | with_reducible exact h | with_reducible assumption | with_reducible (refine Flows.badReg! ?_) | with_reducible (refine Flows.eccNote ?_)
    | with_reducible (refine Flows.pcNext ?_) | with_reducible (refine Flows.poison! ?_) | with_reducible (refine Flows.rilCount ?_)
    | with_reducible (refine Flows.ite ?_ ?_) | with_reducible (refine Flows.foldl ?_ ?_) | with_reducible intro _ | dsimp only

theorem Flows.onVec {w0 : Nat} {s0 : State} {s : State} {core : Nat} {okForm : Bool} {reads : List Nat} {dst : List Nat} {par : Option Nat} {ecc : List Nat} {f : State → State} (h : Flows w0 s0 s) (hf : ∀ y0, Flows w0 s0 y0 → Flows w0 s0 (f y0)) (hw0 : 9215 ||| w0 = w0 := by first | assumption | exact parts (by assumption) (by decide)) :
    FlowsX w0 s0 (Sys2Proof.Machine.onVec s core okForm reads dst par ecc f) := by
  unfold Sys2Proof.Machine.onVec
  repeat' first
    | with_reducible exact h | with_reducible assumption | with_reducible (refine hf _ ?_) | with_reducible (refine Flows.vecEnd ?_)
    | with_reducible (refine Flows.onRegs ?_ ?_) | with_reducible (refine Flows.taskFault ?_) | with_reducible intro _ | split

theorem Flows.fillFree {w0 : Nat} {s0 : State} {s : State} {l : List (Option Nat)} (h : Flows w0 s0 s) (hw0 : 8192 ||| w0 = w0 := by first | assumption | exact parts (by assumption) (by decide)) :
    Flows w0 s0 (State.fillFree s l).2 := by
  unfold State.fillFree
  repeat' first
    | with_reducible exact h | with_reducible assumption | with_reducible (refine Flows.free2 ?_) | with_reducible (refine Flows.foldl2 ?_ ?_)
    | with_reducible intro _ | dsimp only | split

theorem Flows.vdst {w0 : Nat} {s0 : State} {s : State} {core : Nat} {ty : VTy} {r : Nat} {l : List Nat} (h : Flows w0 s0 s) (hw0 : 8 ||| w0 = w0 := by first | assumption | exact parts (by assumption) (by decide)) :
    Flows w0 s0 (State.vdst s core ty r l) := by
  unfold State.vdst
  repeat' first | with_reducible exact h | with_reducible (refine Flows.vreg! ?_) | with_reducible (refine Flows.ite ?_ ?_)

theorem Flows.onVec1 {w0 : Nat} {s0 : State} {s : State} {core : Nat} {a : VArgs} {f : Nat → Nat} (h : Flows w0 s0 s) (hw0 : 9215 ||| w0 = w0 := by first | assumption | exact parts (by assumption) (by decide)) :
    FlowsX w0 s0 (Sys2Proof.Machine.onVec1 s core a f) := by
  unfold Sys2Proof.Machine.onVec1
  repeat' first
    | with_reducible exact h | with_reducible assumption | with_reducible (refine Flows.onVec ?_ ?_) | with_reducible (refine Flows.vdst ?_) | with_reducible intro _

theorem Flows.onVec2 {w0 : Nat} {s0 : State} {s : State} {core : Nat} {okForm : Bool} {a : VArgs} {fp : Nat → Nat → Nat} {int : Nat → Nat → Nat} (h : Flows w0 s0 s) (hw0 : 9215 ||| w0 = w0 := by first | assumption | exact parts (by assumption) (by decide)) :
    FlowsX w0 s0 (Sys2Proof.Machine.onVec2 s core okForm a fp int) := by
  unfold Sys2Proof.Machine.onVec2
  repeat' first
    | with_reducible exact h | with_reducible assumption | with_reducible (refine Flows.onVec ?_ ?_) | with_reducible (refine Flows.vdst ?_) | with_reducible intro _

theorem Flows.execVAdd {w0 : Nat} {s0 : State} {core : Nat} {a : VArgs} {s : State} (h : Flows w0 s0 s) (hw0 : 9215 ||| w0 = w0 := by first | assumption | exact parts (by assumption) (by decide)) :
    FlowsX w0 s0 (Sys2Proof.Machine.execVAdd core a s) := by
  unfold Sys2Proof.Machine.execVAdd
  repeat' first | with_reducible exact h | with_reducible (refine Flows.onVec2 ?_)

theorem Flows.execVMul {w0 : Nat} {s0 : State} {core : Nat} {a : VArgs} {s : State} (h : Flows w0 s0 s) (hw0 : 9215 ||| w0 = w0 := by first | assumption | exact parts (by assumption) (by decide)) :
    FlowsX w0 s0 (Sys2Proof.Machine.execVMul core a s) := by
  unfold Sys2Proof.Machine.execVMul
  repeat' first | with_reducible exact h | with_reducible (refine Flows.onVec2 ?_)

theorem Flows.execVMax {w0 : Nat} {s0 : State} {core : Nat} {a : VArgs} {s : State} (h : Flows w0 s0 s) (hw0 : 9215 ||| w0 = w0 := by first | assumption | exact parts (by assumption) (by decide)) :
    FlowsX w0 s0 (Sys2Proof.Machine.execVMax core a s) := by
  unfold Sys2Proof.Machine.execVMax
  repeat' first | with_reducible exact h | with_reducible (refine Flows.onVec2 ?_)

theorem Flows.execVFma {w0 : Nat} {s0 : State} {core : Nat} {a : VArgs} {s : State} (h : Flows w0 s0 s) (hw0 : 9215 ||| w0 = w0 := by first | assumption | exact parts (by assumption) (by decide)) :
    FlowsX w0 s0 (Sys2Proof.Machine.execVFma core a s) := by
  unfold Sys2Proof.Machine.execVFma
  repeat' first
    | with_reducible exact h | with_reducible assumption | with_reducible (refine Flows.onVec ?_ ?_) | with_reducible (refine Flows.vdst ?_) | with_reducible intro _

theorem Flows.execConvert {w0 : Nat} {s0 : State} {core : Nat} {k : Conv} {a : VArgs} {s : State} (h : Flows w0 s0 s) (hw0 : 9215 ||| w0 = w0 := by first | assumption | exact parts (by assumption) (by decide)) :
    FlowsX w0 s0 (Sys2Proof.Machine.execConvert core k a s) := by
  unfold Sys2Proof.Machine.execConvert
  repeat' first
    | with_reducible exact h | with_reducible assumption | with_reducible (refine Flows.onVec ?_ ?_) | with_reducible (refine Flows.vreg! ?_)
    | with_reducible intro _ | dsimp only | split

theorem Flows.execVCmp {w0 : Nat} {s0 : State} {core : Nat} {c : Cmp} {a : VArgs} {s : State} (h : Flows w0 s0 s) (hw0 : 9215 ||| w0 = w0 := by first | assumption | exact parts (by assumption) (by decide)) :
    FlowsX w0 s0 (Sys2Proof.Machine.execVCmp core c a s) := by
  unfold Sys2Proof.Machine.execVCmp
  repeat' first
    | with_reducible exact h | with_reducible assumption | with_reducible (refine Flows.onVec ?_ ?_) | with_reducible (refine Flows.vreg! ?_)
    | with_reducible intro _

theorem Flows.execVSel {w0 : Nat} {s0 : State} {core : Nat} {a : VArgs} {s : State} (h : Flows w0 s0 s) (hw0 : 9215 ||| w0 = w0 := by first | assumption | exact parts (by assumption) (by decide)) :
    FlowsX w0 s0 (Sys2Proof.Machine.execVSel core a s) := by
  unfold Sys2Proof.Machine.execVSel
  repeat' first
    | with_reducible exact h | with_reducible assumption | with_reducible (refine Flows.onVec ?_ ?_) | with_reducible (refine Flows.vreg! ?_)
    | with_reducible intro _

theorem Flows.execBAdd {w0 : Nat} {s0 : State} {core : Nat} {d : Dir} {a : VArgs} {s : State} (h : Flows w0 s0 s) (hw0 : 9215 ||| w0 = w0 := by first | assumption | exact parts (by assumption) (by decide)) :
    FlowsX w0 s0 (Sys2Proof.Machine.execBAdd core d a s) := by
  unfold Sys2Proof.Machine.execBAdd
  repeat' first | with_reducible exact h | with_reducible (refine Flows.onVec2 ?_)

theorem Flows.execBMul {w0 : Nat} {s0 : State} {core : Nat} {d : Dir} {a : VArgs} {s : State} (h : Flows w0 s0 s) (hw0 : 9215 ||| w0 = w0 := by first | assumption | exact parts (by assumption) (by decide)) :
    FlowsX w0 s0 (Sys2Proof.Machine.execBMul core d a s) := by
  unfold Sys2Proof.Machine.execBMul
  repeat' first | with_reducible exact h | with_reducible (refine Flows.onVec2 ?_)

theorem Flows.execBSqrt {w0 : Nat} {s0 : State} {core : Nat} {d : Dir} {a : VArgs} {s : State} (h : Flows w0 s0 s) (hw0 : 9215 ||| w0 = w0 := by first | assumption | exact parts (by assumption) (by decide)) :
    FlowsX w0 s0 (Sys2Proof.Machine.execBSqrt core d a s) := by
  unfold Sys2Proof.Machine.execBSqrt
  repeat' first | with_reducible exact h | with_reducible (refine Flows.onVec1 ?_)

theorem Flows.execBDiv {w0 : Nat} {s0 : State} {core : Nat} {d : Dir} {a : VArgs} {s : State} (h : Flows w0 s0 s) (hw0 : 9215 ||| w0 = w0 := by first | assumption | exact parts (by assumption) (by decide)) :
    FlowsX w0 s0 (Sys2Proof.Machine.execBDiv core d a s) := by
  unfold Sys2Proof.Machine.execBDiv
  repeat' first | with_reducible exact h | with_reducible (refine Flows.onVec2 ?_)

theorem Flows.execVExp2 {w0 : Nat} {s0 : State} {core : Nat} {a : VArgs} {s : State} (h : Flows w0 s0 s) (hw0 : 9215 ||| w0 = w0 := by first | assumption | exact parts (by assumption) (by decide)) :
    FlowsX w0 s0 (Sys2Proof.Machine.execVExp2 core a s) := by
  unfold Sys2Proof.Machine.execVExp2
  repeat' first | with_reducible exact h | with_reducible (refine Flows.onVec1 ?_)

theorem Flows.execVSqrt {w0 : Nat} {s0 : State} {core : Nat} {a : VArgs} {s : State} (h : Flows w0 s0 s) (hw0 : 9215 ||| w0 = w0 := by first | assumption | exact parts (by assumption) (by decide)) :
    FlowsX w0 s0 (Sys2Proof.Machine.execVSqrt core a s) := by
  unfold Sys2Proof.Machine.execVSqrt
  repeat' first | with_reducible exact h | with_reducible (refine Flows.onVec1 ?_)

theorem Flows.execVDiv {w0 : Nat} {s0 : State} {core : Nat} {a : VArgs} {s : State} (h : Flows w0 s0 s) (hw0 : 9215 ||| w0 = w0 := by first | assumption | exact parts (by assumption) (by decide)) :
    FlowsX w0 s0 (Sys2Proof.Machine.execVDiv core a s) := by
  unfold Sys2Proof.Machine.execVDiv
  repeat' first | with_reducible exact h | with_reducible (refine Flows.onVec2 ?_)

theorem Flows.execVRedp {w0 : Nat} {s0 : State} {core : Nat} {n : Nat} {a : VArgs} {s : State} (h : Flows w0 s0 s) (hw0 : 9215 ||| w0 = w0 := by first | assumption | exact parts (by assumption) (by decide)) :
    FlowsX w0 s0 (Sys2Proof.Machine.execVRedp core n a s) := by
  unfold Sys2Proof.Machine.execVRedp
  repeat' first
    | with_reducible exact h | with_reducible assumption | with_reducible (refine Flows.onVec ?_ ?_) | with_reducible (refine Flows.vpart! ?_)
    | with_reducible intro _

theorem Flows.execCCx {w0 : Nat} {s0 : State} {core : Nat} {reg : SramRead} {k : Nat} {j : Nat} {s : State} (h : Flows w0 s0 s) (hw0 : 9215 ||| w0 = w0 := by first | assumption | exact parts (by assumption) (by decide)) :
    FlowsX w0 s0 (Sys2Proof.Machine.execCCx core reg k j s) := by
  unfold Sys2Proof.Machine.execCCx
  repeat' first
    | with_reducible exact h | with_reducible assumption | with_reducible (refine Flows.onVec ?_ ?_) | with_reducible (refine Flows.vreg! ?_)
    | with_reducible intro _

theorem Flows.execCMerge {w0 : Nat} {s0 : State} {core : Nat} {vd : Nat} {va : Nat} {vb : SramRead} {s : State} (h : Flows w0 s0 s) (hw0 : 9215 ||| w0 = w0 := by first | assumption | exact parts (by assumption) (by decide)) :
    FlowsX w0 s0 (Sys2Proof.Machine.execCMerge core vd va vb s) := by
  unfold Sys2Proof.Machine.execCMerge
  repeat' first
    | with_reducible exact h | with_reducible assumption | with_reducible (refine Flows.onVec ?_ ?_) | with_reducible (refine Flows.vreg! ?_)
    | with_reducible intro _

theorem Flows.loadScratch {w0 : Nat} {s0 : State} {s : State} {core : Nat} {k : Task} {addr : Nat} {n : Nat} {ecc : List Nat} (h : Flows w0 s0 s) (hw0 : 8200 ||| w0 = w0 := by first | assumption | exact parts (by assumption) (by decide)) :
    Flows w0 s0 (State.loadScratch s core k addr n ecc).2.2 := by
  unfold State.loadScratch
  repeat' first
    | with_reducible exact h | with_reducible (refine Flows.core! ?_) | with_reducible (refine Flows.free2 ?_) | with_reducible (refine Flows.touchSegs ?_)
    | with_reducible (refine Flows.ite ?_ ?_) | dsimp only | split

theorem Flows.execLdV {w0 : Nat} {s0 : State} {core : Nat} {vd : Nat} {addr : SramRead} {s : State} (h : Flows w0 s0 s) (hw0 : 9215 ||| w0 = w0 := by first | assumption | exact parts (by assumption) (by decide)) :
    FlowsX w0 s0 (Sys2Proof.Machine.execLdV core vd addr s) := by
  unfold Sys2Proof.Machine.execLdV
  repeat' first
    | with_reducible exact h | with_reducible (refine Flows.eccNote ?_) | with_reducible (refine Flows.loadScratch ?_) | with_reducible (refine Flows.onRegs ?_ ?_)
    | with_reducible (refine Flows.pcNext ?_) | with_reducible (refine Flows.poison! ?_) | with_reducible (refine Flows.rilCount ?_)
    | with_reducible (refine Flows.taskFault ?_) | with_reducible (refine Flows.vreg! ?_) | with_reducible (refine Flows.ite ?_ ?_) | with_reducible intro _

theorem Flows.execStV {w0 : Nat} {s0 : State} {core : Nat} {vs : SramRead} {addr : Nat} {s : State} (h : Flows w0 s0 s) (hw0 : 9215 ||| w0 = w0 := by first | assumption | exact parts (by assumption) (by decide)) :
    FlowsX w0 s0 (Sys2Proof.Machine.execStV core vs addr s) := by
  unfold Sys2Proof.Machine.execStV
  repeat' first
    | with_reducible exact h | with_reducible (refine Flows.badReg! ?_) | with_reducible (refine Flows.core! ?_) | with_reducible (refine Flows.eccNote ?_)
    | with_reducible (refine Flows.onRegs ?_ ?_) | with_reducible (refine Flows.pcNext ?_) | with_reducible (refine Flows.rilCount ?_)
    | with_reducible (refine Flows.taskFault ?_) | with_reducible (refine Flows.ite ?_ ?_) | with_reducible intro _

theorem Flows.execLdS {w0 : Nat} {s0 : State} {core : Nat} {xd : Nat} {addr : SramRead} {s : State} (h : Flows w0 s0 s) (hw0 : 9215 ||| w0 = w0 := by first | assumption | exact parts (by assumption) (by decide)) :
    FlowsX w0 s0 (Sys2Proof.Machine.execLdS core xd addr s) := by
  unfold Sys2Proof.Machine.execLdS
  repeat' first
    | with_reducible exact h | with_reducible (refine Flows.eccNote ?_) | with_reducible (refine Flows.loadScratch ?_) | with_reducible (refine Flows.onRegs ?_ ?_)
    | with_reducible (refine Flows.pcNext ?_) | with_reducible (refine Flows.poison! ?_) | with_reducible (refine Flows.rilCount ?_)
    | with_reducible (refine Flows.taskFault ?_) | with_reducible (refine Flows.xreg! ?_) | with_reducible (refine Flows.ite ?_ ?_) | with_reducible intro _

theorem Flows.execKernelLoad {w0 : Nat} {s0 : State} {mb : Nat} {dma : HostRead} {s : State} (h : Flows w0 s0 s) (hw0 : 859 ||| w0 = w0 := by first | assumption | exact parts (by assumption) (by decide)) :
    FlowsX w0 s0 (Sys2Proof.Machine.execKernelLoad mb dma s) := by
  unfold Sys2Proof.Machine.execKernelLoad
  repeat' first
    | with_reducible exact h | with_reducible assumption | with_reducible (refine Flows.done ?_) | with_reducible (refine Flows.onMsg ?_ ?_)
    | with_reducible (refine Flows.refuse ?_) | with_reducible (refine Flows.reply ?_) | with_reducible (refine Flows.slc! ?_)
    | with_reducible (refine Flows.ite ?_ ?_) | with_reducible intro _ | dsimp only | split

theorem Flows.execKernelDrop {w0 : Nat} {s0 : State} {mb : Nat} {s : State} (h : Flows w0 s0 s) (hw0 : 859 ||| w0 = w0 := by first | assumption | exact parts (by assumption) (by decide)) :
    FlowsX w0 s0 (Sys2Proof.Machine.execKernelDrop mb s) := by
  unfold Sys2Proof.Machine.execKernelDrop
  repeat' first
    | with_reducible exact h | with_reducible assumption | with_reducible (refine Flows.freeKernels ?_) | with_reducible (refine Flows.onMsg ?_ ?_)
    | with_reducible (refine Flows.refuse ?_) | with_reducible (refine Flows.slc! ?_) | with_reducible (refine Flows.ite ?_ ?_) | with_reducible intro _ | split

end Sys2Proof.Machine
end

