-- ==== Sys2Proof/Laws/FlowModels.lean ====
section
/-! SUPPORT. What the operations and meanings of Machine/Models.lean keep. -/

set_option Elab.async false

namespace Sys2Proof.Machine

theorem Flows.att! {w0 : Nat} {s0 : State} {s : State} {k : Nat} {f : AttObj → AttObj} (h : Flows w0 s0 s) (hw0 : 8 ||| w0 = w0 := by first | assumption | exact parts (by assumption) (by decide)) :
    Flows w0 s0 (State.att! s k f) := by
  unfold State.att!
  repeat' first | with_reducible exact h | with_reducible (refine Flows.obj! ?_)

theorem Flows.execAttCreate {w0 : Nat} {s0 : State} {mb : Nat} {s : State} (h : Flows w0 s0 s) (hw0 : 859 ||| w0 = w0 := by first | assumption | exact parts (by assumption) (by decide)) :
    FlowsX w0 s0 (Sys2Proof.Machine.execAttCreate mb s) := by
  unfold Sys2Proof.Machine.execAttCreate
  repeat' first
    | with_reducible exact h | with_reducible assumption | with_reducible (refine Flows.done ?_) | with_reducible (refine Flows.onMsg ?_ ?_)
    | with_reducible (refine Flows.refuse ?_) | with_reducible (refine Flows.slc! ?_) | with_reducible (refine Flows.ite ?_ ?_) | with_reducible intro _

theorem Flows.execAttAppend {w0 : Nat} {s0 : State} {mb : Nat} {dma : HostRead} {s : State} (h : Flows w0 s0 s) (hw0 : 859 ||| w0 = w0 := by first | assumption | exact parts (by assumption) (by decide)) :
    FlowsX w0 s0 (Sys2Proof.Machine.execAttAppend mb dma s) := by
  unfold Sys2Proof.Machine.execAttAppend
  repeat' first
    | with_reducible exact h | with_reducible assumption | with_reducible (refine Flows.allocate ?_)
    | with_reducible (refine FlowsO.get (Flows.allocate ?_) (by with_reducible assumption)) | with_reducible (refine Flows.att! ?_)
    | with_reducible (refine Flows.done ?_) | with_reducible (refine Flows.obj! ?_) | with_reducible (refine Flows.onMsg ?_ ?_)
    | with_reducible (refine Flows.refuse ?_) | with_reducible (refine Flows.reply ?_) | with_reducible (refine Flows.ite ?_ ?_)
    | with_reducible (refine Flows.foldl ?_ ?_) | with_reducible (refine FlowsO.get ?_ (by with_reducible assumption)) | with_reducible (refine FlowsO.bind ?_)
    | with_reducible intro _ | dsimp only | split

theorem Flows.execAttQuery {w0 : Nat} {s0 : State} {mb : Nat} {dma : HostRead} {lims : HostRead} {s : State} (h : Flows w0 s0 s) (hw0 : 9083 ||| w0 = w0 := by first | assumption | exact parts (by assumption) (by decide)) :
    FlowsX w0 s0 (Sys2Proof.Machine.execAttQuery mb dma lims s) := by
  unfold Sys2Proof.Machine.execAttQuery
  repeat' first
    | with_reducible exact h | with_reducible assumption | with_reducible (refine Flows.addBatch ?_) | with_reducible (refine Flows.finishStopped ?_)
    | with_reducible (refine Flows.grantSlots ?_) | with_reducible (refine Flows.onMsg ?_ ?_) | with_reducible (refine Flows.refuseBatch ?_)
    | with_reducible (refine Flows.search! ?_) | with_reducible (refine Flows.searchBoundary ?_) | with_reducible (refine Flows.ite ?_ ?_) | with_reducible intro _
    | dsimp only | split

theorem Flows.execObjDrop {w0 : Nat} {s0 : State} {mb : Nat} {s : State} (h : Flows w0 s0 s) (hw0 : 859 ||| w0 = w0 := by first | assumption | exact parts (by assumption) (by decide)) :
    FlowsX w0 s0 (Sys2Proof.Machine.execObjDrop mb s) := by
  unfold Sys2Proof.Machine.execObjDrop
  repeat' first
    | with_reducible exact h | with_reducible assumption | with_reducible (refine Flows.obj! ?_) | with_reducible (refine Flows.onMsg ?_ ?_)
    | with_reducible (refine Flows.refuse ?_) | with_reducible (refine Flows.ite ?_ ?_) | with_reducible intro _ | split

theorem Flows.freeObj {w0 : Nat} {s0 : State} {s : State} {k : Nat} (h : Flows w0 s0 s) (hw0 : 200 ||| w0 = w0 := by first | assumption | exact parts (by assumption) (by decide)) :
    Flows w0 s0 (State.freeObj s k) := by
  unfold State.freeObj
  repeat' first
    | with_reducible exact h | with_reducible (refine Flows.delta! ?_) | with_reducible (refine Flows.ferry! ?_) | with_reducible (refine Flows.release ?_)
    | with_reducible (refine Flows.slc! ?_) | with_reducible (refine Flows.ite ?_ ?_) | dsimp only | split

theorem Flows.execObjDropComplete {w0 : Nat} {s0 : State} {obj : Nat} {s : State} (h : Flows w0 s0 s) (hw0 : 203 ||| w0 = w0 := by first | assumption | exact parts (by assumption) (by decide)) :
    FlowsX w0 s0 (Sys2Proof.Machine.execObjDropComplete obj s) := by
  unfold Sys2Proof.Machine.execObjDropComplete
  repeat' first
    | with_reducible exact h | with_reducible (refine Flows.done ?_) | with_reducible (refine Flows.freeObj ?_) | with_reducible (refine FlowsX.ok ?_)
    | with_reducible (refine Flows.ite ?_ ?_) | split

theorem Flows.execObjInfo {w0 : Nat} {s0 : State} {mb : Nat} {s : State} (h : Flows w0 s0 s) (hw0 : 859 ||| w0 = w0 := by first | assumption | exact parts (by assumption) (by decide)) :
    FlowsX w0 s0 (Sys2Proof.Machine.execObjInfo mb s) := by
  unfold Sys2Proof.Machine.execObjInfo
  repeat' first
    | with_reducible exact h | with_reducible assumption | with_reducible (refine Flows.done ?_) | with_reducible (refine Flows.onMsg ?_ ?_)
    | with_reducible (refine Flows.refuse ?_) | with_reducible (refine Flows.ite ?_ ?_) | with_reducible intro _ | dsimp only | split

theorem Flows.mirrorWrite {w0 : Nat} {s0 : State} {s : State} {k : Nat} {n : Nat} (h : Flows w0 s0 s) (hw0 : 266 ||| w0 = w0 := by first | assumption | exact parts (by assumption) (by decide)) :
    Flows w0 s0 (State.mirrorWrite s k n) := by
  unfold State.mirrorWrite
  repeat' first
    | with_reducible exact h | with_reducible assumption | with_reducible (refine Flows.sendFlow ?_) | with_reducible (refine Flows.trib! ?_)
    | with_reducible (refine Flows.foldl ?_ ?_) | with_reducible intro _ | dsimp only | split

theorem Flows.mirrorDone {w0 : Nat} {s0 : State} {s : State} {k : Nat} {good : Bool} (h : Flows w0 s0 s) (hw0 : 459 ||| w0 = w0 := by first | assumption | exact parts (by assumption) (by decide)) :
    Flows w0 s0 (State.mirrorDone s k good) := by
  unfold State.mirrorDone
  repeat' first
    | with_reducible exact h | with_reducible (refine Flows.done ?_) | with_reducible (refine Flows.freeObj ?_) | with_reducible (refine Flows.obj! ?_)
    | with_reducible (refine Flows.reply ?_) | with_reducible (refine Flows.trib! ?_) | with_reducible (refine Flows.ite ?_ ?_) | dsimp only | split

theorem Flows.weightBytes {w0 : Nat} {s0 : State} {s : State} {img : List Byte} (h : Flows w0 s0 s) (hw0 : 8192 ||| w0 = w0 := by first | assumption | exact parts (by assumption) (by decide)) :
    Flows w0 s0 (State.weightBytes s img).2 := by
  unfold State.weightBytes
  repeat' first
    | with_reducible exact h | with_reducible assumption | with_reducible (refine Flows.fillFree ?_) | with_reducible (refine Flows.foldl2 ?_ ?_)
    | with_reducible intro _

theorem Flows.placeWeight {w0 : Nat} {s0 s : State} {comp id tier hdr : Nat} {img data : List Byte} {w : Nat × Option Nat × State} (h : Flows w0 s0 s)
    (e : s.placeWeight comp id tier hdr img data = some w) (hw0 : 138 ||| w0 = w0 := by first | assumption | exact parts (by assumption) (by decide)) :
    Flows w0 s0 w.2.2 := by
  have hf : ∀ w, (match s.spaceOf comp with
      | none => none
      | some sp => (s.allocate comp 2 (cdiv hdr 4096 * 4096 + data.length)).bind (fun t =>
        (t.sealExtent sp (t.flashMask comp 0) 0 id (cdiv hdr 4096 * 4096 + data.length)
          (Mem.writeBytes (Mem.writeBytes [] 0 (img.take hdr)) (cdiv hdr 4096 * 4096) data) data.length []).map (fun r => (2, some r.1, r.2)))) = some w → Flows w0 s0 w.2.2 := by
    intro w e
    split at e
    · cases e
    · obtain ⟨t, ht, e⟩ := Option.bind_eq_some_iff.1 e
      obtain ⟨r, hr, rfl⟩ := Option.map_eq_some_iff.1 e
      exact (FlowsP.get (Flows.sealExtent (FlowsO.get (Flows.allocate h) ht)) hr : Flows w0 s0 r.2)
  have hb : ∀ w, (s.allocate comp 1 data.length).map (fun t => ((1, none, t) : Nat × Option Nat × State)) = some w → Flows w0 s0 w.2.2 := by
    intro w e
    obtain ⟨r, hr, rfl⟩ := Option.map_eq_some_iff.1 e
    exact FlowsO.get (Flows.allocate h) hr
  unfold State.placeWeight at e
  dsimp only at e
  split at e
  · cases hx : (s.allocate comp 1 data.length).map (fun t => ((1, none, t) : Nat × Option Nat × State)) with
    | none => rw [hx] at e; exact hf _ e
    | some y => rw [hx] at e; cases e; exact hb _ hx
  · exact hb _ e
  · exact hf _ e

theorem Flows.execWeightLoad {w0 : Nat} {s0 : State} {mb : Nat} {dma : HostRead} {peerOk : Bool} {s : State} (h : Flows w0 s0 s) (hw0 : 9179 ||| w0 = w0 := by first | assumption | exact parts (by assumption) (by decide)) :
    FlowsX w0 s0 (Sys2Proof.Machine.execWeightLoad mb dma peerOk s) := by
  unfold Sys2Proof.Machine.execWeightLoad
  repeat' first
    | with_reducible exact h | with_reducible assumption | with_reducible (refine Flows.delta! ?_) | with_reducible (refine Flows.done ?_)
    | with_reducible (refine Flows.mirrorWrite ?_) | with_reducible (refine Flows.onMsg ?_ ?_)
    | with_reducible (refine Flows.placeWeight ?_ (by with_reducible assumption)) | with_reducible (refine Flows.refuse ?_) | with_reducible (refine Flows.reply ?_)
    | with_reducible (refine Flows.slc! ?_) | with_reducible (refine Flows.weightBytes ?_) | with_reducible (refine Flows.ite ?_ ?_) | with_reducible intro _
    | dsimp only | split

theorem Flows.execWeightMirror {w0 : Nat} {s0 : State} {mb : Nat} {peerOk : Bool} {s : State} (h : Flows w0 s0 s) (hw0 : 859 ||| w0 = w0 := by first | assumption | exact parts (by assumption) (by decide)) :
    FlowsX w0 s0 (Sys2Proof.Machine.execWeightMirror mb peerOk s) := by
  unfold Sys2Proof.Machine.execWeightMirror
  repeat' first
    | with_reducible exact h | with_reducible assumption | with_reducible (refine Flows.mirrorWrite ?_) | with_reducible (refine Flows.obj! ?_)
    | with_reducible (refine Flows.onMsg ?_ ?_) | with_reducible (refine Flows.refuse ?_) | with_reducible (refine Flows.reply ?_)
    | with_reducible (refine Flows.ite ?_ ?_) | with_reducible intro _ | split

theorem Flows.releaseTile {w0 : Nat} {s0 : State} {s : State} {k : Nat} {tile : Nat} (h : Flows w0 s0 s) (hw0 : 72 ||| w0 = w0 := by first | assumption | exact parts (by assumption) (by decide)) :
    Flows w0 s0 (State.releaseTile s k tile) := by
  unfold State.releaseTile
  repeat' first | with_reducible exact h | with_reducible (refine Flows.ferry! ?_) | with_reducible (refine Flows.obj! ?_)

theorem Flows.rewriteTile {w0 : Nat} {s0 : State} {s : State} {o : Obj} {tile : Nat} (h : Flows w0 s0 s) (hw0 : 128 ||| w0 = w0 := by first | assumption | exact parts (by assumption) (by decide)) :
    Flows w0 s0 (State.rewriteTile s o tile) := by
  unfold State.rewriteTile
  repeat' first | with_reducible exact h | with_reducible (refine Flows.delta! ?_) | split

theorem Flows.execMirrorRefetchComplete {w0 : Nat} {s0 : State} {obj : Nat} {tile : Nat} {readable : Bool} {s : State} (h : Flows w0 s0 s) (hw0 : 9215 ||| w0 = w0 := by first | assumption | exact parts (by assumption) (by decide)) :
    FlowsX w0 s0 (Sys2Proof.Machine.execMirrorRefetchComplete obj tile readable s) := by
  unfold Sys2Proof.Machine.execMirrorRefetchComplete
  repeat' first
    | with_reducible exact h | with_reducible (refine Flows.obj! ?_) | with_reducible (refine Flows.poisonObj ?_) | with_reducible (refine Flows.releaseTile ?_)
    | with_reducible (refine Flows.rewriteTile ?_) | with_reducible (refine FlowsX.ok ?_) | with_reducible (refine Flows.ite ?_ ?_) | split

theorem Flows.execMirrorRefetchTimeout {w0 : Nat} {s0 : State} {obj : Nat} {s : State} (h : Flows w0 s0 s) (hw0 : 13311 ||| w0 = w0 := by first | assumption | exact parts (by assumption) (by decide)) :
    FlowsX w0 s0 (Sys2Proof.Machine.execMirrorRefetchTimeout obj s) := by
  unfold Sys2Proof.Machine.execMirrorRefetchTimeout
  repeat' first
    | with_reducible exact h | with_reducible (refine Flows.poisonObj ?_) | with_reducible (refine Flows.reach ?_) | with_reducible (refine FlowsX.ok ?_) | split

theorem Flows.mirrorLost {w0 : Nat} {s0 : State} {s : State} {n : Nat} (h : Flows w0 s0 s) (hw0 : 9215 ||| w0 = w0 := by first | assumption | exact parts (by assumption) (by decide)) :
    Flows w0 s0 (State.mirrorLost s n) := by
  unfold State.mirrorLost
  repeat' first
    | with_reducible exact h | with_reducible assumption | with_reducible (refine Flows.logC ?_) | with_reducible (refine Flows.mirrorDone ?_)
    | with_reducible (refine Flows.obj! ?_) | with_reducible (refine Flows.poisonObj ?_) | with_reducible (refine Flows.ite ?_ ?_)
    | with_reducible (refine Flows.foldl ?_ ?_) | with_reducible intro _ | dsimp only | split

theorem Flows.startModel {w0 : Nat} {s0 : State} {s : State} {b : Nat} (h : Flows w0 s0 s) (hw0 : 8 ||| w0 = w0 := by first | assumption | exact parts (by assumption) (by decide)) :
    Flows w0 s0 (State.startModel s b) := by
  unfold State.startModel
  repeat' first | with_reducible exact h | with_reducible (refine Flows.startRoot ?_) | dsimp only | split

theorem Flows.execModelRun {w0 : Nat} {s0 : State} {mb : Nat} {dma : HostRead} {s : State} (h : Flows w0 s0 s) (hw0 : 9051 ||| w0 = w0 := by first | assumption | exact parts (by assumption) (by decide)) :
    FlowsX w0 s0 (Sys2Proof.Machine.execModelRun mb dma s) := by
  unfold Sys2Proof.Machine.execModelRun
  repeat' first
    | with_reducible exact h | with_reducible assumption | with_reducible (refine Flows.addBatch ?_) | with_reducible (refine Flows.batch! ?_)
    | with_reducible (refine Flows.free2 ?_) | with_reducible (refine Flows.onMsg ?_ ?_) | with_reducible (refine Flows.refuseBatch ?_)
    | with_reducible (refine Flows.startModel ?_) | with_reducible (refine Flows.tryRoot ?_) | with_reducible (refine Flows.ite ?_ ?_) | with_reducible intro _
    | dsimp only | split

theorem Flows.modelOver {w0 : Nat} {s0 : State} {s : State} {b : Nat} (h : Flows w0 s0 s) (hw0 : 9083 ||| w0 = w0 := by first | assumption | exact parts (by assumption) (by decide)) :
    Flows w0 s0 (State.modelOver s b) := by
  unfold State.modelOver
  repeat' first | with_reducible exact h | with_reducible (refine Flows.qryAdmit ?_) | with_reducible (refine Flows.replyBatch ?_) | split

end Sys2Proof.Machine
end

