-- ==== Sys2Proof/Laws/FlowPipes.lean ====
section
/-! SUPPORT. What the operations and meanings of Machine/Pipes.lean keep. -/

set_option Elab.async false

namespace Sys2Proof.Machine

theorem Flows.run! {w0 : Nat} {s0 : State} {s : State} {r : Nat} {f : PipeRun → PipeRun} (h : Flows w0 s0 s) (hw0 : 8 ||| w0 = w0 := by first | assumption | exact parts (by assumption) (by decide)) :
    Flows w0 s0 (State.run! s r f) := by
  unfold State.run!
  repeat' first | with_reducible exact h | with_reducible (refine Flows.slc! ?_)

theorem Flows.word! {w0 : Nat} {s0 : State} {s : State} {w : Nat} {v : Word} (h : Flows w0 s0 s) (hw0 : 8 ||| w0 = w0 := by first | assumption | exact parts (by assumption) (by decide)) :
    Flows w0 s0 (State.word! s w v) := by
  unfold State.word!
  repeat' first | with_reducible exact h | with_reducible (refine Flows.slc! ?_)

theorem Flows.execSemInit {w0 : Nat} {s0 : State} {mb : Nat} {s : State} (h : Flows w0 s0 s) (hw0 : 859 ||| w0 = w0 := by first | assumption | exact parts (by assumption) (by decide)) :
    FlowsX w0 s0 (Sys2Proof.Machine.execSemInit mb s) := by
  unfold Sys2Proof.Machine.execSemInit
  repeat' first
    | with_reducible exact h | with_reducible assumption | with_reducible (refine Flows.done ?_) | with_reducible (refine Flows.onMsg ?_ ?_)
    | with_reducible (refine Flows.refuse ?_) | with_reducible (refine Flows.slc! ?_) | with_reducible (refine Flows.ite ?_ ?_) | with_reducible intro _

theorem Flows.execPipeDefine {w0 : Nat} {s0 : State} {mb : Nat} {remote : List Nat} {s : State} (h : Flows w0 s0 s) (hw0 : 859 ||| w0 = w0 := by first | assumption | exact parts (by assumption) (by decide)) :
    FlowsX w0 s0 (Sys2Proof.Machine.execPipeDefine mb remote s) := by
  unfold Sys2Proof.Machine.execPipeDefine
  repeat' first
    | with_reducible exact h | with_reducible assumption | with_reducible (refine Flows.done ?_) | with_reducible (refine Flows.onMsg ?_ ?_)
    | with_reducible (refine Flows.refuse ?_) | with_reducible (refine Flows.slc! ?_) | with_reducible (refine Flows.ite ?_ ?_) | with_reducible intro _

theorem Flows.dropRun {w0 : Nat} {s0 : State} {s : State} {r : Nat} (h : Flows w0 s0 s) (hw0 : 891 ||| w0 = w0 := by first | assumption | exact parts (by assumption) (by decide)) :
    Flows w0 s0 (State.dropRun s r) := by
  unfold State.dropRun
  repeat' first
    | with_reducible exact h | with_reducible (refine Flows.endBatch ?_) | with_reducible (refine Flows.endTasks ?_) | with_reducible (refine Flows.slc! ?_)
    | with_reducible (refine Flows.ite ?_ ?_) | split

theorem Flows.stageRoot {w0 : Nat} {s0 : State} {s : State} {r : Nat} (h : Flows w0 s0 s) (hw0 : 8 ||| w0 = w0 := by first | assumption | exact parts (by assumption) (by decide)) :
    Flows w0 s0 (State.stageRoot s r) := by
  unfold State.stageRoot
  repeat' first | with_reducible exact h | with_reducible (refine Flows.startRoot ?_) | dsimp only | split

theorem Flows.replyRun {w0 : Nat} {s0 : State} {s : State} {r : Nat} {status : Nat} {reason : Nat} (h : Flows w0 s0 s) (hw0 : 891 ||| w0 = w0 := by first | assumption | exact parts (by assumption) (by decide)) :
    Flows w0 s0 (State.replyRun s r status reason) := by
  unfold State.replyRun
  repeat' first
    | with_reducible exact h | with_reducible (refine Flows.endTasks ?_) | with_reducible (refine Flows.replyBatch ?_) | with_reducible (refine Flows.slc! ?_)
    | split

theorem Flows.failRun {w0 : Nat} {s0 : State} {s : State} {r : Nat} {status : Nat} {reason : Nat} (h : Flows w0 s0 s) (hw0 : 891 ||| w0 = w0 := by first | assumption | exact parts (by assumption) (by decide)) :
    Flows w0 s0 (State.failRun s r status reason) := by
  unfold State.failRun
  repeat' first
    | with_reducible exact h | with_reducible (refine Flows.dropRun ?_) | with_reducible (refine Flows.fwOp ?_) | with_reducible (refine Flows.replyRun ?_)
    | with_reducible (refine Flows.send ?_) | with_reducible (refine Flows.ite ?_ ?_) | dsimp only | split

theorem Flows.startStage {w0 : Nat} {s0 : State} {s : State} {r : Nat} (h : Flows w0 s0 s) (hw0 : 891 ||| w0 = w0 := by first | assumption | exact parts (by assumption) (by decide)) :
    Flows w0 s0 (State.startStage s r) := by
  unfold State.startStage
  repeat' first
    | with_reducible exact h | with_reducible (refine Flows.failRun ?_) | with_reducible (refine Flows.run! ?_) | with_reducible (refine Flows.stageRoot ?_)
    | with_reducible (refine Flows.ite ?_ ?_) | split

theorem Flows.fillSlots {w0 : Nat} {s0 : State} {s : State} {pipe : Nat} (h : Flows w0 s0 s) (hw0 : 891 ||| w0 = w0 := by first | assumption | exact parts (by assumption) (by decide)) :
    Flows w0 s0 (State.fillSlots s pipe) := by
  unfold State.fillSlots
  repeat' first
    | with_reducible exact h | with_reducible assumption | with_reducible (refine Flows.batch! ?_) | with_reducible (refine Flows.failRun ?_)
    | with_reducible (refine Flows.obj! ?_) | with_reducible (refine Flows.run! ?_) | with_reducible (refine Flows.startStage ?_)
    | with_reducible (refine Flows.tryRoot ?_) | with_reducible (refine Flows.ite ?_ ?_) | with_reducible (refine Flows.foldl ?_ ?_) | with_reducible intro _
    | dsimp only | split

theorem Flows.execPipeRun {w0 : Nat} {s0 : State} {mb : Nat} {dma : HostRead} {s : State} (h : Flows w0 s0 s) (hw0 : 891 ||| w0 = w0 := by first | assumption | exact parts (by assumption) (by decide)) :
    FlowsX w0 s0 (Sys2Proof.Machine.execPipeRun mb dma s) := by
  unfold Sys2Proof.Machine.execPipeRun
  repeat' first
    | with_reducible exact h | with_reducible assumption | with_reducible (refine Flows.addBatch ?_) | with_reducible (refine Flows.fillSlots ?_)
    | with_reducible (refine Flows.onMsg ?_ ?_) | with_reducible (refine Flows.refuseBatch ?_) | with_reducible (refine Flows.slc! ?_)
    | with_reducible (refine Flows.word! ?_) | with_reducible (refine Flows.ite ?_ ?_) | with_reducible intro _ | dsimp only | split

theorem Flows.finishRun {w0 : Nat} {s0 : State} {s : State} {r : Nat} (h : Flows w0 s0 s) (hw0 : 891 ||| w0 = w0 := by first | assumption | exact parts (by assumption) (by decide)) :
    Flows w0 s0 (State.finishRun s r) := by
  unfold State.finishRun
  repeat' first
    | with_reducible exact h | with_reducible (refine Flows.fillSlots ?_) | with_reducible (refine Flows.output ?_) | with_reducible (refine Flows.replyRun ?_)
    | dsimp only | split

theorem Flows.pushState {w0 : Nat} {s0 : State} {s : State} {r : Nat} (h : Flows w0 s0 s) (hw0 : 266 ||| w0 = w0 := by first | assumption | exact parts (by assumption) (by decide)) :
    Flows w0 s0 (State.pushState s r) := by
  unfold State.pushState
  repeat' first
    | with_reducible exact h | with_reducible assumption | with_reducible (refine Flows.run! ?_) | with_reducible (refine Flows.sendFlow ?_)
    | with_reducible (refine Flows.trib! ?_) | with_reducible (refine Flows.foldl ?_ ?_) | with_reducible intro _ | dsimp only | split

theorem Flows.arrive {w0 : Nat} {s0 : State} {s : State} {o : Offer} (h : Flows w0 s0 s) (hw0 : 891 ||| w0 = w0 := by first | assumption | exact parts (by assumption) (by decide)) :
    Flows w0 s0 (State.arrive s o) := by
  unfold State.arrive
  repeat' first
    | with_reducible exact h | with_reducible (refine Flows.addBatch ?_) | with_reducible (refine Flows.failRun ?_) | with_reducible (refine Flows.slc! ?_)
    | with_reducible (refine Flows.startStage ?_) | with_reducible (refine Flows.tryRoot ?_) | with_reducible (refine Flows.word! ?_)
    | with_reducible (refine Flows.ite ?_ ?_)

theorem Flows.own {w0 : Nat} {s0 : State} {s : State} {o : Offer} (h : Flows w0 s0 s) (hw0 : 891 ||| w0 = w0 := by first | assumption | exact parts (by assumption) (by decide)) :
    Flows w0 s0 (State.own s o) := by
  unfold State.own
  repeat' first | with_reducible exact h | with_reducible (refine Flows.arrive ?_) | with_reducible (refine Flows.finishRun ?_) | with_reducible (refine Flows.ite ?_ ?_)

theorem Flows.handed {w0 : Nat} {s0 : State} {s : State} {r : Nat} (h : Flows w0 s0 s) (hw0 : 891 ||| w0 = w0 := by first | assumption | exact parts (by assumption) (by decide)) :
    Flows w0 s0 (State.handed s r) := by
  unfold State.handed
  repeat' first
    | with_reducible exact h | with_reducible (refine Flows.dropRun ?_) | with_reducible (refine Flows.run! ?_) | with_reducible (refine Flows.ite ?_ ?_) | split

theorem Flows.execPipeStageDone {w0 : Nat} {s0 : State} {run : Nat} {s : State} (h : Flows w0 s0 s) (hw0 : 891 ||| w0 = w0 := by first | assumption | exact parts (by assumption) (by decide)) :
    FlowsX w0 s0 (Sys2Proof.Machine.execPipeStageDone run s) := by
  unfold Sys2Proof.Machine.execPipeStageDone
  repeat' first
    | with_reducible exact h | with_reducible (refine Flows.failRun ?_) | with_reducible (refine Flows.handed ?_) | with_reducible (refine Flows.obj! ?_)
    | with_reducible (refine Flows.own ?_) | with_reducible (refine Flows.pushState ?_) | with_reducible (refine Flows.word! ?_)
    | with_reducible (refine FlowsX.ok ?_) | with_reducible (refine Flows.ite ?_ ?_) | dsimp only | split

theorem Flows.execHandoverOffer {w0 : Nat} {s0 : State} {run : Nat} {s : State} (h : Flows w0 s0 s) (hw0 : 266 ||| w0 = w0 := by first | assumption | exact parts (by assumption) (by decide)) :
    FlowsX w0 s0 (Sys2Proof.Machine.execHandoverOffer run s) := by
  unfold Sys2Proof.Machine.execHandoverOffer
  repeat' first
    | with_reducible exact h | with_reducible (refine Flows.fwOp ?_) | with_reducible (refine Flows.run! ?_) | with_reducible (refine Flows.send ?_)
    | with_reducible (refine Flows.word! ?_) | with_reducible (refine FlowsX.ok ?_) | with_reducible (refine Flows.ite ?_ ?_) | dsimp only | split

theorem Flows.execHandoverAccept {w0 : Nat} {s0 : State} {offer : Nat} {old : Nat} {s : State} (h : Flows w0 s0 s) (hw0 : 895 ||| w0 = w0 := by first | assumption | exact parts (by assumption) (by decide)) :
    FlowsX w0 s0 (Sys2Proof.Machine.execHandoverAccept offer old s) := by
  unfold Sys2Proof.Machine.execHandoverAccept
  repeat' first
    | with_reducible exact h | with_reducible (refine Flows.count ?_) | with_reducible (refine Flows.logC ?_) | with_reducible (refine Flows.own ?_)
    | with_reducible (refine Flows.send ?_) | with_reducible (refine Flows.slc! ?_) | with_reducible (refine FlowsX.ok ?_) | with_reducible (refine Flows.ite ?_ ?_)
    | dsimp only | split

theorem Flows.bounceOffers {w0 : Nat} {s0 : State} {s : State} {comp : Nat} (h : Flows w0 s0 s) (hw0 : 4362 ||| w0 = w0 := by first | assumption | exact parts (by assumption) (by decide)) :
    Flows w0 s0 (State.bounceOffers s comp) := by
  unfold State.bounceOffers
  repeat' first
    | with_reducible exact h | with_reducible assumption | with_reducible (refine Flows.count ?_) | with_reducible (refine Flows.reach ?_)
    | with_reducible (refine Flows.send ?_) | with_reducible (refine Flows.slc! ?_) | with_reducible (refine Flows.foldl ?_ ?_) | with_reducible intro _

theorem Flows.execHandoverTimeout {w0 : Nat} {s0 : State} {run : Nat} {s : State} (h : Flows w0 s0 s) (hw0 : 4987 ||| w0 = w0 := by first | assumption | exact parts (by assumption) (by decide)) :
    FlowsX w0 s0 (Sys2Proof.Machine.execHandoverTimeout run s) := by
  unfold Sys2Proof.Machine.execHandoverTimeout
  repeat' first
    | with_reducible exact h | with_reducible (refine Flows.failRun ?_) | with_reducible (refine Flows.handed ?_) | with_reducible (refine Flows.pushState ?_)
    | with_reducible (refine Flows.reach ?_) | with_reducible (refine Flows.run! ?_) | with_reducible (refine Flows.word! ?_) | with_reducible (refine FlowsX.ok ?_)
    | with_reducible (refine Flows.ite ?_ ?_) | dsimp only | split

theorem Flows.pipeNote {w0 : Nat} {s0 : State} {s : State} {src : Nat} {bs : List Byte} (h : Flows w0 s0 s) (hw0 : 891 ||| w0 = w0 := by first | assumption | exact parts (by assumption) (by decide)) :
    Flows w0 s0 (State.pipeNote s src bs) := by
  unfold State.pipeNote
  repeat' first
    | with_reducible exact h | with_reducible (refine Flows.replyRun ?_) | with_reducible (refine Flows.slc! ?_) | with_reducible (refine Flows.ite ?_ ?_) | split

theorem Flows.pushEnded {w0 : Nat} {s0 : State} {s : State} {r : Nat} {status : Nat} (h : Flows w0 s0 s) (hw0 : 891 ||| w0 = w0 := by first | assumption | exact parts (by assumption) (by decide)) :
    Flows w0 s0 (State.pushEnded s r status) := by
  unfold State.pushEnded
  repeat' first
    | with_reducible exact h | with_reducible (refine Flows.failRun ?_) | with_reducible (refine Flows.pushState ?_) | with_reducible (refine Flows.trib! ?_)
    | with_reducible (refine Flows.ite ?_ ?_)

theorem Flows.runsLose {w0 : Nat} {s0 : State} {s : State} {n : Nat} (h : Flows w0 s0 s) (hw0 : 891 ||| w0 = w0 := by first | assumption | exact parts (by assumption) (by decide)) :
    Flows w0 s0 (State.runsLose s n) := by
  unfold State.runsLose
  repeat' first
    | with_reducible exact h | with_reducible assumption | with_reducible (refine Flows.dropRun ?_) | with_reducible (refine Flows.replyRun ?_)
    | with_reducible (refine Flows.ite ?_ ?_) | with_reducible (refine Flows.foldl ?_ ?_) | with_reducible intro _

end Sys2Proof.Machine
end

