-- ==== Sys2Proof/Laws/FlowTaskDone.lean ====
section
/-! SUPPORT. What the operations and meanings of Machine/TaskDone.lean keep. -/

set_option Elab.async false

namespace Sys2Proof.Machine

theorem Flows.treeOver {w0 : Nat} {s0 : State} {s : State} {b : Nat} (h : Flows w0 s0 s) (hw0 : 9083 ||| w0 = w0 := by first | assumption | exact parts (by assumption) (by decide)) :
    Flows w0 s0 (State.treeOver s b) := by
  unfold State.treeOver
  repeat' first | with_reducible exact h | with_reducible (refine Flows.modelOver ?_) | with_reducible (refine Flows.ite ?_ ?_) | split

theorem Flows.retireTask {w0 : Nat} {s0 : State} {s : State} {t : Nat} (h : Flows w0 s0 s) (hw0 : 9087 ||| w0 = w0 := by first | assumption | exact parts (by assumption) (by decide)) :
    Flows w0 s0 (State.retireTask s t) := by
  unfold State.retireTask
  repeat' first
    | with_reducible exact h | with_reducible (refine Flows.dropTask ?_) | with_reducible (refine Flows.logC ?_) | with_reducible (refine Flows.quietCtx ?_)
    | with_reducible (refine Flows.releaseSems ?_) | with_reducible (refine Flows.settleModifies ?_) | with_reducible (refine Flows.treeOver ?_)
    | with_reducible (refine Flows.ite ?_ ?_) | dsimp only | split

theorem Flows.settleTasks {w0 : Nat} {s0 : State} {s : State} (h : Flows w0 s0 s) (hw0 : 9087 ||| w0 = w0 := by first | assumption | exact parts (by assumption) (by decide)) :
    Flows w0 s0 (State.settleTasks s) := by
  unfold State.settleTasks
  repeat' first
    | with_reducible exact h | with_reducible assumption | with_reducible (refine Flows.retireTask ?_) | with_reducible (refine Flows.ite ?_ ?_)
    | with_reducible (refine Flows.foldl ?_ ?_) | with_reducible intro _ | split

theorem Flows.execEndTask {w0 : Nat} {s0 : State} {core : Nat} {s : State} (h : Flows w0 s0 s) (hw0 : 9087 ||| w0 = w0 := by first | assumption | exact parts (by assumption) (by decide)) :
    FlowsX w0 s0 (Sys2Proof.Machine.execEndTask core s) := by
  unfold Sys2Proof.Machine.execEndTask
  repeat' first
    | with_reducible exact h | with_reducible (refine Flows.onTask ?_ ?_) | with_reducible (refine Flows.retireTask ?_) | with_reducible (refine Flows.task! ?_)
    | with_reducible (refine Flows.ite ?_ ?_) | with_reducible intro _

theorem Flows.execFerryMoveComplete {w0 : Nat} {s0 : State} {move : Nat} {outcome : MoveOutcome} {s : State} (h : Flows w0 s0 s) (hw0 : 9215 ||| w0 = w0 := by first | assumption | exact parts (by assumption) (by decide)) :
    FlowsX w0 s0 (Sys2Proof.Machine.execFerryMoveComplete move outcome s) := by
  unfold Sys2Proof.Machine.execFerryMoveComplete
  repeat' first | with_reducible exact h | with_reducible (refine Flows.moveEnds ?_) | with_reducible (refine Flows.settleTasks ?_) | with_reducible (refine FlowsX.ok ?_)

theorem Flows.begin {w0 : Nat} {s0 : State} {s : State} {b : Nat} (h : Flows w0 s0 s) (hw0 : 9083 ||| w0 = w0 := by first | assumption | exact parts (by assumption) (by decide)) :
    Flows w0 s0 (State.begin s b) := by
  unfold State.begin
  repeat' first
    | with_reducible exact h | with_reducible assumption | with_reducible (refine Flows.finishStopped ?_) | with_reducible (refine Flows.serveGather ?_)
    | with_reducible (refine Flows.startLocal ?_) | with_reducible (refine Flows.startModel ?_) | with_reducible (refine Flows.startStage ?_)
    | with_reducible (refine Flows.ite ?_ ?_) | with_reducible (refine Flows.foldl ?_ ?_) | with_reducible intro _ | split

theorem Flows.execRootContextGrant {w0 : Nat} {s0 : State} {batch : Nat} {s : State} (h : Flows w0 s0 s) (hw0 : 9083 ||| w0 = w0 := by first | assumption | exact parts (by assumption) (by decide)) :
    FlowsX w0 s0 (Sys2Proof.Machine.execRootContextGrant batch s) := by
  unfold Sys2Proof.Machine.execRootContextGrant
  repeat' first
    | with_reducible exact h | with_reducible (refine Flows.begin ?_) | with_reducible (refine Flows.tryRoot ?_) | with_reducible (refine FlowsX.ok ?_)
    | with_reducible (refine Flows.ite ?_ ?_)

theorem Flows.tearUpdate {w0 : Nat} {s0 : State} {s : State} {b : Nat} {st : Nat} {u : UpdBatch} (h : Flows w0 s0 s) (hw0 : 9179 ||| w0 = w0 := by first | assumption | exact parts (by assumption) (by decide)) :
    Flows w0 s0 (State.tearUpdate s b st u) := by
  unfold State.tearUpdate
  repeat' first
    | with_reducible exact h | with_reducible (refine Flows.abortBatch ?_) | with_reducible (refine Flows.batch! ?_) | with_reducible (refine Flows.output ?_)
    | with_reducible (refine Flows.quietBatch ?_) | with_reducible (refine Flows.replyBatch ?_) | with_reducible (refine Flows.search! ?_)
    | with_reducible (refine Flows.ite ?_ ?_) | split

theorem Flows.execTeardownComplete {w0 : Nat} {s0 : State} {batch : Nat} {s : State} (h : Flows w0 s0 s) (hw0 : 9211 ||| w0 = w0 := by first | assumption | exact parts (by assumption) (by decide)) :
    FlowsX w0 s0 (Sys2Proof.Machine.execTeardownComplete batch s) := by
  unfold Sys2Proof.Machine.execTeardownComplete
  repeat' first
    | with_reducible exact h | with_reducible assumption | with_reducible (refine Flows.endBatch ?_) | with_reducible (refine Flows.endTasks ?_)
    | with_reducible (refine Flows.failQueries ?_) | with_reducible (refine Flows.failRun ?_) | with_reducible (refine Flows.refusePart ?_)
    | with_reducible (refine Flows.replyBatch ?_) | with_reducible (refine Flows.search! ?_) | with_reducible (refine Flows.tearUpdate ?_)
    | with_reducible (refine FlowsX.ok ?_) | with_reducible (refine Flows.ite ?_ ?_) | with_reducible (refine Flows.foldl ?_ ?_) | with_reducible intro _
    | dsimp only | split

end Sys2Proof.Machine
end

