-- ==== Sys2Proof/Laws/FlowComps.lean ====
section
/-! SUPPORT. What the operations and meanings of Machine/Comps.lean keep. -/

set_option Elab.async false

namespace Sys2Proof.Machine

theorem Flows.execCompCreate {w0 : Nat} {s0 : State} {mb : Nat} {s : State} (h : Flows w0 s0 s) (hw0 : 859 ||| w0 = w0 := by first | assumption | exact parts (by assumption) (by decide)) :
    FlowsX w0 s0 (Sys2Proof.Machine.execCompCreate mb s) := by
  unfold Sys2Proof.Machine.execCompCreate
  repeat' first
    | with_reducible exact h | with_reducible assumption | with_reducible (refine Flows.box! ?_) | with_reducible (refine Flows.done ?_)
    | with_reducible (refine Flows.onMsg ?_ ?_) | with_reducible (refine Flows.refuse ?_) | with_reducible (refine Flows.slc! ?_)
    | with_reducible (refine Flows.ite ?_ ?_) | with_reducible intro _

theorem Flows.execCompModify {w0 : Nat} {s0 : State} {mb : Nat} {s : State} (h : Flows w0 s0 s) (hw0 : 859 ||| w0 = w0 := by first | assumption | exact parts (by assumption) (by decide)) :
    FlowsX w0 s0 (Sys2Proof.Machine.execCompModify mb s) := by
  unfold Sys2Proof.Machine.execCompModify
  repeat' first
    | with_reducible exact h | with_reducible assumption | with_reducible (refine Flows.comp! ?_) | with_reducible (refine Flows.done ?_)
    | with_reducible (refine Flows.onMsg ?_ ?_) | with_reducible (refine Flows.refuse ?_) | with_reducible (refine Flows.settleModify ?_)
    | with_reducible (refine Flows.ite ?_ ?_) | with_reducible intro _ | dsimp only | split

theorem Flows.execCompDestroy {w0 : Nat} {s0 : State} {mb : Nat} {s : State} (h : Flows w0 s0 s) (hw0 : 859 ||| w0 = w0 := by first | assumption | exact parts (by assumption) (by decide)) :
    FlowsX w0 s0 (Sys2Proof.Machine.execCompDestroy mb s) := by
  unfold Sys2Proof.Machine.execCompDestroy
  repeat' first
    | with_reducible exact h | with_reducible assumption | with_reducible (refine Flows.box! ?_ (fun _ _ => rfl)) | with_reducible (refine Flows.checkDestroy ?_)
    | with_reducible (refine Flows.comp! ?_) | with_reducible (refine Flows.onMsg ?_ ?_) | with_reducible (refine Flows.refuse ?_)
    | with_reducible (refine Flows.ite ?_ ?_) | with_reducible intro _ | split

theorem Flows.spanGrown {w0 : Nat} {s0 : State} {s : State} {t : State} {comp : Nat} (h : Flows w0 s0 s) (hw0 : 282 ||| w0 = w0 := by first | assumption | exact parts (by assumption) (by decide)) :
    Flows w0 s0 (State.spanGrown s t comp) := by
  unfold State.spanGrown
  repeat' first
    | with_reducible exact h | with_reducible assumption | with_reducible (refine Flows.askFirst ?_) | with_reducible (refine Flows.publishAll ?_)
    | with_reducible (refine Flows.ite ?_ ?_) | with_reducible (refine Flows.foldl ?_ ?_) | with_reducible intro _

theorem Flows.resumeReq {w0 : Nat} {s0 : State} {s : State} {bounce : Bool} {x2 : MapReq} (h : Flows w0 s0 s) (hw0 : 8639 ||| w0 = w0 := by first | assumption | exact parts (by assumption) (by decide)) :
    Flows w0 s0 (State.resumeReq s bounce x2) := by
  unfold State.resumeReq
  repeat' first
    | with_reducible exact h | with_reducible (refine Flows.answerPkt ?_) | with_reducible (refine Flows.bounceFan ?_) | with_reducible (refine Flows.bouncePart ?_)
    | with_reducible (refine Flows.count ?_) | with_reducible (refine Flows.gatherGet ?_) | with_reducible (refine Flows.takeEpochReq ?_)
    | with_reducible (refine Flows.takeFan ?_) | with_reducible (refine Flows.takePart ?_) | with_reducible (refine Flows.takeSummary ?_)
    | with_reducible (refine Flows.ite ?_ ?_) | dsimp only | split

theorem Flows.resumeWaits {w0 : Nat} {s0 : State} {s : State} {comp : Nat} (h : Flows w0 s0 s) (hw0 : 8639 ||| w0 = w0 := by first | assumption | exact parts (by assumption) (by decide)) :
    Flows w0 s0 (State.resumeWaits s comp) := by
  unfold State.resumeWaits
  repeat' first
    | with_reducible exact h | with_reducible assumption | with_reducible (refine Flows.resumeReq ?_) | with_reducible (refine Flows.takeWaits ?_)
    | with_reducible (refine Flows.foldl ?_ ?_) | with_reducible intro _

theorem Flows.bounceWaits {w0 : Nat} {s0 : State} {s : State} {comp : Nat} (h : Flows w0 s0 s) (hw0 : 12735 ||| w0 = w0 := by first | assumption | exact parts (by assumption) (by decide)) :
    Flows w0 s0 (State.bounceWaits s comp) := by
  unfold State.bounceWaits
  repeat' first
    | with_reducible exact h | with_reducible assumption | with_reducible (refine Flows.bounceOffers ?_) | with_reducible (refine Flows.reach ?_)
    | with_reducible (refine Flows.resumeReq ?_) | with_reducible (refine Flows.takeWaits ?_) | with_reducible (refine Flows.foldl ?_ ?_) | with_reducible intro _

theorem Flows.execMapSet {w0 : Nat} {s0 : State} {mb : Nat} {dma : HostRead} {s : State} (h : Flows w0 s0 s) (hw0 : 9215 ||| w0 = w0 := by first | assumption | exact parts (by assumption) (by decide)) :
    FlowsX w0 s0 (Sys2Proof.Machine.execMapSet mb dma s) := by
  unfold Sys2Proof.Machine.execMapSet
  repeat' first
    | with_reducible exact h | with_reducible assumption | with_reducible (refine Flows.comp! ?_) | with_reducible (refine Flows.done ?_)
    | with_reducible (refine Flows.onMsg ?_ ?_) | with_reducible (refine Flows.recheck ?_) | with_reducible (refine Flows.refuse ?_)
    | with_reducible (refine Flows.rehome ?_) | with_reducible (refine Flows.reply ?_) | with_reducible (refine Flows.resumeGathers ?_)
    | with_reducible (refine Flows.resumeQueries ?_) | with_reducible (refine Flows.resumeWaits ?_) | with_reducible (refine Flows.spanGrown ?_)
    | with_reducible (refine Flows.ite ?_ ?_) | with_reducible intro _ | dsimp only | split

theorem Flows.execMapGraceExpiry {w0 : Nat} {s0 : State} {comp : Nat} {s : State} (h : Flows w0 s0 s) (hw0 : 13311 ||| w0 = w0 := by first | assumption | exact parts (by assumption) (by decide)) :
    FlowsX w0 s0 (Sys2Proof.Machine.execMapGraceExpiry comp s) := by
  unfold Sys2Proof.Machine.execMapGraceExpiry
  repeat' first
    | with_reducible exact h | with_reducible assumption | with_reducible (refine Flows.bounceWaits ?_) | with_reducible (refine Flows.reach ?_)
    | with_reducible (refine Flows.replan ?_) | with_reducible (refine Flows.resumeGathers ?_) | with_reducible (refine Flows.resumeQueries ?_)
    | with_reducible (refine FlowsX.ok ?_) | with_reducible (refine Flows.ite ?_ ?_) | with_reducible (refine Flows.foldl ?_ ?_) | with_reducible intro _
    | dsimp only | split

theorem Flows.execCompInfo {w0 : Nat} {s0 : State} {mb : Nat} {s : State} (h : Flows w0 s0 s) (hw0 : 859 ||| w0 = w0 := by first | assumption | exact parts (by assumption) (by decide)) :
    FlowsX w0 s0 (Sys2Proof.Machine.execCompInfo mb s) := by
  unfold Sys2Proof.Machine.execCompInfo
  repeat' first
    | with_reducible exact h | with_reducible assumption | with_reducible (refine Flows.done ?_) | with_reducible (refine Flows.onMsg ?_ ?_)
    | with_reducible (refine Flows.refuse ?_) | with_reducible (refine Flows.ite ?_ ?_) | with_reducible intro _ | dsimp only | split

theorem Flows.execChargeLog {w0 : Nat} {s0 : State} {mb : Nat} {s : State} (h : Flows w0 s0 s) (hw0 : 859 ||| w0 = w0 := by first | assumption | exact parts (by assumption) (by decide)) :
    FlowsX w0 s0 (Sys2Proof.Machine.execChargeLog mb s) := by
  unfold Sys2Proof.Machine.execChargeLog
  repeat' first
    | with_reducible exact h | with_reducible assumption | with_reducible (refine Flows.done ?_) | with_reducible (refine Flows.onMsg ?_ ?_)
    | with_reducible (refine Flows.refuse ?_) | with_reducible (refine Flows.setFld ?_) | with_reducible (refine Flows.slc! ?_)
    | with_reducible (refine Flows.ite ?_ ?_) | with_reducible intro _

end Sys2Proof.Machine
end

