-- ==== Sys2Proof/Laws/FlowFabric.lean ====
section
/-! SUPPORT. What the operations and meanings of Machine/Fabric.lean keep. -/

set_option Elab.async false

namespace Sys2Proof.Machine

theorem Flows.opEnds {w0 : Nat} {s0 : State} {s : State} {id : Nat} {o : JroOp} {st : Nat} (h : Flows w0 s0 s) (hw0 : 9215 ||| w0 = w0 := by first | assumption | exact parts (by assumption) (by decide)) :
    Flows w0 s0 (State.opEnds s id o st) := by
  unfold State.opEnds
  repeat' first
    | with_reducible exact h | with_reducible (refine Flows.finishOp ?_) | with_reducible (refine Flows.gatherAnswer ?_)
    | with_reducible (refine Flows.gatherSend ?_) | with_reducible (refine Flows.mirrorDone ?_) | with_reducible (refine Flows.mirrorWrite ?_)
    | with_reducible (refine Flows.pubAck ?_) | with_reducible (refine Flows.pushEnded ?_) | with_reducible (refine Flows.resumeMoves ?_)
    | with_reducible (refine Flows.resyncEnds ?_) | with_reducible (refine Flows.settleTasks ?_) | with_reducible (refine Flows.trib! ?_)
    | with_reducible (refine Flows.updSent ?_) | with_reducible (refine Flows.ite ?_ ?_) | dsimp only | split

theorem Flows.opAnswer {w0 : Nat} {s0 : State} {s : State} {p : Packet} (h : Flows w0 s0 s) (hw0 : 9215 ||| w0 = w0 := by first | assumption | exact parts (by assumption) (by decide)) :
    Flows w0 s0 (State.opAnswer s p) := by
  unfold State.opAnswer
  repeat' first
    | with_reducible exact h | with_reducible (refine Flows.opEnds ?_) | with_reducible (refine Flows.taskScratch ?_) | with_reducible (refine Flows.trib! ?_)
    | with_reducible (refine Flows.ite ?_ ?_) | dsimp only | split

theorem Flows.dropSecret {w0 : Nat} {s0 : State} {s : State} {n : Nat} (h : Flows w0 s0 s) (hw0 : 768 ||| w0 = w0 := by first | assumption | exact parts (by assumption) (by decide)) :
    Flows w0 s0 (State.dropSecret s n) := by
  unfold State.dropSecret
  repeat' first | with_reducible exact h | with_reducible (refine Flows.peer! ?_) | with_reducible (refine Flows.zeroSlot ?_)

theorem Flows.taken {w0 : Nat} {s0 : State} {s : State} {p : Packet} {inl : Nat} (h : Flows w0 s0 s) (hw0 : 256 ||| w0 = w0 := by first | assumption | exact parts (by assumption) (by decide)) :
    Flows w0 s0 (State.taken s p inl) := by
  unfold State.taken
  repeat' first | with_reducible exact h | with_reducible (refine Flows.returnCredit ?_)

theorem Flows.dropFlows {w0 : Nat} {s0 : State} {s : State} {n : Nat} (h : Flows w0 s0 s) (hw0 : 256 ||| w0 = w0 := by first | assumption | exact parts (by assumption) (by decide)) :
    Flows w0 s0 (State.dropFlows s n) := by
  unfold State.dropFlows
  repeat' first
    | with_reducible exact h | with_reducible assumption | with_reducible (refine Flows.taken ?_) | with_reducible (refine Flows.trib! ?_)
    | with_reducible (refine Flows.foldl ?_ ?_) | with_reducible intro _

theorem Flows.declareLost {w0 : Nat} {s0 : State} {s : State} {n : Nat} (h : Flows w0 s0 s) (hw0 : 9215 ||| w0 = w0 := by first | assumption | exact parts (by assumption) (by decide)) :
    Flows w0 s0 (State.declareLost s n) := by
  unfold State.declareLost
  repeat' first
    | with_reducible exact h | with_reducible assumption | with_reducible (refine Flows.count ?_) | with_reducible (refine Flows.dropFlows ?_)
    | with_reducible (refine Flows.dropSecret ?_) | with_reducible (refine Flows.free2 ?_) | with_reducible (refine Flows.homeLost ?_)
    | with_reducible (refine Flows.logC ?_) | with_reducible (refine Flows.mirrorLost ?_) | with_reducible (refine Flows.opEnds ?_)
    | with_reducible (refine Flows.peer! ?_) | with_reducible (refine Flows.queriesLose ?_) | with_reducible (refine Flows.recheck ?_)
    | with_reducible (refine Flows.route ?_) | with_reducible (refine Flows.runsLose ?_) | with_reducible (refine Flows.sourceLost ?_)
    | with_reducible (refine Flows.ite ?_ ?_) | with_reducible (refine Flows.foldl ?_ ?_) | with_reducible intro _ | split

theorem Flows.fwNote {w0 : Nat} {s0 : State} {s : State} {src : Nat} {bs : List Byte} (h : Flows w0 s0 s) (hw0 : 9211 ||| w0 = w0 := by first | assumption | exact parts (by assumption) (by decide)) :
    Flows w0 s0 (State.fwNote s src bs) := by
  unfold State.fwNote
  repeat' first
    | with_reducible exact h | with_reducible (refine Flows.abortPart ?_) | with_reducible (refine Flows.countRows ?_) | with_reducible (refine Flows.gatherNote ?_)
    | with_reducible (refine Flows.outcomeAsked ?_) | with_reducible (refine Flows.pipeNote ?_) | with_reducible (refine Flows.ite ?_ ?_) | dsimp only | split

theorem Flows.fwEffect {w0 : Nat} {s0 : State} {s : State} {p : Packet} {staged : List Byte} {a : JroAns} (h : Flows w0 s0 s) (hw0 : 9215 ||| w0 = w0 := by first | assumption | exact parts (by assumption) (by decide)) :
    Flows w0 s0 (State.fwEffect s p staged a).2 := by
  unfold State.fwEffect
  repeat' first
    | with_reducible exact h | with_reducible (refine Flows.count ?_) | with_reducible (refine Flows.fwNote ?_) | with_reducible (refine Flows.handed ?_)
    | with_reducible (refine Flows.mergeList ?_) | with_reducible (refine Flows.publishAll ?_) | dsimp only | split

theorem Flows.perform {w0 : Nat} {s0 : State} {s : State} {p : Packet} {inl : Nat} (h : Flows w0 s0 s) (hw0 : 9215 ||| w0 = w0 := by first | assumption | exact parts (by assumption) (by decide)) :
    Flows w0 s0 (State.perform s p inl) := by
  unfold State.perform
  repeat' first
    | with_reducible exact h | with_reducible (refine Flows.answerPkt ?_) | with_reducible (refine Flows.count ?_) | with_reducible (refine Flows.fwEffect ?_)
    | with_reducible (refine Flows.gatherGet ?_) | with_reducible (refine Flows.holdReq ?_) | with_reducible (refine Flows.jroPerform ?_)
    | with_reducible (refine Flows.taken ?_) | dsimp only | split

theorem Flows.flowDrain {w0 : Nat} {s0 : State} {s : State} {key : Nat} {x2 : Nat} (h : Flows w0 s0 s) (hw0 : 9215 ||| w0 = w0 := by first | assumption | exact parts (by assumption) (by decide)) :
    Flows w0 s0 (State.flowDrain s key x2) := by
  induction x2 generalizing s with
  | zero =>
    unfold State.flowDrain
    repeat' first
      | with_reducible exact h | with_reducible (refine ih ?_) | with_reducible (refine Flows.perform ?_) | with_reducible (refine Flows.trib! ?_) | dsimp only
      | split
  | succ _ ih =>
    unfold State.flowDrain
    repeat' first
      | with_reducible exact h | with_reducible (refine ih ?_) | with_reducible (refine Flows.perform ?_) | with_reducible (refine Flows.trib! ?_) | dsimp only
      | split

theorem Flows.flowArrive {w0 : Nat} {s0 : State} {s : State} {p : Packet} {inl : Nat} (h : Flows w0 s0 s) (hw0 : 9215 ||| w0 = w0 := by first | assumption | exact parts (by assumption) (by decide)) :
    Flows w0 s0 (State.flowArrive s p inl) := by
  unfold State.flowArrive
  repeat' first
    | with_reducible exact h | with_reducible assumption | with_reducible (refine Flows.count ?_) | with_reducible (refine Flows.flowDrain ?_)
    | with_reducible (refine Flows.perform ?_) | with_reducible (refine Flows.taken ?_) | with_reducible (refine Flows.trib! ?_)
    | with_reducible (refine Flows.ite ?_ ?_) | with_reducible (refine Flows.foldl ?_ ?_) | with_reducible intro _

theorem Flows.lossNotice {w0 : Nat} {s0 : State} {s : State} {p : Packet} (h : Flows w0 s0 s) (hw0 : 266 ||| w0 = w0 := by first | assumption | exact parts (by assumption) (by decide)) :
    Flows w0 s0 (State.lossNotice s p) := by
  unfold State.lossNotice
  repeat' first | with_reducible exact h | with_reducible (refine Flows.probe ?_) | with_reducible (refine Flows.ite ?_ ?_)

theorem Flows.tellLost {w0 : Nat} {s0 : State} {s : State} {n : Nat} (h : Flows w0 s0 s) (hw0 : 256 ||| w0 = w0 := by first | assumption | exact parts (by assumption) (by decide)) :
    Flows w0 s0 (State.tellLost s n) := by
  unfold State.tellLost
  repeat' first | with_reducible exact h | with_reducible (refine Flows.control ?_) | split

theorem Flows.receive {w0 : Nat} {s0 : State} {s : State} {p : Packet} {inl : Nat} (h : Flows w0 s0 s) (hw0 : 10239 ||| w0 = w0 := by first | assumption | exact parts (by assumption) (by decide)) :
    Flows w0 s0 (State.receive s p inl) := by
  unfold State.receive
  repeat' first
    | with_reducible exact h | with_reducible (refine Flows.count ?_) | with_reducible (refine Flows.flowArrive ?_) | with_reducible (refine Flows.lossNotice ?_)
    | with_reducible (refine Flows.opAnswer ?_) | with_reducible (refine Flows.peer! ?_) | with_reducible (refine Flows.route ?_)
    | with_reducible (refine Flows.spw! ?_) | with_reducible (refine Flows.taken ?_) | with_reducible (refine Flows.tellLost ?_)
    | with_reducible (refine Flows.ite ?_ ?_)

theorem Flows.deliverPkt {w0 : Nat} {s0 : State} {s : State} {p : Packet} {l : Nat} (h : Flows w0 s0 s) (hw0 : 10239 ||| w0 = w0 := by first | assumption | exact parts (by assumption) (by decide)) :
    Flows w0 s0 (State.deliverPkt s p l) := by
  unfold State.deliverPkt
  repeat' first
    | with_reducible exact h | with_reducible (refine Flows.count ?_) | with_reducible (refine Flows.logC ?_) | with_reducible (refine Flows.receive ?_)
    | with_reducible (refine Flows.route ?_) | with_reducible (refine Flows.taken ?_) | with_reducible (refine Flows.ite ?_ ?_)

theorem Flows.arrives {w0 : Nat} {s0 : State} {s : State} {kind : Bool} {p : Packet} (h : Flows w0 s0 s) (hw0 : 10239 ||| w0 = w0 := by first | assumption | exact parts (by assumption) (by decide)) :
    Flows w0 s0 (State.arrives s kind p) := by
  unfold State.arrives
  repeat' first | with_reducible exact h | with_reducible (refine Flows.receive ?_) | with_reducible (refine Flows.ite ?_ ?_)

theorem Flows.execPutPacket {w0 : Nat} {s0 : State} {pkt : Packet} {s : State} (h : Flows w0 s0 s) (hw0 : 10239 ||| w0 = w0 := by first | assumption | exact parts (by assumption) (by decide)) :
    FlowsX w0 s0 (Sys2Proof.Machine.execPutPacket pkt s) := by
  unfold Sys2Proof.Machine.execPutPacket
  repeat' first | with_reducible exact h | with_reducible (refine Flows.arrives ?_) | with_reducible (refine FlowsX.ok ?_)

theorem Flows.execGetPacket {w0 : Nat} {s0 : State} {pkt : Packet} {s : State} (h : Flows w0 s0 s) (hw0 : 10239 ||| w0 = w0 := by first | assumption | exact parts (by assumption) (by decide)) :
    FlowsX w0 s0 (Sys2Proof.Machine.execGetPacket pkt s) := by
  unfold Sys2Proof.Machine.execGetPacket
  repeat' first | with_reducible exact h | with_reducible (refine Flows.arrives ?_) | with_reducible (refine FlowsX.ok ?_)

theorem Flows.execAtomic {w0 : Nat} {s0 : State} {pkt : Packet} {s : State} (h : Flows w0 s0 s) (hw0 : 10239 ||| w0 = w0 := by first | assumption | exact parts (by assumption) (by decide)) :
    FlowsX w0 s0 (Sys2Proof.Machine.execAtomic pkt s) := by
  unfold Sys2Proof.Machine.execAtomic
  repeat' first | with_reducible exact h | with_reducible (refine Flows.arrives ?_) | with_reducible (refine FlowsX.ok ?_)

theorem Flows.execNput {w0 : Nat} {s0 : State} {pkt : Packet} {s : State} (h : Flows w0 s0 s) (hw0 : 10239 ||| w0 = w0 := by first | assumption | exact parts (by assumption) (by decide)) :
    FlowsX w0 s0 (Sys2Proof.Machine.execNput pkt s) := by
  unfold Sys2Proof.Machine.execNput
  repeat' first | with_reducible exact h | with_reducible (refine Flows.arrives ?_) | with_reducible (refine FlowsX.ok ?_)

theorem Flows.execGetData {w0 : Nat} {s0 : State} {pkt : Packet} {s : State} (h : Flows w0 s0 s) (hw0 : 10239 ||| w0 = w0 := by first | assumption | exact parts (by assumption) (by decide)) :
    FlowsX w0 s0 (Sys2Proof.Machine.execGetData pkt s) := by
  unfold Sys2Proof.Machine.execGetData
  repeat' first | with_reducible exact h | with_reducible (refine Flows.arrives ?_) | with_reducible (refine FlowsX.ok ?_)

theorem Flows.execCompletion {w0 : Nat} {s0 : State} {pkt : Packet} {s : State} (h : Flows w0 s0 s) (hw0 : 10239 ||| w0 = w0 := by first | assumption | exact parts (by assumption) (by decide)) :
    FlowsX w0 s0 (Sys2Proof.Machine.execCompletion pkt s) := by
  unfold Sys2Proof.Machine.execCompletion
  repeat' first | with_reducible exact h | with_reducible (refine Flows.arrives ?_) | with_reducible (refine FlowsX.ok ?_)

theorem Flows.execPing {w0 : Nat} {s0 : State} {pkt : Packet} {s : State} (h : Flows w0 s0 s) (hw0 : 10239 ||| w0 = w0 := by first | assumption | exact parts (by assumption) (by decide)) :
    FlowsX w0 s0 (Sys2Proof.Machine.execPing pkt s) := by
  unfold Sys2Proof.Machine.execPing
  repeat' first | with_reducible exact h | with_reducible (refine Flows.arrives ?_) | with_reducible (refine FlowsX.ok ?_)

theorem Flows.execPong {w0 : Nat} {s0 : State} {pkt : Packet} {s : State} (h : Flows w0 s0 s) (hw0 : 10239 ||| w0 = w0 := by first | assumption | exact parts (by assumption) (by decide)) :
    FlowsX w0 s0 (Sys2Proof.Machine.execPong pkt s) := by
  unfold Sys2Proof.Machine.execPong
  repeat' first | with_reducible exact h | with_reducible (refine Flows.arrives ?_) | with_reducible (refine FlowsX.ok ?_)

theorem Flows.execLossNotice {w0 : Nat} {s0 : State} {pkt : Packet} {s : State} (h : Flows w0 s0 s) (hw0 : 10239 ||| w0 = w0 := by first | assumption | exact parts (by assumption) (by decide)) :
    FlowsX w0 s0 (Sys2Proof.Machine.execLossNotice pkt s) := by
  unfold Sys2Proof.Machine.execLossNotice
  repeat' first | with_reducible exact h | with_reducible (refine Flows.arrives ?_) | with_reducible (refine FlowsX.ok ?_)

theorem Flows.execUnreachTimeout {w0 : Nat} {s0 : State} {dst : Nat} {s : State} (h : Flows w0 s0 s) (hw0 : 13311 ||| w0 = w0 := by first | assumption | exact parts (by assumption) (by decide)) :
    FlowsX w0 s0 (Sys2Proof.Machine.execUnreachTimeout dst s) := by
  unfold Sys2Proof.Machine.execUnreachTimeout
  repeat' first
    | with_reducible exact h | with_reducible assumption | with_reducible (refine Flows.count ?_) | with_reducible (refine Flows.declareLost ?_)
    | with_reducible (refine Flows.opEnds ?_) | with_reducible (refine Flows.reach ?_) | with_reducible (refine Flows.taken ?_)
    | with_reducible (refine Flows.trib! ?_) | with_reducible (refine FlowsX.ok ?_) | with_reducible (refine Flows.ite ?_ ?_)
    | with_reducible (refine Flows.foldl ?_ ?_) | with_reducible intro _ | dsimp only | split

theorem Flows.execFlowHoldTimeout {w0 : Nat} {s0 : State} {src : Nat} {cls : Nat} {s : State} (h : Flows w0 s0 s) (hw0 : 4352 ||| w0 = w0 := by first | assumption | exact parts (by assumption) (by decide)) :
    FlowsX w0 s0 (Sys2Proof.Machine.execFlowHoldTimeout src cls s) := by
  unfold Sys2Proof.Machine.execFlowHoldTimeout
  repeat' first
    | with_reducible exact h | with_reducible assumption | with_reducible (refine Flows.reach ?_) | with_reducible (refine Flows.taken ?_)
    | with_reducible (refine Flows.trib! ?_) | with_reducible (refine FlowsX.ok ?_) | with_reducible (refine Flows.foldl ?_ ?_) | with_reducible intro _ | dsimp only
    | split

theorem Flows.execOpTimeout {w0 : Nat} {s0 : State} {op : Nat} {s : State} (h : Flows w0 s0 s) (hw0 : 13311 ||| w0 = w0 := by first | assumption | exact parts (by assumption) (by decide)) :
    FlowsX w0 s0 (Sys2Proof.Machine.execOpTimeout op s) := by
  unfold Sys2Proof.Machine.execOpTimeout
  repeat' first
    | with_reducible exact h | with_reducible assumption | with_reducible (refine Flows.count ?_) | with_reducible (refine Flows.opEnds ?_)
    | with_reducible (refine Flows.probe ?_) | with_reducible (refine Flows.reach ?_) | with_reducible (refine Flows.trib! ?_) | with_reducible (refine FlowsX.ok ?_)
    | with_reducible (refine Flows.foldl ?_ ?_) | with_reducible intro _ | dsimp only | split

theorem Flows.execProbeTimeout {w0 : Nat} {s0 : State} {node : Nat} {s : State} (h : Flows w0 s0 s) (hw0 : 13311 ||| w0 = w0 := by first | assumption | exact parts (by assumption) (by decide)) :
    FlowsX w0 s0 (Sys2Proof.Machine.execProbeTimeout node s) := by
  unfold Sys2Proof.Machine.execProbeTimeout
  repeat' first
    | with_reducible exact h | with_reducible (refine Flows.declareLost ?_) | with_reducible (refine Flows.reach ?_) | with_reducible (refine FlowsX.ok ?_)
    | with_reducible (refine Flows.ite ?_ ?_)

theorem Flows.execQuarantineNotice {w0 : Nat} {s0 : State} {link : Nat} {s : State} (h : Flows w0 s0 s) (hw0 : 9215 ||| w0 = w0 := by first | assumption | exact parts (by assumption) (by decide)) :
    FlowsX w0 s0 (Sys2Proof.Machine.execQuarantineNotice link s) := by
  unfold Sys2Proof.Machine.execQuarantineNotice
  repeat' first
    | with_reducible exact h | with_reducible (refine Flows.declareLost ?_) | with_reducible (refine FlowsX.onUnit ?_) | with_reducible (refine Flows.ite ?_ ?_)

theorem Flows.execLostYou {w0 : Nat} {s0 : State} {link : Nat} {s : State} (h : Flows w0 s0 s) (hw0 : 9215 ||| w0 = w0 := by first | assumption | exact parts (by assumption) (by decide)) :
    FlowsX w0 s0 (Sys2Proof.Machine.execLostYou link s) := by
  unfold Sys2Proof.Machine.execLostYou
  repeat' first
    | with_reducible exact h | with_reducible (refine Flows.declareLost ?_) | with_reducible (refine FlowsX.onUnit ?_) | with_reducible (refine Flows.ite ?_ ?_)

end Sys2Proof.Machine
end

