-- ==== Sys2Proof/Laws/FlowLinks.lean ====
section
/-! SUPPORT. What the operations and meanings of Machine/Links.lean keep. -/

set_option Elab.async false

namespace Sys2Proof.Machine

theorem Flows.onLink {w0 : Nat} {s0 : State} {s : State} {l : Nat} {f : Link → State} (h : Flows w0 s0 s) (hf : ∀ y0, Flows w0 s0 (f y0)) (hw0 : 0 ||| w0 = w0 := by first | assumption | exact parts (by assumption) (by decide)) :
    FlowsX w0 s0 (Sys2Proof.Machine.onLink s l f) := by
  unfold Sys2Proof.Machine.onLink
  repeat' first | with_reducible exact h | with_reducible (exact hf _ ) | with_reducible (refine FlowsX.onUnit ?_) | with_reducible (refine Flows.ite ?_ ?_)

theorem Flows.onLive {w0 : Nat} {s0 : State} {s : State} {l : Nat} {f : Link → State} (h : Flows w0 s0 s) (hf : ∀ y0, Flows w0 s0 (f y0)) (hw0 : 0 ||| w0 = w0 := by first | assumption | exact parts (by assumption) (by decide)) :
    FlowsX w0 s0 (Sys2Proof.Machine.onLive s l f) := by
  unfold Sys2Proof.Machine.onLive
  repeat' first
    | with_reducible exact h | with_reducible (exact hf _ ) | with_reducible (refine Flows.onLink ?_ ?_) | with_reducible (refine Flows.ite ?_ ?_)
    | with_reducible intro _

theorem Flows.pathsLost {w0 : Nat} {s0 : State} {s : State} {before : State} (h : Flows w0 s0 s) (hw0 : 16 ||| w0 = w0 := by first | assumption | exact parts (by assumption) (by decide)) :
    Flows w0 s0 (State.pathsLost s before) := by
  unfold State.pathsLost
  repeat' first
    | with_reducible exact h | with_reducible assumption | with_reducible (refine Flows.sourceLost ?_) | with_reducible (refine Flows.foldl ?_ ?_)
    | with_reducible intro _

theorem Flows.downLink {w0 : Nat} {s0 : State} {s : State} {l : Nat} {st : LinkSt} {boundNs : Nat} (h : Flows w0 s0 s) (hw0 : 282 ||| w0 = w0 := by first | assumption | exact parts (by assumption) (by decide)) :
    Flows w0 s0 (State.downLink s l st boundNs) := by
  unfold State.downLink
  repeat' first | with_reducible exact h | with_reducible (refine Flows.leaveLink ?_) | with_reducible (refine Flows.pathsLost ?_)

theorem Flows.linkUp {w0 : Nat} {s0 : State} {s : State} {l : Nat} (h : Flows w0 s0 s) (hw0 : 282 ||| w0 = w0 := by first | assumption | exact parts (by assumption) (by decide)) :
    Flows w0 s0 (State.linkUp s l) := by
  unfold State.linkUp
  repeat' first
    | with_reducible exact h | with_reducible assumption | with_reducible (refine Flows.flushHeld ?_) | with_reducible (refine Flows.link! ?_)
    | with_reducible (refine Flows.reconnected ?_) | with_reducible (refine Flows.foldl ?_ ?_) | with_reducible intro _

theorem Flows.sendAck {w0 : Nat} {s0 : State} {s : State} {l : Nat} (h : Flows w0 s0 s) (hw0 : 256 ||| w0 = w0 := by first | assumption | exact parts (by assumption) (by decide)) :
    Flows w0 s0 (State.sendAck s l) := by
  unfold State.sendAck
  repeat' first | with_reducible exact h | with_reducible (refine Flows.control ?_) | with_reducible (refine Flows.link! ?_)

theorem Flows.linkRecord {w0 : Nat} {s0 : State} {s : State} {l : Nat} {subtype : Nat} {step : Nat} (h : Flows w0 s0 s) (hw0 : 6 ||| w0 = w0 := by first | assumption | exact parts (by assumption) (by decide)) :
    Flows w0 s0 (State.linkRecord s l subtype step) := by
  unfold State.linkRecord
  repeat' first | with_reducible exact h | with_reducible (refine Flows.logC ?_)

theorem Flows.tagFailed {w0 : Nat} {s0 : State} {s : State} {l : Nat} {seq : Nat} {p : Packet} (h : Flows w0 s0 s) (hw0 : 286 ||| w0 = w0 := by first | assumption | exact parts (by assumption) (by decide)) :
    Flows w0 s0 (State.tagFailed s l seq p) := by
  unfold State.tagFailed
  repeat' first
    | with_reducible exact h | with_reducible (refine Flows.control ?_) | with_reducible (refine Flows.count ?_) | with_reducible (refine Flows.downLink ?_)
    | with_reducible (refine Flows.link! ?_) | with_reducible (refine Flows.linkRecord ?_) | with_reducible (refine Flows.ite ?_ ?_)

theorem Flows.execFlitReceive {w0 : Nat} {s0 : State} {link : Nat} {flit : Flit} {crcOk : Bool} {s : State} (h : Flows w0 s0 s) (hw0 : 10239 ||| w0 = w0 := by first | assumption | exact parts (by assumption) (by decide)) :
    FlowsX w0 s0 (Sys2Proof.Machine.execFlitReceive link flit crcOk s) := by
  unfold Sys2Proof.Machine.execFlitReceive
  repeat' first
    | with_reducible exact h | with_reducible assumption | with_reducible (refine Flows.control ?_) | with_reducible (refine Flows.deliverPkt ?_)
    | with_reducible (refine Flows.link! ?_) | with_reducible (refine Flows.onLive ?_ ?_) | with_reducible (refine Flows.sendAck ?_)
    | with_reducible (refine Flows.tagFailed ?_) | with_reducible (refine Flows.ite ?_ ?_) | with_reducible (refine Flows.foldl ?_ ?_) | with_reducible intro _
    | dsimp only | split

theorem Flows.execAck {w0 : Nat} {s0 : State} {link : Nat} {seq : Nat} {s : State} (h : Flows w0 s0 s) (hw0 : 266 ||| w0 = w0 := by first | assumption | exact parts (by assumption) (by decide)) :
    FlowsX w0 s0 (Sys2Proof.Machine.execAck link seq s) := by
  unfold Sys2Proof.Machine.execAck
  repeat' first
    | with_reducible exact h | with_reducible (refine Flows.link! ?_) | with_reducible (refine Flows.onLive ?_ ?_) | with_reducible (refine Flows.pumpLink ?_)
    | with_reducible intro _

theorem Flows.resend {w0 : Nat} {s0 : State} {s : State} {l : Nat} {fs : List Flit} (h : Flows w0 s0 s) (hw0 : 258 ||| w0 = w0 := by first | assumption | exact parts (by assumption) (by decide)) :
    Flows w0 s0 (State.resend s l fs) := by
  unfold State.resend
  repeat' first | with_reducible exact h | with_reducible (refine Flows.count ?_) | with_reducible (refine Flows.link! ?_)

theorem Flows.execNak {w0 : Nat} {s0 : State} {link : Nat} {seq : Nat} {s : State} (h : Flows w0 s0 s) (hw0 : 258 ||| w0 = w0 := by first | assumption | exact parts (by assumption) (by decide)) :
    FlowsX w0 s0 (Sys2Proof.Machine.execNak link seq s) := by
  unfold Sys2Proof.Machine.execNak
  repeat' first
    | with_reducible exact h | with_reducible (refine Flows.link! ?_) | with_reducible (refine Flows.onLive ?_ ?_) | with_reducible (refine Flows.resend ?_)
    | with_reducible intro _

theorem Flows.execCreditReturn {w0 : Nat} {s0 : State} {link : Nat} {pair : Nat} {units : Nat} {s : State} (h : Flows w0 s0 s) (hw0 : 266 ||| w0 = w0 := by first | assumption | exact parts (by assumption) (by decide)) :
    FlowsX w0 s0 (Sys2Proof.Machine.execCreditReturn link pair units s) := by
  unfold Sys2Proof.Machine.execCreditReturn
  repeat' first
    | with_reducible exact h | with_reducible (refine Flows.link! ?_) | with_reducible (refine Flows.onLive ?_ ?_) | with_reducible (refine Flows.pumpLink ?_)
    | with_reducible (refine Flows.ite ?_ ?_) | with_reducible intro _

theorem Flows.execReplayTimeout {w0 : Nat} {s0 : State} {link : Nat} {s : State} (h : Flows w0 s0 s) (hw0 : 4354 ||| w0 = w0 := by first | assumption | exact parts (by assumption) (by decide)) :
    FlowsX w0 s0 (Sys2Proof.Machine.execReplayTimeout link s) := by
  unfold Sys2Proof.Machine.execReplayTimeout
  repeat' first
    | with_reducible exact h | with_reducible (refine Flows.link! ?_) | with_reducible (refine Flows.onLive ?_ ?_) | with_reducible (refine Flows.reach ?_)
    | with_reducible (refine Flows.resend ?_) | with_reducible (refine Flows.ite ?_ ?_) | with_reducible intro _

theorem Flows.execAckTimer {w0 : Nat} {s0 : State} {link : Nat} {s : State} (h : Flows w0 s0 s) (hw0 : 4352 ||| w0 = w0 := by first | assumption | exact parts (by assumption) (by decide)) :
    FlowsX w0 s0 (Sys2Proof.Machine.execAckTimer link s) := by
  unfold Sys2Proof.Machine.execAckTimer
  repeat' first
    | with_reducible exact h | with_reducible (refine Flows.onLive ?_ ?_) | with_reducible (refine Flows.reach ?_) | with_reducible (refine Flows.sendAck ?_)
    | with_reducible (refine Flows.ite ?_ ?_) | with_reducible intro _

theorem Flows.execIdleTimer {w0 : Nat} {s0 : State} {link : Nat} {s : State} (h : Flows w0 s0 s) (hw0 : 4352 ||| w0 = w0 := by first | assumption | exact parts (by assumption) (by decide)) :
    FlowsX w0 s0 (Sys2Proof.Machine.execIdleTimer link s) := by
  unfold Sys2Proof.Machine.execIdleTimer
  repeat' first
    | with_reducible exact h | with_reducible (refine Flows.link! ?_) | with_reducible (refine Flows.onLive ?_ ?_) | with_reducible (refine Flows.reach ?_)
    | with_reducible intro _

theorem Flows.execLinkRxTimeout {w0 : Nat} {s0 : State} {link : Nat} {s : State} (h : Flows w0 s0 s) (hw0 : 4378 ||| w0 = w0 := by first | assumption | exact parts (by assumption) (by decide)) :
    FlowsX w0 s0 (Sys2Proof.Machine.execLinkRxTimeout link s) := by
  unfold Sys2Proof.Machine.execLinkRxTimeout
  repeat' first
    | with_reducible exact h | with_reducible (refine Flows.downLink ?_) | with_reducible (refine Flows.onLive ?_ ?_) | with_reducible (refine Flows.reach ?_)
    | with_reducible intro _

theorem Flows.execLaneFail {w0 : Nat} {s0 : State} {link : Nat} {s : State} (h : Flows w0 s0 s) (hw0 : 282 ||| w0 = w0 := by first | assumption | exact parts (by assumption) (by decide)) :
    FlowsX w0 s0 (Sys2Proof.Machine.execLaneFail link s) := by
  unfold Sys2Proof.Machine.execLaneFail
  repeat' first
    | with_reducible exact h | with_reducible (refine Flows.downLink ?_) | with_reducible (refine Flows.onLive ?_ ?_) | with_reducible (refine Flows.ite ?_ ?_)
    | with_reducible intro _

theorem Flows.startLink {w0 : Nat} {s0 : State} {s : State} {l : Nat} (h : Flows w0 s0 s) (hw0 : 256 ||| w0 = w0 := by first | assumption | exact parts (by assumption) (by decide)) :
    Flows w0 s0 (State.startLink s l) := by
  unfold State.startLink
  repeat' first | with_reducible exact h | with_reducible (refine Flows.link! ?_) | with_reducible (refine Flows.ite ?_ ?_)

theorem Flows.startSessions {w0 : Nat} {s0 : State} {s : State} (h : Flows w0 s0 s) (hw0 : 256 ||| w0 = w0 := by first | assumption | exact parts (by assumption) (by decide)) :
    Flows w0 s0 (State.startSessions s) := by
  unfold State.startSessions
  repeat' first
    | with_reducible exact h | with_reducible assumption | with_reducible (refine Flows.link! ?_) | with_reducible (refine Flows.ite ?_ ?_)
    | with_reducible (refine Flows.foldl ?_ ?_) | with_reducible intro _

theorem Flows.failLink {w0 : Nat} {s0 : State} {s : State} {l : Nat} {st : LinkSt} (h : Flows w0 s0 s) (hw0 : 256 ||| w0 = w0 := by first | assumption | exact parts (by assumption) (by decide)) :
    Flows w0 s0 (State.failLink s l st) := by
  unfold State.failLink
  repeat' first | with_reducible exact h | with_reducible (refine Flows.link! ?_) | with_reducible (refine Flows.startSessions ?_)

theorem Flows.execLinkTrain {w0 : Nat} {s0 : State} {link : Nat} {s : State} (h : Flows w0 s0 s) (hw0 : 256 ||| w0 = w0 := by first | assumption | exact parts (by assumption) (by decide)) :
    FlowsX w0 s0 (Sys2Proof.Machine.execLinkTrain link s) := by
  unfold Sys2Proof.Machine.execLinkTrain
  repeat' first
    | with_reducible exact h | with_reducible (refine Flows.link! ?_) | with_reducible (refine Flows.onLink ?_ ?_) | with_reducible (refine Flows.startLink ?_)
    | with_reducible intro _ | split

theorem Flows.execHello {w0 : Nat} {s0 : State} {link : Nat} {node : Nat} {incarnation : Nat} {peerLink : Nat} {s : State} (h : Flows w0 s0 s) (hw0 : 9215 ||| w0 = w0 := by first | assumption | exact parts (by assumption) (by decide)) :
    FlowsX w0 s0 (Sys2Proof.Machine.execHello link node incarnation peerLink s) := by
  unfold Sys2Proof.Machine.execHello
  repeat' first
    | with_reducible exact h | with_reducible (refine Flows.declareLost ?_) | with_reducible (refine Flows.dropSecret ?_) | with_reducible (refine Flows.failLink ?_)
    | with_reducible (refine Flows.link! ?_) | with_reducible (refine Flows.logC ?_) | with_reducible (refine Flows.onLink ?_ ?_)
    | with_reducible (refine Flows.peer! ?_) | with_reducible (refine Flows.startSessions ?_) | with_reducible (refine Flows.ite ?_ ?_) | with_reducible intro _

theorem Flows.linkKeys {w0 : Nat} {s0 : State} {s : State} {l : Nat} {secret : List Byte} {mine : Nat} {theirs : Nat} (h : Flows w0 s0 s) (hw0 : 512 ||| w0 = w0 := by first | assumption | exact parts (by assumption) (by decide)) :
    Flows w0 s0 (State.linkKeys s l secret mine theirs) := by
  unfold State.linkKeys
  repeat' first | with_reducible exact h | with_reducible (refine Flows.putSlot ?_)

theorem Flows.execFabricSession {w0 : Nat} {s0 : State} {link : Nat} {hs : Handshake} {s : State} (h : Flows w0 s0 s) (hw0 : 8986 ||| w0 = w0 := by first | assumption | exact parts (by assumption) (by decide)) :
    FlowsX w0 s0 (Sys2Proof.Machine.execFabricSession link hs s) := by
  unfold Sys2Proof.Machine.execFabricSession
  repeat' first
    | with_reducible exact h | with_reducible (refine Flows.failLink ?_) | with_reducible (refine Flows.free2 ?_) | with_reducible (refine Flows.linkKeys ?_)
    | with_reducible (refine Flows.linkUp ?_) | with_reducible (refine Flows.onLink ?_ ?_) | with_reducible (refine Flows.peer! ?_)
    | with_reducible (refine Flows.putSlot ?_) | with_reducible (refine Flows.startSessions ?_) | with_reducible (refine Flows.ite ?_ ?_) | with_reducible intro _

theorem Flows.execLinkStepTimeout {w0 : Nat} {s0 : State} {link : Nat} {s : State} (h : Flows w0 s0 s) (hw0 : 4358 ||| w0 = w0 := by first | assumption | exact parts (by assumption) (by decide)) :
    FlowsX w0 s0 (Sys2Proof.Machine.execLinkStepTimeout link s) := by
  unfold Sys2Proof.Machine.execLinkStepTimeout
  repeat' first
    | with_reducible exact h | with_reducible (refine Flows.failLink ?_) | with_reducible (refine Flows.linkRecord ?_) | with_reducible (refine Flows.onLink ?_ ?_)
    | with_reducible (refine Flows.reach ?_) | with_reducible (refine Flows.ite ?_ ?_) | with_reducible intro _

theorem Flows.execLinkRetry {w0 : Nat} {s0 : State} {link : Nat} {s : State} (h : Flows w0 s0 s) (hw0 : 4352 ||| w0 = w0 := by first | assumption | exact parts (by assumption) (by decide)) :
    FlowsX w0 s0 (Sys2Proof.Machine.execLinkRetry link s) := by
  unfold Sys2Proof.Machine.execLinkRetry
  repeat' first
    | with_reducible exact h | with_reducible (refine Flows.link! ?_) | with_reducible (refine Flows.onLink ?_ ?_) | with_reducible (refine Flows.reach ?_)
    | with_reducible (refine Flows.startLink ?_) | with_reducible (refine Flows.ite ?_ ?_) | with_reducible intro _

theorem Flows.execRetrainSlow {w0 : Nat} {s0 : State} {link : Nat} {s : State} (h : Flows w0 s0 s) (hw0 : 4358 ||| w0 = w0 := by first | assumption | exact parts (by assumption) (by decide)) :
    FlowsX w0 s0 (Sys2Proof.Machine.execRetrainSlow link s) := by
  unfold Sys2Proof.Machine.execRetrainSlow
  repeat' first
    | with_reducible exact h | with_reducible (refine Flows.link! ?_) | with_reducible (refine Flows.linkRecord ?_) | with_reducible (refine Flows.onLink ?_ ?_)
    | with_reducible (refine Flows.reach ?_) | with_reducible (refine Flows.ite ?_ ?_) | with_reducible intro _

theorem Flows.execTrickle {w0 : Nat} {s0 : State} {link : Nat} {s : State} (h : Flows w0 s0 s) (hw0 : 272 ||| w0 = w0 := by first | assumption | exact parts (by assumption) (by decide)) :
    FlowsX w0 s0 (Sys2Proof.Machine.execTrickle link s) := by
  unfold Sys2Proof.Machine.execTrickle
  repeat' first
    | with_reducible exact h | with_reducible (refine Flows.control ?_) | with_reducible (refine Flows.link! ?_) | with_reducible (refine Flows.onLink ?_ ?_)
    | with_reducible (refine Flows.pathsLost ?_) | with_reducible (refine Flows.ite ?_ ?_) | with_reducible intro _

theorem Flows.execTrickleSwitch {w0 : Nat} {s0 : State} {link : Nat} {s : State} (h : Flows w0 s0 s) (hw0 : 256 ||| w0 = w0 := by first | assumption | exact parts (by assumption) (by decide)) :
    FlowsX w0 s0 (Sys2Proof.Machine.execTrickleSwitch link s) := by
  unfold Sys2Proof.Machine.execTrickleSwitch
  repeat' first
    | with_reducible exact h | with_reducible (refine Flows.link! ?_) | with_reducible (refine Flows.onLink ?_ ?_) | with_reducible (refine Flows.ite ?_ ?_)
    | with_reducible intro _

theorem Flows.execWake {w0 : Nat} {s0 : State} {link : Nat} {s : State} (h : Flows w0 s0 s) (hw0 : 266 ||| w0 = w0 := by first | assumption | exact parts (by assumption) (by decide)) :
    FlowsX w0 s0 (Sys2Proof.Machine.execWake link s) := by
  unfold Sys2Proof.Machine.execWake
  repeat' first
    | with_reducible exact h | with_reducible (refine Flows.onLink ?_ ?_) | with_reducible (refine Flows.wakeLink ?_) | with_reducible (refine Flows.ite ?_ ?_)
    | with_reducible intro _

theorem Flows.execNodeIdSet {w0 : Nat} {s0 : State} {mb : Nat} {s : State} (h : Flows w0 s0 s) (hw0 : 859 ||| w0 = w0 := by first | assumption | exact parts (by assumption) (by decide)) :
    FlowsX w0 s0 (Sys2Proof.Machine.execNodeIdSet mb s) := by
  unfold Sys2Proof.Machine.execNodeIdSet
  repeat' first
    | with_reducible exact h | with_reducible assumption | with_reducible (refine Flows.done ?_) | with_reducible (refine Flows.onMsg ?_ ?_)
    | with_reducible (refine Flows.refuse ?_) | with_reducible (refine Flows.setRaw ?_) | with_reducible (refine Flows.startLink ?_)
    | with_reducible (refine Flows.ite ?_ ?_) | with_reducible (refine Flows.foldl ?_ ?_) | with_reducible intro _

theorem Flows.execRouteSet {w0 : Nat} {s0 : State} {mb : Nat} {s : State} (h : Flows w0 s0 s) (hw0 : 859 ||| w0 = w0 := by first | assumption | exact parts (by assumption) (by decide)) :
    FlowsX w0 s0 (Sys2Proof.Machine.execRouteSet mb s) := by
  unfold Sys2Proof.Machine.execRouteSet
  repeat' first
    | with_reducible exact h | with_reducible assumption | with_reducible (refine Flows.done ?_) | with_reducible (refine Flows.flushHeld ?_)
    | with_reducible (refine Flows.onMsg ?_ ?_) | with_reducible (refine Flows.pathsLost ?_) | with_reducible (refine Flows.refuse ?_)
    | with_reducible (refine Flows.setRaw ?_) | with_reducible (refine Flows.ite ?_ ?_) | with_reducible (refine Flows.foldl ?_ ?_) | with_reducible intro _

theorem Flows.setLink {w0 : Nat} {s0 : State} {s : State} {l : Nat} {en : Bool} {tr : Bool} (h : Flows w0 s0 s) (hw0 : 282 ||| w0 = w0 := by first | assumption | exact parts (by assumption) (by decide)) :
    Flows w0 s0 (State.setLink s l en tr) := by
  unfold State.setLink
  repeat' first
    | with_reducible exact h | with_reducible (refine Flows.downLink ?_) | with_reducible (refine Flows.link! ?_) | with_reducible (refine Flows.startLink ?_)
    | with_reducible (refine Flows.wakeLink ?_) | with_reducible (refine Flows.ite ?_ ?_)

theorem Flows.execLinkSet {w0 : Nat} {s0 : State} {mb : Nat} {s : State} (h : Flows w0 s0 s) (hw0 : 859 ||| w0 = w0 := by first | assumption | exact parts (by assumption) (by decide)) :
    FlowsX w0 s0 (Sys2Proof.Machine.execLinkSet mb s) := by
  unfold Sys2Proof.Machine.execLinkSet
  repeat' first
    | with_reducible exact h | with_reducible assumption | with_reducible (refine Flows.done ?_) | with_reducible (refine Flows.flushHeld ?_)
    | with_reducible (refine Flows.onMsg ?_ ?_) | with_reducible (refine Flows.setLink ?_) | with_reducible (refine Flows.foldl ?_ ?_) | with_reducible intro _

theorem Flows.execPeerReadmit {w0 : Nat} {s0 : State} {mb : Nat} {s : State} (h : Flows w0 s0 s) (hw0 : 859 ||| w0 = w0 := by first | assumption | exact parts (by assumption) (by decide)) :
    FlowsX w0 s0 (Sys2Proof.Machine.execPeerReadmit mb s) := by
  unfold Sys2Proof.Machine.execPeerReadmit
  repeat' first
    | with_reducible exact h | with_reducible assumption | with_reducible (refine Flows.done ?_) | with_reducible (refine Flows.onMsg ?_ ?_)
    | with_reducible (refine Flows.peer! ?_) | with_reducible (refine Flows.refuse ?_) | with_reducible (refine Flows.ite ?_ ?_) | with_reducible intro _

theorem Flows.execPeerPolicySet {w0 : Nat} {s0 : State} {mb : Nat} {s : State} (h : Flows w0 s0 s) (hw0 : 859 ||| w0 = w0 := by first | assumption | exact parts (by assumption) (by decide)) :
    FlowsX w0 s0 (Sys2Proof.Machine.execPeerPolicySet mb s) := by
  unfold Sys2Proof.Machine.execPeerPolicySet
  repeat' first
    | with_reducible exact h | with_reducible assumption | with_reducible (refine Flows.done ?_) | with_reducible (refine Flows.downLink ?_)
    | with_reducible (refine Flows.dropSecret ?_) | with_reducible (refine Flows.newRecord ?_) | with_reducible (refine Flows.onMsg ?_ ?_)
    | with_reducible (refine Flows.refuse ?_) | with_reducible (refine Flows.ite ?_ ?_) | with_reducible (refine Flows.foldl ?_ ?_) | with_reducible intro _

theorem Flows.execPeerSecretExpiry {w0 : Nat} {s0 : State} {node : Nat} {s : State} (h : Flows w0 s0 s) (hw0 : 4864 ||| w0 = w0 := by first | assumption | exact parts (by assumption) (by decide)) :
    FlowsX w0 s0 (Sys2Proof.Machine.execPeerSecretExpiry node s) := by
  unfold Sys2Proof.Machine.execPeerSecretExpiry
  repeat' first
    | with_reducible exact h | with_reducible (refine Flows.dropSecret ?_) | with_reducible (refine Flows.reach ?_) | with_reducible (refine FlowsX.ok ?_)
    | with_reducible (refine Flows.ite ?_ ?_)

end Sys2Proof.Machine
end

