-- ==== Sys2Proof/Laws/FlowScrub.lean ====
section
/-! SUPPORT. What the operations and meanings of Machine/Scrub.lean keep. -/

set_option Elab.async false

namespace Sys2Proof.Machine

theorem Flows.mark {w0 : Nat} {s0 : State} {s : State} {t : OrdTarget} (h : Flows w0 s0 s) (hw0 : 88 ||| w0 = w0 := by first | assumption | exact parts (by assumption) (by decide)) :
    Flows w0 s0 (State.mark s t) := by
  unfold State.mark
  repeat' first
    | with_reducible exact h | with_reducible (refine Flows.coll! ?_) | with_reducible (refine Flows.frames! ?_) | with_reducible (refine Flows.obj! ?_) | split

theorem Flows.ownerActs {w0 : Nat} {s0 : State} {s : State} {unit : Nat} {t : OrdTarget} (h : Flows w0 s0 s) (hw0 : 9215 ||| w0 = w0 := by first | assumption | exact parts (by assumption) (by decide)) :
    Flows w0 s0 (State.ownerActs s unit t) := by
  unfold State.ownerActs
  repeat' first
    | with_reducible exact h | with_reducible (refine Flows.logC ?_) | with_reducible (refine Flows.poisonObj ?_) | with_reducible (refine Flows.weightLoss ?_)
    | with_reducible (refine Flows.ite ?_ ?_) | split

theorem Flows.wordLost {w0 : Nat} {s0 : State} {s : State} {unit : Nat} {tier : Nat} {ue : Nat} {t : OrdTarget} {batch : Option Nat} (h : Flows w0 s0 s) (hw0 : 9215 ||| w0 = w0 := by first | assumption | exact parts (by assumption) (by decide)) :
    Flows w0 s0 (State.wordLost s unit tier ue t batch) := by
  unfold State.wordLost
  repeat' first
    | with_reducible exact h | with_reducible (refine Flows.count ?_) | with_reducible (refine Flows.mark ?_) | with_reducible (refine Flows.memRaise ?_)
    | with_reducible (refine Flows.ownerActs ?_) | with_reducible (refine Flows.raise ?_) | with_reducible (refine Flows.ite ?_ ?_) | dsimp only | split

theorem Flows.meetWord {w0 : Nat} {s0 : State} {s : State} {unit : Nat} {tier : Nat} {ce : Nat} {ue : Nat} {t : OrdTarget} {batch : Option Nat} {outcome : EccOutcome} (h : Flows w0 s0 s) (hw0 : 9215 ||| w0 = w0 := by first | assumption | exact parts (by assumption) (by decide)) :
    Flows w0 s0 (State.meetWord s unit tier ce ue t batch outcome) := by
  unfold State.meetWord
  repeat' first | with_reducible exact h | with_reducible (refine Flows.memRaiseAt ?_) | with_reducible (refine Flows.wordLost ?_) | dsimp only | split

theorem Flows.writeWord {w0 : Nat} {s0 : State} {s : State} {t : OrdTarget} {poisoned : Bool} (h : Flows w0 s0 s) (hw0 : 88 ||| w0 = w0 := by first | assumption | exact parts (by assumption) (by decide)) :
    Flows w0 s0 (State.writeWord s t poisoned) := by
  unfold State.writeWord
  repeat' first | with_reducible exact h | with_reducible (refine Flows.mark ?_) | with_reducible (refine Flows.obj! ?_) | with_reducible (refine Flows.ite ?_ ?_) | split

theorem Flows.poisonIn {w0 : Nat} {s0 : State} {s : State} {p : Nat → AttObj → Bool} (h : Flows w0 s0 s) (hw0 : 9215 ||| w0 = w0 := by first | assumption | exact parts (by assumption) (by decide)) :
    Flows w0 s0 (State.poisonIn s p) := by
  unfold State.poisonIn
  repeat' first
    | with_reducible exact h | with_reducible assumption | with_reducible (refine Flows.poisonObj ?_) | with_reducible (refine Flows.ite ?_ ?_)
    | with_reducible (refine Flows.foldl ?_ ?_) | with_reducible intro _ | split

theorem Flows.stackFail {w0 : Nat} {s0 : State} {s : State} {stack : Nat} {typ : Nat} (h : Flows w0 s0 s) (hw0 : 9215 ||| w0 = w0 := by first | assumption | exact parts (by assumption) (by decide)) :
    Flows w0 s0 (State.stackFail s stack typ) := by
  unfold State.stackFail
  repeat' first | with_reducible exact h | with_reducible (refine Flows.poisonIn ?_) | with_reducible (refine Flows.raise ?_) | with_reducible (refine Flows.ite ?_ ?_)

theorem Flows.execStackFail {w0 : Nat} {s0 : State} {stack : Nat} {s : State} (h : Flows w0 s0 s) (hw0 : 9215 ||| w0 = w0 := by first | assumption | exact parts (by assumption) (by decide)) :
    FlowsX w0 s0 (Sys2Proof.Machine.execStackFail stack s) := by
  unfold Sys2Proof.Machine.execStackFail
  repeat' first | with_reducible exact h | with_reducible (refine Flows.stackFail ?_) | with_reducible (refine FlowsX.onUnit ?_)

theorem Flows.sectorGone {w0 : Nat} {s0 : State} {s : State} {space : Nat} {lsn : Nat} (h : Flows w0 s0 s) (hw0 : 8342 ||| w0 = w0 := by first | assumption | exact parts (by assumption) (by decide)) :
    Flows w0 s0 (State.sectorGone s space lsn) := by
  unfold State.sectorGone
  repeat' first
    | with_reducible exact h | with_reducible (refine Flows.blk! ?_) | with_reducible (refine Flows.count ?_) | with_reducible (refine Flows.damageLsn ?_)
    | with_reducible (refine Flows.form ?_) | with_reducible (refine Flows.free2 ?_) | with_reducible (refine Flows.setMap ?_) | dsimp only | split

theorem Flows.extentGone {w0 : Nat} {s0 : State} {s : State} {e : Nat} {i : Nat} (h : Flows w0 s0 s) (hw0 : 9215 ||| w0 = w0 := by first | assumption | exact parts (by assumption) (by decide)) :
    Flows w0 s0 (State.extentGone s e i) := by
  unfold State.extentGone
  repeat' first
    | with_reducible exact h | with_reducible (refine Flows.count ?_) | with_reducible (refine Flows.damageExt ?_) | with_reducible (refine Flows.delta! ?_)
    | with_reducible (refine Flows.form ?_) | with_reducible (refine Flows.free2 ?_) | with_reducible (refine Flows.weightLoss ?_)
    | with_reducible (refine Flows.ite ?_ ?_) | dsimp only | split

theorem Flows.flashGone {w0 : Nat} {s0 : State} {s : State} {p : Nat → Bool} (h : Flows w0 s0 s) (hw0 : 9215 ||| w0 = w0 := by first | assumption | exact parts (by assumption) (by decide)) :
    Flows w0 s0 (State.flashGone s p) := by
  unfold State.flashGone
  repeat' first
    | with_reducible exact h | with_reducible assumption | with_reducible (refine Flows.delta! ?_) | with_reducible (refine Flows.extentGone ?_)
    | with_reducible (refine Flows.reprogram ?_) | with_reducible (refine Flows.sectorGone ?_) | with_reducible (refine Flows.ite ?_ ?_)
    | with_reducible (refine Flows.foldl ?_ ?_) | with_reducible intro _

theorem Flows.execChannelFail {w0 : Nat} {s0 : State} {part : FlashPart} {s : State} (h : Flows w0 s0 s) (hw0 : 9215 ||| w0 = w0 := by first | assumption | exact parts (by assumption) (by decide)) :
    FlowsX w0 s0 (Sys2Proof.Machine.execChannelFail part s) := by
  unfold Sys2Proof.Machine.execChannelFail
  repeat' first
    | with_reducible exact h | with_reducible (refine Flows.delta! ?_) | with_reducible (refine Flows.flashGone ?_) | with_reducible (refine Flows.form ?_)
    | with_reducible (refine Flows.openHandler ?_) | with_reducible (refine Flows.poisonIn ?_) | with_reducible (refine Flows.raise ?_)
    | with_reducible (refine FlowsX.onUnit ?_) | with_reducible (refine Flows.ite ?_ ?_) | dsimp only | split

theorem Flows.accessed {w0 : Nat} {s0 : State} {s : State} {unit : Nat} {tier : Nat} {a : OrdAccess} (h : Flows w0 s0 s) (hw0 : 9215 ||| w0 = w0 := by first | assumption | exact parts (by assumption) (by decide)) :
    Flows w0 s0 (State.accessed s unit tier a) := by
  unfold State.accessed
  repeat' first
    | with_reducible exact h | with_reducible (refine Flows.meetWord ?_) | with_reducible (refine Flows.writeWord ?_) | with_reducible (refine Flows.ite ?_ ?_)

theorem Flows.scrubPass {w0 : Nat} {s0 : State} {s : State} {target : Nat} {f : State → State} (h : Flows w0 s0 s) (hf : ∀ y0, Flows w0 s0 y0 → Flows w0 s0 (f y0)) (hw0 : 4 ||| w0 = w0 := by first | assumption | exact parts (by assumption) (by decide)) :
    Flows w0 s0 (State.scrubPass s target f) := by
  unfold State.scrubPass
  repeat' first | with_reducible exact h | with_reducible (refine hf _ ?_) | with_reducible (refine Flows.scrub! ?_) | with_reducible (refine Flows.ite ?_ ?_)

theorem Flows.hbmFind {w0 : Nat} {s0 : State} {s : State} {x : ScrubFind} (h : Flows w0 s0 s) (hw0 : 9215 ||| w0 = w0 := by first | assumption | exact parts (by assumption) (by decide)) :
    Flows w0 s0 (State.hbmFind s x) := by
  unfold State.hbmFind
  repeat' first
    | with_reducible exact h | with_reducible (refine Flows.count ?_) | with_reducible (refine Flows.meetWord ?_) | with_reducible (refine Flows.ite ?_ ?_)
    | dsimp only | split

theorem Flows.execHbmScrub {w0 : Nat} {s0 : State} {finds : List ScrubFind} {s : State} (h : Flows w0 s0 s) (hw0 : 9215 ||| w0 = w0 := by first | assumption | exact parts (by assumption) (by decide)) :
    FlowsX w0 s0 (Sys2Proof.Machine.execHbmScrub finds s) := by
  unfold Sys2Proof.Machine.execHbmScrub
  repeat' first
    | with_reducible exact h | with_reducible assumption | with_reducible (refine Flows.hbmFind ?_) | with_reducible (refine Flows.scrubPass ?_ ?_)
    | with_reducible (refine FlowsX.ok ?_) | with_reducible (refine Flows.foldl ?_ ?_) | with_reducible intro _

theorem Flows.execPlaneScrub {w0 : Nat} {s0 : State} {stack : Nat} {s : State} (h : Flows w0 s0 s) (hw0 : 22 ||| w0 = w0 := by first | assumption | exact parts (by assumption) (by decide)) :
    FlowsX w0 s0 (Sys2Proof.Machine.execPlaneScrub stack s) := by
  unfold Sys2Proof.Machine.execPlaneScrub
  repeat' first
    | with_reducible exact h | with_reducible assumption | with_reducible (refine Flows.coll! ?_) | with_reducible (refine Flows.logC ?_)
    | with_reducible (refine Flows.mrcCount ?_) | with_reducible (refine Flows.scrubPass ?_ ?_) | with_reducible (refine FlowsX.onUnit ?_)
    | with_reducible (refine Flows.foldl ?_ ?_) | with_reducible intro _

theorem Flows.sramFind {w0 : Nat} {s0 : State} {s : State} {x : ScrubFind} (h : Flows w0 s0 s) (hw0 : 9215 ||| w0 = w0 := by first | assumption | exact parts (by assumption) (by decide)) :
    Flows w0 s0 (State.sramFind s x) := by
  unfold State.sramFind
  repeat' first
    | with_reducible exact h | with_reducible (refine Flows.count ?_) | with_reducible (refine Flows.meetWord ?_) | with_reducible (refine Flows.memRaise ?_)
    | with_reducible (refine Flows.ite ?_ ?_) | split

theorem Flows.execSramScrub {w0 : Nat} {s0 : State} {finds : List ScrubFind} {s : State} (h : Flows w0 s0 s) (hw0 : 9215 ||| w0 = w0 := by first | assumption | exact parts (by assumption) (by decide)) :
    FlowsX w0 s0 (Sys2Proof.Machine.execSramScrub finds s) := by
  unfold Sys2Proof.Machine.execSramScrub
  repeat' first
    | with_reducible exact h | with_reducible assumption | with_reducible (refine Flows.scrubPass ?_ ?_) | with_reducible (refine Flows.sramFind ?_)
    | with_reducible (refine FlowsX.ok ?_) | with_reducible (refine Flows.foldl ?_ ?_) | with_reducible intro _

theorem Flows.moveWeak {w0 : Nat} {s0 : State} {u : State} {b : Nat} (h : Flows w0 s0 u) (hw0 : 134 ||| w0 = w0 := by first | assumption | exact parts (by assumption) (by decide)) :
    Flows w0 s0 (State.moveWeak u b) := by
  unfold State.moveWeak
  repeat' first
    | with_reducible exact h | with_reducible assumption | with_reducible (refine Flows.count ?_)
    | with_reducible (refine FlowsO.get (Flows.relocate ?_) (by with_reducible assumption)) | with_reducible (refine Flows.ite ?_ ?_) | dsimp only | split

theorem Flows.execFlashScrub {w0 : Nat} {s0 : State} {weak : List Nat} {s : State} (h : Flows w0 s0 s) (hw0 : 134 ||| w0 = w0 := by first | assumption | exact parts (by assumption) (by decide)) :
    FlowsX w0 s0 (Sys2Proof.Machine.execFlashScrub weak s) := by
  unfold Sys2Proof.Machine.execFlashScrub
  repeat' first
    | with_reducible exact h | with_reducible assumption | with_reducible (refine Flows.moveWeak ?_) | with_reducible (refine Flows.scrubPass ?_ ?_)
    | with_reducible (refine FlowsX.ok ?_) | with_reducible (refine Flows.ite ?_ ?_) | with_reducible (refine Flows.foldl ?_ ?_) | with_reducible intro _

end Sys2Proof.Machine
end

