-- ==== Sys2Proof/Laws/FlowBundle.lean ====
section
/-! SUPPORT. What the operations and meanings of Machine/Bundle.lean keep. -/

set_option Elab.async false

namespace Sys2Proof.Machine

theorem Flows.completes {w0 : Nat} {s0 : State} {s : State} {n : Nat} {st : AccStatus} {v : Nat} (h : Flows w0 s0 s) (hw0 : 32 ||| w0 = w0 := by first | assumption | exact parts (by assumption) (by decide)) :
    Flows w0 s0 (State.completes s n st v) := by
  unfold State.completes
  repeat' first | with_reducible exact h | with_reducible (refine Flows.cell! ?_)

theorem Flows.serveAccess {w0 : Nat} {s0 : State} {s : State} {n : Nat} {a : OrdAccess} (h : Flows w0 s0 s) (hw0 : 9215 ||| w0 = w0 := by first | assumption | exact parts (by assumption) (by decide)) :
    Flows w0 s0 (State.serveAccess s n a) := by
  unfold State.serveAccess
  repeat' first
    | with_reducible exact h | with_reducible (refine Flows.accessed ?_) | with_reducible (refine Flows.completes ?_) | with_reducible (refine Flows.logC ?_)
    | with_reducible (refine Flows.mrcCount ?_) | with_reducible (refine Flows.stackFail ?_) | with_reducible (refine Flows.ite ?_ ?_) | dsimp only | split

theorem Flows.serveAll {w0 : Nat} {s0 : State} {s : State} {n : Nat} (h : Flows w0 s0 s) (hw0 : 9215 ||| w0 = w0 := by first | assumption | exact parts (by assumption) (by decide)) :
    Flows w0 s0 (State.serveAll s n) := by
  unfold State.serveAll
  repeat' first
    | with_reducible exact h | with_reducible assumption | with_reducible (refine Flows.cell! ?_) | with_reducible (refine Flows.serveAccess ?_)
    | with_reducible (refine Flows.foldl ?_ ?_) | with_reducible intro _

theorem Flows.waitBundle {w0 : Nat} {s0 : State} {s : State} {n : Nat} {a : OrdAccess} (h : Flows w0 s0 s) (hw0 : 34 ||| w0 = w0 := by first | assumption | exact parts (by assumption) (by decide)) :
    Flows w0 s0 (State.waitBundle s n a) := by
  unfold State.waitBundle
  repeat' first | with_reducible exact h | with_reducible (refine Flows.cell! ?_) | with_reducible (refine Flows.mrc! ?_) | with_reducible (refine Flows.mrcCount ?_)

theorem Flows.execOrdinaryAccess {w0 : Nat} {s0 : State} {acc : OrdAccess} {s : State} (h : Flows w0 s0 s) (hw0 : 9215 ||| w0 = w0 := by first | assumption | exact parts (by assumption) (by decide)) :
    FlowsX w0 s0 (Sys2Proof.Machine.execOrdinaryAccess acc s) := by
  unfold Sys2Proof.Machine.execOrdinaryAccess
  repeat' first
    | with_reducible exact h | with_reducible (refine Flows.accessed ?_) | with_reducible (refine Flows.basinUnit ?_) | with_reducible (refine Flows.meetWord ?_)
    | with_reducible (refine Flows.serveAccess ?_) | with_reducible (refine Flows.serveAll ?_) | with_reducible (refine Flows.waitBundle ?_)
    | with_reducible (refine FlowsX.onUnit ?_) | with_reducible (refine Flows.ite ?_ ?_) | dsimp only | split

theorem Flows.bundleWork {w0 : Nat} {s0 : State} {s : State} {cell : Nat} {need : Nat} {f : State → State} (h : Flows w0 s0 s) (hf : ∀ y0, Flows w0 s0 y0 → Flows w0 s0 (f y0)) (hw0 : 34 ||| w0 = w0 := by first | assumption | exact parts (by assumption) (by decide)) :
    Flows w0 s0 (State.bundleWork s cell need f) := by
  unfold State.bundleWork
  repeat' first
    | with_reducible exact h | with_reducible (refine hf _ ?_) | with_reducible (refine Flows.cell! ?_) | with_reducible (refine Flows.mrcCount ?_)
    | with_reducible (refine Flows.ite ?_ ?_)

theorem Flows.bundleRowop {w0 : Nat} {s0 : State} {s : State} {cell : Nat} {op : RowOp} (h : Flows w0 s0 s) (hw0 : 38 ||| w0 = w0 := by first | assumption | exact parts (by assumption) (by decide)) :
    Flows w0 s0 (State.bundleRowop s cell op) := by
  unfold State.bundleRowop
  repeat' first
    | with_reducible exact h | with_reducible assumption | with_reducible (refine Flows.bundleWork ?_ ?_) | with_reducible (refine Flows.cell! ?_)
    | with_reducible (refine Flows.rowDone ?_) | with_reducible intro _

theorem Flows.bundleFilter {w0 : Nat} {s0 : State} {s : State} {cell : Nat} {c : Coll} {i : Issue} {prog : List Byte} {row : Nat} {faults : List RowFault} (h : Flows w0 s0 s) (hw0 : 54 ||| w0 = w0 := by first | assumption | exact parts (by assumption) (by decide)) :
    Flows w0 s0 (State.bundleFilter s cell c i prog row faults) := by
  unfold State.bundleFilter
  repeat' first
    | with_reducible exact h | with_reducible assumption | with_reducible (refine Flows.bundleWork ?_ ?_) | with_reducible (refine Flows.formFilter ?_)
    | with_reducible (refine Flows.maskMismatch ?_) | with_reducible (refine Flows.mrcCount ?_) | with_reducible (refine Flows.ite ?_ ?_) | with_reducible intro _

theorem Flows.bundleMask {w0 : Nat} {s0 : State} {s : State} {cell : Nat} {c : Coll} {i : Issue} {faults : List RowFault} (h : Flows w0 s0 s) (hw0 : 54 ||| w0 = w0 := by first | assumption | exact parts (by assumption) (by decide)) :
    Flows w0 s0 (State.bundleMask s cell c i faults) := by
  unfold State.bundleMask
  repeat' first
    | with_reducible exact h | with_reducible assumption | with_reducible (refine Flows.bundleWork ?_ ?_) | with_reducible (refine Flows.formMasks ?_)
    | with_reducible (refine Flows.maskMismatch ?_) | with_reducible (refine Flows.ite ?_ ?_) | with_reducible intro _

theorem Flows.bundleScan {w0 : Nat} {s0 : State} {s : State} {cell : Nat} {c : Coll} {i : Issue} {rows : Nat} {faults : List RowFault} (h : Flows w0 s0 s) (hw0 : 9215 ||| w0 = w0 := by first | assumption | exact parts (by assumption) (by decide)) :
    Flows w0 s0 (State.bundleScan s cell c i rows faults) := by
  unfold State.bundleScan
  repeat' first
    | with_reducible exact h | with_reducible (refine Flows.cell! ?_) | with_reducible (refine Flows.endIssue ?_) | with_reducible (refine Flows.issue! ?_)
    | with_reducible (refine Flows.mrcCount ?_) | with_reducible (refine Flows.scanRows ?_) | with_reducible (refine Flows.ite ?_ ?_) | split

theorem Flows.bundleDo {w0 : Nat} {s0 : State} {s : State} {cell : Nat} {rows : Nat} {faults : List RowFault} (h : Flows w0 s0 s) (hw0 : 9215 ||| w0 = w0 := by first | assumption | exact parts (by assumption) (by decide)) :
    Flows w0 s0 (State.bundleDo s cell rows faults) := by
  unfold State.bundleDo
  repeat' first
    | with_reducible exact h | with_reducible (refine Flows.bundleFilter ?_) | with_reducible (refine Flows.bundleMask ?_)
    | with_reducible (refine Flows.bundleRowop ?_) | with_reducible (refine Flows.bundleScan ?_) | dsimp only | split

theorem Flows.execBundleEnd {w0 : Nat} {s0 : State} {cell : Nat} {rows : Nat} {faults : List RowFault} {s : State} (h : Flows w0 s0 s) (hw0 : 9215 ||| w0 = w0 := by first | assumption | exact parts (by assumption) (by decide)) :
    FlowsX w0 s0 (Sys2Proof.Machine.execBundleEnd cell rows faults s) := by
  unfold Sys2Proof.Machine.execBundleEnd
  repeat' first
    | with_reducible exact h | with_reducible (refine Flows.bundleDo ?_) | with_reducible (refine Flows.cell! ?_)
    | with_reducible (refine FlowsO.get (Flows.cellCheck ?_) (by with_reducible assumption)) | with_reducible (refine Flows.chargeCell ?_)
    | with_reducible (refine Flows.lateRct ?_) | with_reducible (refine Flows.mrcCount ?_) | with_reducible (refine Flows.onCell ?_)
    | with_reducible (refine Flows.serveAll ?_) | dsimp only | split

end Sys2Proof.Machine
end

