-- ==== Sys2Proof/Laws/FlowDump.lean ====
section
/-! SUPPORT. What the operations and meanings of Machine/Dump.lean keep. -/

set_option Elab.async false

namespace Sys2Proof.Machine

theorem Flows.onDump {w0 : Nat} {s0 : State} {s : State} {m : Msg} {ok : Bool} {f : Coll → State} (h : Flows w0 s0 s) (hf : ∀ y0, Flows w0 s0 (f y0)) (hw0 : 3 ||| w0 = w0 := by first | assumption | exact parts (by assumption) (by decide)) :
    Flows w0 s0 (State.onDump s m ok f) := by
  unfold State.onDump
  repeat' first
    | with_reducible exact h | with_reducible (exact hf _ ) | with_reducible (refine Flows.refuse ?_) | with_reducible (refine Flows.ite ?_ ?_) | dsimp only | split

theorem Flows.execReachDump {w0 : Nat} {s0 : State} {mb : Nat} {s : State} (h : Flows w0 s0 s) (hw0 : 859 ||| w0 = w0 := by first | assumption | exact parts (by assumption) (by decide)) :
    FlowsX w0 s0 (Sys2Proof.Machine.execReachDump mb s) := by
  unfold Sys2Proof.Machine.execReachDump
  repeat' first
    | with_reducible exact h | with_reducible assumption | with_reducible (refine Flows.done ?_) | with_reducible (refine Flows.onDump ?_ ?_)
    | with_reducible (refine Flows.onMsg ?_ ?_) | with_reducible (refine Flows.output ?_) | with_reducible (refine Flows.refuse ?_)
    | with_reducible (refine Flows.ite ?_ ?_) | with_reducible intro _

theorem Flows.execCatchmentDump {w0 : Nat} {s0 : State} {mb : Nat} {s : State} (h : Flows w0 s0 s) (hw0 : 859 ||| w0 = w0 := by first | assumption | exact parts (by assumption) (by decide)) :
    FlowsX w0 s0 (Sys2Proof.Machine.execCatchmentDump mb s) := by
  unfold Sys2Proof.Machine.execCatchmentDump
  repeat' first
    | with_reducible exact h | with_reducible assumption | with_reducible (refine Flows.done ?_) | with_reducible (refine Flows.onDump ?_ ?_)
    | with_reducible (refine Flows.onMsg ?_ ?_) | with_reducible (refine Flows.output ?_) | with_reducible (refine Flows.refuse ?_)
    | with_reducible (refine Flows.ite ?_ ?_) | with_reducible intro _

end Sys2Proof.Machine
end

