-- ==== Sys2Proof/Laws/FlowStandby.lean ====
section
/-! SUPPORT. What the operations and meanings of Machine/Standby.lean keep. -/

set_option Elab.async false

namespace Sys2Proof.Machine

theorem Flows.standbyBegin {w0 : Nat} {s0 : State} {s : State} (h : Flows w0 s0 s) (hw0 : 1403 ||| w0 = w0 := by first | assumption | exact parts (by assumption) (by decide)) :
    Flows w0 s0 (State.standbyBegin s) := by
  unfold State.standbyBegin
  repeat' first
    | with_reducible exact h | with_reducible assumption | with_reducible (refine Flows.host! ?_) | with_reducible (refine Flows.mute ?_)
    | with_reducible (refine Flows.spw! ?_) | with_reducible (refine Flows.teardown ?_) | with_reducible (refine Flows.foldl ?_ ?_) | with_reducible intro _

theorem Flows.flushAll {w0 : Nat} {s0 : State} {s : State} (h : Flows w0 s0 s) (hw0 : 130 ||| w0 = w0 := by first | assumption | exact parts (by assumption) (by decide)) :
    Flows w0 s0 (State.flushAll s) := by
  unfold State.flushAll
  repeat' first
    | with_reducible exact h | with_reducible assumption | with_reducible (refine Flows.flush ?_) | with_reducible (refine Flows.ite ?_ ?_)
    | with_reducible (refine Flows.foldl ?_ ?_) | with_reducible (refine Flows.getD ?_ ?_) | with_reducible intro _

theorem Flows.tricklesAll {w0 : Nat} {s0 : State} {s : State} (h : Flows w0 s0 s) (hw0 : 272 ||| w0 = w0 := by first | assumption | exact parts (by assumption) (by decide)) :
    Flows w0 s0 (State.tricklesAll s) := by
  unfold State.tricklesAll
  repeat' first
    | with_reducible exact h | with_reducible assumption | with_reducible (refine Flows.control ?_) | with_reducible (refine Flows.link! ?_)
    | with_reducible (refine Flows.pathsLost ?_) | with_reducible (refine Flows.ite ?_ ?_) | with_reducible (refine Flows.foldl ?_ ?_) | with_reducible intro _

theorem Flows.powerDown {w0 : Nat} {s0 : State} {s : State} (h : Flows w0 s0 s) (hw0 : 3106 ||| w0 = w0 := by first | assumption | exact parts (by assumption) (by decide)) :
    Flows w0 s0 (State.powerDown s) := by
  unfold State.powerDown
  repeat' first
    | with_reducible exact h | with_reducible (refine Flows.count ?_) | with_reducible (refine Flows.cru! ?_) | with_reducible (refine Flows.mrc! ?_)
    | with_reducible (refine Flows.spw! ?_)

theorem Flows.powerUp {w0 : Nat} {s0 : State} {s : State} (h : Flows w0 s0 s) (hw0 : 3370 ||| w0 = w0 := by first | assumption | exact parts (by assumption) (by decide)) :
    Flows w0 s0 (State.powerUp s) := by
  unfold State.powerUp
  repeat' first
    | with_reducible exact h | with_reducible assumption | with_reducible (refine Flows.cru! ?_) | with_reducible (refine Flows.link! ?_)
    | with_reducible (refine Flows.loadCells ?_) | with_reducible (refine Flows.spw! ?_) | with_reducible (refine Flows.wakeLink ?_)
    | with_reducible (refine Flows.ite ?_ ?_) | with_reducible (refine Flows.foldl ?_ ?_) | with_reducible intro _

theorem Flows.standbyGoesOn {w0 : Nat} {s0 : State} {s : State} (h : Flows w0 s0 s) (hw0 : 3514 ||| w0 = w0 := by first | assumption | exact parts (by assumption) (by decide)) :
    Flows w0 s0 (State.standbyGoesOn s) := by
  unfold State.standbyGoesOn
  repeat' first
    | with_reducible exact h | with_reducible (refine Flows.checkpoint ?_) | with_reducible (refine Flows.flushAll ?_) | with_reducible (refine Flows.powerDown ?_)
    | with_reducible (refine Flows.powerUp ?_) | with_reducible (refine Flows.tricklesAll ?_) | with_reducible (refine Flows.ite ?_ ?_)

theorem Flows.execStandbyEntry {w0 : Nat} {s0 : State} {s : State} (h : Flows w0 s0 s) (hw0 : 3579 ||| w0 = w0 := by first | assumption | exact parts (by assumption) (by decide)) :
    FlowsX w0 s0 (Sys2Proof.Machine.execStandbyEntry s) := by
  unfold Sys2Proof.Machine.execStandbyEntry
  repeat' first
    | with_reducible exact h | with_reducible (refine Flows.standbyBegin ?_) | with_reducible (refine Flows.standbyGoesOn ?_) | with_reducible (refine FlowsX.ok ?_)
    | with_reducible (refine Flows.ite ?_ ?_)

theorem Flows.toD0 {w0 : Nat} {s0 : State} {s : State} (h : Flows w0 s0 s) (hw0 : 1 ||| w0 = w0 := by first | assumption | exact parts (by assumption) (by decide)) :
    Flows w0 s0 (State.toD0 s) := by
  unfold State.toD0
  repeat' first | with_reducible exact h | with_reducible (refine Flows.host! ?_)

theorem Flows.execWakeFromStandby {w0 : Nat} {s0 : State} {source : WakeSource} {s : State} (h : Flows w0 s0 s) (hw0 : 3371 ||| w0 = w0 := by first | assumption | exact parts (by assumption) (by decide)) :
    FlowsX w0 s0 (Sys2Proof.Machine.execWakeFromStandby source s) := by
  unfold Sys2Proof.Machine.execWakeFromStandby
  repeat' first
    | with_reducible exact h | with_reducible (refine Flows.count ?_) | with_reducible (refine Flows.powerUp ?_) | with_reducible (refine Flows.spw! ?_)
    | with_reducible (refine Flows.toD0 ?_) | with_reducible (refine FlowsX.ok ?_) | with_reducible (refine Flows.ite ?_ ?_) | dsimp only | split

theorem Flows.execStandbyReturn {w0 : Nat} {s0 : State} {s : State} (h : Flows w0 s0 s) (hw0 : 7610 ||| w0 = w0 := by first | assumption | exact parts (by assumption) (by decide)) :
    FlowsX w0 s0 (Sys2Proof.Machine.execStandbyReturn s) := by
  unfold Sys2Proof.Machine.execStandbyReturn
  repeat' first
    | with_reducible exact h | with_reducible (refine Flows.reach ?_) | with_reducible (refine Flows.spw! ?_) | with_reducible (refine Flows.standbyGoesOn ?_)
    | with_reducible (refine FlowsX.ok ?_) | with_reducible (refine Flows.ite ?_ ?_)

end Sys2Proof.Machine
end

