-- ==== Sys2Proof/Laws/Message.lean ====
section
/-! SUPPORT. What an opcode's command does, said once: it acts on the first message of its mailbox, or it changes nothing (R469). -/

namespace Sys2Proof.Machine

/-- Where the first message of the mailbox carries the opcode, the opcode acts on it. -/
theorem onMsg_first {s t : State} {m : Msg} {mb op : Nat} {f : Msg → State → State} (hm : mb ≤ 64) (hn : s.next? mb op = some (m, t)) :
    onMsg s mb op f = .next ((f m t).checkDestroy m.comp) := by
  simp [onMsg, onUnit, hm, hn]

/-- Where it does not, nothing changes (log 6). -/
theorem onMsg_none {s : State} {mb op : Nat} {f : Msg → State → State} (hm : mb ≤ 64) (hn : s.next? mb op = none) : onMsg s mb op f = .next s := by
  simp [onMsg, onUnit, hm, hn]

/-- A unit that the node has. -/
theorem onUnit_pos {b : Bool} {s : State} (h : b = true) : onUnit b s = .next s := by simp [onUnit, h]

/-- A unit that the node does not have. -/
theorem onUnit_neg {b : Bool} {s : State} (h : b = false) : onUnit b s = .fault .noSuchUnit := by simp [onUnit, h]

end Sys2Proof.Machine
end

