-- ==== Sys2Proof/Laws/Regs.lean ====
section
/-! SUPPORT. Laws of the stored registers: a register written is the register read, and no other register changes. -/

namespace Sys2Proof.Machine

/-- A register written is the register read, to its 64 bits (R7). -/
theorem State.raw_setRaw_same (s : State) (a v : Nat) : (s.setRaw a v).raw a = v % 2 ^ 64 := by
  unfold State.raw State.setRaw
  by_cases h : v % 2 ^ 64 = regReset a
  · simp only [if_pos h, Tbl.find_erase_same]; exact h.symm
  · simp only [if_neg h, Tbl.find_put_same, BitVec.toNat_ofNat]

/-- A register write leaves every other register. -/
theorem State.raw_setRaw_other (s : State) (a b v : Nat) (h : b ≠ a) : (s.setRaw a v).raw b = s.raw b := by
  unfold State.raw State.setRaw
  by_cases h1 : v % 2 ^ 64 = regReset a
  · simp only [if_pos h1, Tbl.find_erase_other a b _ h]
  · simp only [if_neg h1, Tbl.find_put_other a b _ _ h]

theorem satAdd_lt (a n : Nat) : satAdd a n < 2 ^ 64 := by
  exact Nat.lt_of_le_of_lt (Nat.min_le_left max64 (a + n)) (by decide)

/-- A counter counts and saturates (R553). -/
theorem State.raw_count_same (s : State) (base i n : Nat) : (s.count base i n).raw (base + 8 * i) = satAdd (s.raw (base + 8 * i)) n := by
  unfold State.count; rw [State.raw_setRaw_same, Nat.mod_eq_of_lt (satAdd_lt _ _)]

/-- A counter leaves every other register. -/
theorem State.raw_count_other (s : State) (base i n a : Nat) (h : a ≠ base + 8 * i) : (s.count base i n).raw a = s.raw a :=
  State.raw_setRaw_other s _ a _ h

/-- A field set is the field read. -/
theorem State.fld_setFld_same (s : State) (a lo w v : Nat) (h : lo + w ≤ 64) : (s.setFld a lo w v).fld a lo w = v % 2 ^ w := by
  unfold State.fld State.setFld
  rw [State.raw_setRaw_same]
  obtain ⟨d, e⟩ := Nat.exists_eq_add_of_le h
  have : ∀ y, bits (y % 2 ^ 64) lo w = bits y lo w := fun y => by
    unfold bits
    rw [e, show 2 ^ (lo + w + d) = 2 ^ lo * (2 ^ w * 2 ^ d) by simp only [Nat.pow_add, Nat.mul_assoc], Nat.mod_mul_right_div_self,
      Nat.mod_mul_right_mod]
  rw [this, bits_setBits_same]

/-- A field set leaves every other register. -/
theorem State.raw_setFld_other (s : State) (a lo w v b : Nat) (h : b ≠ a) : (s.setFld a lo w v).raw b = s.raw b :=
  State.raw_setRaw_other s a b _ h

end Sys2Proof.Machine
end

