-- ==== Sys2Proof/Laws/Resets.lean ====
section
/-! SUPPORT. What a reset of the package keeps (R531, Table CRU-3), and what it leaves of each part. -/

namespace Sys2Proof.Machine

theorem Kept.refl (s : State) : Kept s s := (Flows.refl (b := 0) s).toKept

theorem Kept.trans {s t u : State} (h : Kept s t) (k : Kept t u) : Kept s u :=
  ⟨k.queue.trans h.queue, fun q => k.canon (h.canon q), fun q => k.bounds (h.bounds q), fun q => k.mems (h.mems q), k.record.trans h.record,
    fun q => k.synced (h.synced q), fun q => Nat.le_trans (h.rollback q) (k.rollback (h.synced q)), Nat.le_trans h.draws k.draws⟩

/-- The mailboxes of a node from reset are in canonical form. -/
theorem memsWf_reset (h : HostSt) : memsWf (hostAfter h) = true := by
  show memsWf { HostSt.reset with out := h.out, flitMode := h.flitMode } = true
  unfold memsWf HostSt.reset
  simp only [Bool.and_eq_true]
  exact ⟨rfl, by decide +kernel⟩

theorem gaugeAfter_bounded {g : GaugeSt} (cold : Bool) (h : gaugeBounded g = true) : gaugeBounded (gaugeAfter g cold) = true := by
  cases cold with
  | true => rfl
  | false =>
    simp only [gaugeBounded, Bool.and_eq_true, decide_eq_true_eq] at h
    simp only [gaugeAfter, gaugeBounded, GaugeSt.reset, Bool.false_eq_true, if_false, Bool.and_eq_true, decide_eq_true_eq, List.length_map]
    exact ⟨rfl, h.2⟩

/-- A reset of the package keeps what every command keeps. -/
theorem Kept.packageReset {s t : State} {typ cause recovery pins : Nat} (h : Kept s t) : Kept s (t.packageReset typ cause recovery pins) := by
  refine h.trans ?_
  have key : ∀ (b : Bool) (u : State), u.pending = t.pending → u.regs = ⟨[], []⟩ → u.gauge = gaugeAfter t.gauge b → memsWf u.host = true →
      u.weir.mfg = t.weir.mfg → u.weir.record = t.weir.record → u.weir.stateLog = t.weir.stateLog → t.freeCtr ≤ u.freeCtr → Kept t u := by
    intro b u h1 h2 h3 h4 h5 h6 h6' h7
    exact ⟨h1, fun _ => by rw [h2]; rfl, fun q => by rw [h3]; exact gaugeAfter_bounded b q, fun _ => h4, h5,
      fun q => by unfold recordSynced; rw [h6, h6']; exact q, fun _ => Nat.le_of_eq (congrArg _ h6.symm), h7⟩
  unfold State.packageReset
  dsimp only
  have k1 := key (decide (typ = rstCold))
  split
  · split
    · exact k1 _ rfl rfl rfl (memsWf_reset t.host) rfl rfl rfl (Nat.le_succ _)
    · exact k1 _ rfl rfl rfl (memsWf_reset _) rfl rfl rfl (Nat.le_succ _)
  · refine Kept.trans ?_ (Flows.quarantine (w0 := 2 ^ 14 - 1) (Flows.refl _) (by decide)).toKept
    split
    · exact k1 _ rfl rfl rfl (memsWf_reset t.host) rfl rfl rfl (Nat.le_succ _)
    · exact k1 _ rfl rfl rfl (memsWf_reset _) rfl rfl rfl (Nat.le_succ _)

end Sys2Proof.Machine
end

