-- ==== Sys2Proof/Laws/State.lean ====
section
/-! SUPPORT. What each update of State leaves in each field: one lemma per field per update. -/

namespace Sys2Proof.Machine

/-! ### `State.host!` -/

@[simp] theorem State.host_upd_pending (s : State) (f : HostSt → HostSt) : (s.host! f).pending = s.pending := rfl
@[simp] theorem State.host_upd_now (s : State) (f : HostSt → HostSt) : (s.host! f).now = s.now := rfl
@[simp] theorem State.host_upd_freeCtr (s : State) (f : HostSt → HostSt) : (s.host! f).freeCtr = s.freeCtr := rfl
@[simp] theorem State.host_upd_host (s : State) (f : HostSt → HostSt) : (s.host! f).host = f s.host := rfl
@[simp] theorem State.host_upd_regs (s : State) (f : HostSt → HostSt) : (s.host! f).regs = s.regs := rfl
@[simp] theorem State.host_upd_gauge (s : State) (f : HostSt → HostSt) : (s.host! f).gauge = s.gauge := rfl
@[simp] theorem State.host_upd_slc (s : State) (f : HostSt → HostSt) : (s.host! f).slc = s.slc := rfl
@[simp] theorem State.host_upd_search (s : State) (f : HostSt → HostSt) : (s.host! f).search = s.search := rfl
@[simp] theorem State.host_upd_mrc (s : State) (f : HostSt → HostSt) : (s.host! f).mrc = s.mrc := rfl
@[simp] theorem State.host_upd_ferry (s : State) (f : HostSt → HostSt) : (s.host! f).ferry = s.ferry := rfl
@[simp] theorem State.host_upd_delta (s : State) (f : HostSt → HostSt) : (s.host! f).delta = s.delta := rfl
@[simp] theorem State.host_upd_trib (s : State) (f : HostSt → HostSt) : (s.host! f).trib = s.trib := rfl
@[simp] theorem State.host_upd_weir (s : State) (f : HostSt → HostSt) : (s.host! f).weir = s.weir := rfl
@[simp] theorem State.host_upd_spw (s : State) (f : HostSt → HostSt) : (s.host! f).spw = s.spw := rfl
@[simp] theorem State.host_upd_cru (s : State) (f : HostSt → HostSt) : (s.host! f).cru = s.cru := rfl

/-! ### `State.gauge!` -/

@[simp] theorem State.gauge_upd_pending (s : State) (f : GaugeSt → GaugeSt) : (s.gauge! f).pending = s.pending := rfl
@[simp] theorem State.gauge_upd_now (s : State) (f : GaugeSt → GaugeSt) : (s.gauge! f).now = s.now := rfl
@[simp] theorem State.gauge_upd_freeCtr (s : State) (f : GaugeSt → GaugeSt) : (s.gauge! f).freeCtr = s.freeCtr := rfl
@[simp] theorem State.gauge_upd_host (s : State) (f : GaugeSt → GaugeSt) : (s.gauge! f).host = s.host := rfl
@[simp] theorem State.gauge_upd_regs (s : State) (f : GaugeSt → GaugeSt) : (s.gauge! f).regs = s.regs := rfl
@[simp] theorem State.gauge_upd_gauge (s : State) (f : GaugeSt → GaugeSt) : (s.gauge! f).gauge = f s.gauge := rfl
@[simp] theorem State.gauge_upd_slc (s : State) (f : GaugeSt → GaugeSt) : (s.gauge! f).slc = s.slc := rfl
@[simp] theorem State.gauge_upd_search (s : State) (f : GaugeSt → GaugeSt) : (s.gauge! f).search = s.search := rfl
@[simp] theorem State.gauge_upd_mrc (s : State) (f : GaugeSt → GaugeSt) : (s.gauge! f).mrc = s.mrc := rfl
@[simp] theorem State.gauge_upd_ferry (s : State) (f : GaugeSt → GaugeSt) : (s.gauge! f).ferry = s.ferry := rfl
@[simp] theorem State.gauge_upd_delta (s : State) (f : GaugeSt → GaugeSt) : (s.gauge! f).delta = s.delta := rfl
@[simp] theorem State.gauge_upd_trib (s : State) (f : GaugeSt → GaugeSt) : (s.gauge! f).trib = s.trib := rfl
@[simp] theorem State.gauge_upd_weir (s : State) (f : GaugeSt → GaugeSt) : (s.gauge! f).weir = s.weir := rfl
@[simp] theorem State.gauge_upd_spw (s : State) (f : GaugeSt → GaugeSt) : (s.gauge! f).spw = s.spw := rfl
@[simp] theorem State.gauge_upd_cru (s : State) (f : GaugeSt → GaugeSt) : (s.gauge! f).cru = s.cru := rfl

/-! ### `State.slc!` -/

@[simp] theorem State.slc_upd_pending (s : State) (f : SluiceSt → SluiceSt) : (s.slc! f).pending = s.pending := rfl
@[simp] theorem State.slc_upd_now (s : State) (f : SluiceSt → SluiceSt) : (s.slc! f).now = s.now := rfl
@[simp] theorem State.slc_upd_freeCtr (s : State) (f : SluiceSt → SluiceSt) : (s.slc! f).freeCtr = s.freeCtr := rfl
@[simp] theorem State.slc_upd_host (s : State) (f : SluiceSt → SluiceSt) : (s.slc! f).host = s.host := rfl
@[simp] theorem State.slc_upd_regs (s : State) (f : SluiceSt → SluiceSt) : (s.slc! f).regs = s.regs := rfl
@[simp] theorem State.slc_upd_gauge (s : State) (f : SluiceSt → SluiceSt) : (s.slc! f).gauge = s.gauge := rfl
@[simp] theorem State.slc_upd_slc (s : State) (f : SluiceSt → SluiceSt) : (s.slc! f).slc = f s.slc := rfl
@[simp] theorem State.slc_upd_search (s : State) (f : SluiceSt → SluiceSt) : (s.slc! f).search = s.search := rfl
@[simp] theorem State.slc_upd_mrc (s : State) (f : SluiceSt → SluiceSt) : (s.slc! f).mrc = s.mrc := rfl
@[simp] theorem State.slc_upd_ferry (s : State) (f : SluiceSt → SluiceSt) : (s.slc! f).ferry = s.ferry := rfl
@[simp] theorem State.slc_upd_delta (s : State) (f : SluiceSt → SluiceSt) : (s.slc! f).delta = s.delta := rfl
@[simp] theorem State.slc_upd_trib (s : State) (f : SluiceSt → SluiceSt) : (s.slc! f).trib = s.trib := rfl
@[simp] theorem State.slc_upd_weir (s : State) (f : SluiceSt → SluiceSt) : (s.slc! f).weir = s.weir := rfl
@[simp] theorem State.slc_upd_spw (s : State) (f : SluiceSt → SluiceSt) : (s.slc! f).spw = s.spw := rfl
@[simp] theorem State.slc_upd_cru (s : State) (f : SluiceSt → SluiceSt) : (s.slc! f).cru = s.cru := rfl

/-! ### `State.search!` -/

@[simp] theorem State.search_upd_pending (s : State) (f : SearchSt → SearchSt) : (s.search! f).pending = s.pending := rfl
@[simp] theorem State.search_upd_now (s : State) (f : SearchSt → SearchSt) : (s.search! f).now = s.now := rfl
@[simp] theorem State.search_upd_freeCtr (s : State) (f : SearchSt → SearchSt) : (s.search! f).freeCtr = s.freeCtr := rfl
@[simp] theorem State.search_upd_host (s : State) (f : SearchSt → SearchSt) : (s.search! f).host = s.host := rfl
@[simp] theorem State.search_upd_regs (s : State) (f : SearchSt → SearchSt) : (s.search! f).regs = s.regs := rfl
@[simp] theorem State.search_upd_gauge (s : State) (f : SearchSt → SearchSt) : (s.search! f).gauge = s.gauge := rfl
@[simp] theorem State.search_upd_slc (s : State) (f : SearchSt → SearchSt) : (s.search! f).slc = s.slc := rfl
@[simp] theorem State.search_upd_search (s : State) (f : SearchSt → SearchSt) : (s.search! f).search = f s.search := rfl
@[simp] theorem State.search_upd_mrc (s : State) (f : SearchSt → SearchSt) : (s.search! f).mrc = s.mrc := rfl
@[simp] theorem State.search_upd_ferry (s : State) (f : SearchSt → SearchSt) : (s.search! f).ferry = s.ferry := rfl
@[simp] theorem State.search_upd_delta (s : State) (f : SearchSt → SearchSt) : (s.search! f).delta = s.delta := rfl
@[simp] theorem State.search_upd_trib (s : State) (f : SearchSt → SearchSt) : (s.search! f).trib = s.trib := rfl
@[simp] theorem State.search_upd_weir (s : State) (f : SearchSt → SearchSt) : (s.search! f).weir = s.weir := rfl
@[simp] theorem State.search_upd_spw (s : State) (f : SearchSt → SearchSt) : (s.search! f).spw = s.spw := rfl
@[simp] theorem State.search_upd_cru (s : State) (f : SearchSt → SearchSt) : (s.search! f).cru = s.cru := rfl

/-! ### `State.mrc!` -/

@[simp] theorem State.mrc_upd_pending (s : State) (f : MrcSt → MrcSt) : (s.mrc! f).pending = s.pending := rfl
@[simp] theorem State.mrc_upd_now (s : State) (f : MrcSt → MrcSt) : (s.mrc! f).now = s.now := rfl
@[simp] theorem State.mrc_upd_freeCtr (s : State) (f : MrcSt → MrcSt) : (s.mrc! f).freeCtr = s.freeCtr := rfl
@[simp] theorem State.mrc_upd_host (s : State) (f : MrcSt → MrcSt) : (s.mrc! f).host = s.host := rfl
@[simp] theorem State.mrc_upd_regs (s : State) (f : MrcSt → MrcSt) : (s.mrc! f).regs = s.regs := rfl
@[simp] theorem State.mrc_upd_gauge (s : State) (f : MrcSt → MrcSt) : (s.mrc! f).gauge = s.gauge := rfl
@[simp] theorem State.mrc_upd_slc (s : State) (f : MrcSt → MrcSt) : (s.mrc! f).slc = s.slc := rfl
@[simp] theorem State.mrc_upd_search (s : State) (f : MrcSt → MrcSt) : (s.mrc! f).search = s.search := rfl
@[simp] theorem State.mrc_upd_mrc (s : State) (f : MrcSt → MrcSt) : (s.mrc! f).mrc = f s.mrc := rfl
@[simp] theorem State.mrc_upd_ferry (s : State) (f : MrcSt → MrcSt) : (s.mrc! f).ferry = s.ferry := rfl
@[simp] theorem State.mrc_upd_delta (s : State) (f : MrcSt → MrcSt) : (s.mrc! f).delta = s.delta := rfl
@[simp] theorem State.mrc_upd_trib (s : State) (f : MrcSt → MrcSt) : (s.mrc! f).trib = s.trib := rfl
@[simp] theorem State.mrc_upd_weir (s : State) (f : MrcSt → MrcSt) : (s.mrc! f).weir = s.weir := rfl
@[simp] theorem State.mrc_upd_spw (s : State) (f : MrcSt → MrcSt) : (s.mrc! f).spw = s.spw := rfl
@[simp] theorem State.mrc_upd_cru (s : State) (f : MrcSt → MrcSt) : (s.mrc! f).cru = s.cru := rfl

/-! ### `State.ferry!` -/

@[simp] theorem State.ferry_upd_pending (s : State) (f : FerrySt → FerrySt) : (s.ferry! f).pending = s.pending := rfl
@[simp] theorem State.ferry_upd_now (s : State) (f : FerrySt → FerrySt) : (s.ferry! f).now = s.now := rfl
@[simp] theorem State.ferry_upd_freeCtr (s : State) (f : FerrySt → FerrySt) : (s.ferry! f).freeCtr = s.freeCtr := rfl
@[simp] theorem State.ferry_upd_host (s : State) (f : FerrySt → FerrySt) : (s.ferry! f).host = s.host := rfl
@[simp] theorem State.ferry_upd_regs (s : State) (f : FerrySt → FerrySt) : (s.ferry! f).regs = s.regs := rfl
@[simp] theorem State.ferry_upd_gauge (s : State) (f : FerrySt → FerrySt) : (s.ferry! f).gauge = s.gauge := rfl
@[simp] theorem State.ferry_upd_slc (s : State) (f : FerrySt → FerrySt) : (s.ferry! f).slc = s.slc := rfl
@[simp] theorem State.ferry_upd_search (s : State) (f : FerrySt → FerrySt) : (s.ferry! f).search = s.search := rfl
@[simp] theorem State.ferry_upd_mrc (s : State) (f : FerrySt → FerrySt) : (s.ferry! f).mrc = s.mrc := rfl
@[simp] theorem State.ferry_upd_ferry (s : State) (f : FerrySt → FerrySt) : (s.ferry! f).ferry = f s.ferry := rfl
@[simp] theorem State.ferry_upd_delta (s : State) (f : FerrySt → FerrySt) : (s.ferry! f).delta = s.delta := rfl
@[simp] theorem State.ferry_upd_trib (s : State) (f : FerrySt → FerrySt) : (s.ferry! f).trib = s.trib := rfl
@[simp] theorem State.ferry_upd_weir (s : State) (f : FerrySt → FerrySt) : (s.ferry! f).weir = s.weir := rfl
@[simp] theorem State.ferry_upd_spw (s : State) (f : FerrySt → FerrySt) : (s.ferry! f).spw = s.spw := rfl
@[simp] theorem State.ferry_upd_cru (s : State) (f : FerrySt → FerrySt) : (s.ferry! f).cru = s.cru := rfl

/-! ### `State.delta!` -/

@[simp] theorem State.delta_upd_pending (s : State) (f : DeltaSt → DeltaSt) : (s.delta! f).pending = s.pending := rfl
@[simp] theorem State.delta_upd_now (s : State) (f : DeltaSt → DeltaSt) : (s.delta! f).now = s.now := rfl
@[simp] theorem State.delta_upd_freeCtr (s : State) (f : DeltaSt → DeltaSt) : (s.delta! f).freeCtr = s.freeCtr := rfl
@[simp] theorem State.delta_upd_host (s : State) (f : DeltaSt → DeltaSt) : (s.delta! f).host = s.host := rfl
@[simp] theorem State.delta_upd_regs (s : State) (f : DeltaSt → DeltaSt) : (s.delta! f).regs = s.regs := rfl
@[simp] theorem State.delta_upd_gauge (s : State) (f : DeltaSt → DeltaSt) : (s.delta! f).gauge = s.gauge := rfl
@[simp] theorem State.delta_upd_slc (s : State) (f : DeltaSt → DeltaSt) : (s.delta! f).slc = s.slc := rfl
@[simp] theorem State.delta_upd_search (s : State) (f : DeltaSt → DeltaSt) : (s.delta! f).search = s.search := rfl
@[simp] theorem State.delta_upd_mrc (s : State) (f : DeltaSt → DeltaSt) : (s.delta! f).mrc = s.mrc := rfl
@[simp] theorem State.delta_upd_ferry (s : State) (f : DeltaSt → DeltaSt) : (s.delta! f).ferry = s.ferry := rfl
@[simp] theorem State.delta_upd_delta (s : State) (f : DeltaSt → DeltaSt) : (s.delta! f).delta = f s.delta := rfl
@[simp] theorem State.delta_upd_trib (s : State) (f : DeltaSt → DeltaSt) : (s.delta! f).trib = s.trib := rfl
@[simp] theorem State.delta_upd_weir (s : State) (f : DeltaSt → DeltaSt) : (s.delta! f).weir = s.weir := rfl
@[simp] theorem State.delta_upd_spw (s : State) (f : DeltaSt → DeltaSt) : (s.delta! f).spw = s.spw := rfl
@[simp] theorem State.delta_upd_cru (s : State) (f : DeltaSt → DeltaSt) : (s.delta! f).cru = s.cru := rfl

/-! ### `State.trib!` -/

@[simp] theorem State.trib_upd_pending (s : State) (f : TribSt → TribSt) : (s.trib! f).pending = s.pending := rfl
@[simp] theorem State.trib_upd_now (s : State) (f : TribSt → TribSt) : (s.trib! f).now = s.now := rfl
@[simp] theorem State.trib_upd_freeCtr (s : State) (f : TribSt → TribSt) : (s.trib! f).freeCtr = s.freeCtr := rfl
@[simp] theorem State.trib_upd_host (s : State) (f : TribSt → TribSt) : (s.trib! f).host = s.host := rfl
@[simp] theorem State.trib_upd_regs (s : State) (f : TribSt → TribSt) : (s.trib! f).regs = s.regs := rfl
@[simp] theorem State.trib_upd_gauge (s : State) (f : TribSt → TribSt) : (s.trib! f).gauge = s.gauge := rfl
@[simp] theorem State.trib_upd_slc (s : State) (f : TribSt → TribSt) : (s.trib! f).slc = s.slc := rfl
@[simp] theorem State.trib_upd_search (s : State) (f : TribSt → TribSt) : (s.trib! f).search = s.search := rfl
@[simp] theorem State.trib_upd_mrc (s : State) (f : TribSt → TribSt) : (s.trib! f).mrc = s.mrc := rfl
@[simp] theorem State.trib_upd_ferry (s : State) (f : TribSt → TribSt) : (s.trib! f).ferry = s.ferry := rfl
@[simp] theorem State.trib_upd_delta (s : State) (f : TribSt → TribSt) : (s.trib! f).delta = s.delta := rfl
@[simp] theorem State.trib_upd_trib (s : State) (f : TribSt → TribSt) : (s.trib! f).trib = f s.trib := rfl
@[simp] theorem State.trib_upd_weir (s : State) (f : TribSt → TribSt) : (s.trib! f).weir = s.weir := rfl
@[simp] theorem State.trib_upd_spw (s : State) (f : TribSt → TribSt) : (s.trib! f).spw = s.spw := rfl
@[simp] theorem State.trib_upd_cru (s : State) (f : TribSt → TribSt) : (s.trib! f).cru = s.cru := rfl

/-! ### `State.weir!` -/

@[simp] theorem State.weir_upd_pending (s : State) (f : WeirSt → WeirSt) : (s.weir! f).pending = s.pending := rfl
@[simp] theorem State.weir_upd_now (s : State) (f : WeirSt → WeirSt) : (s.weir! f).now = s.now := rfl
@[simp] theorem State.weir_upd_freeCtr (s : State) (f : WeirSt → WeirSt) : (s.weir! f).freeCtr = s.freeCtr := rfl
@[simp] theorem State.weir_upd_host (s : State) (f : WeirSt → WeirSt) : (s.weir! f).host = s.host := rfl
@[simp] theorem State.weir_upd_regs (s : State) (f : WeirSt → WeirSt) : (s.weir! f).regs = s.regs := rfl
@[simp] theorem State.weir_upd_gauge (s : State) (f : WeirSt → WeirSt) : (s.weir! f).gauge = s.gauge := rfl
@[simp] theorem State.weir_upd_slc (s : State) (f : WeirSt → WeirSt) : (s.weir! f).slc = s.slc := rfl
@[simp] theorem State.weir_upd_search (s : State) (f : WeirSt → WeirSt) : (s.weir! f).search = s.search := rfl
@[simp] theorem State.weir_upd_mrc (s : State) (f : WeirSt → WeirSt) : (s.weir! f).mrc = s.mrc := rfl
@[simp] theorem State.weir_upd_ferry (s : State) (f : WeirSt → WeirSt) : (s.weir! f).ferry = s.ferry := rfl
@[simp] theorem State.weir_upd_delta (s : State) (f : WeirSt → WeirSt) : (s.weir! f).delta = s.delta := rfl
@[simp] theorem State.weir_upd_trib (s : State) (f : WeirSt → WeirSt) : (s.weir! f).trib = s.trib := rfl
@[simp] theorem State.weir_upd_weir (s : State) (f : WeirSt → WeirSt) : (s.weir! f).weir = f s.weir := rfl
@[simp] theorem State.weir_upd_spw (s : State) (f : WeirSt → WeirSt) : (s.weir! f).spw = s.spw := rfl
@[simp] theorem State.weir_upd_cru (s : State) (f : WeirSt → WeirSt) : (s.weir! f).cru = s.cru := rfl

/-! ### `State.spw!` -/

@[simp] theorem State.spw_upd_pending (s : State) (f : SpwSt → SpwSt) : (s.spw! f).pending = s.pending := rfl
@[simp] theorem State.spw_upd_now (s : State) (f : SpwSt → SpwSt) : (s.spw! f).now = s.now := rfl
@[simp] theorem State.spw_upd_freeCtr (s : State) (f : SpwSt → SpwSt) : (s.spw! f).freeCtr = s.freeCtr := rfl
@[simp] theorem State.spw_upd_host (s : State) (f : SpwSt → SpwSt) : (s.spw! f).host = s.host := rfl
@[simp] theorem State.spw_upd_regs (s : State) (f : SpwSt → SpwSt) : (s.spw! f).regs = s.regs := rfl
@[simp] theorem State.spw_upd_gauge (s : State) (f : SpwSt → SpwSt) : (s.spw! f).gauge = s.gauge := rfl
@[simp] theorem State.spw_upd_slc (s : State) (f : SpwSt → SpwSt) : (s.spw! f).slc = s.slc := rfl
@[simp] theorem State.spw_upd_search (s : State) (f : SpwSt → SpwSt) : (s.spw! f).search = s.search := rfl
@[simp] theorem State.spw_upd_mrc (s : State) (f : SpwSt → SpwSt) : (s.spw! f).mrc = s.mrc := rfl
@[simp] theorem State.spw_upd_ferry (s : State) (f : SpwSt → SpwSt) : (s.spw! f).ferry = s.ferry := rfl
@[simp] theorem State.spw_upd_delta (s : State) (f : SpwSt → SpwSt) : (s.spw! f).delta = s.delta := rfl
@[simp] theorem State.spw_upd_trib (s : State) (f : SpwSt → SpwSt) : (s.spw! f).trib = s.trib := rfl
@[simp] theorem State.spw_upd_weir (s : State) (f : SpwSt → SpwSt) : (s.spw! f).weir = s.weir := rfl
@[simp] theorem State.spw_upd_spw (s : State) (f : SpwSt → SpwSt) : (s.spw! f).spw = f s.spw := rfl
@[simp] theorem State.spw_upd_cru (s : State) (f : SpwSt → SpwSt) : (s.spw! f).cru = s.cru := rfl

/-! ### `State.cru!` -/

@[simp] theorem State.cru_upd_pending (s : State) (f : CruSt → CruSt) : (s.cru! f).pending = s.pending := rfl
@[simp] theorem State.cru_upd_now (s : State) (f : CruSt → CruSt) : (s.cru! f).now = s.now := rfl
@[simp] theorem State.cru_upd_freeCtr (s : State) (f : CruSt → CruSt) : (s.cru! f).freeCtr = s.freeCtr := rfl
@[simp] theorem State.cru_upd_host (s : State) (f : CruSt → CruSt) : (s.cru! f).host = s.host := rfl
@[simp] theorem State.cru_upd_regs (s : State) (f : CruSt → CruSt) : (s.cru! f).regs = s.regs := rfl
@[simp] theorem State.cru_upd_gauge (s : State) (f : CruSt → CruSt) : (s.cru! f).gauge = s.gauge := rfl
@[simp] theorem State.cru_upd_slc (s : State) (f : CruSt → CruSt) : (s.cru! f).slc = s.slc := rfl
@[simp] theorem State.cru_upd_search (s : State) (f : CruSt → CruSt) : (s.cru! f).search = s.search := rfl
@[simp] theorem State.cru_upd_mrc (s : State) (f : CruSt → CruSt) : (s.cru! f).mrc = s.mrc := rfl
@[simp] theorem State.cru_upd_ferry (s : State) (f : CruSt → CruSt) : (s.cru! f).ferry = s.ferry := rfl
@[simp] theorem State.cru_upd_delta (s : State) (f : CruSt → CruSt) : (s.cru! f).delta = s.delta := rfl
@[simp] theorem State.cru_upd_trib (s : State) (f : CruSt → CruSt) : (s.cru! f).trib = s.trib := rfl
@[simp] theorem State.cru_upd_weir (s : State) (f : CruSt → CruSt) : (s.cru! f).weir = s.weir := rfl
@[simp] theorem State.cru_upd_spw (s : State) (f : CruSt → CruSt) : (s.cru! f).spw = s.spw := rfl
@[simp] theorem State.cru_upd_cru (s : State) (f : CruSt → CruSt) : (s.cru! f).cru = f s.cru := rfl

/-! ### `s.setRaw a v` -/

@[simp] theorem State.setRaw_pending (s : State) (a v : Nat) : (s.setRaw a v).pending = s.pending := rfl
@[simp] theorem State.setRaw_now (s : State) (a v : Nat) : (s.setRaw a v).now = s.now := rfl
@[simp] theorem State.setRaw_freeCtr (s : State) (a v : Nat) : (s.setRaw a v).freeCtr = s.freeCtr := rfl
@[simp] theorem State.setRaw_host (s : State) (a v : Nat) : (s.setRaw a v).host = s.host := rfl
@[simp] theorem State.setRaw_gauge (s : State) (a v : Nat) : (s.setRaw a v).gauge = s.gauge := rfl
@[simp] theorem State.setRaw_slc (s : State) (a v : Nat) : (s.setRaw a v).slc = s.slc := rfl
@[simp] theorem State.setRaw_search (s : State) (a v : Nat) : (s.setRaw a v).search = s.search := rfl
@[simp] theorem State.setRaw_mrc (s : State) (a v : Nat) : (s.setRaw a v).mrc = s.mrc := rfl
@[simp] theorem State.setRaw_ferry (s : State) (a v : Nat) : (s.setRaw a v).ferry = s.ferry := rfl
@[simp] theorem State.setRaw_delta (s : State) (a v : Nat) : (s.setRaw a v).delta = s.delta := rfl
@[simp] theorem State.setRaw_trib (s : State) (a v : Nat) : (s.setRaw a v).trib = s.trib := rfl
@[simp] theorem State.setRaw_weir (s : State) (a v : Nat) : (s.setRaw a v).weir = s.weir := rfl
@[simp] theorem State.setRaw_spw (s : State) (a v : Nat) : (s.setRaw a v).spw = s.spw := rfl
@[simp] theorem State.setRaw_cru (s : State) (a v : Nat) : (s.setRaw a v).cru = s.cru := rfl

/-! ### `s.setFld a lo w v` -/

@[simp] theorem State.setFld_pending (s : State) (a lo w v : Nat) : (s.setFld a lo w v).pending = s.pending := rfl
@[simp] theorem State.setFld_now (s : State) (a lo w v : Nat) : (s.setFld a lo w v).now = s.now := rfl
@[simp] theorem State.setFld_freeCtr (s : State) (a lo w v : Nat) : (s.setFld a lo w v).freeCtr = s.freeCtr := rfl
@[simp] theorem State.setFld_host (s : State) (a lo w v : Nat) : (s.setFld a lo w v).host = s.host := rfl
@[simp] theorem State.setFld_gauge (s : State) (a lo w v : Nat) : (s.setFld a lo w v).gauge = s.gauge := rfl
@[simp] theorem State.setFld_slc (s : State) (a lo w v : Nat) : (s.setFld a lo w v).slc = s.slc := rfl
@[simp] theorem State.setFld_search (s : State) (a lo w v : Nat) : (s.setFld a lo w v).search = s.search := rfl
@[simp] theorem State.setFld_mrc (s : State) (a lo w v : Nat) : (s.setFld a lo w v).mrc = s.mrc := rfl
@[simp] theorem State.setFld_ferry (s : State) (a lo w v : Nat) : (s.setFld a lo w v).ferry = s.ferry := rfl
@[simp] theorem State.setFld_delta (s : State) (a lo w v : Nat) : (s.setFld a lo w v).delta = s.delta := rfl
@[simp] theorem State.setFld_trib (s : State) (a lo w v : Nat) : (s.setFld a lo w v).trib = s.trib := rfl
@[simp] theorem State.setFld_weir (s : State) (a lo w v : Nat) : (s.setFld a lo w v).weir = s.weir := rfl
@[simp] theorem State.setFld_spw (s : State) (a lo w v : Nat) : (s.setFld a lo w v).spw = s.spw := rfl
@[simp] theorem State.setFld_cru (s : State) (a lo w v : Nat) : (s.setFld a lo w v).cru = s.cru := rfl

/-! ### `s.count base i n` -/

@[simp] theorem State.count_pending (s : State) (base i n : Nat) : (s.count base i n).pending = s.pending := rfl
@[simp] theorem State.count_now (s : State) (base i n : Nat) : (s.count base i n).now = s.now := rfl
@[simp] theorem State.count_freeCtr (s : State) (base i n : Nat) : (s.count base i n).freeCtr = s.freeCtr := rfl
@[simp] theorem State.count_host (s : State) (base i n : Nat) : (s.count base i n).host = s.host := rfl
@[simp] theorem State.count_gauge (s : State) (base i n : Nat) : (s.count base i n).gauge = s.gauge := rfl
@[simp] theorem State.count_slc (s : State) (base i n : Nat) : (s.count base i n).slc = s.slc := rfl
@[simp] theorem State.count_search (s : State) (base i n : Nat) : (s.count base i n).search = s.search := rfl
@[simp] theorem State.count_mrc (s : State) (base i n : Nat) : (s.count base i n).mrc = s.mrc := rfl
@[simp] theorem State.count_ferry (s : State) (base i n : Nat) : (s.count base i n).ferry = s.ferry := rfl
@[simp] theorem State.count_delta (s : State) (base i n : Nat) : (s.count base i n).delta = s.delta := rfl
@[simp] theorem State.count_trib (s : State) (base i n : Nat) : (s.count base i n).trib = s.trib := rfl
@[simp] theorem State.count_weir (s : State) (base i n : Nat) : (s.count base i n).weir = s.weir := rfl
@[simp] theorem State.count_spw (s : State) (base i n : Nat) : (s.count base i n).spw = s.spw := rfl
@[simp] theorem State.count_cru (s : State) (base i n : Nat) : (s.count base i n).cru = s.cru := rfl

/-! ### `s.reach t` -/

@[simp] theorem State.reach_pending (s : State) (t : Nat) : (s.reach t).pending = s.pending := rfl
@[simp] theorem State.reach_freeCtr (s : State) (t : Nat) : (s.reach t).freeCtr = s.freeCtr := rfl
@[simp] theorem State.reach_host (s : State) (t : Nat) : (s.reach t).host = s.host := rfl
@[simp] theorem State.reach_regs (s : State) (t : Nat) : (s.reach t).regs = s.regs := rfl
@[simp] theorem State.reach_gauge (s : State) (t : Nat) : (s.reach t).gauge = s.gauge := rfl
@[simp] theorem State.reach_slc (s : State) (t : Nat) : (s.reach t).slc = s.slc := rfl
@[simp] theorem State.reach_search (s : State) (t : Nat) : (s.reach t).search = s.search := rfl
@[simp] theorem State.reach_mrc (s : State) (t : Nat) : (s.reach t).mrc = s.mrc := rfl
@[simp] theorem State.reach_ferry (s : State) (t : Nat) : (s.reach t).ferry = s.ferry := rfl
@[simp] theorem State.reach_delta (s : State) (t : Nat) : (s.reach t).delta = s.delta := rfl
@[simp] theorem State.reach_trib (s : State) (t : Nat) : (s.reach t).trib = s.trib := rfl
@[simp] theorem State.reach_weir (s : State) (t : Nat) : (s.reach t).weir = s.weir := rfl
@[simp] theorem State.reach_spw (s : State) (t : Nat) : (s.reach t).spw = s.spw := rfl
@[simp] theorem State.reach_cru (s : State) (t : Nat) : (s.reach t).cru = s.cru := rfl

/-! ### `s.box! mb f` -/

@[simp] theorem State.box_upd_pending (s : State) (mb : Nat) (f : Mailbox → Mailbox) : (s.box! mb f).pending = s.pending := rfl
@[simp] theorem State.box_upd_now (s : State) (mb : Nat) (f : Mailbox → Mailbox) : (s.box! mb f).now = s.now := rfl
@[simp] theorem State.box_upd_freeCtr (s : State) (mb : Nat) (f : Mailbox → Mailbox) : (s.box! mb f).freeCtr = s.freeCtr := rfl
@[simp] theorem State.box_upd_regs (s : State) (mb : Nat) (f : Mailbox → Mailbox) : (s.box! mb f).regs = s.regs := rfl
@[simp] theorem State.box_upd_gauge (s : State) (mb : Nat) (f : Mailbox → Mailbox) : (s.box! mb f).gauge = s.gauge := rfl
@[simp] theorem State.box_upd_slc (s : State) (mb : Nat) (f : Mailbox → Mailbox) : (s.box! mb f).slc = s.slc := rfl
@[simp] theorem State.box_upd_search (s : State) (mb : Nat) (f : Mailbox → Mailbox) : (s.box! mb f).search = s.search := rfl
@[simp] theorem State.box_upd_mrc (s : State) (mb : Nat) (f : Mailbox → Mailbox) : (s.box! mb f).mrc = s.mrc := rfl
@[simp] theorem State.box_upd_ferry (s : State) (mb : Nat) (f : Mailbox → Mailbox) : (s.box! mb f).ferry = s.ferry := rfl
@[simp] theorem State.box_upd_delta (s : State) (mb : Nat) (f : Mailbox → Mailbox) : (s.box! mb f).delta = s.delta := rfl
@[simp] theorem State.box_upd_trib (s : State) (mb : Nat) (f : Mailbox → Mailbox) : (s.box! mb f).trib = s.trib := rfl
@[simp] theorem State.box_upd_weir (s : State) (mb : Nat) (f : Mailbox → Mailbox) : (s.box! mb f).weir = s.weir := rfl
@[simp] theorem State.box_upd_spw (s : State) (mb : Nat) (f : Mailbox → Mailbox) : (s.box! mb f).spw = s.spw := rfl
@[simp] theorem State.box_upd_cru (s : State) (mb : Nat) (f : Mailbox → Mailbox) : (s.box! mb f).cru = s.cru := rfl

/-! ### `s.func! fn f` -/

@[simp] theorem State.func_upd_pending (s : State) (fn : Nat) (f : Func → Func) : (s.func! fn f).pending = s.pending := rfl
@[simp] theorem State.func_upd_now (s : State) (fn : Nat) (f : Func → Func) : (s.func! fn f).now = s.now := rfl
@[simp] theorem State.func_upd_freeCtr (s : State) (fn : Nat) (f : Func → Func) : (s.func! fn f).freeCtr = s.freeCtr := rfl
@[simp] theorem State.func_upd_regs (s : State) (fn : Nat) (f : Func → Func) : (s.func! fn f).regs = s.regs := rfl
@[simp] theorem State.func_upd_gauge (s : State) (fn : Nat) (f : Func → Func) : (s.func! fn f).gauge = s.gauge := rfl
@[simp] theorem State.func_upd_slc (s : State) (fn : Nat) (f : Func → Func) : (s.func! fn f).slc = s.slc := rfl
@[simp] theorem State.func_upd_search (s : State) (fn : Nat) (f : Func → Func) : (s.func! fn f).search = s.search := rfl
@[simp] theorem State.func_upd_mrc (s : State) (fn : Nat) (f : Func → Func) : (s.func! fn f).mrc = s.mrc := rfl
@[simp] theorem State.func_upd_ferry (s : State) (fn : Nat) (f : Func → Func) : (s.func! fn f).ferry = s.ferry := rfl
@[simp] theorem State.func_upd_delta (s : State) (fn : Nat) (f : Func → Func) : (s.func! fn f).delta = s.delta := rfl
@[simp] theorem State.func_upd_trib (s : State) (fn : Nat) (f : Func → Func) : (s.func! fn f).trib = s.trib := rfl
@[simp] theorem State.func_upd_weir (s : State) (fn : Nat) (f : Func → Func) : (s.func! fn f).weir = s.weir := rfl
@[simp] theorem State.func_upd_spw (s : State) (fn : Nat) (f : Func → Func) : (s.func! fn f).spw = s.spw := rfl
@[simp] theorem State.func_upd_cru (s : State) (fn : Nat) (f : Func → Func) : (s.func! fn f).cru = s.cru := rfl

/-! ### `s.drive e` -/

@[simp] theorem State.drive_pending (s : State) (e : HostEvt) : (s.drive e).pending = s.pending := rfl
@[simp] theorem State.drive_now (s : State) (e : HostEvt) : (s.drive e).now = s.now := rfl
@[simp] theorem State.drive_freeCtr (s : State) (e : HostEvt) : (s.drive e).freeCtr = s.freeCtr := rfl
@[simp] theorem State.drive_regs (s : State) (e : HostEvt) : (s.drive e).regs = s.regs := rfl
@[simp] theorem State.drive_gauge (s : State) (e : HostEvt) : (s.drive e).gauge = s.gauge := rfl
@[simp] theorem State.drive_slc (s : State) (e : HostEvt) : (s.drive e).slc = s.slc := rfl
@[simp] theorem State.drive_search (s : State) (e : HostEvt) : (s.drive e).search = s.search := rfl
@[simp] theorem State.drive_mrc (s : State) (e : HostEvt) : (s.drive e).mrc = s.mrc := rfl
@[simp] theorem State.drive_ferry (s : State) (e : HostEvt) : (s.drive e).ferry = s.ferry := rfl
@[simp] theorem State.drive_delta (s : State) (e : HostEvt) : (s.drive e).delta = s.delta := rfl
@[simp] theorem State.drive_trib (s : State) (e : HostEvt) : (s.drive e).trib = s.trib := rfl
@[simp] theorem State.drive_weir (s : State) (e : HostEvt) : (s.drive e).weir = s.weir := rfl
@[simp] theorem State.drive_spw (s : State) (e : HostEvt) : (s.drive e).spw = s.spw := rfl
@[simp] theorem State.drive_cru (s : State) (e : HostEvt) : (s.drive e).cru = s.cru := rfl

@[simp] theorem State.setRaw_shadows (s : State) (a v : Nat) : (s.setRaw a v).regs.shadows = s.regs.shadows := rfl
@[simp] theorem State.reach_now (s : State) (t : Nat) : (s.reach t).now = Nat.max s.now t := rfl
@[simp] theorem State.drive_out (s : State) (e : HostEvt) : (s.drive e).host.out = s.host.out ++ [e] := rfl
@[simp] theorem State.box_count (s : State) (base i n mb : Nat) : (s.count base i n).box mb = s.box mb := rfl
@[simp] theorem State.func_count (s : State) (base i n fn : Nat) : (s.count base i n).func fn = s.func fn := rfl
@[simp] theorem State.raw_box_upd (s : State) (mb a : Nat) (f : Mailbox → Mailbox) : (s.box! mb f).raw a = s.raw a := rfl
@[simp] theorem State.box_upd_out (s : State) (mb : Nat) (f : Mailbox → Mailbox) : (s.box! mb f).host.out = s.host.out := rfl
@[simp] theorem State.box_upd_funcs (s : State) (mb : Nat) (f : Mailbox → Mailbox) : (s.box! mb f).host.funcs = s.host.funcs := rfl

/-- A mailbox updated is the mailbox read, where the node has it. -/
theorem State.box_box_upd (s : State) (mb : Nat) (f : Mailbox → Mailbox) (h : (Tbl.find mb s.host.boxes).isSome = true) :
    (s.box! mb f).box mb = f (s.box mb) := by
  simp only [State.box!, State.host!, State.box, Tbl.getD, Tbl.find_upd_same]
  cases hx : Tbl.find mb s.host.boxes with
  | none => rw [hx] at h; exact absurd h (by decide)
  | some b => rfl

/-- An update of a mailbox leaves every other. -/
theorem State.box_box_upd_other (s : State) (mb n : Nat) (f : Mailbox → Mailbox) (h : n ≠ mb) : (s.box! mb f).box n = s.box n := by
  simp only [State.box!, State.host!, State.box, Tbl.getD, Tbl.find_upd_other mb n f _ h]

/-- No update of a mailbox takes one away. -/
theorem State.has_box_upd (s : State) (mb n : Nat) (f : Mailbox → Mailbox) :
    (Tbl.find n (s.box! mb f).host.boxes).isSome = (Tbl.find n s.host.boxes).isSome := by
  simp only [State.box!, State.host!]
  by_cases h : n = mb
  · subst h; rw [Tbl.find_upd_same]; simp
  · rw [Tbl.find_upd_other _ _ _ _ h]

/-- The host sees nothing, or one more event, of what a function issues; nothing but the host side changes. -/
theorem State.emit_cases (s : State) (fn : Nat) (e : HostEvt) :
    s.emit fn e = s ∨ s.emit fn e = s.func! fn (fun f => { f with waiting := f.waiting ++ [e] }) ∨ s.emit fn e = s.drive e := by
  unfold State.emit
  split
  · exact .inl rfl
  · split
    · exact .inl rfl
    · split
      · exact .inr (.inl rfl)
      · exact .inr (.inr rfl)

/-- In quarantine nothing is issued (R461). -/
theorem State.emit_quarantined (s : State) (fn : Nat) (e : HostEvt) (h : s.weir.state = .quarantined) : s.emit fn e = s := by
  unfold State.emit; rw [if_pos (.inl h)]

/-- While Bus Master Enable is 0 an event waits (R460). -/
theorem State.emit_waits (s : State) (fn : Nat) (e : HostEvt) (h : s.weir.state ≠ .quarantined) (h1 : s.cru.held = false)
    (h2 : (s.func fn).suppressed = false) (h3 : (s.func fn).busMaster = false) :
    s.emit fn e = s.func! fn (fun f => { f with waiting := f.waiting ++ [e] }) := by
  unfold State.emit; simp [h, h1, h2, h3]

/-- A function that may issue sends the event. -/
theorem State.emit_sends (s : State) (fn : Nat) (e : HostEvt) (h : s.weir.state ≠ .quarantined) (h1 : s.cru.held = false)
    (h2 : (s.func fn).suppressed = false) (h3 : (s.func fn).busMaster = true) : s.emit fn e = s.drive e := by
  unfold State.emit; simp [h, h1, h2, h3]; rfl

end Sys2Proof.Machine
end

