-- ==== Sys2Proof/Tests/Slice0.lean ====
section
/-! SUPPORT. Witnesses that every statement's hypotheses can be met (witness_<statement>), commands that are not well formed, and the spec's worked examples. -/

set_option Elab.async false

open Sys2Proof Sys2Proof.Machine Sys2Proof.Claims

namespace Sys2Proof.Tests

/-- Bytes of `len` with little-endian fields (offset, width, value). -/
def fields (len : Nat) (fs : List (Nat × Nat × Nat)) : List Byte :=
  Mem.readBytes (fs.foldl (fun m f => Mem.writeBytes m f.1 (le f.2.1 f.2.2)) []) 0 len

/-- A message of a mailbox, on behalf of no composition, with a reply area of 1 MiB at 0. -/
def msg (mb op : Nat) (p : List Byte) : Msg :=
  ⟨mb, 1, fields 32 [(0, 2, op), (2, 2, p.length), (4, 1, 0xFF), (24, 4, 0x100000)], p, 0⟩

/-- A running SN4-256. -/
def up : State :=
  { State.reset with
    weir := { WeirSt.reset with state := .running, bootStep := 7, identity := true }
    host := { HostSt.reset with nodeState := .running, linkUp := true, vfEnable := true, boxes := tblOf 65 { boxReset with state := .free } } }

/-- The state with one message in a mailbox that Headwater has taken. -/
def posted (s : State) (mb op : Nat) (p : List Byte) : State := s.box! mb (fun b => { b with inbox := [msg mb op p] })

theorem box_posted (s : State) (mb op : Nat) (p : List Byte) (h : Tbl.has mb s.host.boxes = true) :
    ((posted s mb op p).box mb).inbox = [msg mb op p] := by
  unfold posted; rw [State.box_box_upd _ _ _ h]

theorem got (s : State) (mb op : Nat) (p : List Byte) (h : Tbl.has mb s.host.boxes = true) (ho : (msg mb op p).opcode = op) :
    (posted s mb op p).next? mb op =
      some ({ msg mb op p with admitNs := s.now }, (posted s mb op p).box! mb (fun b => { b with inbox := [] })) := by
  unfold State.next?; rw [box_posted s mb op p h]; dsimp only; rw [if_pos ho]; rfl

/-- A buffer object of 64 KiB. -/
def winObj : Obj := ⟨.buffer 1, 65536, [], false, none, [], none⟩

/-- The admin role holds a buffer object, which the BAR2 window shows. -/
def winUp : State := (up.setRaw Reg.HWD_WIN 1).slc! (fun x => { x with objs := [(objKey 64 0, winObj)] })

/-- A slice record (Table SLC-4) of composition `c`: every core group and channel group, quotas of 100 GiB and 1,000 GB. -/
def sliceRec (c : Byte) : List Byte :=
  [c, 8, 100, 0, 0xFF, 0xFF, 0, 0, 1, 0, 0xFF, 3, 4, 0, 0, 0, 0xFF, 0xFF, 0xFF, 0xFF, 100, 0, 100, 0, 0xFF, 0, 0, 0, 0xFF, 0xFF, 0xFF, 0xFF,
    0xE8, 3, 0, 0, 100, 0, 0, 0, 100, 0, 0, 0, 0, 0, 0, 0] ++ zeros 16

/-- Composition 0, whose map (version 1, cut to its first two buckets) spreads rows over nodes 0 and 1. -/
def comp0 : Comp := ⟨sliceRec 0, 1, [0, 1], true, 0, false, 0, 0, 0, 0, none, none, 0⟩

/-- A descriptor (Table COL-2): 64 dimensions, inner product, CODE4, BF16, span 2, room for 1,024 rows. -/
def desc0 : Desc := ⟨zeros 32 ++ [64, 0, 0, 0, 0, 0, 0, 0, 2, 0, 0, 0, 0, 0, 0, 0, 0, 4] ++ zeros 14 ++ List.replicate 64 0xFF⟩

/-- Collection 0 of composition 0, just created on its epoch home. -/
def coll0 : Coll := { Coll.fresh 0 0 desc0 0x55 0 (some EpochHome.fresh) with defaultRow := zeros 128 }

/-- A live row 4 of reach 0, linked, committed at epoch 1. -/
def slot0 : Slot :=
  { rowId := 4, insEpoch := 1, delEpoch := allOnes, version := 1, gen := 0, state := .live, link := .linked, width := 0, damaged := false, payload := 0,
    fwdNode := 0, fwdSlot := 0, reach := 0, ref := zeros 128, code := zeros 32, side := zeros 4, outl := [], codeLost := false, edges := [],
    edgeLost := false, access := 0, recoded := false, lsn := 0 }

/-- Reach 0 of catchment 0, in cell 0. -/
def reach0 : Reach := ⟨0, List.replicate 64 0, 0, 0, 0, 0, 0, 0, false⟩

/-- Collection 0 with one row. -/
def collRow : Coll :=
  { coll0 with reaches := [(0, reach0)], catches := [(0, ⟨List.replicate 64 0, 0, 0, 0, some 0, 0, 0, false⟩)], slots := [(0, slot0)], index := [(4, 0)], lastEpoch := 1 }

/-- A running node with composition 0 and one collection of it. -/
def one (c : Coll) : State :=
  { up with
    slc := { SluiceSt.reset with comps := [(0, comp0)] }
    search := { SearchSt.reset with colls := [(0, c)] }
    weir := { up.weir with flashKeys := [(0, 0x55)] }
    delta := { DeltaSt.reset with phase := .running, chans := [(0, ⟨.up, [0, 1, 2, 3], [0, 1, 2, 3], 0, 0⟩)] } }

/-- A message half in the window of the admin mailbox: opcode, 8 bytes of payload, REPLY_LEN. -/
def pend (op replyLen : Nat) : State :=
  up.box! 64 (fun b => { b with
    state := .pending
    window := Mem.writeBytes [] 0 (fields 32 [(0, 2, op), (2, 2, 8), (4, 1, 0xFF), (5, 1, 0xFF), (24, 4, replyLen)]) })

/-- A transport on which session 1 is established and an exchange is under way. -/
def spdmState (port : Nat) : State :=
  (one coll0).weir! (fun w => { w with
    flashKeys := []
    spdm := [(port, ⟨true, true, true, [1], [1], [1], 2, []⟩)] })

/-- An entry of the key table for key 7 of composition 0's tenant. -/
def keyEnt : KeyEnt := ⟨7, 100, false, keyCheck ((one coll0).flashKey 7 100 (zeros 32))⟩

/-- Composition 0 without a flash key, and that entry. -/
def keyed : State := (one coll0).weir! (fun w => { w with flashKeys := [], keyTable := [keyEnt] })

/-- A buffer object of `n` bytes. -/
def bufOf (n : Nat) : Obj := ⟨.buffer 1, n, [], false, none, [], none⟩
theorem bufOf_bytes (n : Nat) : (bufOf n).bytes = n := rfl

/-- A buffer that COUNTER_SNAPSHOT just fills. -/
def snapObj : Obj := bufOf (16 + 16 * counterAddrs.length)
def snapUp : State := up.slc! (fun x => { x with objs := [(objKey 64 0, snapObj)] })

theorem snap_fits (m : Msg) (h : m.p 8 8 = 0) : m.p 8 8 + (16 + 16 * counterAddrs.length) ≤ snapObj.bytes := by
  exact Nat.le_of_eq (by rw [snapObj, h, Nat.zero_add, bufOf_bytes])

theorem keyEnt_check (t : State) (m : Msg) (h1 : t.weir.pufRoot = zeros 32) (h2 : m.p 8 8 = 7) (h3 : t.secretOf (m.p 0 1) = zeros 32) :
    keyEnt.check = keyCheck (t.flashKey (m.p 8 8) comp0.tenant (t.secretOf (m.p 0 1))) := by
  rw [h2, h3, show comp0.tenant = 100 from by decide +kernel]
  unfold keyEnt State.flashKey State.storageRoot
  rw [h1, show (one coll0).weir.pufRoot = zeros 32 from rfl]

/-- A running batch of composition 0. -/
def batch0 : Batch := ⟨0, 0x0401, 0, 0, some (msg 0 0x0401 (zeros 64)), 0, .active, none, some 0, [], Charge.zero, none, none, 0, [], none⟩

/-- An INSERT of row 5, homed at node 1. -/
def op0 : UpdOp :=
  { op := 1, flags := 0, reserved := false, rowId := 5, payload := 0, tag := 0, data := zeros 128, status := 0, reason := 0, version := 0, cflags := 0,
    home := 1, done := false }

/-- An update batch of collection 0 at its coordinator, whose part for node 1 is still to be sent. -/
def upd0 : UpdBatch :=
  { coll := 0, seq := 1, ops := [op0], stage := .preparing, parts := [1], sent := none, homes := [], reports := [], epoch := 0, mapVersion := 1,
    complAddr := 0, needMap := 0, migr := none, needNs := 0, replans := 0 }

/-- A prepared part of node 1's batch 1. -/
def part0 : Part :=
  { coll := 0, coord := 1, seq := 1, ops := [], state := .prepared, arrival := 0, newSlots := [], ended := [], deadline := 0, epoch := 0, split := none, room := none,
    askSent := false }

/-- Node 0 coordinates `u` as batch 1. -/
def withUpd (c : Coll) (u : UpdBatch) : State :=
  ((one c).slc! (fun x => { x with batches := [(1, batch0)], nextBatch := 2 })).search! (fun x => { x with upds := [(1, u)] })

/-- Node 0 holds a part. -/
def withPart (c : Coll) (p : Part) : State := (one c).search! (fun x => { x with parts := [p] })

/-- A query of a zero vector, that no step has been taken for. -/
def query0 : Query := Query.fresh 0 0 0 ⟨List.replicate 64 0, [], 0⟩ [] none 0 1 false 0

/-- A query batch of collection 0, led by node `lead`. -/
def qbatch0 (lead : Nat) (q : Query) : QBatch :=
  { coll := 0, lead := lead, leadBatch := 1, k := 10, aggExp := false, localOnly := false, noWarm := true, readEpoch := 1, resultAddr := 0, r1 := 1,
    peerTmoUs := 1, candLimit := 1024, damagedCap := 0, walkTmoUs := 1, seeds := 1, maxRounds := 1, width := 1, att := none, queries := [q] }

/-- Node 0 runs that batch as batch 1. -/
def withQuery (c : Coll) (lead : Nat) (q : Query) : State :=
  ((one c).slc! (fun x => { x with batches := [(1, { batch0 with opcode := 0x0301 })], nextBatch := 2 })).search! (fun x => { x with
    qbatches := [(1, qbatch0 lead q)] })

/-- Slot 0 as a candidate that a cell has delivered. -/
def cand0 : Cand := ⟨0, 4, 0, 0, true, false, false, true, false, false⟩
theorem leNat_zeros (n : Nat) : leNat (zeros n) = 0 := by
  induction n with
  | zero => rfl
  | succ n ih => unfold zeros at *; rw [List.replicate_succ]; unfold leNat; rw [ih]; rfl
theorem natAt_zeros (n o k : Nat) : natAt (zeros n) o k = 0 := by
  have h : bytesAt (zeros n) o k = zeros k := by
    unfold bytesAt zeros
    rw [List.drop_replicate]
    refine List.ext_getElem (by simp) (fun i h1 h2 => ?_)
    simp only [List.getElem_map, List.getElem_range, List.getElem_replicate, List.getD_eq_getElem?_getD, List.getElem?_replicate]
    split <;> rfl
  unfold natAt; rw [h, leNat_zeros]
theorem zero_homes : ((List.range 4096).map (fun i => natAt (zeros 8192) (2 * i) 2)).any (fun h => decide (4096 ≤ h)) = false := by
  simp only [natAt_zeros]
  rw [List.any_eq_false]; intro x hx; obtain ⟨y, _, rfl⟩ := List.mem_map.1 hx; simp

/-- Link 0 is up, and node 1 is reached through it. -/
def linked (s : State) : State := (s.link! 0 (fun l => { l with state := .up, enable := true, peerNode := 1 })).setRaw (Reg.TRB_ROUTE + 8) (2 ^ 63 + 0x80)

/-- An attention object of head dimension 64 without tokens, and the object that holds it. -/
def att0 : AttObj := ⟨fields 64 [(2, 2, 64), (8, 4, 1024), (0x0C, 4, 0x3F800000), (0x10, 16, 2 ^ 128 - 1)], [], List.replicate 64 0, [], []⟩
def attObj (a : AttObj) : Obj := ⟨.attention a, 0, [], false, none, [], none⟩

/-- A weight object of one tile. -/
def weight0 : WeightObj := ⟨none, false, 1, [], none, none⟩
def weightObj (w : WeightObj) : Obj := ⟨.weight w, 65536, [], false, none, [], none⟩

/-- Object 0 of composition 0. -/
def withObj (o : Obj) : State := (one coll0).slc! (fun x => { x with objs := [(objKey 0 0, o)] })

/-- Batch 1 of composition 0 runs a pipeline of two stages, this node and node 1. -/
def run0 (p : PipePhase) : PipeRun :=
  { batch := 1, pipe := 0, comp := 0, slot := some 0, phase := p, stage := 0, stages := [⟨0, 0, 0, 64⟩, ⟨1, 0, 0, 64⟩], nItems := 1, tag := 0, level := 0,
    home := 0, homeRun := 1, outAddr := 0, outLen := 64, input := [], receiver := 1, epoch := 0, offers := 0, deadline := 0 }
def withRun (p : PipePhase) (w : Word) : State :=
  (one coll0).slc! (fun x => { x with batches := [(1, batch0)], nextBatch := 2, runs := [(1, run0 p)], words := [(1, w)] })

/-- The first kernel handle of a node without kernels. -/
theorem kernelSlot_empty (t : State) (h : t.slc.kernels = []) (h2 : t.slc.kernelGens = []) : t.kernelSlot = some (1, 0) := by
  unfold State.kernelSlot
  rw [h, h2, show List.range 65536 = 0 :: 1 :: (List.range 65534).map (fun x => x + 2) from by
    rw [show 65536 = 65535 + 1 from rfl, List.range_succ_eq_map, show 65535 = 65534 + 1 from rfl, List.range_succ_eq_map]; simp]
  rfl

/-- A context and a running task of batch 1, in composition 0, with 64 KiB of scratch. -/
def ctx0 : Ctx := ⟨.running, 0, 1, some 1, 0, []⟩
def task0 : Task := ⟨1, 0, 0, [], none, some 0, some 0, 2, .running, 0, 0, 65536, 64, [], [], none, []⟩

/-- Core 0 issues instructions of task 1. -/
def core0 : Core := { Core.reset with task := some 1, phase := .running, lastComp := 0 }

/-- A node on which core 0 runs task `k`, with a kernel. -/
def running (k : Task) : State :=
  (one coll0).slc! (fun x => { x with
    batches := [(1, batch0)], nextBatch := 2, ctxs := [(0, ctx0)], tasks := [(1, k)], nextTask := 2
    kernels := [(0, ⟨0, 0, fields 64 [(4, 2, 4096), (6, 1, 1)], none⟩)], cores := Tbl.put 0 core0 x.cores })

/-- The same node with 65,536 spawned tasks pending. -/
def manyTasks : State := (running task0).slc! (fun x => { x with tasks := (1, task0) :: (List.range 65536).map (fun i => (i + 2, { task0 with state := .pending })) })
theorem many_pending : 65536 ≤ (manyTasks.slc.tasks.filter (fun y => decide (y.2.state = .pending))).length := by
  show 65536 ≤ (((1, task0) :: (List.range 65536).map (fun i => (i + 2, { task0 with state := .pending }))).filter (fun (y : Nat × Task) => decide (y.2.state = .pending))).length
  refine Nat.le_of_eq ?_
  rw [List.filter_cons_of_neg (by decide), List.filter_eq_self.2 (fun a ha => by obtain ⟨i, _, rfl⟩ := List.mem_map.1 ha; rfl), List.length_map, List.length_range]

/-- A sealed reference extent of one block in space 0x55. -/
def ext0 : ExtentSt := ⟨0x55, 7, 1, 0, [0], 1, [], [], true, none, 0⟩

/-- A node with that extent. -/
def withExt (e : ExtentSt) : State :=
  (one coll0).delta! (fun d => { d with extents := [(1, e)], blocks := [(0, ⟨.closed, false, 0, 0, 0x55, 1, 7, []⟩)], geom := ⟨1, 1, 64, 1, 0⟩ })

/-- Its map (R363), as node `t` seals it. -/
def mapOf (t : State) : List Byte := extentMap 1 ext0 (t.sealCode 0 1 ext0)

theorem setAt_length {α : Type} (l : List α) (i : Nat) (a : α) : (setAt l i a).length = l.length := by
  induction l generalizing i with
  | nil => rfl
  | cons b t ih => cases i with
    | zero => rfl
    | succ i => unfold setAt; rw [List.length_cons, ih, List.length_cons]

theorem keccakRound_length (a : List Nat) (rc : Nat) : (keccakRound a rc).length = 25 := by
  unfold keccakRound; rw [setAt_length]; simp

theorem rounds_length (l : List Nat) (a : List Nat) (h : a.length = 25) : (l.foldl keccakRound a).length = 25 := by
  induction l generalizing a with
  | nil => exact h
  | cons x l ih => exact ih _ (keccakRound_length a x)

theorem sha3Absorb_length (n : Nat) (st : List Nat) (bs : List Byte) : (sha3Absorb (n + 1) st bs).length = 25 := by
  induction n generalizing st bs with
  | zero => unfold sha3Absorb; dsimp only; unfold sha3Absorb; exact rounds_length _ _ (by simp)
  | succ n ih => unfold sha3Absorb; exact ih _ _

theorem sha3_length (bs : List Byte) : (sha3 bs).length = 32 := by
  unfold sha3; dsimp only
  generalize h : (sha3Absorb (bs.length / 136 + 1) _ _).take 4 = l
  have hl : l.length = 4 := by rw [← h, List.length_take, sha3Absorb_length]; rfl
  match l, hl with
  | [a, b, c, d], _ => rfl

theorem bytesAt_append_left (a b : List Byte) (o n : Nat) (h : o + n ≤ a.length) : bytesAt (a ++ b) o n = bytesAt a o n := by
  unfold bytesAt
  refine List.map_congr_left (fun i hi => ?_)
  rw [List.mem_range] at hi
  rw [List.getD_eq_getElem?_getD, List.getD_eq_getElem?_getD, List.getElem?_drop, List.getElem?_drop, List.getElem?_append_left (by omega)]

theorem natAt_append_left (a b : List Byte) (o n : Nat) (h : o + n ≤ a.length) : natAt (a ++ b) o n = natAt a o n := by
  unfold natAt; rw [bytesAt_append_left a b o n h]

theorem bytesAt_append_right (a b c : List Byte) : bytesAt (a ++ (b ++ c)) a.length b.length = b := by
  unfold bytesAt
  refine List.ext_getElem (by simp) (fun i h1 h2 => ?_)
  simp only [List.getElem_map, List.getElem_range, List.getD_eq_getElem?_getD, List.getElem?_drop]
  rw [List.getElem?_append_right (by omega), Nat.add_sub_cancel_left, List.getElem?_append_left h2, List.getElem?_eq_getElem h2]; rfl

/-- The part of that map before its seal code. -/
def mapHead : List Byte := le 4 0x44585431 ++ le 4 1 ++ le 8 0x55 ++ le 8 7 ++ le 1 1 ++ le 1 0 ++ le 2 0 ++ le 4 1 ++ le 8 1 ++ le 8 0

theorem map_parts (c : List Byte) : extentMap 1 ext0 c = mapHead ++ (c ++ zeros 4) := by
  unfold extentMap; rw [List.append_assoc]; rfl

theorem map_good (t : State) (e : ExtentSt) (h1 : t.comp 0 = some comp0) (h2 : t.spaceOf 0 = some 0x55)
    (h3 : t.blk 0 = ⟨.closed, false, 0, 0, 0x55, 1, 7, []⟩) (h4 : Tbl.find 1 t.delta.extents = some e) (h5 : e.attached = none) :
    t.mapReason 0 (mapOf t) = 0 ∧ (mapOf t).length = 68 := by
  unfold mapOf
  have hc : (t.sealCode 0 1 ext0).length = 16 := by
    unfold State.sealCode; rw [h1]; dsimp only; rw [List.length_take, sha3_length]; rfl
  have hs : t.sealCode 0 1 ext0 = (sha3 (kdf (t.flashKey 0x55 comp0.tenant (t.secretOf 0)) "seal" [] ++ extentMap 1 ext0 (zeros 16))).take 16 := by
    unfold State.sealCode; rw [h1]; rfl
  generalize t.sealCode 0 1 ext0 = c at hc hs
  rw [map_parts]
  have hn (o n : Nat) (h : o + n ≤ mapHead.length) : natAt (mapHead ++ (c ++ zeros 4)) o n = natAt mapHead o n := natAt_append_left _ _ _ _ h
  have hL : mapHead.length = 48 := by decide +kernel
  have hA : (mapHead ++ (c ++ zeros 4)).length = 68 := by simp [hL, hc, zeros]
  have hT : (mapHead ++ (c ++ zeros 4)).take 0x30 = mapHead := List.take_left' hL
  have hD : (mapHead ++ (c ++ zeros 4)).drop 0x40 = zeros 4 := by
    rw [← List.append_assoc]; exact List.drop_left' (by simp [hL, hc])
  have hB : bytesAt (mapHead ++ (c ++ zeros 4)) 0x30 16 = c := by
    rw [← hL, ← hc]; exact bytesAt_append_right _ _ _
  refine ⟨?_, hA⟩
  unfold State.mapReason mapExtent
  dsimp only
  rw [hn 0 4 (by rw [hL]; decide), hn 8 8 (by rw [hL]; decide), hn 0x10 8 (by rw [hL]; decide), hn 0x18 1 (by rw [hL]; decide), hn 0x1A 2 (by rw [hL]; decide),
    hn 0x1C 4 (by rw [hL]; decide), hn 0x20 8 (by rw [hL]; decide), hn 4 4 (by rw [hL]; decide), hA, hT, hD, hB, h1, h2]
  rw [show natAt mapHead 0 4 = 0x44585431 from by decide +kernel, show natAt mapHead 8 8 = 0x55 from by decide +kernel,
    show natAt mapHead 0x10 8 = 7 from by decide +kernel, show natAt mapHead 0x1C 4 = 1 from by decide +kernel,
    show natAt mapHead 4 4 = 1 from by decide +kernel, show splitNum 4 1 (zeros 4) = [0] from by decide +kernel]
  have hz : mapHead ++ (zeros 16 ++ zeros 4) = extentMap 1 ext0 (zeros 16) := (map_parts _).symm
  rw [if_neg (by decide)]
  simp only [List.append_assoc, hz, ← hs, h4, Tbl.has, h5, Option.bind]
  simp
  rw [h3]; exact ⟨rfl, rfl⟩

theorem map_take (t : State) (m : Msg) (e : ExtentSt) (hc : m.comp = 0) (hp : m.p 0x10 8 = 68) (h1 : t.comp 0 = some comp0) (h2 : t.spaceOf 0 = some 0x55)
    (h3 : t.blk 0 = ⟨.closed, false, 0, 0, 0x55, 1, 7, []⟩) (h4 : Tbl.find 1 t.delta.extents = some e) (h5 : e.attached = none) :
    t.mapReason m.comp ((mapOf t).take (m.p 0x10 8)) = 0 := by
  obtain ⟨ha, hb⟩ := map_good t e h1 h2 h3 h4 h5
  rw [hc, hp, List.take_of_length_le (Nat.le_of_eq hb), ha]

theorem witness_HostRegisterAccesses :
    (∃ (s : State) (addr : _) (size : _), Live s ∧ s.host.nodeState = .running ∧ (size = 4 ∨ size = 8) ∧ addr % size = 0 ∧ 0x4000 ≤ addr ∧
      (regAt (addr / 8 * 8)).isSome = true ∧ (addr < 0x600000 ∨ 0x700000 ≤ addr)) ∧
    (∃ (s : State) (addr : _) (size : _), Live s ∧ ((size ≠ 4 ∧ size ≠ 8) ∨ addr % size ≠ 0)) ∧
    (∃ (s : State) (addr : _), Live s ∧ 0x4000 ≤ addr ∧ regAt (addr / 8 * 8) = none) ∧
    (∃ (s : State) (addr : _), Live s ∧ s.host.nodeState = .running ∧ 0x600000 ≤ addr ∧ addr < 0x700000 ∧ s.coreOn ((addr - 0x600000) / 0x1000) = false) ∧
    (∃ (s : State) (n : _), Live s ∧ s.host.nodeState = .running ∧ n < 256 ∧ s.coreOn n = true) ∧
    (∃ (s : State), Live s ∧ s.host.nodeState = .running) ∧
    (∃ (s : State), Live s ∧ s.host.nodeState = .running) ∧
    (∃ (s : State), Live s) := by
  refine ⟨?_, ?_, ?_, ?_, ?_, ?_, ?_, ?_⟩
  · exact ⟨up, 0x8008, 8, by decide +kernel⟩
  · exact ⟨up, 0x8008, 3, by decide +kernel⟩
  · exact ⟨up, 0x4000, by decide +kernel⟩
  · exact ⟨{ up with weir := { up.weir with mfg := { up.weir.mfg with coreEn := [max64, max64, max64, 0] } } }, 0x6C0000, by decide +kernel⟩
  · exact ⟨up, 255, by decide +kernel⟩
  · exact ⟨up, by decide +kernel⟩
  · exact ⟨up, by decide +kernel⟩
  · exact ⟨up, by decide +kernel⟩

theorem witness_MailboxSubmitAndTake :
    (∃ (s : State) (mb : _) (off : _) (bs : List Byte), Live s ∧ mb ≤ 64 ∧ (mb = 64 ∨ s.host.vfEnable = true) ∧ 8 ≤ off ∧ bs ≠ []) ∧
    (∃ (s : State) (mb : _), Live s ∧ mb ≤ 64 ∧ (mb = 64 ∨ s.host.vfEnable = true) ∧ (s.box mb).state = .free) ∧
    (∃ (s : State) (mb : _), mb ≤ 64 ∧ s.takesMessages = true ∧ (s.box mb).state = .pending ∧ (s.box mb).outstanding < 1024 ∧ s.batchesWaiting < 4096) ∧
    (∃ (s : State) (mb : Nat), mb ≤ 64 ∧ s.takesMessages = true ∧ (s.box mb).state = .pending ∧ (s.box mb).outstanding < 1024 ∧ s.batchesWaiting < 4096 ∧
      (natAt (Mem.readBytes (s.box mb).window 0 32) 16 8 % 64 ≠ 0 ∨ natAt (Mem.readBytes (s.box mb).window 0 32) 24 4 < 64)) ∧
    (∃ (s : State) (mb : Nat), mb ≤ 64 ∧ s.takesMessages = true ∧ (s.box mb).state = .pending ∧ (s.box mb).outstanding < 1024 ∧ s.batchesWaiting < 4096 ∧
      natAt (Mem.readBytes (s.box mb).window 0 32) 16 8 % 64 = 0 ∧ 64 ≤ natAt (Mem.readBytes (s.box mb).window 0 32) 24 4 ∧
        s.frameCheck ⟨mb, (s.box mb).takenSeq + 1, Mem.readBytes (s.box mb).window 0 32, Mem.readBytes (s.box mb).window 0x40 8, s.now⟩ = none) ∧
    (∃ (s : State) (mb : Nat), mb ≤ 64 ∧ s.takesMessages = true ∧ (s.box mb).state = .pending ∧ (s.box mb).outstanding < 1024 ∧ s.batchesWaiting < 4096 ∧
      natAt (Mem.readBytes (s.box mb).window 0 32) 16 8 % 64 = 0 ∧ 64 ≤ natAt (Mem.readBytes (s.box mb).window 0 32) 24 4 ∧ s.frameCheck ⟨mb, (s.box mb).takenSeq + 1, Mem.readBytes (s.box mb).window 0 32, Mem.readBytes (s.box mb).window 0x40 8, s.now⟩ = some 0x0F01) := by
  refine ⟨?_, ?_, ?_, ?_, ?_, ?_⟩
  · exact ⟨up, 64, 8, [0], by decide +kernel⟩
  · exact ⟨up, 63, by decide +kernel⟩
  · exact ⟨up.box! 64 (fun b => { b with state := .pending }), 64, by decide +kernel⟩
  · exact ⟨pend 64 63, 64, by decide +kernel⟩
  · exact ⟨pend 0x101 0x1000, 64, by decide +kernel⟩
  · exact ⟨pend 0xFFFF 64, 64, by decide +kernel⟩

theorem witness_FunctionsAndWindow :
    (∃ (s : State) (off : _) (len : _) (k : _) (o : _), Live s ∧ s.host.nodeState = .running ∧ s.winBuf = some (k, o) ∧ let b := s.fld Reg.HWD_WIN 16 20 * 65536 + off
    b + len ≤ o.bytes ∧ o.hits b len = []) ∧
    (∃ (s : State) (off : _) (len : _), Live s ∧ s.host.nodeState = .recovery ∧ off + len ≤ 0x8000000) ∧
    (∃ (s : State) (off : _) (bs : List Byte) (k : _) (o : _), Live s ∧ s.host.nodeState = .running ∧ s.winBuf = some (k, o) ∧ let b := s.fld Reg.HWD_WIN 16 20 * 65536 + off
    b + bs.length ≤ o.bytes) ∧
    (∃ (s : State) (fn : _), s.cru.held = false ∧ fn ≤ 64) ∧
    (∃ (s : State), s.cru.held = false ∧ s.host.nodeState ≠ .recovery) ∧
    (∃ (s : State) (vf : _), Live s ∧ s.host.vfEnable = true ∧ 1 ≤ vf ∧ vf ≤ 64) := by
  refine ⟨?_, ?_, ?_, ?_, ?_, ?_⟩
  · exact ⟨winUp, 0, 64, objKey 64 0, winObj, by decide +kernel⟩
  · exact ⟨up.host! (fun h => { h with nodeState := .recovery }), 0, 0x8000000, by decide +kernel⟩
  · exact ⟨winUp, 65472, zeros 64, objKey 64 0, winObj, by decide +kernel⟩
  · exact ⟨up, 64, by decide +kernel⟩
  · exact ⟨up, by decide +kernel⟩
  · exact ⟨up, 64, by decide +kernel⟩

theorem witness_AdminOpcodes :
    (∃ (s : State) (mb : Nat) (m : Msg) (t : State), mb ≤ 64 ∧ s.next? mb 0x0101 = some (m, t) ∧ m.p 0 8 = 0) ∧
    (∃ (s : State) (mb : Nat) (m : Msg) (t : State), mb ≤ 64 ∧ s.next? mb 0x0102 = some (m, t) ∧ m.p 2 6 = 0 ∧ m.p 0 2 < 4096 ∧ t.tribRuns = false) ∧
    (∃ (s : State) (mb : Nat) (m : Msg) (t : State), mb ≤ 64 ∧ s.next? mb 0x0103 = some (m, t) ∧ m.p 4 4 = 0 ∧ 8 + 8 * m.p 2 2 ≤ m.len ∧ 1 ≤ m.p 2 2 ∧
      m.p 2 2 ≤ 4096 ∧ m.p 0 2 + m.p 2 2 ≤ 4096) ∧
    (∃ (s : State) (mb : Nat) (m : Msg) (t : State), mb ≤ 64 ∧ s.next? mb 0x0104 = some (m, t)) ∧
    (∃ (s : State) (mb : Nat) (m : Msg) (t : State), mb ≤ 64 ∧ s.next? mb 0x0105 = some (m, t) ∧ m.p 2 6 = 0 ∧ m.p 0 2 < 4096 ∧ t.nodeLost (m.p 0 2) = true) ∧
    (∃ (s : State) (mb : Nat) (m : Msg) (t : State), mb ≤ 64 ∧ s.next? mb 0x0106 = some (m, t) ∧ m.p 4 4 = 0 ∧ 64 ≤ m.p 0 4 ∧ m.p 0 4 ≤ 65536 ∧
      isPow2 (m.p 0 4) = true) ∧
    (∃ (s : State) (mb : Nat) (m : Msg) (t : State), mb ≤ 64 ∧ s.next? mb 0x0107 = some (m, t) ∧ t.now ≤ m.p 0 8) ∧
    (∃ (s : State) (mb : Nat) (m : Msg) (t : State), mb ≤ 64 ∧ s.next? mb 0x0108 = some (m, t) ∧ m.p 4 4 = 0 ∧ m.p 0 4 = Reg.DLT_FORMAT ∧ m.p 0x10 8 < 2 ^ 32) := by
  refine ⟨?_, ?_, ?_, ?_, ?_, ?_, ?_, ?_⟩
  · exact ⟨posted up 64 0x0101 (zeros 8), 64, _, _, by decide, got up 64 0x0101 (zeros 8) (by decide +kernel) (by decide +kernel), by decide +kernel⟩
  · exact ⟨posted up 64 0x0102 (fields 8 [(0, 2, 4095)]), 64, _, _, by decide, got up 64 0x0102 (fields 8 [(0, 2, 4095)]) (by decide +kernel) (by decide +kernel), by decide +kernel⟩
  · exact ⟨posted up 64 0x0103 (fields 16 [(0, 2, 4095), (2, 2, 1)]), 64, _, _, by decide, got up 64 0x0103 (fields 16 [(0, 2, 4095), (2, 2, 1)]) (by decide +kernel) (by decide +kernel), by decide +kernel⟩
  · exact ⟨posted up 64 0x0104 (zeros 8), 64, _, _, by decide, got up 64 0x0104 (zeros 8) (by decide +kernel) (by decide +kernel)⟩
  · exact ⟨posted (up.peer! 1 (fun p => { p with lost := true })) 64 0x0105 (fields 8 [(0, 2, 1)]), 64, _, _, by decide, got (up.peer! 1 (fun p => { p with lost := true })) 64 0x0105 (fields 8 [(0, 2, 1)]) (by decide +kernel) (by decide +kernel), by decide +kernel⟩
  · exact ⟨posted up 64 0x0106 (fields 16 [(0, 4, 65536)]), 64, _, _, by decide, got up 64 0x0106 (fields 16 [(0, 4, 65536)]) (by decide +kernel) (by decide +kernel), by decide +kernel⟩
  · exact ⟨posted up 64 0x0107 (zeros 8), 64, _, _, by decide, got up 64 0x0107 (zeros 8) (by decide +kernel) (by decide +kernel), by decide +kernel⟩
  · exact ⟨posted up 64 0x0108 (fields 24 [(0, 4, Reg.DLT_FORMAT), (8, 8, 1), (0x10, 8, 0xFFFFFFFF)]), 64, _, _, by decide, got up 64 0x0108 (fields 24 [(0, 4, Reg.DLT_FORMAT), (8, 8, 1), (0x10, 8, 0xFFFFFFFF)]) (by decide +kernel) (by decide +kernel), by decide +kernel⟩

theorem witness_DiagnosticsOpcodes :
    (∃ (s : State) (mb : Nat) (m : Msg) (t : State), mb ≤ 64 ∧ s.next? mb 0x0801 = some (m, t) ∧ 1 ≤ m.p 8 4 ∧ m.p 8 4 ≤ 256 ∧ m.p 0x0C 4 = 0 ∧
      m.p 0x10 8 % 64 = 0) ∧
    (∃ (s : State) (mb : Nat) (m : Msg) (t : State), mb ≤ 64 ∧ s.next? mb 0x0804 = some (m, t) ∧ m.p 0 1 ≤ 3 ∧ m.p 1 1 = 0 ∧ m.p 2 2 = 0 ∧
      m.p 4 4 < 2 ^ (scrubField (m.p 0 1)).2) ∧
    (∃ (s : State) (mb : Nat) (m : Msg) (t : State), mb ≤ 64 ∧ s.next? mb 0x0804 = some (m, t) ∧ m.p 0 1 ≤ 3 ∧ m.p 1 1 = 1 ∧ m.p 2 2 = 0) ∧
    (∃ (s : State) (mb : Nat) (m : Msg) (t : State), mb ≤ 64 ∧ s.next? mb 0x0804 = some (m, t) ∧ m.p 0 1 ≤ 3 ∧ m.p 1 1 = 2 ∧ m.p 2 2 = 0) ∧
    (∃ (s : State) (mb : Nat) (m : Msg) (t : State), mb ≤ 64 ∧ s.next? mb 0x0804 = some (m, t) ∧ m.p 0 1 ≤ 3 ∧ m.p 1 1 = 3 ∧ m.p 2 2 = 0) ∧
    (∃ (s : State) (mb : Nat) (o : _) (m : Msg) (t : State), mb ≤ 64 ∧ s.next? mb 0x0805 = some (m, t) ∧
      Tbl.find (objKey 64 (m.p 0 2)) t.slc.objs = some o ∧ m.p 2 6 = 0 ∧ m.p 8 8 + (16 + 16 * counterAddrs.length) ≤ o.bytes) ∧
    (∃ (s : State) (mb : Nat) (o : _) (m : Msg) (t : State), mb ≤ 64 ∧ s.next? mb 0x0806 = some (m, t) ∧ 1 ≤ m.p 0 1 ∧ m.p 0 1 ≤ 3 ∧ m.p 1 1 = 0 ∧ m.p 4 4 = 0
      ∧ Tbl.find (objKey 64 (m.p 14 2)) t.slc.objs = some o ∧ m.p 8 6 < o.bytes) ∧
    (∃ (s : State) (mb : Nat) (m : Msg) (t : State), mb ≤ 64 ∧ s.next? mb 0x0806 = some (m, t) ∧ m.p 0 1 = 6 ∧ m.p 1 1 = 0 ∧ m.p 4 4 = 0 ∧ t.slc.comps = []) := by
  refine ⟨?_, ?_, ?_, ?_, ?_, ?_, ?_, ?_⟩
  · exact ⟨posted up 64 0x0801 (fields 24 [(8, 4, 256)]), 64, _, _, by decide, got up 64 0x0801 (fields 24 [(8, 4, 256)]) (by decide +kernel) (by decide +kernel), by decide +kernel⟩
  · exact ⟨posted up 64 0x0804 (fields 8 [(0, 1, 3), (4, 4, 255)]), 64, _, _, by decide, got up 64 0x0804 (fields 8 [(0, 1, 3), (4, 4, 255)]) (by decide +kernel) (by decide +kernel), by decide +kernel⟩
  · exact ⟨posted up 64 0x0804 (fields 8 [(0, 1, 3), (1, 1, 1)]), 64, _, _, by decide, got up 64 0x0804 (fields 8 [(0, 1, 3), (1, 1, 1)]) (by decide +kernel) (by decide +kernel), by decide +kernel⟩
  · exact ⟨posted up 64 0x0804 (fields 8 [(0, 1, 3), (1, 1, 2)]), 64, _, _, by decide, got up 64 0x0804 (fields 8 [(0, 1, 3), (1, 1, 2)]) (by decide +kernel) (by decide +kernel), by decide +kernel⟩
  · exact ⟨posted up 64 0x0804 (fields 8 [(0, 1, 3), (1, 1, 3)]), 64, _, _, by decide, got up 64 0x0804 (fields 8 [(0, 1, 3), (1, 1, 3)]) (by decide +kernel) (by decide +kernel), by decide +kernel⟩
  · exact ⟨posted snapUp 64 0x0805 (zeros 16), 64, snapObj, _, _, by decide, got snapUp 64 0x0805 (zeros 16) (by decide +kernel) (by decide +kernel), rfl, by decide +kernel, snap_fits _ (by decide +kernel)⟩
  · exact ⟨posted winUp 64 0x0806 (fields 16 [(0, 1, 3), (8, 6, 65535)]), 64, winObj, _, _, by decide, got winUp 64 0x0806 (fields 16 [(0, 1, 3), (8, 6, 65535)]) (by decide +kernel) (by decide +kernel), by decide +kernel⟩
  · exact ⟨posted up 64 0x0806 (fields 16 [(0, 1, 6)]), 64, _, _, by decide, got up 64 0x0806 (fields 16 [(0, 1, 6)]) (by decide +kernel) (by decide +kernel), by decide +kernel⟩

theorem witness_GaugeEvents :
    (∃ (s : State), s.cru.held = false ∧ s.gauge.drainStopped = false) ∧
    (∃ s : State, s.gauge.ceSecond ≠ s.now / 1000000000 + 1) ∧
    (∃ (s : State) (tj : _), s.cru.held = false ∧ s.weir.state = .running ∧ s.partValid = true ∧ s.weir.mfg.tripC ≤ tj) ∧
    (∃ (s : State) (w : _), s.cru.held = false ∧ s.weir.state = .running ∧ s.partValid = true ∧ s.weir.mfg.tripW < w) ∧
    (∃ (s : State) (b : _), s.cru.held = false ∧ s.gauge.fatal = some b) ∧
    (∃ (s : State) (b : _), s.cru.held = false ∧ s.gauge.fatal = some b) ∧
    (∃ (s : State), Live s) := by
  refine ⟨?_, ?_, ?_, ?_, ?_, ?_, ?_⟩
  · exact ⟨up, by decide +kernel⟩
  · exact ⟨up, by decide⟩
  · exact ⟨up, 105, by decide +kernel⟩
  · exact ⟨up, 1261, by decide +kernel⟩
  · exact ⟨up.gauge! (fun g => { g with fatal := some 0x14 }), 0x14, by decide +kernel⟩
  · exact ⟨up.gauge! (fun g => { g with fatal := some 0x14 }), 0x14, by decide +kernel⟩
  · exact ⟨up, by decide +kernel⟩

theorem witness_ResetCommands :
    (∃ (s : State) (cause : WarmCause), s.cru.held = false ∧ s.tripped = false ∧ (cause = .linkDown → s.host.linkUp = true)) ∧
    (∃ (s : State) (cause : WarmCause), (s.cru.held = true ∨ s.tripped = true ∨ (cause = .linkDown ∧ s.host.linkUp = false))) ∧
    (∃ (s : State) (mb : Nat) (m : Msg) (t : State), mb ≤ 64 ∧ s.next? mb 0x0109 = some (m, t) ∧ m.p 0 8 = 0) ∧
    (∃ (s : State) (mb : Nat) (m : Msg) (t : State), mb ≤ 64 ∧ s.next? mb 0x010A = some (m, t) ∧ m.p 0 8 = 0) ∧
    (∃ (s : State) (mb : Nat) (m : Msg) (t : State), mb ≤ 64 ∧ s.next? mb 0x010B = some (m, t) ∧ t.host.recoveryCause ≠ 1 ∧ m.p 0 8 ≤ 0x8000000) ∧
    (∃ (s : State) (m : _) (i : _), s.weir.activating = some m ∧ s.weir.staged = some i) ∧
    (∃ (s : State), s.cru.held = false ∧ s.weir.state = .boot ∧ s.weirBoot.2 = 0) := by
  refine ⟨?_, ?_, ?_, ?_, ?_, ?_, ?_⟩
  · exact ⟨up, .perst, by decide +kernel⟩
  · exact ⟨State.reset.cru! (fun c => { c with held := true }), .perst, by decide +kernel⟩
  · exact ⟨posted up 64 0x0109 (zeros 8), 64, _, _, by decide, got up 64 0x0109 (zeros 8) (by decide +kernel) (by decide +kernel), by decide +kernel⟩
  · exact ⟨posted up 64 0x010A (zeros 8), 64, _, _, by decide, got up 64 0x010A (zeros 8) (by decide +kernel) (by decide +kernel), by decide +kernel⟩
  · exact ⟨posted (up.host! (fun h => { h with nodeState := .recovery, recoveryCause := 3 })) 64 0x010B (fields 8 [(0, 8, 0x8000000)]), 64, _, _, by decide, got (up.host! (fun h => { h with nodeState := .recovery, recoveryCause := 3 })) 64 0x010B (fields 8 [(0, 8, 0x8000000)]) (by decide +kernel) (by decide +kernel), by decide +kernel⟩
  · exact ⟨up.weir! (fun w => { w with activating := some (msg 64 0x0706 (zeros 8)), staged := some FwImage.stock }), msg 64 0x0706 (zeros 8), FwImage.stock, by decide +kernel⟩
  · exact ⟨State.reset, by decide +kernel⟩

theorem witness_StartUpClockAndSample :
    (∃ (s : State) (i : _) (r : _), s.cru.held = false ∧ s.weir.state = .boot ∧ s.weir.flashReadable = true ∧ s.weir.mfg.pufOk = true ∧
      s.weir.mfg.signatureOk = true ∧ s.weir.mfg.mapOk = true ∧ newestRec s.weir.stateLog = some (i, r) ∧ s.cru.recoveryNext = 0 ∧
        s.weir.image.refusal r.rollback r.revoked false = none ∧ s.weir.image.bodyOk = true) ∧
    (∃ (s : State), s.cru.held = false ∧ s.weir.state = .boot ∧ s.weirBoot.2 = 0) ∧
    (∃ (s : State), s.cru.held = false ∧ s.weir.state = .boot ∧ s.weirBoot.2 ≠ 0) ∧
    (∃ (s : State), s.weir.flashReadable = false) ∧
    (∃ (s : State) (pll : _), s.cru.held = false ∧ (pll = 0 ∨ pll = 21)) ∧
    (∃ (s : State) (pll : _), Live s ∧ 1 ≤ pll ∧ pll ≤ 20 ∧ pll ≠ 3 ∧ bit s.cru.plls pll = true) ∧
    (∃ (s : State) (p : _) (tj : _), Live s ∧ s.host.nodeState = .running ∧ s.spw.state = .active ∧ (s.capEn = true → p ≤ s.capW) ∧ tj < s.tjThrottle ∧ SpwFree s.spw = true) := by
  refine ⟨?_, ?_, ?_, ?_, ?_, ?_, ?_⟩
  · exact ⟨State.reset, 0, _, by decide +kernel, by decide +kernel, by decide +kernel, by decide +kernel, by decide +kernel, by decide +kernel, (Option.some_get (by decide +kernel)).symm, by decide +kernel⟩
  · exact ⟨State.reset, by decide +kernel⟩
  · exact ⟨State.reset.weir! (fun w => { w with mfg := { w.mfg with pufOk := false } }), by decide +kernel⟩
  · exact ⟨State.reset.weir! (fun w => { w with flashReadable := false }), by decide +kernel⟩
  · exact ⟨up, 21, by decide +kernel⟩
  · exact ⟨up.cru! (fun c => { c with plls := 2 ^ 22 - 1 }), 20, by decide +kernel⟩
  · exact ⟨up, 1050, 99, by decide +kernel⟩

theorem witness_SecurityOpcodes :
    (∃ (s : State) (mb : Nat) (m : Msg) (t : State), mb ≤ 64 ∧ s.next? mb 0x0701 = some (m, t) ∧ t.weir.identity = true) ∧
    (∃ (s : State) (mb : Nat) (x : _) (m : Msg) (t : State), mb ≤ 64 ∧ s.next? mb 0x0702 = some (m, t) ∧ t.comp (m.p 0 1) = some x ∧ m.p 1 7 = 0 ∧
      m.p 8 8 ≠ 0 ∧ Tbl.has (m.p 0 1) t.weir.flashKeys = false
      ∧ t.weir.flashKeys.any (fun k => decide (k.2 = m.p 8 8)) = false ∧ t.weir.keyTable.find? (fun e => decide (e.keyId = m.p 8 8)) = none
      ∧ t.weir.keyTable.length < 1024) ∧
    (∃ (s : State) (mb : Nat) (x : _) (e : _) (m : Msg) (t : State), mb ≤ 64 ∧ s.next? mb 0x0702 = some (m, t) ∧ t.comp (m.p 0 1) = some x ∧ m.p 1 7 = 0 ∧
      m.p 8 8 ≠ 0 ∧ Tbl.has (m.p 0 1) t.weir.flashKeys = false
      ∧ t.weir.flashKeys.any (fun k => decide (k.2 = m.p 8 8)) = false ∧ t.weir.keyTable.find? (fun e => decide (e.keyId = m.p 8 8)) = some e
      ∧ e.tenant = x.tenant ∧ e.check = keyCheck (t.flashKey (m.p 8 8) x.tenant (t.secretOf (m.p 0 1)))) ∧
    (∃ (s : State) (mb : Nat) (m : Msg) (t : State), mb ≤ 64 ∧ s.next? mb 0x0703 = some (m, t) ∧ m.p 1 7 = 0 ∧ (t.comp (m.p 0 1)).isSome = true ∧
      Tbl.find (m.p 0 1) t.weir.flashKeys = some (m.p 8 8)
      ∧ t.flashInUse (m.p 0 1) = false) ∧
    (∃ (s : State) (mb : Nat) (o : _) (m : Msg) (t : State), mb ≤ 64 ∧ s.next? mb 0x0705 = some (m, t) ∧ t.weir.activating = none ∧
      Tbl.find (objKey 64 (m.p 0 2)) t.slc.objs = some o ∧ m.p 2 6 = 0
      ∧ m.p 8 8 + m.p 0x10 8 ≤ o.bytes ∧ o.hits (m.p 8 8) (m.p 0x10 8) = [] ∧ o.poisoned = false) ∧
    (∃ (s : State) (mb : Nat) (m : Msg) (t : State), mb ≤ 64 ∧ s.next? mb 0x0706 = some (m, t) ∧ m.p 0 8 = 0 ∧ t.weir.activating = none ∧
      t.weir.staged.isSome = true) ∧
    (∃ (s : State) (mb : Nat) (m : Msg) (t : State), mb ≤ 64 ∧ s.next? mb 0x0704 = some (m, t) ∧ m.p 12 4 ≤ 8 ∧ 16 + 32 * m.p 12 4 ≤ m.len) := by
  refine ⟨?_, ?_, ?_, ?_, ?_, ?_, ?_⟩
  · exact ⟨posted up 64 0x0701 (zeros 8), 64, _, _, by decide, got up 64 0x0701 (zeros 8) (by decide +kernel) (by decide +kernel), by decide +kernel⟩
  · exact ⟨posted (keyed.weir! (fun w => { w with keyTable := [] })) 64 0x0702 (fields 16 [(8, 8, 1)]), 64, comp0, _, _, by decide, got (keyed.weir! (fun w => { w with keyTable := [] })) 64 0x0702 (fields 16 [(8, 8, 1)]) (by decide +kernel) (by decide +kernel), rfl, by decide +kernel⟩
  · exact ⟨posted keyed 64 0x0702 (fields 16 [(8, 8, 7)]), 64, comp0, keyEnt, _, _, by decide, got keyed 64 0x0702 (fields 16 [(8, 8, 7)]) (by decide +kernel) (by decide +kernel), rfl, by decide +kernel, by decide +kernel, by decide +kernel, by decide +kernel, by with_unfolding_all rfl, by decide +kernel, keyEnt_check _ _ rfl (by decide +kernel) (by decide +kernel)⟩
  · exact ⟨posted ((one coll0).search! (fun x => { x with colls := [] })) 64 0x0703 (fields 16 [(8, 8, 0x55)]), 64, _, _, by decide, got ((one coll0).search! (fun x => { x with colls := [] })) 64 0x0703 (fields 16 [(8, 8, 0x55)]) (by decide +kernel) (by decide +kernel), by decide +kernel⟩
  · exact ⟨posted winUp 64 0x0705 (fields 24 [(0x10, 8, 65536)]), 64, winObj, _, _, by decide, got winUp 64 0x0705 (fields 24 [(0x10, 8, 65536)]) (by decide +kernel) (by decide +kernel), by decide +kernel⟩
  · exact ⟨posted (up.weir! (fun w => { w with staged := some FwImage.stock })) 64 0x0706 (zeros 8), 64, _, _, by decide, got (up.weir! (fun w => { w with staged := some FwImage.stock })) 64 0x0706 (zeros 8) (by decide +kernel) (by decide +kernel), by decide +kernel⟩
  · exact ⟨posted up 64 0x0704 (fields 272 [(12, 4, 8)]), 64, _, _, by decide, got up 64 0x0704 (fields 272 [(12, 4, 8)]) (by decide +kernel) (by decide +kernel), by decide +kernel⟩

theorem witness_SpdmRequests :
    (∃ (s : State) (port : Nat), port ≤ 66 ∧ s.spdmUp port = true ∧ (s.spdm port).version = true ∧ (s.spdm port).capabilities = true ∧
      s.spdmReady port = true ∧ (s.spdm port).kemKey ≠ [] ∧ (s.spdm port).sessions.length < 2 ∧ s.inSession port 1 = true) ∧
    (∃ (s : State) (port : Nat) (secret : List Byte), port ≤ 66 ∧ s.spdmUp port = true ∧ s.inSession port 1 = true ∧ 1 ≤ port ∧ port ≤ 64 ∧
      (s.comp (port - 1)).isSome = true ∧ Tbl.has (port - 1) s.weir.flashKeys = false ∧ secret.length = 32) ∧
    (∃ (s : State) (port : Nat) (keys : List Byte), port ≤ 66 ∧ s.spdmUp port = true ∧ s.inSession port 1 = true ∧ port ≤ 64 ∧ keys ≠ []) ∧
    (∃ (s : State) (off i : Nat), s.spdmUp 0 = true ∧ s.spdmReady 0 = true ∧ off ≤ s.chain.length ∧ 1 ≤ i ∧ i ≤ 4) := by
  refine ⟨?_, ?_, ?_, ?_⟩
  · exact ⟨spdmState 66, 66, by decide +kernel⟩
  · exact ⟨spdmState 1, 1, zeros 32, by decide +kernel⟩
  · exact ⟨spdmState 64, 64, zeros 32, by decide +kernel⟩
  · exact ⟨spdmState 0, 0, 4, by decide +kernel, by decide +kernel, Nat.zero_le _, by decide⟩

theorem witness_ScanAndI3c :
    (∃ (s : State), s.weir.state ≠ .quarantined) ∧
    (∃ (s : State) (bus : _), bus < 2 ∧ s.cru.held = false) := by
  refine ⟨?_, ?_⟩
  · exact ⟨up, by decide +kernel⟩
  · exact ⟨up, 1, by decide +kernel⟩

def cFrozen : Coll := { coll0 with freezeMsgs := [(msg 0 0x0202 (zeros 8), [])], refExt := some 0 }
def cDrop : Coll := { coll0 with dropMsg := some (msg 0 0x0203 (zeros 8)), refExt := some 0 }
def cTarget : Coll := { collRow with target := some desc0 }
def noColl : State := (one coll0).search! (fun x => { x with colls := [] })
theorem witness_CollectionOpcodes :
    (∃ (s : State) (mb : Nat) (space : _) (u : _) (m : Msg) (t : State), mb ≤ 64 ∧ s.next? mb 0x0201 = some (m, t) ∧ m.p 2 6 = 0 ∧ m.p 0 2 < 0x1000 ∧
      m.p 0 2 ≠ 0xFFF ∧ Desc.reason ⟨m.pb 8 128⟩ = 0
      ∧ t.coll (collKey m.comp (m.p 0 2)) = none ∧ (t.search.colls.filter (fun c => decide (c.2.state ≠ .dropping))).length < 1024 ∧
        t.spaceOf m.comp = some space
      ∧ t.reserve m.comp (Desc_need ⟨m.pb 8 128⟩ (Desc.rowCap ⟨m.pb 8 128⟩)) = some u) ∧
    (∃ (s : State) (mb : Nat) (c : _) (m : Msg) (t : State), mb ≤ 64 ∧ s.next? mb 0x0202 = some (m, t) ∧ m.p 0 2 < 4096 ∧ m.p 2 6 = 0 ∧
      t.coll (collKey m.comp (m.p 0 2)) = some c ∧ c.state = .online) ∧
    (∃ (s : State) (k : _) (c : _) (m : _) (before : _) (rest : _), s.coll k = some c ∧ c.freezeMsgs = (m, before) :: rest ∧
      before.any (fun b => Tbl.has b s.search.upds) = false) ∧
    (∃ (s : State) (mb : Nat) (c : _) (m : Msg) (t : State), mb ≤ 64 ∧ s.next? mb 0x0203 = some (m, t) ∧ m.p 0 2 < 4096 ∧ m.p 2 6 = 0 ∧
      t.coll (collKey m.comp (m.p 0 2)) = some c ∧ c.state ≠ .dropping) ∧
    (∃ (s : State) (k : _) (c : _) (m : _), s.coll k = some c ∧ c.dropMsg = some m ∧
      c.dropWait.any (fun b => (s.collBatches k).contains b || Tbl.has b s.slc.batches) = false ∧
        s.search.parts.any (fun p => decide (p.coll = k) && decide (p.state ≠ .aborted)) = false) ∧
    (∃ (s : State) (mb : Nat) (c : _) (u : _) (m : Msg) (t : State), mb ≤ 64 ∧ s.next? mb 0x0204 = some (m, t) ∧ m.p 0 2 < 4096 ∧ m.p 2 6 = 0 ∧
      t.coll (collKey m.comp (m.p 0 2)) = some c ∧ c.state = .online
      ∧ c.recoding = false ∧ Desc.reason ⟨m.pb 8 128⟩ = 0 ∧ c.desc.recodeReason ⟨m.pb 8 128⟩ = 0
      ∧ t.reserve c.comp (Desc_need ⟨m.pb 8 128⟩ (Desc.rowCap ⟨m.pb 8 128⟩)) = some u) ∧
    (∃ (s : State) (k : _) (r : _) (c : _) (d : _) (y : _), s.coll k = some c ∧ c.target = some d ∧ Tbl.find r c.reaches = some y ∧ y.switched = false ∧
      s.reachScanned k r = false) ∧
    (∃ (s : State) (k : _) (r : _) (c : _), s.coll k = some c ∧
      c.oldStorage.any (fun o => decide (o.1 = r) && o.2.any (fun b => Tbl.has b s.search.qbatches)) = false) ∧
    (∃ (s : State) (mb : Nat) (c : _) (m : Msg) (t : State), mb ≤ 64 ∧ s.next? mb 0x0205 = some (m, t) ∧ m.p 0 2 < 4096 ∧ m.p 2 1 < 16 ∧ m.p 3 1 < 16 ∧
      m.p 4 4 = 0 ∧ m.p 0x0C 1 ≤ 1 ∧ m.p 0x0D 3 = 0
      ∧ t.coll (collKey m.comp (m.p 0 2)) = some c ∧ c.state ≠ .dropping) ∧
    (∃ (s : State) (mb : Nat) (c : _) (m : Msg) (t : State), mb ≤ 64 ∧ s.next? mb 0x0206 = some (m, t) ∧ m.p 0 2 < 4096 ∧ m.p 2 6 = 0 ∧ t.coll (collKey m.comp (m.p 0 2)) = some c) := by
  refine ⟨?_, ?_, ?_, ?_, ?_, ?_, ?_, ?_, ?_, ?_⟩
  · exact ⟨posted noColl 0 0x0201 (zeros 8 ++ desc0.raw), 0, 0x55, _, _, _, by decide, got noColl 0 0x0201 (zeros 8 ++ desc0.raw) (by decide +kernel) (by decide +kernel), by decide +kernel, by decide +kernel, by decide +kernel, by decide +kernel, by decide +kernel, by decide +kernel, by decide +kernel, (Option.some_get (by decide +kernel)).symm⟩
  · exact ⟨posted (one coll0) 0 0x0202 (zeros 8), 0, coll0, _, _, by decide, got (one coll0) 0 0x0202 (zeros 8) (by decide +kernel) (by decide +kernel), by decide +kernel⟩
  · exact ⟨one cFrozen, 0, cFrozen, msg 0 0x0202 (zeros 8), [], [], by decide +kernel⟩
  · exact ⟨posted (one coll0) 0 0x0203 (zeros 8), 0, coll0, _, _, by decide, got (one coll0) 0 0x0203 (zeros 8) (by decide +kernel) (by decide +kernel), by decide +kernel⟩
  · exact ⟨one cDrop, 0, cDrop, msg 0 0x0203 (zeros 8), by decide +kernel⟩
  · exact ⟨posted (one coll0) 0 0x0204 (zeros 8 ++ fields 128 [(0x20, 2, 64), (0x23, 1, 1), (0x28, 2, 2), (0x30, 8, 1024), (0x40, 64, 2 ^ 512 - 1)]), 0, coll0, _, _, _, by decide, got (one coll0) 0 0x0204 (zeros 8 ++ fields 128 [(0x20, 2, 64), (0x23, 1, 1), (0x28, 2, 2), (0x30, 8, 1024), (0x40, 64, 2 ^ 512 - 1)]) (by decide +kernel) (by decide +kernel), by decide +kernel, by decide +kernel, by decide +kernel, by decide +kernel, by decide +kernel, by decide +kernel, by decide +kernel, (Option.some_get (by decide +kernel)).symm⟩
  · exact ⟨one cTarget, 0, 0, cTarget, desc0, reach0, by decide +kernel⟩
  · exact ⟨one collRow, 0, 0, collRow, by decide +kernel⟩
  · exact ⟨posted (one coll0) 0 0x0205 (fields 16 [(2, 1, 15), (3, 1, 15), (0x0C, 1, 1)]), 0, coll0, _, _, by decide, got (one coll0) 0 0x0205 (fields 16 [(2, 1, 15), (3, 1, 15), (0x0C, 1, 1)]) (by decide +kernel) (by decide +kernel), by decide +kernel⟩
  · exact ⟨posted (one coll0) 0 0x0206 (zeros 8), 0, coll0, _, _, by decide, got (one coll0) 0 0x0206 (zeros 8) (by decide +kernel) (by decide +kernel), by decide +kernel⟩

def cBits : Coll := { coll0 with bitmaps := [(63, ⟨[⟨0, []⟩], true, 0, none⟩)] }
def cUnsure : Coll := { coll0 with sources := [(1, { SourceSums.none_ with unsure := true })] }
def cPub : Coll := { coll0 with pubs := [⟨0, 1, [1], 0, false⟩] }
def sum0 : Summary := ⟨true, true, 0, 0, 0, 0, 0, 1, []⟩
theorem witness_BitmapsAndSummaries :
    (∃ (s : State) (mb : Nat) (c : _) (m : Msg) (t : State), mb ≤ 64 ∧ s.next? mb 0x0302 = some (m, t) ∧ m.p 0 2 < 4096 ∧ m.p 2 1 ≤ 63 ∧ m.p 3 1 ≤ 2
      ∧ t.coll (collKey m.comp (m.p 0 2)) = some c ∧ c.state = .online ∧ Coll_nextEpoch c ≠ 2 ^ 48 - 1) ∧
    (∃ (s : State) (mb : Nat) (c : _) (b : _) (m : Msg) (t : State), mb ≤ 64 ∧ s.next? mb 0x0303 = some (m, t) ∧ m.p 0 2 < 4096 ∧ m.p 2 1 ≤ 63 ∧
      m.p 3 5 = 0 ∧ t.coll (collKey m.comp (m.p 0 2)) = some c
      ∧ Tbl.find (m.p 2 1) c.bitmaps = some b ∧ b.defined = true) ∧
    (∃ (s : State) (mb : Nat) (c : _) (m : Msg) (t : State), mb ≤ 64 ∧ s.next? mb 0x0304 = some (m, t) ∧ m.p 0 2 < 4096 ∧ m.p 4 4 = 0 ∧
      t.coll (collKey m.comp (m.p 0 2)) = some c
      ∧ (t.spanNodes c.comp c.desc.span).contains (m.p 2 2) = true ∧ m.p 2 2 ≠ t.nodeNo
      ∧ ((Tbl.getD (m.p 2 2) SourceSums.none_ c.sources).unsure = true ∨ (Tbl.getD (m.p 2 2) SourceSums.none_ c.sources).lastSeq = 0)) ∧
    (∃ (s : State) (mb : Nat) (c : _) (m : Msg) (t : State), mb ≤ 64 ∧ s.next? mb 0x0304 = some (m, t) ∧ m.p 0 2 < 4096 ∧ m.p 4 4 = 0 ∧
      t.coll (collKey m.comp (m.p 0 2)) = some c
      ∧ (t.spanNodes c.comp c.desc.span).contains (m.p 2 2) = true ∧ (Tbl.getD (m.p 2 2) SourceSums.none_ c.sources).unsure = false
      ∧ (m.p 2 2 = t.nodeNo ∨ (Tbl.getD (m.p 2 2) SourceSums.none_ c.sources).lastSeq ≠ 0)) ∧
    (∃ (s : State) (k : _) (source : _) (y : Summary) (ver : _) (c : _), s.coll k = some c ∧ s.judgeMap c.comp ver = .accept ∧ source ≠ s.nodeNo ∧
      (Tbl.getD source SourceSums.none_ c.sources).unsure = false ∧ (Tbl.getD source SourceSums.none_ c.sources).resync = false ∧
        y.seq = (Tbl.getD source SourceSums.none_ c.sources).lastSeq + 1) ∧
    (∃ (s : State) (k : _) (source : _) (y : Summary) (ver : _) (c : _), s.coll k = some c ∧ s.judgeMap c.comp ver = .accept ∧ source ≠ s.nodeNo ∧
      (Tbl.getD source SourceSums.none_ c.sources).unsure = false ∧ (Tbl.getD source SourceSums.none_ c.sources).resync = false ∧
        (Tbl.getD source SourceSums.none_ c.sources).lastSeq + 1 < y.seq) ∧
    (∃ (s : State) (k : _) (q : _) (p : _) (c : _), s.coll k = some c ∧ c.pubs.find? (fun p => decide (p.seq = q)) = some p ∧ p.slow = false ∧ p.waiting.all (fun n => s.nodeLost n) = false) := by
  refine ⟨?_, ?_, ?_, ?_, ?_, ?_, ?_⟩
  · exact ⟨posted (one coll0) 0 0x0302 (fields 24 [(2, 1, 63), (3, 1, 2)]), 0, coll0, _, _, by decide, got (one coll0) 0 0x0302 (fields 24 [(2, 1, 63), (3, 1, 2)]) (by decide +kernel) (by decide +kernel), by decide +kernel⟩
  · exact ⟨posted (one cBits) 0 0x0303 (fields 8 [(2, 1, 63)]), 0, cBits, ⟨[⟨0, []⟩], true, 0, none⟩, _, _, by decide, got (one cBits) 0 0x0303 (fields 8 [(2, 1, 63)]) (by decide +kernel) (by decide +kernel), by decide +kernel⟩
  · exact ⟨posted (one cUnsure) 0 0x0304 (fields 8 [(2, 2, 1)]), 0, cUnsure, _, _, by decide, got (one cUnsure) 0 0x0304 (fields 8 [(2, 2, 1)]) (by decide +kernel) (by decide +kernel), by decide +kernel⟩
  · exact ⟨posted (one coll0) 0 0x0304 (zeros 8), 0, coll0, _, _, by decide, got (one coll0) 0 0x0304 (zeros 8) (by decide +kernel) (by decide +kernel), by decide +kernel⟩
  · exact ⟨one coll0, 0, 1, sum0, 1, coll0, by decide +kernel⟩
  · exact ⟨one cPub, 0, 1, { sum0 with seq := 5 }, 1, cPub, by decide +kernel⟩
  · exact ⟨one cPub, 0, 1, ⟨0, 1, [1], 0, false⟩, cPub, by decide +kernel⟩

def ownUpd : UpdBatch := { upd0 with sent := some 0, homes := [0] }
def partMine : Part := { part0 with coord := 0 }
def ownState (u : UpdBatch) (p : Part) : State := (withUpd coll0 u).search! (fun x => { x with parts := [p] })
theorem witness_UpdateBatches :
    (∃ (s : State) (mb : Nat) (c : _) (m : Msg) (t : State), mb ≤ 64 ∧ s.next? mb 0x0401 = some (m, t) ∧ updHeaderOk m = true ∧
      t.coll (collKey m.comp (m.p 0 2)) = some c
      ∧ c.state = .online ∧ c.frozen = false ∧ Coll_nextEpoch c ≠ 2 ^ 48 - 1) ∧
    (∃ (s : State) (b : _) (u : _) (h : _) (rest : _), Tbl.find b s.search.upds = some u ∧ s.updRuns b u = true ∧ u.stage = .preparing ∧ u.sent = none ∧
      u.parts = h :: rest ∧ s.nodeLost h = false ∧ s.sendWaits u h = false) ∧
    (∃ (s : State) (p : PartMsg) (c : _), s.part (collKey p.comp p.coll) p.coord p.seq = none ∧ p.coord ≠ s.nodeNo ∧
      s.judgeMap p.comp p.mapVersion = .accept ∧ s.coll (collKey p.comp p.coll) = some c) ∧
    (∃ (s : State) (p : PartMsg) (u : _) (c : _), s.part (collKey p.comp p.coll) p.coord p.seq = none ∧ p.coord = s.nodeNo ∧ s.ownPart p = some u ∧
      s.judgeMap p.comp u.2.mapVersion = .accept ∧ s.coll (collKey p.comp p.coll) = some c) ∧
    (∃ (s : State) (t : _) (f : _) (k : _) (coord : _) (seq : _) (p : _) (c : _) (d : _) (done : _), s.part k coord seq = some p ∧ p.state = .locked ∧ p.split = none ∧ s.deltaUp = true ∧ s.coll k = some d ∧ s.forwardOps k d p.ops = f ∧ (f.2.part! k coord seq (fun q => { q with ops := f.1 })).prepAll k coord seq (List.range p.ops.length) = (t, done) ∧ ((t.publishGrown k).part! k coord seq (fun q => { q with state := .writing })).coll k = some c) ∧
    (∃ (s : State) (b : _) (u : _) (h : _), Tbl.find b s.search.upds = some u ∧ u.sent = some h ∧ h ≠ s.nodeNo) ∧
    (∃ (s : State) (b : _) (u : _) (p : _), Tbl.find b s.search.upds = some u ∧ u.sent = some s.nodeNo ∧
      s.part u.coll s.nodeNo (UpdBatch_partSeq u s.nodeNo) = some p ∧ p.state = .prepared) ∧
    (∃ (s : State) (b : _) (u : _) (h : _), Tbl.find b s.search.upds = some u ∧ u.sent = some h) ∧
    (∃ (s : State) (b : _) (u : _) (h : _), Tbl.find b s.search.upds = some u ∧ u.sent = some h) ∧
    (∃ (s : State) (k : _) (coord : _) (seq : _) (e : _) (c : _) (p : _), s.coll k = some c ∧ s.partsOf k coord seq = [p] ∧ coord ≠ s.nodeNo ∧
      p.state = .prepared ∧ e ≠ 0 ∧ s.pubsWait c = false) ∧
    (∃ (s : State) (k : _) (coord : _) (seq : _) (c : _) (p : _) (rest : _), s.coll k = some c ∧ s.partsOf k coord seq = p :: rest ∧ coord ≠ s.nodeNo ∧
      (p :: rest).all (fun q => decide (q.state = .committed)) = true) ∧
    (∃ (s : State) (b : _) (u : _) (h : _), Tbl.find b s.search.upds = some u ∧ u.stage = .committing ∧ h ≠ s.nodeNo ∧ u.homes.contains h = true ∧
      u.reports.contains h = false) ∧
    (∃ (s : State) (b : _) (u : _), Tbl.find b s.search.upds = some u ∧ u.stage = .committing ∧ s.partsOf u.coll s.nodeNo u.seq ≠ [] ∧
      (s.partsOf u.coll s.nodeNo u.seq).all (fun p => decide (p.state = .committed)) = true ∧ u.homes.contains s.nodeNo = true ∧
        u.reports.contains s.nodeNo = false) ∧
    (∃ (s : State) (b : _) (u : _) (x : _) (c : _) (m : _), Tbl.find b s.search.upds = some u ∧ s.batch b = some x ∧ s.coll u.coll = some c ∧
      x.msg = some m ∧ u.migr = none ∧ x.torn = none ∧ (u.stage = .stableWait ∨ (u.stage = .reporting ∧ s.epochHome c.comp c.desc.span ≠ s.nodeNo)) ∧
        u.epoch ≤ c.lastEpoch) ∧
    (∃ (s : State) (k : _) (coord : _) (seq : _) (p : _) (c : _), s.part k coord seq = some p ∧ s.coll k = some c ∧ p.state = .prepared ∧
      p.askSent = false ∧ s.epochHome c.comp c.desc.span ≠ s.nodeNo) ∧
    (∃ (s : State) (k : _) (coord : _) (seq : _) (p : _) (c : _) (o : _) (t : _), s.part k coord seq = some p ∧ s.coll k = some c ∧ p.state = .prepared ∧
      p.askSent = false ∧ s.epochHome c.comp c.desc.span = s.nodeNo ∧ (s.reach p.deadline).judgeOutcome k coord seq = some (o, t)) ∧
    (∃ (s : State) (k : _) (coord : _) (seq : _) (p : _), s.part k coord seq = some p ∧ p.state = .prepared ∧ p.askSent = true) := by
  refine ⟨?_, ?_, ?_, ?_, ?_, ?_, ?_, ?_, ?_, ?_, ?_, ?_, ?_, ?_, ?_, ?_, ?_⟩
  · exact ⟨posted (one coll0) 0 0x0401 (fields 64 [(2, 2, 4096), (0x20, 8, 131072)]), 0, coll0, _, _, by decide, got (one coll0) 0 0x0401 (fields 64 [(2, 2, 4096), (0x20, 8, 131072)]) (by decide +kernel) (by decide +kernel), by decide +kernel⟩
  · exact ⟨withUpd coll0 upd0, 1, upd0, 1, [], by decide +kernel⟩
  · exact ⟨one coll0, ⟨0, 0, 1, 1, 1, []⟩, coll0, by decide +kernel⟩
  · exact ⟨withUpd coll0 ownUpd, ⟨0, 0, 0, 1, 1, []⟩, (1, ownUpd), coll0, by decide +kernel⟩
  · exact ⟨withPart coll0 { part0 with state := .locked }, _, _, 0, 1, 1, { part0 with state := .locked }, coll0, coll0, _, by decide +kernel, rfl, rfl, by decide +kernel, by decide +kernel, rfl, rfl, by decide +kernel⟩
  · exact ⟨withUpd coll0 { upd0 with sent := some 1 }, 1, { upd0 with sent := some 1 }, 1, by decide +kernel⟩
  · exact ⟨ownState ownUpd partMine, 1, ownUpd, partMine, by decide +kernel⟩
  · exact ⟨withUpd coll0 { upd0 with sent := some 1 }, 1, { upd0 with sent := some 1 }, 1, by decide +kernel⟩
  · exact ⟨withUpd coll0 { upd0 with sent := some 1 }, 1, { upd0 with sent := some 1 }, 1, by decide +kernel⟩
  · exact ⟨withPart coll0 part0, 0, 1, 1, 1, coll0, part0, by decide +kernel⟩
  · exact ⟨withPart coll0 { part0 with state := .committed }, 0, 1, 1, coll0, { part0 with state := .committed }, [], by decide +kernel⟩
  · exact ⟨withUpd coll0 { upd0 with stage := .committing, homes := [1] }, 1, { upd0 with stage := .committing, homes := [1] }, 1, by decide +kernel⟩
  · exact ⟨ownState { ownUpd with stage := .committing } { partMine with state := .committed }, 1, { ownUpd with stage := .committing }, by decide +kernel⟩
  · exact ⟨withUpd { coll0 with lastEpoch := 1 } { upd0 with stage := .stableWait, epoch := 1 }, 1, { upd0 with stage := .stableWait, epoch := 1 }, batch0, { coll0 with lastEpoch := 1 }, msg 0 0x0401 (zeros 64), by decide +kernel⟩
  · exact ⟨(withPart coll0 part0).setRaw Reg.TRB_NODE 1, 0, 1, 1, part0, coll0, by decide +kernel⟩
  · exact ⟨withPart coll0 part0, 0, 1, 1, part0, coll0, Outcome2.aborted false, _, by decide +kernel, by decide +kernel, rfl, rfl, by decide +kernel, rfl⟩
  · exact ⟨withPart coll0 { part0 with askSent := true }, 0, 1, 1, { part0 with askSent := true }, by decide +kernel⟩

def cTake : Coll := { coll0 with home := some { EpochHome.fresh with takeover := true } }
def cPush : Coll := { coll0 with home := some ⟨3, 1, [], [], false, 0, 0⟩ }
def cAway : Coll := { coll0 with home := none }
def wantUpd : UpdBatch := { upd0 with stage := .wantEpoch, homes := [0] }
def wantFar (u : UpdBatch) : State := (withUpd cAway u).setRaw Reg.TRB_NODE 1
theorem witness_Epochs :
    (∃ (s : State) (t : _) (k : _) (coord : _) (seq : _) (v : _) (c : _) (h : _) (o : Outcome2), s.coll k = some c ∧ c.home = some h ∧ coord ≠ s.nodeNo ∧
      h.takeover = false ∧ s.epochHome c.comp c.desc.span = s.nodeNo ∧ s.judgeMap c.comp v ≠ .hold ∧ s.grantEpoch k coord seq = some (o, t)) ∧
    (∃ (s : State) (k : _) (coord : _) (v : _) (c : _), s.coll k = some c ∧ c.home = none ∧ coord ≠ s.nodeNo ∧ s.judgeMap c.comp v ≠ .hold) ∧
    (∃ (s : State) (t : _) (k : _) (seq : _) (c : _) (h : _) (o : Outcome2) (u : _), s.coll k = some c ∧ c.home = some h ∧ s.updOf k seq = some u ∧
      u.2.stage = .wantEpoch ∧ h.takeover = false ∧ s.epochHome c.comp c.desc.span = s.nodeNo ∧ s.judgeMap c.comp (s.mapVersion c.comp) ≠ .hold ∧
        s.grantEpoch k s.nodeNo seq = some (o, t)) ∧
    (∃ (s : State) (b : _) (u : _), Tbl.find b s.search.upds = some u ∧ u.stage = .wantEpoch ∧ u.epoch = 0 ∧ s.homeNode u.coll ≠ s.nodeNo ∧ u.migr = none ∧
      s.search.bitWrites.find? (fun w => decide (w.seq = u.seq)) = none) ∧
    (∃ (s : State) (b : _) (u : _) (mv : _), Tbl.find b s.search.upds = some u ∧ u.stage = .wantEpoch ∧ u.epoch = 0 ∧ s.homeNode u.coll ≠ s.nodeNo ∧
      u.migr = some mv) ∧
    (∃ (s : State) (b : _) (u : _), Tbl.find b s.search.upds = some u ∧ u.stage = .wantEpoch ∧ u.epoch = 0 ∧ s.homeNode u.coll ≠ s.nodeNo) ∧
    (∃ (s : State) (b : _) (u : _) (x : Bool), Tbl.find b s.search.upds = some u ∧ u.stage = .wantEpoch ∧ u.epoch = 0 ∧ s.homeNode u.coll ≠ s.nodeNo ∧
      u.migr = none ∧ (if x then s else s.logAbort (u.coll / 4096)).search.bitWrites.find? (fun w => decide (w.seq = u.seq)) = none) ∧
    (∃ (s : State) (k : _) (e : _) (c : _) (h : _), s.coll k = some c ∧ c.home = some h ∧ e < h.next ∧ e ≠ 0 ∧ h.takeover = false ∧
      s.search.upds.find? (fun u => decide (u.2.coll = k) && decide (u.2.epoch = e)) = none) ∧
    (∃ (s : State) (k : _) (e : _) (c : _) (h : _) (b : _) (u : _), s.coll k = some c ∧ c.home = some h ∧ e < h.next ∧ e ≠ 0 ∧ h.takeover = false ∧
      s.search.upds.find? (fun u => decide (u.2.coll = k) && decide (u.2.epoch = e)) = some (b, u) ∧ u.stage = .reporting) ∧
    (∃ (s : State) (k : _) (c : _) (h : _), s.coll k = some c ∧ c.home = some h ∧ h.pushed < h.stable) ∧
    (∃ (s : State) (k : _) (e : _) (c : _), s.coll k = some c ∧ c.home = none ∧ c.lastEpoch < e) ∧
    (∃ (s : State) (k : _) (c : _) (h : _), s.coll k = some c ∧ c.home = some h ∧ h.takeover = true ∧ s.epochHome c.comp c.desc.span = s.nodeNo ∧ s.search.upds = [] ∧ s.search.parts = []) := by
  refine ⟨?_, ?_, ?_, ?_, ?_, ?_, ?_, ?_, ?_, ?_, ?_, ?_⟩
  · exact ⟨one coll0, _, 0, 1, 1, 1, coll0, EpochHome.fresh, .epoch 1, by decide +kernel, by decide +kernel, by decide +kernel, by decide +kernel, by decide +kernel, by decide +kernel, rfl⟩
  · exact ⟨one cAway, 0, 1, 1, cAway, by decide +kernel⟩
  · exact ⟨withUpd coll0 wantUpd, _, 0, 1, coll0, EpochHome.fresh, .epoch 1, (1, wantUpd), by decide +kernel, by decide +kernel, by decide +kernel, by decide +kernel, by decide +kernel, by decide +kernel, by decide +kernel, rfl⟩
  · exact ⟨wantFar wantUpd, 1, wantUpd, by decide +kernel⟩
  · exact ⟨wantFar { wantUpd with migr := some [] }, 1, { wantUpd with migr := some [] }, [], by decide +kernel⟩
  · exact ⟨wantFar wantUpd, 1, wantUpd, by decide +kernel⟩
  · exact ⟨wantFar wantUpd, 1, wantUpd, true, by decide +kernel⟩
  · exact ⟨one cPush, 0, 2, cPush, ⟨3, 1, [], [], false, 0, 0⟩, by decide +kernel⟩
  · exact ⟨withUpd cPush { upd0 with epoch := 2, stage := .reporting }, 0, 2, cPush, ⟨3, 1, [], [], false, 0, 0⟩, 1, { upd0 with epoch := 2, stage := .reporting }, by decide +kernel⟩
  · exact ⟨one cPush, 0, cPush, ⟨3, 1, [], [], false, 0, 0⟩, by decide +kernel⟩
  · exact ⟨one cAway, 0, 1, cAway, by decide +kernel⟩
  · exact ⟨one cTake, 0, cTake, { EpochHome.fresh with takeover := true }, by decide +kernel⟩

def cRow1 : Coll := { collRow with slots := [(0, { slot0 with rowId := 1597 })], index := [(1597, 0)] }
def tomb0 : Slot := { slot0 with state := .tombstone, link := .unlinked, delEpoch := 2 }
def cTomb : Coll := { collRow with slots := [(0, tomb0)], index := [], lastEpoch := 200000 }
def popDesc : Desc := ⟨zeros 32 ++ [64, 0, 0, 4, 0, 0, 0, 0, 2, 0, 2, 0, 1, 0, 10, 0, 0, 4] ++ zeros 14 ++ List.replicate 64 0xFF⟩
def cPop : Coll := { collRow with desc := popDesc }
def cLost : Coll := { collRow with slots := [(0, { slot0 with codeLost := true })] }
def cTight : Coll := { collRow with reaches := [(0, { reach0 with tightEpoch := 2 })], lastEpoch := 200000 }
def migr0 : State := (one coll0).search! (fun x => { x with migrations := [(4, 1), (migKey 0 5, 1)] })
def cTightC : Coll := { collRow with catches := [(0, ⟨List.replicate 64 0, 0, 0, 2, some 0, 0, 0, false⟩)], lastEpoch := 200000 }
def sumT : Summary := ⟨true, true, 0, 0, 2, 0, 0, 1, []⟩
def cTightS : Coll := { collRow with sources := [(1, { SourceSums.none_ with sums := [(0, sumT)] })], lastEpoch := 200000 }
def cHot : Coll := { cPop with slots := [(0, { slot0 with access := 2 })] }
theorem witness_RowsAndBalls :
    (∃ (s : State) (k : _) (row : _) (n : _) (c : _) (i : _) (z : _), s.coll k = some c ∧ c.currentOf row = some (i, z) ∧
      Tbl.has (migKey k row) s.search.migrations = false ∧
        s.search.parts.any (fun q => decide (q.coll = k) && Part_holds q && (Part_rows q).contains row) = false ∧ n ≠ s.nodeNo ∧
          s.homeOf c.comp c.desc.span row = n ∧ s.nodeLost n = false) ∧
    (∃ (s : State) (k : _) (row : _) (c : _) (b : _), s.coll k = some c ∧ Tbl.find (migKey k row) s.search.migrations = some b ∧
      Tbl.find b s.search.upds = none ∧ (Tbl.erase (migKey k row) s.search.migrations).any (fun m => decide (m.2 = b)) = true) ∧
    (∃ (s : State) (k : _) (r : _) (c : _) (y : _), s.coll k = some c ∧ Tbl.find r c.catches = some y ∧ s.mayReplace k c y.tightEpoch = true) ∧
    (∃ (s : State) (k : _) (n : _) (r : _) (c : _) (v : _) (y : _), s.coll k = some c ∧ Tbl.find n c.sources = some v ∧ Tbl.find r v.sums = some y ∧
      s.mayReplace k c y.tightEpoch = true) ∧
    (∃ (s : State) (k : _) (r : _) (c : _) (y : _), s.coll k = some c ∧ Tbl.find r c.reaches = some y ∧ s.mayReplace k c y.tightEpoch = false) ∧
    (∃ (s : State) (k : _) (r : _) (c : _) (y : _), s.coll k = some c ∧ Tbl.find r c.reaches = some y ∧ s.mayReplace k c y.tightEpoch = true) ∧
    (∃ (s : State) (k : _) (i : _) (c : _) (z : _), s.coll k = some c ∧ Tbl.find i c.slots = some z ∧ (z.state = .tombstone ∨ z.state = .forward) ∧
      z.link = .unlinked ∧ s.retained k c (z.delEpoch - 1) = false ∧ (s.inFlight k).any (fun e => decide (e < z.delEpoch)) = false) ∧
    (∃ (s : State) (k : _) (c : _), s.coll k = some c ∧ c.desc.codeFmt = 4) ∧
    (∃ (s : State) (k : _) (i : _) (c : _) (z : _), s.coll k = some c ∧ Tbl.find i c.slots = some z ∧ c.desc.codeFmt = 4 ∧ z.recoded = false ∧
      z.current = true ∧ z.damaged = false ∧ c.desc.targetWidth z.access ≠ z.width ∧ s.reachScanned k z.reach = false ∧
        (c.desc.targetWidth z.access = 1 → (s.allocate c.comp 0 (promoBytes c.desc.raw)).isNone = false)) ∧
    (∃ (s : State) (k : _) (i : _) (c : _) (z : _), s.coll k = some c ∧ Tbl.find i c.slots = some z ∧ c.desc.codeFmt = 4 ∧ z.recoded = false ∧
      z.current = true ∧ z.damaged = false ∧ 1 ≠ z.width ∧ s.reachScanned k z.reach = false ∧ c.desc.targetWidth z.access = 1 ∧
        (s.allocate c.comp 0 (promoBytes c.desc.raw)).isNone = true) ∧
    (∃ (s : State) (k : _) (i : _) (c : _) (z : _), s.coll k = some c ∧ Tbl.find i c.slots = some z ∧ z.state ≠ .free ∧ z.codeLost = true ∧
      z.damaged = false) ∧
    (∃ (s : State) (k : _) (i : _) (l : _) (ls : _) (c : _) (z : _), s.coll k = some c ∧ Tbl.find i c.slots = some z ∧ z.state ≠ .free ∧
      z.codeLost = true ∧ z.damaged = false ∧ c.desc.slotLsns c.base i = l :: ls) ∧
    (∃ (s : State) (mb : Nat) (c : _) (e : _) (m : Msg) (t : State), mb ≤ 64 ∧ s.next? mb 0x0402 = some (m, t) ∧ gatherHeaderOk m = true ∧
      t.coll (collKey m.comp (m.p 0 2)) = some c ∧ m.p 4 4 * c.desc.gatherStride (bit (m.p 2 2) 0) ≤ m.p 0x18 8 ∧ c.state = .online ∧
        t.pickEpoch (collKey m.comp (m.p 0 2)) c (m.p 0x20 8) = .run e) ∧
    (∃ (s : State) (mb : Nat) (c : _) (bs : List Byte) (m : Msg) (t : State), mb ≤ 64 ∧ s.next? mb 0x0403 = some (m, t) ∧ m.p 0 2 < 4096 ∧ m.p 2 6 = 0 ∧
      t.coll (collKey m.comp (m.p 0 2)) = some c ∧ (c.desc.refOf false (bytesAt bs 0 (c.desc.dim * c.desc.elemBytes))).isNone = false ∧
        (m.p 8 8 = 0 ∨ bit c.desc.flags 0 = true)) ∧
    (∃ (s : State) (mb : Nat) (c : _) (m : Msg) (t : State), mb ≤ 64 ∧ s.next? mb 0x0404 = some (m, t) ∧ m.p 0 2 < 4096 ∧ m.p 2 6 = 0 ∧
      t.coll (collKey m.comp (m.p 0 2)) = some c) ∧
    (∃ (s : State) (mb : Nat) (x : _) (bs : List Byte) (m : Msg) (t : State), mb ≤ 64 ∧ s.next? mb 0x0604 = some (m, t) ∧ m.p 1 3 = 0 ∧ m.p 0 1 ≤ 63 ∧
      t.comp (m.p 0 1) = some x ∧ seqGe 32 (m.p 4 4) x.mapVersion = true ∧ m.p 4 4 ≠ x.mapVersion ∧
        ((List.range 4096).map (fun i => natAt bs (2 * i) 2)).any (fun h => decide (4096 ≤ h)) = false) ∧
    (∃ (s : State) (c : _), s.comp c = none) ∧
    (∃ (s : State) (c : _) (x : _), s.comp c = some x) := by
  refine ⟨?_, ?_, ?_, ?_, ?_, ?_, ?_, ?_, ?_, ?_, ?_, ?_, ?_, ?_, ?_, ?_, ?_, ?_⟩
  · exact ⟨one cRow1, 0, 1597, 1, cRow1, 0, { slot0 with rowId := 1597 }, by decide +kernel⟩
  · exact ⟨migr0, 0, 5, coll0, 1, by decide +kernel⟩
  · exact ⟨one cTightC, 0, 0, cTightC, ⟨List.replicate 64 0, 0, 0, 2, some 0, 0, 0, false⟩, by decide +kernel⟩
  · exact ⟨one cTightS, 0, 1, 0, cTightS, { SourceSums.none_ with sums := [(0, sumT)] }, sumT, by decide +kernel⟩
  · exact ⟨one collRow, 0, 0, collRow, reach0, by decide +kernel⟩
  · exact ⟨one cTight, 0, 0, cTight, { reach0 with tightEpoch := 2 }, by decide +kernel⟩
  · exact ⟨one cTomb, 0, 0, cTomb, tomb0, by decide +kernel⟩
  · exact ⟨one cPop, 0, cPop, by decide +kernel⟩
  · exact ⟨one cPop, 0, 0, cPop, slot0, by decide +kernel⟩
  · exact ⟨(one cHot).comp! 0 (fun c => Comp.setUsed c 0 (2 ^ 60)), 0, 0, cHot, { slot0 with access := 2 }, by decide +kernel⟩
  · exact ⟨one cLost, 0, 0, cLost, { slot0 with codeLost := true }, by decide +kernel⟩
  · exact ⟨one cLost, 0, 0, 0, [], cLost, { slot0 with codeLost := true }, by decide +kernel⟩
  · exact ⟨posted (one collRow) 0 0x0402 (fields 64 [(4, 4, 1), (0x18, 8, 1024), (0x20, 8, 1)]), 0, collRow, 1, _, _, by decide, got (one collRow) 0 0x0402 (fields 64 [(4, 4, 1), (0x18, 8, 1024), (0x20, 8, 1)]) (by decide +kernel) (by decide +kernel), by decide +kernel⟩
  · exact ⟨posted (one coll0) 0 0x0403 (zeros 24), 0, coll0, zeros 128, _, _, by decide, got (one coll0) 0 0x0403 (zeros 24) (by decide +kernel) (by decide +kernel), by decide +kernel⟩
  · exact ⟨posted (one coll0) 0 0x0404 (zeros 8), 0, coll0, _, _, by decide, got (one coll0) 0 0x0404 (zeros 8) (by decide +kernel) (by decide +kernel), by decide +kernel⟩
  · exact ⟨posted (one coll0) 64 0x0604 (fields 16 [(4, 4, 2)]), 64, comp0, zeros 8192, _, _, by decide, got (one coll0) 64 0x0604 (fields 16 [(4, 4, 2)]) (by decide +kernel) (by decide +kernel), by decide +kernel, by decide +kernel, by decide +kernel, by decide +kernel, by decide +kernel, zero_homes⟩
  · exact ⟨one coll0, 5, by decide +kernel⟩
  · exact ⟨(one coll0).slc! (fun x => { x with comps := [(0, { comp0 with hasPrev := true })] }), 0, { comp0 with hasPrev := true }, by decide +kernel⟩

def askBatch : State := (withQuery collRow 0 query0).batch! 1 (fun x => { x with stage := .epochCheck })
def cFar : Coll := { collRow with sources := [(1, { SourceSums.none_ with unsure := true })] }
def openQ : Query := { query0 with started := true, cands := [cand0] }
def visitQ : Query := { query0 with started := true, round := 1, expect := [1], visited := [1] }
def askB : Batch := { batch0 with opcode := 0x0301, stage := .epochCheck }
def cLong : Coll := { collRow with lastEpoch := 200000 }
def cDam : Coll := { collRow with slots := [(0, { slot0 with damaged := true })] }
def askIn (c : Coll) : State := (withQuery c 0 query0).batch! 1 (fun x => { x with stage := .epochCheck })
def askNone : State := (askIn coll0).search! (fun x => { x with qbatches := [] })
def startQ : Query := { query0 with started := true }
def raisedQ : Query := { query0 with started := true, cands := [{ cand0 with damaged := true, rescored := true }] }
def attSweep : AttObj := { att0 with toks := [⟨zeros 128, zeros 64, zeros 8, [], 0, []⟩] }
def attQ : QBatch := { qbatch0 0 openQ with coll := attBase }
def attState : State := ((withQuery collRow 0 openQ).search! (fun x => { x with qbatches := [(1, attQ)] })).slc! (fun x => { x with objs := [(objKey 0 0, attObj attSweep)] })
theorem witness_SearchBatches :
    (∃ (s : State) (mb : Nat) (c : _) (e : _) (m : Msg) (t : State), mb ≤ 64 ∧ s.next? mb 0x0301 = some (m, t) ∧ 1 ≤ m.p 4 2 ∧ m.p 4 2 ≤ 16384 ∧
      qryHeaderOk m m.len = true ∧ t.coll (collKey m.comp (m.p 0 2)) = some c ∧ c.state = .online ∧ c.desc.dim * c.desc.elemBytes ≤ m.p 0xA 2 ∧
        m.p 2 2 * recordStride (m.p 4 2) ≤ m.p 0x20 8 ∧ t.pickEpoch (collKey m.comp (m.p 0 2)) c (m.p 0x28 8) = .run e ∧
          filterValid (Coll_definedBitmap c) (m.pb 0x40 32) = true) ∧
    (∃ (s : State) (b : _) (x : _) (q : _) (e : _) (c : _), s.batch b = some x ∧ x.stage = .epochCheck ∧ x.torn = none ∧ s.qbatch b = some q ∧
      s.checkedEpoch b = q.readEpoch ∧ (s.raiseStable (x.coll.getD 0) e).coll (x.coll.getD 0) = some c ∧ q.readEpoch ≤ e ∧
        (s.raiseStable (x.coll.getD 0) e).retained (x.coll.getD 0) c q.readEpoch = true) ∧
    (∃ (s : State) (b : _) (x : _), s.batch b = some x ∧ x.stage = .epochCheck ∧ x.torn = none) ∧
    (∃ (s : State) (b : _) (x : _) (e : _) (c : _), s.batch b = some x ∧ x.stage = .epochCheck ∧ x.torn = none ∧
      (s.raiseStable (x.coll.getD 0) e).coll (x.coll.getD 0) = some c ∧ e < s.checkedEpoch b) ∧
    (∃ (s : State) (b : _) (x : _) (e : _) (c : _), s.batch b = some x ∧ x.stage = .epochCheck ∧ x.torn = none ∧
      (s.raiseStable (x.coll.getD 0) e).coll (x.coll.getD 0) = some c ∧ s.checkedEpoch b ≤ e ∧
        (s.raiseStable (x.coll.getD 0) e).retained (x.coll.getD 0) c (s.checkedEpoch b) = false) ∧
    (∃ (s : State) (b : _) (x : _) (e : _) (c : _), s.batch b = some x ∧ x.stage = .epochCheck ∧ x.torn = none ∧ s.qbatch b = none ∧
      (s.raiseStable (x.coll.getD 0) e).coll (x.coll.getD 0) = some c ∧ s.checkedEpoch b ≤ e ∧
        (s.raiseStable (x.coll.getD 0) e).retained (x.coll.getD 0) c (s.checkedEpoch b) = true) ∧
    (∃ (s : State) (b : _), s.runs b = false ∧ (s.tryRoot b).runs b = true) ∧
    (∃ (s : State) (b : _) (i : _) (qb : _) (q : _), s.qbatch b = some qb ∧ s.query b i = some q ∧ s.runs b = true ∧ q.live = true ∧ q.started = false ∧
      QBatch_ready qb i = true ∧ q.needMap = none ∧ qb.lead ≠ s.nodeNo) ∧
    (∃ (s : State) (b : _) (i : _) (qb : _) (q : _) (c : _) (ns : _), s.qbatch b = some qb ∧ s.query b i = some q ∧ s.runs b = true ∧ q.live = true ∧
      q.started = false ∧ QBatch_ready qb i = true ∧ q.needMap = none ∧ qb.lead = s.nodeNo ∧ s.qcoll qb.coll = some c ∧
        (if qb.localOnly then [s.nodeNo] else roundOne s.nodeNo qb.r1 (s.spanNodes c.comp c.desc.span) (fun n => (State.nodeBound c q.ref qb.readEpoch n).map (·.1))) = ns) ∧
    (∃ (s : State) (p : FanPart), s.judgeMap p.comp p.mapVersion = .hold) ∧
    (∃ (s : State) (p : FanPart), s.judgeMap p.comp p.mapVersion = .bounce) ∧
    (∃ (s : State) (p : FanPart) (c : _) (d : _), s.judgeMap p.comp p.mapVersion = .accept ∧ s.coll (collKey p.comp p.coll) = some d ∧
      (if d.lastEpoch < p.readEpoch then s.raiseStable (collKey p.comp p.coll) p.readEpoch else s).coll (collKey p.comp p.coll) = some c ∧
        (if d.lastEpoch < p.readEpoch then s.raiseStable (collKey p.comp p.coll) p.readEpoch else s).retained (collKey p.comp p.coll) c p.readEpoch = false) ∧
    (∃ (s : State) (p : FanPart) (c : _) (d : _), s.judgeMap p.comp p.mapVersion = .accept ∧ s.coll (collKey p.comp p.coll) = some d ∧
      (if d.lastEpoch < p.readEpoch then s.raiseStable (collKey p.comp p.coll) p.readEpoch else s).coll (collKey p.comp p.coll) = some c ∧
        (if d.lastEpoch < p.readEpoch then s.raiseStable (collKey p.comp p.coll) p.readEpoch else s).retained (collKey p.comp p.coll) c p.readEpoch = true) ∧
    (∃ (s : State) (b : _) (i : _) (slot : _) (qb : _) (q : _) (c : _) (x : _) (z : _), s.qbatch b = some qb ∧ s.query b i = some q ∧ s.runs b = true ∧
      q.live = true ∧ s.qcoll qb.coll = some c ∧ Query_next q = some x ∧ Tbl.find slot c.slots = some z ∧ x.slot = slot ∧
        s.readWaits (s.refLun c slot) .demand = false ∧ z.damaged = false) ∧
    (∃ (s : State) (b : _) (i : _) (slot : _) (qb : _) (q : _) (c : _) (x : _) (z : _), s.qbatch b = some qb ∧ s.query b i = some q ∧ s.runs b = true ∧
      q.live = true ∧ s.qcoll qb.coll = some c ∧ Query_next q = some x ∧ Tbl.find slot c.slots = some z ∧ x.slot = slot ∧
        s.readWaits (s.refLun c slot) .demand = false ∧ z.damaged = true) ∧
    (∃ (s : State) (b : _) (i : _) (slot : _) (qb : _) (q : _) (c : _) (x : _) (z : _), s.qbatch b = some qb ∧ s.query b i = some q ∧ s.runs b = true ∧
      q.live = true ∧ s.qcoll qb.coll = some c ∧ Query_next q = some x ∧ Tbl.find slot c.slots = some z ∧ x.slot = slot ∧
        s.readWaits (s.refLun c slot) .demand = false ∧ attBase ≤ qb.coll) ∧
    (∃ (s : State) (b : _) (i : _) (qb : _) (q : _), s.qbatch b = some qb ∧ s.query b i = some q ∧ s.runs b = true ∧ Query_localDone q = true ∧
      q.overRaised qb.k = true) ∧
    (∃ (s : State) (b : _) (i : _) (qb : _) (q : _) (c : _), s.qbatch b = some qb ∧ s.query b i = some q ∧ s.runs b = true ∧ Query_localDone q = true ∧
      q.overRaised qb.k = false ∧ s.qcoll qb.coll = some c ∧ qb.lead ≠ s.nodeNo) ∧
    (∃ (s : State) (b : _) (i : _) (qb : _) (q : _) (c : _), s.qbatch b = some qb ∧ s.query b i = some q ∧ s.runs b = true ∧ Query_localDone q = true ∧
      q.overRaised qb.k = false ∧ s.qcoll qb.coll = some c ∧ qb.lead = s.nodeNo) ∧
    (∃ (s : State) (b : _) (i : _) (qb : _) (q : _), s.qbatch b = some qb ∧ s.query b i = some q ∧ qb.lead = s.nodeNo ∧ s.runs b = true ∧
      q.complete = false ∧ q.round = 2 ∧ q.expect = []) ∧
    (∃ (s : State) (b : _) (i : _) (qb : _) (q : _), s.qbatch b = some qb ∧ s.query b i = some q ∧ qb.lead = s.nodeNo ∧ q.complete = false ∧
      q.status = none ∧ q.expect.any (fun n => decide (n ≠ s.nodeNo)) = true) ∧
    (∃ (s : State) (b : _) (i : _) (v : _) (qb : _) (q : _), s.qbatch b = some qb ∧ s.query b i = some q ∧ qb.lead = s.nodeNo ∧ q.complete = false ∧ q.visited ≠ [] ∧ q.status = none ∧ q.needMap = none ∧ q.reroutes < 2 ∧ seqGe 32 (s.mapVersion (qb.coll / 4096)) v = false) := by
  refine ⟨?_, ?_, ?_, ?_, ?_, ?_, ?_, ?_, ?_, ?_, ?_, ?_, ?_, ?_, ?_, ?_, ?_, ?_, ?_, ?_, ?_, ?_⟩
  · exact ⟨posted (one collRow) 0 0x0301 (fields 96 [(2, 2, 1), (4, 2, 16384), (8, 1, 3), (0xA, 2, 128), (0x20, 8, 262208)]), 0, collRow, 1, _, _, by decide, got (one collRow) 0 0x0301 (fields 96 [(2, 2, 1), (4, 2, 16384), (8, 1, 3), (0xA, 2, 128), (0x20, 8, 262208)]) (by decide +kernel) (by decide +kernel), by decide +kernel⟩
  · exact ⟨askBatch, 1, askB, qbatch0 0 query0, 1, collRow, by decide +kernel⟩
  · exact ⟨askBatch, 1, askB, by decide +kernel⟩
  · exact ⟨askBatch, 1, askB, 0, collRow, by decide +kernel⟩
  · exact ⟨askIn cLong, 1, askB, 200000, cLong, by decide +kernel⟩
  · exact ⟨askNone, 1, askB, 0, coll0, by decide +kernel⟩
  · exact ⟨(withQuery collRow 0 query0).batch! 1 (fun x => { x with stage := .rootWait }), 1, by decide +kernel⟩
  · exact ⟨withQuery collRow 1 query0, 1, 0, qbatch0 1 query0, query0, by decide +kernel⟩
  · exact ⟨withQuery collRow 0 query0, 1, 0, qbatch0 0 query0, query0, collRow, [0], by decide +kernel⟩
  · exact ⟨one collRow, ⟨0, 0, 1, 1, 2, 10, 0, 1, 0, 1, []⟩, by decide +kernel⟩
  · exact ⟨one collRow, ⟨0, 0, 1, 1, 0, 10, 0, 1, 0, 1, []⟩, by decide +kernel⟩
  · exact ⟨one cLong, ⟨0, 0, 1, 1, 1, 10, 0, 1, 0, 1, []⟩, cLong, cLong, by decide +kernel⟩
  · exact ⟨one collRow, ⟨0, 0, 1, 1, 1, 10, 0, 1, 0, 1, []⟩, collRow, collRow, by decide +kernel⟩
  · exact ⟨withQuery collRow 0 openQ, 1, 0, 0, qbatch0 0 openQ, openQ, collRow, cand0, slot0, by decide +kernel⟩
  · exact ⟨withQuery cDam 0 openQ, 1, 0, 0, qbatch0 0 openQ, openQ, cDam, cand0, { slot0 with damaged := true }, by decide +kernel⟩
  · exact ⟨attState, 1, 0, 0, attQ, openQ, attView 0 attSweep, cand0, _, by decide +kernel, by decide +kernel, by decide +kernel, by decide +kernel, by decide +kernel, by decide +kernel, (Option.some_get (by decide +kernel)).symm, by decide +kernel⟩
  · exact ⟨withQuery collRow 0 raisedQ, 1, 0, qbatch0 0 raisedQ, raisedQ, by decide +kernel⟩
  · exact ⟨withQuery collRow 1 startQ, 1, 0, qbatch0 1 startQ, startQ, collRow, by decide +kernel⟩
  · exact ⟨withQuery collRow 0 startQ, 1, 0, qbatch0 0 startQ, startQ, collRow, by decide +kernel⟩
  · exact ⟨withQuery collRow 0 { query0 with round := 2 }, 1, 0, qbatch0 0 { query0 with round := 2 }, { query0 with round := 2 }, by decide +kernel⟩
  · exact ⟨withQuery collRow 0 visitQ, 1, 0, qbatch0 0 visitQ, visitQ, by decide +kernel⟩
  · exact ⟨withQuery collRow 0 visitQ, 1, 0, 2, qbatch0 0 visitQ, visitQ, by decide +kernel⟩

def walkQ : Query := { query0 with walk := some ⟨[], [], [], 0, 1, []⟩ }
def cPend : Coll := { collRow with slots := [(0, { slot0 with link := .pending })] }
theorem witness_WalksAndLinks :
    (∃ (s : State) (b : _) (i : _) (y : _) (w : _), s.query b i = some y ∧ y.walk = some w ∧ s.runs b = true ∧ y.live = true ∧ s.now < w.deadline) ∧
    (∃ (s : State) (b : _) (i : _) (y : _) (w : _), s.query b i = some y ∧ y.walk = some w) ∧
    (∃ (s : State) (e : _) (r : _) (rest : _), e < 4 ∧ s.search.linkQ = r :: rest) ∧
    (∃ (s : State) (k : _) (c : _), s.coll k = some c ∧
      (Tbl.keys c.reaches).flatMap (fun r => ((c.slotsOf r).filter (fun z => decide (z.2.link = .pending))).map (fun z => (r, z.1))) = []) ∧
    (∃ (s : State) (k : _) (c : _) (r : _) (i : _), s.coll k = some c ∧
      (Tbl.keys c.reaches).flatMap (fun r => ((c.slotsOf r).filter (fun z => decide (z.2.link = .pending))).map (fun z => (r, z.1))) = [(r, i)] ∧
        s.search.linkQ.length < 524288) ∧
    (∃ (s : State) (e : _), e < 4 ∧ (s.search.repairQ.find? (fun r => match (s.coll r.coll).bind (fun c => Tbl.find r.slot c.reaches) with
      | some y => decide (y.cell / 128 = e)
      | none => decide (e = 0))) = none) ∧
    (∃ (s : State) (e : _) (r : _), e < 4 ∧ (s.search.repairQ.find? (fun r => match (s.coll r.coll).bind (fun c => Tbl.find r.slot c.reaches) with
      | some y => decide (y.cell / 128 = e)
      | none => decide (e = 0))) = some r) := by
  refine ⟨?_, ?_, ?_, ?_, ?_, ?_, ?_⟩
  · exact ⟨withQuery collRow 0 walkQ, 1, 0, walkQ, ⟨[], [], [], 0, 1, []⟩, by decide +kernel⟩
  · exact ⟨withQuery collRow 0 walkQ, 1, 0, walkQ, ⟨[], [], [], 0, 1, []⟩, by decide +kernel⟩
  · exact ⟨(one cPend).search! (fun x => { x with linkQ := [⟨0, 0⟩] }), 3, ⟨0, 0⟩, [], by decide +kernel⟩
  · exact ⟨one collRow, 0, collRow, by decide +kernel⟩
  · exact ⟨one cPend, 0, cPend, 0, 0, by decide +kernel⟩
  · exact ⟨one collRow, 0, by decide +kernel⟩
  · exact ⟨(one collRow).search! (fun x => { x with repairQ := [⟨0, 0⟩] }), 0, ⟨0, 0⟩, by decide +kernel⟩

def sweepQ : Query := { query0 with started := true, sweep := [⟨0, 0, 0, false, false, false, []⟩] }
def lane0 : Lane := ⟨1, 0, 0, BoundPart.empty, 0, .all⟩
def issueUp : State := (withQuery collRow 0 sweepQ).cell! 0 (fun c => { c with lanes := [(0, lane0)] })
def waitUp : State := up.cell! 5 (fun c => { c with waiting := true })
def bundleUp : State := up.cell! 511 (fun c => { c with token := true, bundle := some 0 })
theorem witness_CellCommands :
    (∃ (s : State) (n : Nat) (off : _) (bs : List Byte), n < 512 ∧ s.host.nodeState = .boot ∧ bs.length ≤ 2048 ∧ off + bs.length ≤ 65536) ∧
    (∃ (s : State) (n : Nat) (l : _) (b : _) (i : _) (q : _), n < 512 ∧ l < 32 ∧ s.query b i = some q ∧
      ((s.cell n).issues.any (fun i => i.lanes.contains l) || (s.cell n).queue.any (fun r => decide (r.lane = some l))) = false ∧ q.live = true ∧
        q.started = true ∧ s.runs b = true) ∧
    (∃ (s : State) (n : Nat) (k : _) (r : _) (mask : _) (e : _) (c : _) (j : _) (first : _) (qb : _) (l0 : _) (ls : _), n < 512 ∧ s.qcoll k = some c ∧
      ((s.cell n).lanes.filter (fun l => bit mask l.1)).head? = some (j, first) ∧ s.qbatch first.batch = some qb ∧
        issueLanes (s.cell n) qb first r mask = l0 :: ls ∧ issueUse (s.cell n) qb first r mask (issueWidth qb r l0.2) ≠ [] ∧ qb.coll = k ∧
          qb.readEpoch = e ∧ s.runs first.batch = true ∧ (QBatch_groupLive qb first.query).all (fun q => q.started && q.walk.isNone) = true ∧
            nextReach c (QBatch_groupLive qb first.query) n = some r) ∧
    (∃ (n : Nat), n < 512) ∧
    (∃ (s : State) (n : Nat), n < 512 ∧ s.drainTurn n = false) ∧
    (∃ (s : State) (n : Nat), n < 512 ∧ s.drainTurn n = true) ∧
    (∃ (s : State) (n : Nat), n < 512 ∧ (s.cell n).fenced = true) ∧
    (∃ (s : State) (n : Nat) (op : RowOp), n < 512 ∧ (s.cell n).fenced = false ∧ s.rowLegal n op = false) ∧
    (∃ (s : State) (n : Nat) (op : RowOp), n < 512 ∧ (s.cell n).fenced = false ∧ s.rowLegal n op = true) ∧
    (∃ (s : State) (k : _) (b : _), k < 512 * (groupRows / 16) ∧ s.classOf k = b) ∧
    (∃ (s : State) (k : _) (b : _), k < 512 * (groupRows / 16) ∧ s.classOf k ≠ b ∧ s.groupUsed (k / (groupRows / 16)) = false) ∧
    (∃ (s : State) (k : _) (b : _), k < 512 * (groupRows / 16) ∧ s.classOf k ≠ b ∧ s.groupUsed (k / (groupRows / 16)) = true) ∧
    (∃ (n : Nat), n < 512) ∧
    (∃ (n : Nat), n < 512) ∧
    (∃ (s : State) (t : _) (k : _) (i : _) (g : _), k < 4 ∧ s.boundary (Reg.MRC_QUOTA0 + 8 * k) 0 8 k = t ∧ t.tokens k < t.effective k ∧
      t.mrc.hbmStacks[k]? = some g ∧ ((List.range 128).map (fun i => (g.lastGrant + 1 + i) % 128)).find? (fun i => (t.cell (128 * k + i)).waiting) = some i) ∧
    (∃ (s : State) (n : Nat), n < 512 ∧ (s.cell n).token = true ∧ (s.cell n).bundle = none ∧ (s.cell n).ordinary = [] ∧ (s.cell n).fenced = false ∧
      (s.cell n).draining = false) ∧
    (∃ (s : State) (n : Nat), n < 512 ∧ (s.cell n).bundle = none) ∧
    (∃ (s : State) (n : Nat) (f : List RowFault) (t0 : _) (t : _), n < 512 ∧ (s.cell n).bundle = some t0 ∧ s.cellCheck n f = some t) ∧
    (∃ (s : State) (n : Nat) (f : List RowFault) (t0 : _), n < 512 ∧ (s.cell n).bundle = some t0 ∧ s.cellCheck n f = none) := by
  refine ⟨?_, ?_, ?_, ?_, ?_, ?_, ?_, ?_, ?_, ?_, ?_, ?_, ?_, ?_, ?_, ?_, ?_, ?_, ?_⟩
  · exact ⟨up.host! (fun h => { h with nodeState := .boot }), 511, 65520, zeros 16, by decide +kernel⟩
  · exact ⟨withQuery collRow 0 sweepQ, 511, 31, 1, 0, sweepQ, by decide +kernel⟩
  · exact ⟨issueUp, 0, 0, 0, 1, 1, collRow, 0, lane0, qbatch0 0 sweepQ, (0, lane0), [], by decide +kernel⟩
  · exact ⟨511, by decide +kernel⟩
  · exact ⟨up, 511, by decide +kernel⟩
  · exact ⟨up.cell! 511 (fun c => { c with queue := [.gone] }), 511, by decide +kernel⟩
  · exact ⟨up.cell! 511 (fun c => { c with fenced := true }), 511, by decide +kernel⟩
  · exact ⟨up, 0, .copy 0 1, by decide +kernel⟩
  · exact ⟨up.mrc! (fun x => { x with scratch := [0, 11444] }), 0, .copy 0 1, by decide +kernel⟩
  · exact ⟨up, 11718655, false, by decide +kernel⟩
  · exact ⟨up, 11718655, true, by decide +kernel⟩
  · exact ⟨one collRow, 0, true, by decide +kernel⟩
  · exact ⟨511, by decide +kernel⟩
  · exact ⟨511, by decide +kernel⟩
  · exact ⟨waitUp, _, 0, 5, ⟨127, false, 0, []⟩, by decide, rfl, by decide +kernel, by decide +kernel, by decide +kernel⟩
  · exact ⟨up.cell! 511 (fun c => { c with token := true }), 511, by decide +kernel⟩
  · exact ⟨up, 511, by decide +kernel⟩
  · exact ⟨bundleUp, 511, [.check], 0, _, by decide, by decide +kernel, rfl⟩
  · exact ⟨bundleUp, 511, [], 0, by decide +kernel⟩

def att1 : AttObj := { att0 with toks := [⟨zeros 128, zeros 32, zeros 4, [], 0x3C00, List.replicate 64 0⟩], blocks := [⟨List.replicate 64 0, 0, false, 0⟩], groups := [⟨List.replicate 64 0, 0, false, 0⟩] }
def loading0 : WeightObj := { weight0 with loadMsg := some (msg 0 0x0505 (zeros 8)) }
def dropped0 : Obj := { attObj att0 with dropMsg := some (msg 0 0x0504 (zeros 8)) }
theorem witness_AttentionAndObjects :
    (∃ (s : State) (mb : Nat) (m : Msg) (t : State), mb ≤ 64 ∧ s.next? mb 0x0501 = some (m, t) ∧ Tbl.has (objKey m.comp (m.p 0 2)) t.slc.objs = false ∧
      t.slc.objs.length < 16384 ∧ AttObj.reason ⟨m.pb 0 64, [], List.replicate (m.p 2 2) 0, [], []⟩ = 0) ∧
    (∃ (s : State) (mb : Nat) (o : _) (a : _) (bs : List Byte) (u : _) (m : Msg) (t : State), mb ≤ 64 ∧ s.next? mb 0x0502 = some (m, t) ∧
      t.liveObj m.comp (m.p 0 2) = some o ∧ o.kind = .attention a ∧ m.p 2 2 = 0 ∧ o.poisoned = false ∧ a.length + m.p 4 4 ≤ a.maxToks ∧
        (appendToks a.headDim (m.p 4 4) bs).any (fun x => ((bf16s a.headDim x.1).map bf16to32).any (fun v => !ffinite v) || !a.valueOk x.2) = false ∧
          (t.allocate m.comp 0 (sumL (((appendToks a.headDim (m.p 4 4) bs).map (fun x => a.token x.1 x.2)).map a.tokBytes))).bind (fun u => u.allocate m.comp 1 (2 * a.headDim * m.p 4 4)) = some u) ∧
    (∃ (s : State) (mb : Nat) (o : _) (a : _) (m : Msg) (t : State), mb ≤ 64 ∧ s.next? mb 0x0503 = some (m, t) ∧ 1 ≤ m.p 4 2 ∧ m.p 4 2 ≤ 16384 ∧
      bit (m.p 6 1) 1 = false ∧ t.liveObj m.comp (m.p 0 2) = some o ∧ o.kind = .attention a ∧ attHeaderOk a m = true ∧ o.poisoned = false ∧
        m.p 8 4 ≤ a.length ∧ a.length ≠ 0) ∧
    (∃ (s : State) (mb : Nat) (o : _) (m : Msg) (t : State), mb ≤ 64 ∧ s.next? mb 0x0504 = some (m, t) ∧ t.objLoading m.comp (m.p 0 2) = false ∧
      m.p 2 6 = 0 ∧ t.liveObj m.comp (m.p 0 2) = some o) ∧
    (∃ (s : State) (k : _) (o : _) (m : _), Tbl.find k s.slc.objs = some o ∧ o.dropMsg = some m ∧
      s.slc.batches.any (fun b => b.2.objs.contains k) = false ∧ o.mirroring = false) ∧
    (∃ (s : State) (mb : Nat) (o : _) (m : Msg) (t : State), mb ≤ 64 ∧ s.next? mb 0x0508 = some (m, t) ∧ t.objLoading m.comp (m.p 0 2) = false ∧
      m.p 2 6 = 0 ∧ t.liveObj m.comp (m.p 0 2) = some o) ∧
    (∃ (s : State) (mb : _) (m : _) (t : _), mb ≤ 64 ∧ s.next? mb 0x0508 = some (m, t) ∧ t.objLoading m.comp (m.p 0 2) = true) ∧
    (∃ (s : State) (mb : _) (m : _) (t : _), mb ≤ 64 ∧ s.next? mb 0x0504 = some (m, t) ∧ t.objLoading m.comp (m.p 0 2) = true) := by
  refine ⟨?_, ?_, ?_, ?_, ?_, ?_, ?_, ?_⟩
  · exact ⟨posted (one coll0) 0 0x0501 att0.desc, 0, _, _, by decide, got (one coll0) 0 0x0501 att0.desc (by decide +kernel) (by decide +kernel), by decide +kernel⟩
  · exact ⟨posted (withObj (attObj att0)) 0 0x0502 (fields 24 [(4, 4, 1)]), 0, attObj att0, att0, zeros 256, _, _, _, by decide, got (withObj (attObj att0)) 0 0x0502 (fields 24 [(4, 4, 1)]) (by decide +kernel) (by decide +kernel), by decide +kernel, by decide +kernel, by decide +kernel, by decide +kernel, by decide +kernel, by decide +kernel, (Option.some_get (by decide +kernel)).symm⟩
  · exact ⟨posted (withObj (attObj att1)) 0 0x0503 (fields 64 [(2, 2, 1), (4, 2, 10), (0x20, 8, 1048576), (0x30, 2, 128)]), 0, attObj att1, att1, _, _, by decide, got (withObj (attObj att1)) 0 0x0503 (fields 64 [(2, 2, 1), (4, 2, 10), (0x20, 8, 1048576), (0x30, 2, 128)]) (by decide +kernel) (by decide +kernel), by decide +kernel⟩
  · exact ⟨posted (withObj (attObj att0)) 0 0x0504 (zeros 8), 0, attObj att0, _, _, by decide, got (withObj (attObj att0)) 0 0x0504 (zeros 8) (by decide +kernel) (by decide +kernel), by decide +kernel⟩
  · exact ⟨withObj dropped0, 0, dropped0, msg 0 0x0504 (zeros 8), by decide +kernel⟩
  · exact ⟨posted (withObj (attObj att0)) 0 0x0508 (zeros 8), 0, attObj att0, _, _, by decide, got (withObj (attObj att0)) 0 0x0508 (zeros 8) (by decide +kernel) (by decide +kernel), by decide +kernel⟩
  · exact ⟨posted (withObj (weightObj loading0)) 0 0x0508 (zeros 8), 0, _, _, by decide, got (withObj (weightObj loading0)) 0 0x0508 (zeros 8) (by decide +kernel) (by decide +kernel), by decide +kernel⟩
  · exact ⟨posted (withObj (weightObj loading0)) 0 0x0504 (zeros 8), 0, _, _, by decide, got (withObj (weightObj loading0)) 0 0x0504 (zeros 8) (by decide +kernel) (by decide +kernel), by decide +kernel⟩

def img0 : List Byte := fields 192 [(0, 4, 0x53574731), (4, 2, 1), (64, 4, 1), (68, 4, 32), (72, 1, 2), (80, 8, 128), (88, 8, 33)]
def fetching : WeightObj := { weight0 with refetch := [(0, 0)] }
def mirrored : WeightObj := { weight0 with mirror := some 1 }
def withKernel : State := (withObj (weightObj weight0)).slc! (fun x => { x with kernels := [(0, ⟨0, 0, [], none⟩)] })
theorem witness_WeightsAndModels :
    (∃ (s : State) (mb : Nat) (bs : List Byte) (peer : _) (w : _) (m : Msg) (t : State), mb ≤ 64 ∧ s.next? mb 0x0505 = some (m, t) ∧
      t.objLoading m.comp (m.p 0 2) = false ∧ (bit (m.p 2 1) 0 && !m.admin) = false ∧ m.p 0 2 ≠ 0xFFFF ∧ m.p 2 1 ≤ 1 ∧ m.p 3 1 ≤ 2 ∧ m.p 6 2 = 0 ∧
        Tbl.has (objKey m.comp (m.p 0 2)) t.slc.objs = false ∧ t.slc.objs.length < 16384 ∧ (bit (m.p 2 1) 0 && !t.mirrorAllowed m.comp peer) = false ∧
          (bit (m.p 2 1) 0 && !t.reachable (m.p 4 2)) = false ∧ imageReason (bs.take (m.p 0x10 8)) (m.p 0x10 8) = 0 ∧
            t.weightBytes (bs.take (m.p 0x10 8)) = w) ∧
    (∃ (s : State) (mb : Nat) (peer : _) (o : _) (w : _) (m : Msg) (t : State), mb ≤ 64 ∧ s.next? mb 0x0507 = some (m, t) ∧
      t.objLoading m.comp (m.p 0 2) = false ∧ w.mirror.isNone = false ∧ m.p 2 2 = 0 ∧ m.p 6 2 = 0 ∧ t.liveObj m.comp (m.p 0 2) = some o ∧
        o.kind = .weight w ∧ t.mirrorAllowed m.comp peer = true ∧ t.reachable (m.p 4 2) = true ∧ w.pendingMirror = none ∧ o.poisoned = false) ∧
    (∃ (s : State) (k : _) (tile : _) (o : _) (w : _), Tbl.find k s.slc.objs = some o ∧ o.kind = .weight w ∧ Tbl.has tile w.refetch = true) ∧
    (∃ (s : State) (k : _) (tile : _) (o : _) (w : _), Tbl.find k s.slc.objs = some o ∧ o.kind = .weight w ∧ Tbl.has tile w.refetch = true) ∧
    (∃ (s : State) (k : _) (o : _) (w : _) (u : _), Tbl.find k s.slc.objs = some o ∧ o.kind = .weight w ∧ minL (w.refetch.map (·.2)) = some u) ∧
    (∃ (s : State) (mb : Nat) (dma : Option (List Nat)) (hs : _) (m : Msg) (t : State), mb ≤ 64 ∧ s.next? mb 0x0506 = some (m, t) ∧
      (modelWeights m).any (fun id => t.objLoading m.comp id) = false ∧ modelHeaderOk m = true ∧ (t.kernel m.comp (m.p 0 4)).isNone = false ∧
        ((modelWeights m).map (fun id => t.liveObj m.comp id)).all (fun o => match o with | some o => (match o.kind with | .weight _ => true | _ => false) | none => false) = true ∧ ((modelWeights m).map (fun id => t.liveObj m.comp id)).any (fun o => match o with | some o => o.poisoned | none => false) = false ∧ (if decide (m.p 0x28 8 ≠ 0) = true then dma else some []) = some hs) ∧
    (∃ (s : State) (mb : Nat) (i : _) (g : _) (m : Msg) (t : State), mb ≤ 64 ∧ s.next? mb 0x0509 = some (m, t) ∧ m.p 0 8 = 0 ∧
      (t.slc.kernels.filter (fun k => decide (k.2.comp = m.comp))).length < 256 ∧ t.slc.kernels.length < 4096 ∧ t.kernelSlot = some (i, g)) ∧
    (∃ (s : State) (mb : Nat) (k : _) (m : Msg) (t : State), mb ≤ 64 ∧ s.next? mb 0x050A = some (m, t) ∧ t.kernel m.comp (m.p 0 4) = some k ∧ m.p 4 4 = 0) := by
  refine ⟨?_, ?_, ?_, ?_, ?_, ?_, ?_, ?_⟩
  · exact ⟨posted (one coll0) 0 0x0505 (fields 24 [(3, 1, 1), (0x10, 8, 192)]), 0, img0, true, _, _, _, by decide, got (one coll0) 0 0x0505 (fields 24 [(3, 1, 1), (0x10, 8, 192)]) (by decide +kernel) (by decide +kernel), by decide +kernel, by decide +kernel, by decide +kernel, by decide +kernel, by decide +kernel, by decide +kernel, by decide +kernel, by decide +kernel, by decide +kernel, by decide +kernel, by decide +kernel, rfl⟩
  · exact ⟨posted (linked (withObj (weightObj mirrored))) 0 0x0507 (fields 8 [(4, 2, 1)]), 0, true, weightObj mirrored, mirrored, _, _, by decide, got (linked (withObj (weightObj mirrored))) 0 0x0507 (fields 8 [(4, 2, 1)]) (by decide +kernel) (by decide +kernel), by decide +kernel⟩
  · exact ⟨withObj (weightObj fetching), 0, 0, weightObj fetching, fetching, by decide +kernel⟩
  · exact ⟨withObj (weightObj fetching), 0, 0, weightObj fetching, fetching, by decide +kernel⟩
  · exact ⟨withObj (weightObj fetching), 0, weightObj fetching, fetching, 0, by decide +kernel⟩
  · exact ⟨posted withKernel 0 0x0506 (fields 64 [(4, 2, 4096), (6, 1, 1), (10, 14, 2 ^ 112 - 1)]), 0, none, [], _, _, by decide, got withKernel 0 0x0506 (fields 64 [(4, 2, 4096), (6, 1, 1), (10, 14, 2 ^ 112 - 1)]) (by decide +kernel) (by decide +kernel), by decide +kernel⟩
  · exact ⟨posted (one coll0) 0 0x0509 (zeros 24), 0, 1, 0, _, _, by decide, got (one coll0) 0 0x0509 (zeros 24) (by decide +kernel) (by decide +kernel), by decide +kernel, by decide +kernel, by decide +kernel, kernelSlot_empty _ rfl rfl⟩
  · exact ⟨posted withKernel 0 0x050A (zeros 8), 0, ⟨0, 0, [], none⟩, _, _, by decide, got withKernel 0 0x050A (zeros 8) (by decide +kernel) (by decide +kernel), by decide +kernel⟩

def rec0 : List Byte := (sliceRec 0).take 32 ++ zeros 4 ++ (sliceRec 0).drop 36
theorem witness_Compositions :
    (∃ (s : State) (mb : Nat) (m : Msg) (t : State), mb ≤ 64 ∧ s.next? mb 0x0601 = some (m, t) ∧ sliceFieldsOk (m.pb 0 64) = true ∧
      t.comp (m.p 0 1) = none ∧ t.sliceConflict (m.pb 0 64) = false) ∧
    (∃ (s : State) (mb : Nat) (x : _) (m : Msg) (t : State), mb ≤ 64 ∧ s.next? mb 0x0602 = some (m, t) ∧ sliceFieldsOk (m.pb 0 64) = true ∧
      t.comp (m.p 0 1) = some x ∧ natAt (m.pb 0 64) 2 2 = x.tenant ∧ t.sliceConflict (m.pb 0 64) = false ∧ t.belowUse (m.p 0 1) x (m.pb 0 64) = false ∧
        x.modify = none) ∧
    (∃ (s : State) (mb : Nat) (x : _) (m : Msg) (t : State), mb ≤ 64 ∧ s.next? mb 0x0603 = some (m, t) ∧ m.p 1 7 = 0 ∧ m.p 0 1 ≤ 63 ∧
      t.comp (m.p 0 1) = some x ∧ x.destroy = none) ∧
    (∃ (s : State) (mb : Nat) (x : _) (m : Msg) (t : State), mb ≤ 64 ∧ s.next? mb 0x0605 = some (m, t) ∧ m.p 1 7 = 0 ∧ m.p 0 1 ≤ 63 ∧ m.admin = true ∧
      t.comp (m.p 0 1) = some x) ∧
    (∃ (s : State) (mb : Nat) (m : Msg) (t : State), mb ≤ 64 ∧ s.next? mb 0x0606 = some (m, t) ∧ m.p 4 4 = 0 ∧ m.p 8 8 % 64 = 0) ∧
    (∃ (s : State) (mb : Nat) (m : Msg) (t : State), mb ≤ 64 ∧ s.next? mb 0x0607 = some (m, t) ∧ m.p 1 1 = 0 ∧ m.p 6 2 = 0 ∧ Tbl.find (subKey m.comp (m.p 0 1)) t.slc.sems = none) := by
  refine ⟨?_, ?_, ?_, ?_, ?_, ?_⟩
  · exact ⟨posted up 64 0x0601 rec0, 64, _, _, by decide, got up 64 0x0601 rec0 (by decide +kernel) (by decide +kernel), by decide +kernel⟩
  · exact ⟨posted (one coll0) 64 0x0602 rec0, 64, comp0, _, _, by decide, got (one coll0) 64 0x0602 rec0 (by decide +kernel) (by decide +kernel), by decide +kernel⟩
  · exact ⟨posted (one coll0) 64 0x0603 (zeros 8), 64, comp0, _, _, by decide, got (one coll0) 64 0x0603 (zeros 8) (by decide +kernel) (by decide +kernel), by decide +kernel⟩
  · exact ⟨posted (one coll0) 64 0x0605 (zeros 8), 64, comp0, _, _, by decide, got (one coll0) 64 0x0605 (zeros 8) (by decide +kernel) (by decide +kernel), by decide +kernel⟩
  · exact ⟨posted up 64 0x0606 (zeros 16), 64, _, _, by decide, got up 64 0x0606 (zeros 16) (by decide +kernel) (by decide +kernel), by decide +kernel⟩
  · exact ⟨posted (one coll0) 0 0x0607 (zeros 8), 0, _, _, by decide, got (one coll0) 0 0x0607 (zeros 8) (by decide +kernel) (by decide +kernel), by decide +kernel⟩

def pipe0 : Pipe := ⟨[⟨0, 0, 0, 64⟩], 1⟩
def withPipe : State := (one coll0).slc! (fun x => { x with pipes := [(0, pipe0)] })
def offer0 : Offer := ⟨1, 1, 1, 0, 1, 0, 1, [], 1, 0, 0, 1, 1, 0⟩
theorem witness_Pipelines :
    (∃ (s : State) (mb : Nat) (st : _) (m : Msg) (t : State), mb ≤ 64 ∧ s.next? mb 0x0608 = some (m, t) ∧ m.p 1 1 = 1 ∧ m.p 2 6 = 0 ∧ m.p 10 2 = 0 ∧
      m.p 18 2 = 0 ∧ 24 ≤ m.len ∧ stagesOf 1 (m.payload.drop 8) = [st] ∧ st.stateBytes % 64 = 0 ∧ 64 ≤ st.stateBytes ∧ st.stateBytes ≤ 2 ^ 24 ∧
        st.node = t.nodeNo ∧ t.nodeNo < 4096) ∧
    (∃ (s : State) (mb : Nat) (p : _) (m : Msg) (t : State), mb ≤ 64 ∧ s.next? mb 0x0609 = some (m, t) ∧ priorityOk (m.p 1 1) = true ∧
      Tbl.find (subKey m.comp (m.p 0 1)) t.slc.pipes = some p ∧ m.p 0x10 8 ≤ (p.stages.getD 0 ⟨0, 0, 0, 0⟩).stateBytes ∧
        m.p 0x20 8 ≤ (p.stages.getD 0 ⟨0, 0, 0, 0⟩).stateBytes ∧ p.count ≠ 0) ∧
    (∃ (s : State) (r : _) (x : _), s.run r = some x ∧ x.phase = .run ∧ s.runs x.batch = true ∧
      s.slc.tasks.any (fun t => decide (t.2.batch = x.batch)) = false ∧ x.nextStage.node ≠ s.nodeNo) ∧
    (∃ (s : State) (r : _) (x : _), s.run r = some x ∧ x.phase = .push ∧ s.trib.ops.any (fun o => decide (o.2.fw = 5) && decide (o.2.localAt = r)) = false) ∧
    (∃ (s : State) (i : Nat) (old : Nat) (o : Offer), s.slc.offers[i]? = some o ∧ s.judgeMap o.comp o.mapVersion = .accept ∧ s.ctxAllowed o.comp = true ∧
      BitVec.ofNat 64 old = ownWord 1 s.nodeNo o.epoch) ∧
    (∃ (s : State) (r : _) (x : _), s.run r = some x ∧ x.phase = .offered ∧ (s.reach x.deadline).word r = ownWord 1 x.receiver (x.epoch + 1) ∧ x.offers < 3) := by
  refine ⟨?_, ?_, ?_, ?_, ?_, ?_⟩
  · exact ⟨posted (one coll0) 0 0x0608 (fields 24 [(1, 1, 1), (20, 4, 64)]), 0, ⟨0, 0, 0, 64⟩, _, _, by decide, got (one coll0) 0 0x0608 (fields 24 [(1, 1, 1), (20, 4, 64)]) (by decide +kernel) (by decide +kernel), by decide +kernel⟩
  · exact ⟨posted withPipe 0 0x0609 (fields 40 [(0x10, 8, 64), (0x20, 8, 64)]), 0, pipe0, _, _, by decide, got withPipe 0 0x0609 (fields 40 [(0x10, 8, 64), (0x20, 8, 64)]) (by decide +kernel) (by decide +kernel), by decide +kernel⟩
  · exact ⟨withRun .run 0, 1, run0 .run, by decide +kernel⟩
  · exact ⟨withRun .push 0, 1, run0 .push, by decide +kernel⟩
  · exact ⟨(one coll0).slc! (fun x => { x with offers := [offer0] }), 0, 2 ^ 62 + 1, offer0, by decide +kernel⟩
  · exact ⟨withRun .offered (ownWord 1 1 1), 1, run0 .offered, by decide +kernel⟩

def full0 : Task := { task0 with moves := List.range 64 }
def fill0 : Fill := ⟨objKey 0 0, 0, 2559, none, 0, false⟩
def fillUp (f : Fill) : State := (one coll0).ferry! (fun y => { y with fills := [f] })
theorem witness_FerryMoves :
    (∃ (s : State) (mb : Nat) (u : _) (m : Msg) (t : State), mb ≤ 64 ∧ s.next? mb 0x050B = some (m, t) ∧ m.p 2 6 = 0 ∧ m.p 0x11 7 = 0 ∧ m.p 0 2 ≠ 0xFFFF ∧
      65536 ≤ m.p 8 8 ∧ m.p 8 8 ≤ 64 * 2 ^ 30 ∧ m.p 8 8 % 65536 = 0 ∧ m.p 0x10 1 ≤ 15 ∧ Tbl.has (objKey m.comp (m.p 0 2)) t.slc.objs = false ∧
        t.slc.objs.length < 16384 ∧ t.allocate m.comp 1 (m.p 8 8) = some u) ∧
    (∃ (s : State) (mb : Nat) (o : _) (w : _) (m : Msg) (t : State), mb ≤ 64 ∧ s.next? mb 0x050C = some (m, t) ∧
      Tbl.find (objKey m.comp (m.p 0 2)) t.slc.objs = some o ∧ o.loading = false ∧ o.dropMsg = none ∧ o.kind = .weight w ∧ m.p 2 6 = 0 ∧
        m.p 8 8 + m.p 0x10 8 ≤ o.bytes ∧ o.poisoned = false) ∧
    (∃ (s : State) (n : _) (t : _) (k : _), n < 256 ∧ s.running n = some (t, k) ∧ 64 ≤ k.moves.length) ∧
    (∃ (s : State) (n : _) (d : _) (t : _) (k : _), n < 256 ∧ s.running n = some (t, k) ∧ k.moves.length < 64 ∧ s.descOk n k d = none) ∧
    (∃ (s : State) (n : _) (t : _) (k : _), n < 256 ∧ s.running n = some (t, k) ∧ 64 ≤ k.moves.length) ∧
    (∃ (s : State) (n : _) (d : _) (t : _) (k : _), n < 256 ∧ s.running n = some (t, k) ∧ k.moves.length < 64 ∧ s.descOk n k d = none) ∧
    (∃ (s : State) (i : _) (f : _), s.ferry.fills.find? (fun f => decide (f.frame = i)) = some f ∧ s.fillRefetching f = false ∧ s.basinBad f = false ∧
      s.readWaits (s.fillLun f) (if f.prefetch then .prefetch else .demand) = false) ∧
    (∃ (s : State) (i : _) (f : _) (j : _) (o : _), s.ferry.fills.find? (fun f => decide (f.frame = i)) = some f ∧ s.fillRefetching f = false ∧
      f.basin = some j ∧ s.readWaits (s.fillLun f) (if f.prefetch then .prefetch else .demand) = false ∧
        (if s.basinBad f then MoveOutcome.frameBad else o) = .frameBad) ∧
    (∃ (s : State) (k : _) (l : _) (a : _), s.deltaUp = true ∧ k < 2 ^ 64 ∧ s.rebuilding k l = false ∧ s.mapEnt k l = some (.mapped a)) ∧
    (∃ (s : State) (e : _) (l : _) (o : _) (x : _), s.deltaUp = true ∧ Tbl.find e s.delta.extents = some x ∧ x.lost.contains l = false ∧ l < x.sectors ∧ o ≠ .stale ∧ ((s.chargeLun (s.spaceComp x.key) (lunOf (x.blocks.getD (l / s.delta.geom.tlc) 0)) 0).readNote o).2 = false) := by
  refine ⟨?_, ?_, ?_, ?_, ?_, ?_, ?_, ?_, ?_, ?_⟩
  · exact ⟨posted (one coll0) 0 0x050B (fields 24 [(8, 8, 65536)]), 0, _, _, _, by decide, got (one coll0) 0 0x050B (fields 24 [(8, 8, 65536)]) (by decide +kernel) (by decide +kernel), by decide +kernel, by decide +kernel, by decide +kernel, by decide +kernel, by decide +kernel, by decide +kernel, by decide +kernel, by decide +kernel, by decide +kernel, (Option.some_get (by decide +kernel)).symm⟩
  · exact ⟨posted (withObj (weightObj weight0)) 0 0x050C (fields 24 [(0x10, 8, 65536)]), 0, weightObj weight0, weight0, _, _, by decide, got (withObj (weightObj weight0)) 0 0x050C (fields 24 [(0x10, 8, 65536)]) (by decide +kernel) (by decide +kernel), by decide +kernel⟩
  · exact ⟨running full0, 0, 1, full0, by decide +kernel⟩
  · exact ⟨running task0, 0, .reg 0, 1, task0, by decide +kernel⟩
  · exact ⟨running full0, 0, 1, full0, by decide +kernel⟩
  · exact ⟨running task0, 0, .reg 0, 1, task0, by decide +kernel⟩
  · exact ⟨fillUp fill0, 2559, fill0, by decide +kernel⟩
  · exact ⟨fillUp { fill0 with basin := some 3 }, 2559, { fill0 with basin := some 3 }, 3, .frameBad, by decide +kernel⟩
  · exact ⟨(one coll0).delta! (fun d => { d with spaces := [(0x55, ⟨[(7, .mapped 3)], []⟩)] }), 0x55, 7, 3, by decide +kernel⟩
  · exact ⟨withExt ext0, 1, 0, .hard, ext0, by decide +kernel⟩

def blkState (b : Block) : State := (one coll0).delta! (fun d => { d with blocks := [(0, b)], geom := ⟨1, 1, 64, 1, 0⟩ })
def closedB : Block := ⟨.closed, false, 0, 0, 0x55, 0, 0, []⟩
def refObj : Obj := ⟨.refExtent 1, 4096, [], false, none, [], some 1⟩
def attExt : ExtentSt := { ext0 with attached := some (objKey 0 0) }
def withRef : State := (withExt attExt).slc! (fun x => { x with objs := [(objKey 0 0, refObj)] })
def openB : Block := ⟨.opened, false, 0, 0, 0x55, 0, 0, []⟩
def busyLun : State := (one coll0).delta! (fun d => { d with blocks := [(0, { closedB with state := .erasing }), (1, openB)], progs := [⟨1, [(⟨0x55, 0, 1, 0, 0, false, []⟩, none)]⟩], geom := ⟨1, 1, 64, 1, 0⟩ })
def closedState (n : Nat) (r : List Nat) : State := (blkState closedB).delta! (fun d => { d with geom := ⟨1, 1, n, 1, 0⟩, reclaiming := r })
theorem witness_FlashTranslation :
    (∃ (s : State) (b : _), s.lunBusy (lunOf b) (s.eraseCls b) = true) ∧
    (∃ (s : State) (b : _), s.lunBusy (lunOf b) (s.eraseCls b) = false ∧ (s.blk b).state = .taken) ∧
    (∃ (s : State) (b : Nat), s.lunBusy (lunOf b) (s.eraseCls b) = false ∧ (s.blk b).state = .erasing ∧
      s.delta.progs.any (fun p => p.sectors.any (fun x => decide (x.2.map psaBlock = some b))) = false) ∧
    (∃ (s : State) (l : _) (b : _), s.deltaUp = true ∧ s.slcTarget l < (s.slcBlocks l).length ∧
      oldestBlock ((s.slcBlocks l).filter (fun b => decide (b.2.state = .closed))) = some b) ∧
    (∃ (s : State) (l : _), s.deltaUp = true ∧ s.delta.reclaiming.contains l = true ∧ s.freeMarks.2.1 ≤ s.freeBlocks l) ∧
    (∃ (s : State) (l : _) (b : _), s.deltaUp = true ∧ s.delta.reclaiming.contains l = true ∧ s.freeBlocks l < s.freeMarks.2.1 ∧
      (s.lunBlocks l).any (fun b => decide (b.2.state = .erasing) && !b.2.slc) = false ∧ s.victimBlock l = some b) ∧
    (∃ (s : State) (l : _) (b : _), s.deltaUp = true ∧ s.delta.reclaiming.contains l = false ∧
      (s.lunBlocks l).any (fun b => decide (b.2.state = .erasing) && !b.2.slc) = false ∧ s.freeBlocks l < s.freeMarks.1 ∧ s.victimBlock l = some b) ∧
    (∃ (s : State), s.deltaUp = true) ∧
    (∃ (s : State) (k : _) (n : _) (x : _) (p : _), Tbl.find k s.delta.spaces = some x ∧ Tbl.find n x.pages = some p ∧ p.rebuilding = true) ∧
    (∃ (s : State), s.delta.phase = .starting ∧ s.host.nodeState = .running ∧ s.cru.held = false) ∧
    (∃ (s : State) (mb : Nat) (o : _) (w : _) (e : _) (m : Msg) (t : State), mb ≤ 64 ∧ s.next? mb 0x050D = some (m, t) ∧ m.p 0 1 = 0 ∧ m.p 1 1 = 0 ∧
      m.p 4 4 = 0 ∧ Tbl.find (objKey m.comp (m.p 2 2)) t.slc.objs = some o ∧ o.dropMsg = none ∧ o.kind = .weight w ∧ o.extent = some e) ∧
    (∃ (s : State) (mb : Nat) (c : _) (m : Msg) (t : State), mb ≤ 64 ∧ s.next? mb 0x050D = some (m, t) ∧ m.p 0 1 = 1 ∧ m.p 1 1 = 0 ∧ m.p 4 4 = 0 ∧
      t.coll (collKey m.comp (m.p 2 2)) = some c ∧ c.state ≠ .dropping ∧ c.frozen = true) ∧
    (∃ (s : State) (mb : Nat) (e : _) (bs : List Byte) (m : Msg) (t : State), mb ≤ 64 ∧ s.next? mb 0x050E = some (m, t) ∧ m.p 2 6 = 0 ∧ m.p 0 2 ≠ 0xFFFF ∧
      Tbl.has (objKey m.comp (m.p 0 2)) t.slc.objs = false ∧ t.slc.objs.length < 16384 ∧ t.mapReason m.comp (bs.take (m.p 0x10 8)) = 0 ∧
        Tbl.find (mapExtent bs) t.delta.extents = some e) ∧
    (∃ (s : State) (mb : Nat) (o : _) (i : _) (e : _) (m : Msg) (t : State), mb ≤ 64 ∧ s.next? mb 0x050F = some (m, t) ∧
      Tbl.find (objKey m.comp (m.p 0 2)) t.slc.objs = some o ∧ o.dropMsg = none ∧ o.kind = .refExtent i ∧ Tbl.find i t.delta.extents = some e ∧
        m.p 2 2 = 0 ∧ m.p 4 4 ≠ 0 ∧ m.p 4 4 ≤ 65536 ∧ m.p 0x10 8 % 64 = 0 ∧ m.p 8 8 + m.p 4 4 ≤ e.sectors) ∧
    (∃ (s : State) (mb : Nat) (bs : List Byte) (m : Msg) (t : State), mb ≤ 64 ∧ s.next? mb 0x0510 = some (m, t) ∧ m.p 0 8 = 0 ∧
      t.mapReason m.comp (bs.take (m.p 0x10 8)) = 0) ∧
    (∃ (s : State) (mb : Nat) (m : Msg) (t : State), mb ≤ 64 ∧ s.next? mb 0x0511 = some (m, t) ∧ t.weir.flashKeys.any (fun x => decide (x.2 = m.p 0 8)) = false) := by
  refine ⟨?_, ?_, ?_, ?_, ?_, ?_, ?_, ?_, ?_, ?_, ?_, ?_, ?_, ?_, ?_, ?_⟩
  · exact ⟨busyLun, 0, by decide +kernel⟩
  · exact ⟨blkState { closedB with state := .taken }, 0, by decide +kernel⟩
  · exact ⟨blkState { closedB with state := .erasing }, 0, by decide +kernel⟩
  · exact ⟨(blkState { closedB with slc := true }).delta! (fun d => { d with slcTargets := [(0, 0)] }), 0, 0, by decide +kernel⟩
  · exact ⟨closedState 64 [0], 0, by decide +kernel⟩
  · exact ⟨closedState 8 [0], 0, 0, by decide +kernel⟩
  · exact ⟨closedState 8 [], 0, 0, by decide +kernel⟩
  · exact ⟨one coll0, by decide +kernel⟩
  · exact ⟨(one coll0).delta! (fun d => { d with spaces := [(0x55, ⟨[], [(0, ⟨false, [], true⟩)]⟩)] }), 0x55, 0, ⟨[], [(0, ⟨false, [], true⟩)]⟩, ⟨false, [], true⟩, by decide +kernel⟩
  · exact ⟨up, by decide +kernel⟩
  · exact ⟨posted (withObj { weightObj weight0 with extent := some 1 }) 0 0x050D (fields 24 [(0x10, 8, 68)]), 0, { weightObj weight0 with extent := some 1 }, weight0, 1, _, _, by decide, got (withObj { weightObj weight0 with extent := some 1 }) 0 0x050D (fields 24 [(0x10, 8, 68)]) (by decide +kernel) (by decide +kernel), by decide +kernel⟩
  · exact ⟨posted (one { coll0 with frozen := true }) 0 0x050D (fields 8 [(0, 1, 1)]), 0, { coll0 with frozen := true }, _, _, by decide, got (one { coll0 with frozen := true }) 0 0x050D (fields 8 [(0, 1, 1)]) (by decide +kernel) (by decide +kernel), by decide +kernel⟩
  · exact ⟨posted (withExt ext0) 0 0x050E (fields 24 [(0x10, 8, 68)]), 0, ext0, mapOf ((posted (withExt ext0) 0 0x050E (fields 24 [(0x10, 8, 68)])).box! 0 (fun b => { b with inbox := [] })), _, _, by decide, got (withExt ext0) 0 0x050E (fields 24 [(0x10, 8, 68)]) (by decide +kernel) (by decide +kernel), by decide +kernel, by decide +kernel, by decide +kernel, by decide +kernel, map_take _ _ ext0 (by decide +kernel) (by decide +kernel) (by decide +kernel) (by decide +kernel) (by decide +kernel) (by decide +kernel) rfl, by decide +kernel⟩
  · exact ⟨posted withRef 0 0x050F (fields 24 [(4, 4, 1)]), 0, refObj, 1, attExt, _, _, by decide, got withRef 0 0x050F (fields 24 [(4, 4, 1)]) (by decide +kernel) (by decide +kernel), by decide +kernel⟩
  · exact ⟨posted (withExt ext0) 0 0x0510 (fields 24 [(0x10, 8, 68)]), 0, mapOf ((posted (withExt ext0) 0 0x0510 (fields 24 [(0x10, 8, 68)])).box! 0 (fun b => { b with inbox := [] })), _, _, by decide, got (withExt ext0) 0 0x0510 (fields 24 [(0x10, 8, 68)]) (by decide +kernel) (by decide +kernel), by decide +kernel, map_take _ _ ext0 (by decide +kernel) (by decide +kernel) (by decide +kernel) (by decide +kernel) (by decide +kernel) (by decide +kernel) rfl⟩
  · exact ⟨posted up 64 0x0511 (zeros 8), 64, _, _, by decide, got up 64 0x0511 (zeros 8) (by decide +kernel) (by decide +kernel), by decide +kernel⟩

def kern : Kernel := ⟨0, 0, fields 64 [(4, 2, 4096), (6, 1, 1)], none⟩
def sem0 : Sem := ⟨1, 0, false, [], []⟩
def held0 : Sem := ⟨0, 0, false, [(0, 5)], []⟩
def withSem (x : Sem) : State := (running task0).slc! (fun y => { y with sems := [(subKey 0 3, x)] })
def readyTask : Task := { task0 with ctx := none, core := none, level := 0, state := .ready }
def withReady : State := (running task0).slc! (fun x => { x with tasks := x.tasks ++ [(2, readyTask)], batches := [(1, { batch0 with level := 2 })] })
def tornB : Batch := { batch0 with torn := some stTorn }
def gotTag : State := (running task0).ctx! 0 (fun x => { x with held := [.move 3 0] })
def cores1 (f : Core → Core) : State := (running task0).core! 0 f
def tornUp : State := (one coll0).slc! (fun y => { y with batches := [(1, tornB)] })
theorem witness_TasksAndContexts :
    (∃ (s : State) (n : _) (h : _) (t : Nat) (k : Task), n < 256 ∧ s.running n = some (t, k) ∧ s.kernel k.comp h = none) ∧
    (∃ (s : State) (n : _) (h : _) (t : Nat) (k : Task) (x : _), n < 256 ∧ s.running n = some (t, k) ∧ s.kernel k.comp h = some x ∧
      65536 ≤ (s.slc.tasks.filter (fun y => decide (y.2.state = .pending))).length) ∧
    (∃ (s : State) (n : _) (h : _) (t : Nat) (k : Task) (x : _), n < 256 ∧ s.running n = some (t, k) ∧ s.kernel k.comp h = some x ∧
      (s.slc.tasks.filter (fun y => decide (y.2.state = .pending))).length < 65536) ∧
    (∃ (s : State) (n : _) (i : Nat) (t : Nat) (k : Task) (x : _) (c : _), n < 256 ∧ s.running n = some (t, k) ∧ i < 256 ∧
      Tbl.find (subKey k.comp i) s.slc.sems = some x ∧ k.ctx = some c ∧ 0 < x.units) ∧
    (∃ (s : State) (n : _) (i : Nat) (t : Nat) (k : Task) (x : _) (c : _), n < 256 ∧ s.running n = some (t, k) ∧ i < 256 ∧
      Tbl.find (subKey k.comp i) s.slc.sems = some x ∧ k.ctx = some c ∧ x.units = 0) ∧
    (∃ (s : State) (n : _) (i : Nat) (t : Nat) (k : Task), n < 256 ∧ s.running n = some (t, k) ∧
      (if i < 256 then Tbl.find (subKey k.comp i) s.slc.sems else none) = none) ∧
    (∃ (s : State) (n : _) (i : Nat) (t : Nat) (k : Task) (x : _) (c : _), n < 256 ∧ s.running n = some (t, k) ∧ i < 256 ∧
      Tbl.find (subKey k.comp i) s.slc.sems = some x ∧ k.ctx = some c ∧ x.holders.any (fun h => decide (h.1 = c)) = true) ∧
    (∃ (s : State) (n : _) (i : Nat) (t : Nat) (k : Task) (x : _) (c : _), n < 256 ∧ s.running n = some (t, k) ∧ i < 256 ∧
      Tbl.find (subKey k.comp i) s.slc.sems = some x ∧ k.ctx = some c ∧ x.holders.any (fun h => decide (h.1 = c)) = false) ∧
    (∃ (s : State) (n : _) (i : Nat) (t : Nat) (k : Task), n < 256 ∧ s.running n = some (t, k) ∧
      (if i < 256 then Tbl.find (subKey k.comp i) s.slc.sems else none) = none) ∧
    (∃ (s : State) (n : _) (w : WaitOn) (t : Nat) (k : Task) (c : _) (u : _), n < 256 ∧ s.running n = some (t, k) ∧ k.ctx = some c ∧ (∀ i, w ≠ .sem i) ∧ ((s.pcNext n).task! t (fun y => { y with watchNs := s.now })).collect t c k w = some u) ∧
    (∃ (s : State) (n : _) (w : WaitOn) (t : Nat) (k : Task) (c : _), n < 256 ∧ s.running n = some (t, k) ∧ k.ctx = some c ∧ (∀ i, w ≠ .sem i) ∧ ((s.pcNext n).task! t (fun y => { y with watchNs := s.now })).collect t c k w = none) ∧
    (∃ (s : State) (n : _) (t : Nat) (k : Task), n < 256 ∧ s.running n = some (t, k)) ∧
    (∃ (s : State) (n : _) (t : Nat) (k : Task) (u : _), n < 256 ∧ s.running n = some (t, k) ∧ (s.pcNext n).task! t (fun y => { y with watchNs := s.now }) = u) ∧
    (∃ (s : State) (n : _) (t : Nat) (k : Task), n < 256 ∧ s.running n = some (t, k)) ∧
    (∃ (s : State) (n : _), n < 256 ∧ (s.coreFree n = false ∨ s.nextTask n = none)) ∧
    (∃ (s : State) (n : _) (t : Nat) (b : _), n < 256 ∧ s.coreFree n = true ∧ s.nextTask n = some (t, b)) ∧
    (∃ (s : State) (n : _) (t : Nat) (k : Task), n < 256 ∧ s.running n = some (t, k)) ∧
    (∃ (s : State) (i : Nat) (ctx : _), (Tbl.find i s.slc.sems).bind (fun x => x.holders.find? (fun h => decide (h.1 = ctx))) = none) ∧
    (∃ (s : State) (i : Nat) (ctx : _) (x : _) (h : _) (t : Nat), Tbl.find i s.slc.sems = some x ∧ x.holders.find? (fun h => decide (h.1 = ctx)) = some h ∧
      (Tbl.find ctx ((s.reach h.2).count Reg.SLC_CNT0 5 1).slc.ctxs).bind (·.task) = some t) ∧
    (∃ (s : State) (i : Nat) (ctx : _) (x : _) (h : _), Tbl.find i s.slc.sems = some x ∧ x.holders.find? (fun h => decide (h.1 = ctx)) = some h ∧
      (Tbl.find ctx ((s.reach h.2).count Reg.SLC_CNT0 5 1).slc.ctxs).bind (·.task) = none) ∧
    (∃ (s : State) (b : _), s.batch b = none) ∧
    (∃ (s : State) (b : _) (x : _) (st : _), s.batch b = some x ∧ x.torn = some st ∧ s.ferry.moves.any (fun m => decide (m.2.batch = b)) = true) ∧
    (∃ (s : State) (b : _) (x : _) (st : _), s.batch b = some x ∧ x.torn = some st ∧ s.ferry.moves.any (fun m => decide (m.2.batch = b)) = false ∧
      (s.run b).isSome = true) ∧
    (∃ (s : State) (b : _) (x : _) (st : _) (qb : _), s.batch b = some x ∧ x.torn = some st ∧ s.ferry.moves.any (fun m => decide (m.2.batch = b)) = false ∧
      s.run b = none ∧ s.qbatch b = some qb) ∧
    (∃ (s : State) (b : _) (x : _) (st : _) (u : _), s.batch b = some x ∧ x.torn = some st ∧ s.ferry.moves.any (fun m => decide (m.2.batch = b)) = false ∧
      s.run b = none ∧ s.qbatch b = none ∧ Tbl.find b s.search.upds = some u) ∧
    (∃ (s : State) (b : _) (x : _) (st : _), s.batch b = some x ∧ x.torn = some st ∧ s.ferry.moves.any (fun m => decide (m.2.batch = b)) = false ∧
      s.run b = none ∧ s.qbatch b = none ∧ Tbl.find b s.search.upds = none) ∧
    (∃ (s : State) (i : Nat) (c : _), Tbl.find i s.slc.ctxs = some c ∧ c.state = .quiet) ∧
    (∃ (s : State) (i : Nat) (c : _), Tbl.find i s.slc.ctxs = some c ∧ c.state ≠ .quiet) ∧
    (∃ (n : _), n < 256) ∧
    (∃ (s : State) (n : _), n < 256 ∧ (s.core n).phase ≠ .draining) ∧
    (∃ (s : State) (n : _) (u : _), n < 256 ∧ (s.core n).phase = .draining ∧
      (if (match (s.core n).task.bind (fun t => Tbl.find t s.slc.tasks) with | some k => decide (k.moves ≠ []) || decide (k.ops ≠ []) | none => false) then s.reach (s.core n).drainEnd else s).suspend n = u) ∧
    (∃ (s : State) (n : _) (k : Task), n < 256 ∧ (s.core n).task.bind (fun v => Tbl.find v s.slc.tasks) = some k) ∧
    (∃ (s : State) (n : _), n < 256 ∧ (s.core n).task.bind (fun v => Tbl.find v s.slc.tasks) = none) ∧
    (∃ (s : State) (u : _), s.reach (s.slc.windowNs + us (orIfZero (s.fldFor Reg.SLC_SCHED 32 16 0) 1)) = u) := by
  refine ⟨?_, ?_, ?_, ?_, ?_, ?_, ?_, ?_, ?_, ?_, ?_, ?_, ?_, ?_, ?_, ?_, ?_, ?_, ?_, ?_, ?_, ?_, ?_, ?_, ?_, ?_, ?_, ?_, ?_, ?_, ?_, ?_, ?_, ?_⟩
  · exact ⟨(one coll0).slc! (fun x => { x with batches := [(1, batch0)], ctxs := [(0, ctx0)], tasks := [(1, task0)], cores := Tbl.put 0 core0 x.cores }), 0, 0, 1, task0, by decide +kernel⟩
  · exact ⟨manyTasks, 0, 0, 1, task0, kern, by decide, by decide +kernel, by decide +kernel, many_pending⟩
  · exact ⟨running task0, 0, 0, 1, task0, kern, by decide +kernel⟩
  · exact ⟨withSem sem0, 0, 3, 1, task0, sem0, 0, by decide +kernel⟩
  · exact ⟨withSem { sem0 with units := 0 }, 0, 3, 1, task0, { sem0 with units := 0 }, 0, by decide +kernel⟩
  · exact ⟨running task0, 0, 3, 1, task0, by decide +kernel⟩
  · exact ⟨withSem held0, 0, 3, 1, task0, held0, 0, by decide +kernel⟩
  · exact ⟨withSem sem0, 0, 3, 1, task0, sem0, 0, by decide +kernel⟩
  · exact ⟨running task0, 0, 3, 1, task0, by decide +kernel⟩
  · exact ⟨running task0, 0, .all, 1, task0, 0, _, by decide, by decide +kernel, by decide +kernel, nofun, (Option.some_get (by decide +kernel)).symm⟩
  · exact ⟨running task0, 0, .note, 1, task0, 0, by decide, by decide +kernel, by decide +kernel, nofun, by decide +kernel⟩
  · exact ⟨running task0, 0, 1, task0, by decide +kernel⟩
  · exact ⟨withReady, 0, 1, task0, _, by decide, by decide +kernel, rfl⟩
  · exact ⟨running task0, 0, 1, task0, by decide +kernel⟩
  · exact ⟨running task0, 0, by decide +kernel⟩
  · exact ⟨((one coll0).slc! (fun x => { x with tasks := [(2, readyTask)] })).core! 0 (fun c => { c with queues := [[2], [], [], [], []] }), 0, 2, false, by decide +kernel⟩
  · exact ⟨running task0, 0, 1, task0, by decide +kernel⟩
  · exact ⟨running task0, 0, 0, by decide +kernel⟩
  · exact ⟨withSem held0, subKey 0 3, 0, held0, (0, 5), 1, by decide +kernel⟩
  · exact ⟨(one coll0).slc! (fun y => { y with sems := [(subKey 0 3, held0)] }), subKey 0 3, 0, held0, (0, 5), by decide +kernel⟩
  · exact ⟨one coll0, 1, by decide +kernel⟩
  · exact ⟨tornUp.ferry! (fun y => { y with moves := [(1, ⟨none, 0, 1, zeros 64, [], [], [], 5, 0⟩)] }), 1, tornB, stTorn, by decide +kernel⟩
  · exact ⟨(withRun .run 0).batch! 1 (fun _ => tornB), 1, tornB, stTorn, by decide +kernel⟩
  · exact ⟨(withQuery collRow 0 query0).batch! 1 (fun _ => tornB), 1, tornB, stTorn, qbatch0 0 query0, by decide +kernel⟩
  · exact ⟨(withUpd coll0 upd0).batch! 1 (fun _ => tornB), 1, tornB, stTorn, upd0, by decide +kernel⟩
  · exact ⟨tornUp, 1, tornB, stTorn, by decide +kernel⟩
  · exact ⟨(one coll0).slc! (fun y => { y with ctxs := [(0, { ctx0 with state := .quiet })] }), 0, { ctx0 with state := .quiet }, by decide +kernel⟩
  · exact ⟨running task0, 0, ctx0, by decide +kernel⟩
  · exact ⟨255, by decide +kernel⟩
  · exact ⟨running task0, 0, by decide +kernel⟩
  · exact ⟨((one coll0).slc! (fun x => { x with tasks := [(2, readyTask)] })).core! 0 (fun c => { c with phase := .draining, preemptBy := some 2 }), 0, _, by decide, by decide +kernel, rfl⟩
  · exact ⟨running task0, 0, task0, by decide +kernel⟩
  · exact ⟨one coll0, 0, by decide +kernel⟩
  · exact ⟨up, _, rfl⟩

def mx0 : MxArgs := ⟨0, .int4, false, false, 0, 0, 0, 0, false, none, []⟩
theorem witness_ScalarAndMatrix :
    (∃ (s : State) (n : _) (t : _) (k : Task) (d : _) (a : Nat) (b : _), Issues s n t k [32 + a, 32 + b] ∧ d < 64 ∧ a < 64 ∧ b < 64) ∧
    (∃ (s : State) (n : _) (t : _) (k : Task) (d : _), Issues s n t k [] ∧ d < 64) ∧
    (∃ (s : State) (n : _) (t : _) (k : Task) (d : _) (a : Nat), Issues s n t k [32 + a] ∧ d < 64 ∧ a < 64) ∧
    (∃ (s : State) (n : _) (t : _) (k : Task) (c : BrCond) (a : Nat) (b : _), Issues s n t k (if c = .always then [] else [32 + a, 32 + b]) ∧ a < 64 ∧
      b < 64 ∧ condOf c (s.xreg n a) (s.xreg n b) = false) ∧
    (∃ (s : State) (n : _) (t : _) (k : Task) (c : BrCond) (a : Nat) (b : _) (target : _) (x : _), Issues s n t k (if c = .always then [] else [32 + a, 32 + b]) ∧ a < 64 ∧ b < 64 ∧ condOf c (s.xreg n a) (s.xreg n b) = true ∧ Tbl.find (k.kernel % 65536) s.slc.kernels = some x ∧ target % 8 = 0 ∧ target < natAt x.image 8 4) ∧
    (∃ (s : State) (n : _) (t : _) (k : Task) (buf : _) (mode : MxMode) (reg : SramRead), Issues s n t k ((List.range mode.regs).map (fun i => reg.src + i)) ∧ buf < 2 ∧ reg.src + mode.regs ≤ 32 ∧ s.regEcc n ((List.range mode.regs).map (fun i => reg.src + i)) reg.ecc ≠ .uncorrectable) ∧
    (∃ (s : State) (n : _) (t : _) (k : Task) (a : MxArgs), Issues s n t k [a.reg] ∧ mxForm a 1 = true ∧ (s.statOf n a.buf a.mode).1 = a.mode.code ∧
      a.residue = none ∧ s.regEcc n [a.reg] a.ecc ≠ .uncorrectable) ∧
    (∃ (s : State) (n : _) (t : _) (k : Task) (a : MxArgs), Issues s n t k [a.reg] ∧ mxForm a 4 = true ∧
      (decide (a.mode = .int4) || decide (a.mode = .int8)) = true ∧ (s.statOf n a.buf a.mode).1 = a.mode.code ∧ a.residue = none ∧
        s.regEcc n [a.reg] a.ecc ≠ .uncorrectable) ∧
    (∃ (s : State) (n : _) (t : _) (k : Task) (i : _) (m : _) (vd : _), Issues s n t k [] ∧ 1 ≤ m ∧ i + m ≤ 64 ∧ vd + cdiv m 8 ≤ 32) ∧
    (∃ (s : State) (n : _) (t : _) (k : Task) (i : _) (m : _), Issues s n t k [] ∧ 1 ≤ m ∧ i + m ≤ 64) ∧
    (∃ (s : State) (n : _) (t : _) (k : Task) (vd : _) (addr : SramRead) (r : _), Issues s n t k [] ∧ vd < 32 ∧ addr.src % 64 = 0 ∧
      scratchOk k addr.src 2048 = true ∧ s.loadScratch n k addr.src 2048 addr.ecc = r) ∧
    (∃ (s : State) (n : _) (t : _) (k : Task) (vs : SramRead) (addr : _), Issues s n t k [vs.src] ∧ vs.src < 32 ∧ addr % 64 = 0 ∧
      scratchOk k addr 2048 = true) ∧
    (∃ (s : State) (n : _) (t : _) (k : Task) (xd : _) (addr : SramRead) (r : _), Issues s n t k [] ∧ xd < 64 ∧ addr.src % 8 = 0 ∧ scratchOk k addr.src 8 = true ∧ s.loadScratch n k addr.src 8 addr.ecc = r) := by
  refine ⟨?_, ?_, ?_, ?_, ?_, ?_, ?_, ?_, ?_, ?_, ?_, ?_, ?_⟩
  · exact ⟨running task0, 0, 1, task0, 63, 0, 63, by decide +kernel⟩
  · exact ⟨running task0, 0, 1, task0, 63, by decide +kernel⟩
  · exact ⟨running task0, 0, 1, task0, 63, 63, by decide +kernel⟩
  · exact ⟨running task0, 0, 1, task0, .ne, 0, 63, by decide +kernel⟩
  · exact ⟨(running task0).slc! (fun x => { x with kernels := [(0, ⟨0, 0, fields 64 [(4, 2, 4096), (6, 1, 1), (8, 4, 8)], none⟩)] }), 0, 1, task0, .always, 0, 63, 0, ⟨0, 0, fields 64 [(4, 2, 4096), (6, 1, 1), (8, 4, 8)], none⟩, by decide +kernel⟩
  · exact ⟨running task0, 0, 1, task0, 1, .int4, ⟨30, []⟩, by decide +kernel⟩
  · exact ⟨running task0, 0, 1, task0, mx0, by decide +kernel⟩
  · exact ⟨running task0, 0, 1, task0, mx0, by decide +kernel⟩
  · exact ⟨running task0, 0, 1, task0, 0, 64, 24, by decide +kernel⟩
  · exact ⟨running task0, 0, 1, task0, 63, 1, by decide +kernel⟩
  · exact ⟨running task0, 0, 1, task0, 31, ⟨63488, []⟩, _, by decide +kernel, by decide, by decide, by decide +kernel, rfl⟩
  · exact ⟨running task0, 0, 1, task0, ⟨31, []⟩, 63488, by decide +kernel⟩
  · exact ⟨running task0, 0, 1, task0, 63, ⟨65528, []⟩, _, by decide +kernel, by decide, by decide, by decide +kernel, rfl⟩

def va0 : VArgs := ⟨.f32, 30, 30, 31, 0, none, []⟩
theorem witness_VectorInstructions :
    (∃ (s : State) (n : _) (t : _) (k : Task) (a : VArgs), Vec s n t k [a.va, a.vb] (a.ty.dst a.vd) a.parity) ∧
    (∃ (s : State) (n : _) (t : _) (k : Task) (a : VArgs), Vec s n t k [a.va, a.vb] (a.ty.dst a.vd) a.parity) ∧
    (∃ (s : State) (n : _) (t : _) (k : Task) (a : VArgs), Vec s n t k [a.va, a.vb] (a.ty.dst a.vd) a.parity) ∧
    (∃ (s : State) (n : _) (t : _) (k : Task) (a : VArgs), Vec s n t k [a.va, a.vb, a.vc] (a.ty.dst a.vd) a.parity) ∧
    (∃ (s : State) (n : _) (t : _) (k : Task) (a : VArgs), Vec s n t k [a.va] [a.vd, a.vd + 1] a.parity) ∧
    (∃ (s : State) (n : _) (t : _) (k : Task) (a : VArgs), Vec s n t k [a.va] [a.vd, a.vd + 1] a.parity) ∧
    (∃ (s : State) (n : _) (t : _) (k : Task) (a : VArgs), Vec s n t k [a.va, a.va + 1] [a.vd] a.parity) ∧
    (∃ (s : State) (n : _) (t : _) (k : Task) (a : VArgs), Vec s n t k [a.va, a.va + 1] [a.vd] a.parity) ∧
    (∃ (s : State) (n : _) (t : _) (k : Task) (a : VArgs), Vec s n t k [a.va] [a.vd] a.parity) ∧
    (∃ (s : State) (n : _) (t : _) (k : Task) (a : VArgs), Vec s n t k [a.va, a.vb] [a.vd] a.parity) ∧
    (∃ (s : State) (n : _) (t : _) (k : Task) (a : VArgs), Vec s n t k [a.va, a.vb, a.vc] [a.vd] a.parity) ∧
    (∃ (s : State) (n : _) (t : _) (k : Task) (a : VArgs), Vec s n t k [a.va, a.vb] (a.ty.dst a.vd) a.parity ∧ a.ty.fp = true) ∧
    (∃ (s : State) (n : _) (t : _) (k : Task) (a : VArgs), Vec s n t k [a.va, a.vb] (a.ty.dst a.vd) a.parity ∧ a.ty.fp = true) ∧
    (∃ (s : State) (n : _) (t : _) (k : Task) (a : VArgs), Vec s n t k [a.va] (a.ty.dst a.vd) a.parity ∧ a.ty.fp = true) ∧
    (∃ (s : State) (n : _) (t : _) (k : Task) (a : VArgs), Vec s n t k [a.va, a.vb] (a.ty.dst a.vd) a.parity ∧ a.ty.fp = true) ∧
    (∃ (s : State) (n : _) (t : _) (k : Task) (a : VArgs), Vec s n t k [a.va] (a.ty.dst a.vd) a.parity ∧ a.ty.fp = true) ∧
    (∃ (s : State) (n : _) (t : _) (k : Task) (a : VArgs), Vec s n t k [a.va] (a.ty.dst a.vd) a.parity ∧ a.ty.fp = true) ∧
    (∃ (s : State) (n : _) (t : _) (k : Task) (a : VArgs), Vec s n t k [a.va, a.vb] (a.ty.dst a.vd) a.parity ∧ a.ty.fp = true) ∧
    (∃ (s : State) (n : _) (m : _) (t : _) (k : Task) (a : VArgs), Vec s n t k ((List.range (cdiv m 512)).map (fun i => a.va + i)) [a.vd] a.parity ∧
      a.ty = .f32 ∧ 1 ≤ m ∧ m ≤ 4096) ∧
    (∃ (s : State) (n : _) (r : SramRead) (i : _) (j : _) (t : _) (k : Task), Vec s n t k [r.src] [r.src] none ∧ i < 7 ∧ j ≤ i) ∧
    (∃ (s : State) (n : _) (vd : _) (va : _) (vb : SramRead) (t : _) (k : Task), Vec s n t k [va, vb.src] [vd] none) := by
  refine ⟨?_, ?_, ?_, ?_, ?_, ?_, ?_, ?_, ?_, ?_, ?_, ?_, ?_, ?_, ?_, ?_, ?_, ?_, ?_, ?_, ?_⟩
  · exact ⟨running task0, 0, 1, task0, va0, by decide +kernel⟩
  · exact ⟨running task0, 0, 1, task0, va0, by decide +kernel⟩
  · exact ⟨running task0, 0, 1, task0, va0, by decide +kernel⟩
  · exact ⟨running task0, 0, 1, task0, va0, by decide +kernel⟩
  · exact ⟨running task0, 0, 1, task0, va0, by decide +kernel⟩
  · exact ⟨running task0, 0, 1, task0, va0, by decide +kernel⟩
  · exact ⟨running task0, 0, 1, task0, va0, by decide +kernel⟩
  · exact ⟨running task0, 0, 1, task0, va0, by decide +kernel⟩
  · exact ⟨running task0, 0, 1, task0, va0, by decide +kernel⟩
  · exact ⟨running task0, 0, 1, task0, va0, by decide +kernel⟩
  · exact ⟨running task0, 0, 1, task0, va0, by decide +kernel⟩
  · exact ⟨running task0, 0, 1, task0, va0, by decide +kernel⟩
  · exact ⟨running task0, 0, 1, task0, va0, by decide +kernel⟩
  · exact ⟨running task0, 0, 1, task0, va0, by decide +kernel⟩
  · exact ⟨running task0, 0, 1, task0, va0, by decide +kernel⟩
  · exact ⟨running task0, 0, 1, task0, va0, by decide +kernel⟩
  · exact ⟨running task0, 0, 1, task0, va0, by decide +kernel⟩
  · exact ⟨running task0, 0, 1, task0, va0, by decide +kernel⟩
  · exact ⟨running task0, 0, 4096, 1, task0, { va0 with va := 24 }, by decide +kernel⟩
  · exact ⟨running task0, 0, ⟨31, []⟩, 6, 6, 1, task0, by decide +kernel⟩
  · exact ⟨running task0, 0, 31, 0, ⟨31, []⟩, 1, task0, by decide +kernel⟩

def jro0 : JroArgs := ⟨3, 0, 65472, 64, 0, 0, 0, 0⟩
def fullJro : Task := { task0 with ops := List.range 64 }
theorem witness_JroInstructions :
    (∃ (s : State) (n : _) (a : JroArgs) (t : _) (k : Task), n < 256 ∧ s.running n = some (t, k) ∧ 1 ≤ a.cls ∧ a.cls ≤ 3 ∧ a.off + a.len ≤ k.scratchBytes ∧
      k.ops.length < k.maxJro) ∧
    (∃ (s : State) (n : _) (a : JroArgs) (t : _) (k : Task), n < 256 ∧ s.running n = some (t, k) ∧ 1 ≤ a.cls ∧ a.cls ≤ 3 ∧ a.off + a.len ≤ k.scratchBytes ∧
      k.maxJro ≤ k.ops.length) ∧
    (∃ (s : State) (n : _) (a : JroArgs) (t : _) (k : Task), n < 256 ∧ s.running n = some (t, k) ∧ 1 ≤ a.cls ∧ a.cls ≤ 3 ∧ a.off + a.len ≤ k.scratchBytes ∧
      k.ops.length < k.maxJro) ∧
    (∃ (s : State) (n : _) (a : JroArgs) (t : _) (k : Task), n < 256 ∧ s.running n = some (t, k) ∧ 1 ≤ a.cls ∧ a.cls ≤ 3 ∧ a.off + a.len ≤ k.scratchBytes ∧
      k.maxJro ≤ k.ops.length) ∧
    (∃ (s : State) (n : _) (a : JroArgs) (t : _) (k : Task), n < 256 ∧ s.running n = some (t, k) ∧ 1 ≤ a.cls ∧ a.cls ≤ 3 ∧ a.off ≤ k.scratchBytes ∧
      k.ops.length < k.maxJro) ∧
    (∃ (s : State) (n : _) (a : JroArgs) (t : _) (k : Task), n < 256 ∧ s.running n = some (t, k) ∧ 1 ≤ a.cls ∧ a.cls ≤ 3 ∧ a.off ≤ k.scratchBytes ∧
      k.maxJro ≤ k.ops.length) ∧
    (∃ (s : State) (n : _) (a : JroArgs) (t : _) (k : Task), n < 256 ∧ s.running n = some (t, k) ∧ 1 ≤ a.cls ∧ a.cls ≤ 3 ∧ a.off + a.len ≤ k.scratchBytes ∧
      k.ops.length < k.maxJro) ∧
    (∃ (s : State) (n : _) (a : JroArgs) (t : _) (k : Task), n < 256 ∧ s.running n = some (t, k) ∧ 1 ≤ a.cls ∧ a.cls ≤ 3 ∧ a.off + a.len ≤ k.scratchBytes ∧
      k.maxJro ≤ k.ops.length) ∧
    (∃ (s : State) (n : _) (a : JroArgs) (t : _) (k : Task), n < 256 ∧ s.running n = some (t, k) ∧ 1 ≤ a.cls ∧ a.cls ≤ 3 ∧ a.off + a.len ≤ k.scratchBytes ∧
      k.ops.length < k.maxJro) ∧
    (∃ (s : State) (n : _) (a : JroArgs) (t : _) (k : Task), n < 256 ∧ s.running n = some (t, k) ∧ 1 ≤ a.cls ∧ a.cls ≤ 3 ∧ a.off + a.len ≤ k.scratchBytes ∧ k.maxJro ≤ k.ops.length) := by
  refine ⟨?_, ?_, ?_, ?_, ?_, ?_, ?_, ?_, ?_, ?_⟩
  · exact ⟨running task0, 0, jro0, 1, task0, by decide +kernel⟩
  · exact ⟨running fullJro, 0, jro0, 1, fullJro, by decide +kernel⟩
  · exact ⟨running task0, 0, jro0, 1, task0, by decide +kernel⟩
  · exact ⟨running fullJro, 0, jro0, 1, fullJro, by decide +kernel⟩
  · exact ⟨running task0, 0, jro0, 1, task0, by decide +kernel⟩
  · exact ⟨running fullJro, 0, jro0, 1, fullJro, by decide +kernel⟩
  · exact ⟨running task0, 0, jro0, 1, task0, by decide +kernel⟩
  · exact ⟨running fullJro, 0, jro0, 1, fullJro, by decide +kernel⟩
  · exact ⟨running task0, 0, jro0, 1, task0, by decide +kernel⟩
  · exact ⟨running fullJro, 0, jro0, 1, fullJro, by decide +kernel⟩

def linkOf (f : Link → Link) : State := ((one coll0).setRaw Reg.TRB_NODE (2 ^ 12)).link! 31 f
def onLink1 : State := linkOf (fun l => { l with state := .up, enable := true, peerNode := 1 })
def flit0 : Flit := ⟨2 ^ 32, 0, []⟩
def badPkt : Packet × Bool := ((one coll0).packet 1 3 0 false 100, false)
def shake0 : Handshake := ⟨true, 7, 0, [], 0⟩
def sessionUp (d : Nat) : State := linkOf (fun l => { l with state := .session, peerNode := 1, deadline := d })
def policyUp : State := (sessionUp 5).weir! (fun w => { w with record := { w.record with policy := fields 16 [(0, 8, 7)] } })
theorem witness_LinkCommands :
    (∃ (s : State) (l : _), l < 32 ∧ s.deaf = false ∧ Link_live (s.link l) = true) ∧
    (∃ (s : State) (l : _) (f : Flit), l < 32 ∧ s.deaf = false ∧ Link_live (s.link l) = true ∧ f.seq % 2 ^ 32 ≠ (s.link l).rxNext) ∧
    (∃ (s : State) (l : _) (f : Flit) (bad : Packet × Bool), l < 32 ∧ s.deaf = false ∧ Link_live (s.link l) = true ∧ f.seq % 2 ^ 32 = (s.link l).rxNext ∧
      f.packets.find? (fun (p : Packet × Bool) => !p.2) = some bad) ∧
    (∃ (s : State) (l : _) (f : Flit) (t : _), l < 32 ∧ s.deaf = false ∧ Link_live (s.link l) = true ∧ f.seq % 2 ^ 32 = (s.link l).rxNext ∧ f.packets.find? (fun (p : Packet × Bool) => !p.2) = none ∧ f.packets.foldl (fun (t : State) (p : Packet × Bool) => t.deliverPkt p.1 l) ((s.link! l (fun y => { y with lastRxNs := s.now })).link! l (fun y => { y with
      rxNext := (y.rxNext + 1) % 2 ^ 32, rxSince := y.rxSince + 1, rxCtr := y.rxCtr + f.packets.length, tagFails := 0 })) = t) ∧
    (∃ (s : State) (l : _), l < 32 ∧ s.deaf = false ∧ Link_live (s.link l) = true) ∧
    (∃ (s : State) (l : _), l < 32 ∧ s.deaf = false ∧ Link_live (s.link l) = true) ∧
    (∃ (s : State) (l : _) (p : _), l < 32 ∧ s.deaf = false ∧ Link_live (s.link l) = true ∧ p < 16) ∧
    (∃ (s : State) (l : _), l < 32 ∧ s.deaf = false ∧ Link_live (s.link l) = true ∧ (s.link l).replay ≠ []) ∧
    (∃ (s : State) (l : _), l < 32 ∧ s.deaf = false ∧ Link_live (s.link l) = true ∧ (s.link l).replay = []) ∧
    (∃ (s : State) (l : _), l < 32 ∧ s.deaf = false ∧ Link_live (s.link l) = true ∧ (s.link l).rxSince ≠ 0) ∧
    (∃ (s : State) (l : _), l < 32 ∧ s.deaf = false ∧ Link_live (s.link l) = true ∧ (s.link l).rxSince = 0) ∧
    (∃ (s : State) (l : _), l < 32 ∧ s.deaf = false ∧ Link_live (s.link l) = true) ∧
    (∃ (s : State) (l : _), l < 32 ∧ s.deaf = false ∧ Link_live (s.link l) = true) ∧
    (∃ (s : State) (l : _), l < 32 ∧ s.deaf = false ∧ Link_live (s.link l) = true) ∧
    (∃ (s : State) (l : _), l < 32 ∧ s.deaf = false ∧ (s.link l).state = .down) ∧
    (∃ (s : State) (l : _), l < 32 ∧ s.deaf = false ∧ (s.link l).state = .train) ∧
    (∃ (s : State) (l : _), l < 32 ∧ s.deaf = false ∧ (s.link l).state = .align) ∧
    (∃ (s : State) (l : _), l < 32 ∧ s.deaf = false ∧ (s.link l).state = .hello) ∧
    (∃ (s : State) (l : _), l < 32 ∧ s.deaf = false ∧ (s.link l).state = .session ∧ (Tbl.getD (s.link l).peerNode Peer_blank s.trib.peers).secretNs = 0 ∧
      (s.link l).deadline = 0) ∧
    (∃ (s : State) (l : _) (hs : Handshake), l < 32 ∧ s.deaf = false ∧ (s.link l).state = .session ∧
      (Tbl.getD (s.link l).peerNode Peer_blank s.trib.peers).secretNs = 0 ∧ (s.link l).deadline ≠ 0 ∧
        (hs.chainOk && policyAdmits s.weir.record.policy hs.fabricId hs.rollback hs.measure) = false) ∧
    (∃ (s : State) (l : _) (hs : Handshake), l < 32 ∧ s.deaf = false ∧ (s.link l).state = .session ∧
      (Tbl.getD (s.link l).peerNode Peer_blank s.trib.peers).secretNs = 0 ∧ (s.link l).deadline ≠ 0 ∧
        (hs.chainOk && policyAdmits s.weir.record.policy hs.fabricId hs.rollback hs.measure) = true) ∧
    (∃ (s : State) (l : _), l < 32 ∧ s.deaf = false ∧ (s.link l).state = .session ∧ (Tbl.getD (s.link l).peerNode Peer_blank s.trib.peers).secretNs ≠ 0) ∧
    (∃ (s : State) (l : _), l < 32 ∧ s.deaf = false ∧ linkStep (s.link l).state ≠ 0 ∧ (s.link l).deadline ≠ 0) ∧
    (∃ (s : State) (l : _), l < 32 ∧ s.deaf = false ∧ ((s.link l).state = .refused ∨ (s.link l).state = .down) ∧ (s.link l).enable = true ∧
      s.nodeId.isNone = false) ∧
    (∃ (s : State) (l : _), l < 32 ∧ s.deaf = false ∧ Link_live (s.link l) = false ∧ (s.link l).enable = true ∧ (s.link l).leftUpNs ≠ 0) ∧
    (∃ (s : State) (l : _), l < 32 ∧ s.deaf = false ∧ (s.link l).state = .up ∧ (s.link l).draining = false) ∧
    (∃ (s : State) (l : _), l < 32 ∧ s.deaf = false ∧ (s.link l).state = .up ∧ (s.link l).draining = true ∧ (s.link l).replay = [] ∧ (s.link l).queue = []) ∧
    (∃ (s : State) (l : _), l < 32 ∧ s.deaf = false ∧ (s.link l).spwTrickle = false ∧ s.spw.state ≠ .standby) ∧
    (∃ (s : State) (l : _), l < 32 ∧ s.deaf = false ∧ Link_live (s.link l) = true) ∧
    (∃ (s : State) (l : _), l < 32 ∧ s.deaf = false ∧ Link_live (s.link l) = true) := by
  refine ⟨?_, ?_, ?_, ?_, ?_, ?_, ?_, ?_, ?_, ?_, ?_, ?_, ?_, ?_, ?_, ?_, ?_, ?_, ?_, ?_, ?_, ?_, ?_, ?_, ?_, ?_, ?_, ?_, ?_, ?_⟩
  · exact ⟨onLink1, 31, by decide +kernel⟩
  · exact ⟨onLink1, 31, { flit0 with seq := 5 }, by decide +kernel⟩
  · exact ⟨onLink1, 31, { flit0 with packets := [badPkt] }, badPkt, by decide +kernel⟩
  · exact ⟨onLink1, 31, flit0, _, by decide, by decide +kernel, by decide +kernel, by decide +kernel, by decide +kernel, rfl⟩
  · exact ⟨onLink1, 31, by decide +kernel⟩
  · exact ⟨onLink1, 31, by decide +kernel⟩
  · exact ⟨onLink1, 31, 15, by decide +kernel⟩
  · exact ⟨linkOf (fun l => { l with state := .trickle, replay := [flit0] }), 31, by decide +kernel⟩
  · exact ⟨onLink1, 31, by decide +kernel⟩
  · exact ⟨linkOf (fun l => { l with state := .up, rxSince := 31 }), 31, by decide +kernel⟩
  · exact ⟨onLink1, 31, by decide +kernel⟩
  · exact ⟨onLink1, 31, by decide +kernel⟩
  · exact ⟨onLink1, 31, by decide +kernel⟩
  · exact ⟨onLink1, 31, by decide +kernel⟩
  · exact ⟨linkOf (fun l => { l with state := .down }), 31, by decide +kernel⟩
  · exact ⟨linkOf (fun l => { l with state := .train }), 31, by decide +kernel⟩
  · exact ⟨linkOf (fun l => { l with state := .align }), 31, by decide +kernel⟩
  · exact ⟨linkOf (fun l => { l with state := .hello }), 31, by decide +kernel⟩
  · exact ⟨sessionUp 0, 31, by decide +kernel⟩
  · exact ⟨sessionUp 5, 31, shake0, by decide +kernel⟩
  · exact ⟨policyUp, 31, shake0, by decide +kernel⟩
  · exact ⟨(sessionUp 0).peer! 1 (fun p => { p with secretNs := 5 }), 31, by decide +kernel⟩
  · exact ⟨linkOf (fun l => { l with state := .train, deadline := 7 }), 31, by decide +kernel⟩
  · exact ⟨linkOf (fun l => { l with state := .refused, enable := true }), 31, by decide +kernel⟩
  · exact ⟨linkOf (fun l => { l with state := .train, enable := true, leftUpNs := 7 }), 31, by decide +kernel⟩
  · exact ⟨onLink1, 31, by decide +kernel⟩
  · exact ⟨linkOf (fun l => { l with state := .up, draining := true }), 31, by decide +kernel⟩
  · exact ⟨onLink1, 31, by decide +kernel⟩
  · exact ⟨onLink1, 31, by decide +kernel⟩
  · exact ⟨onLink1, 31, by decide +kernel⟩

def pkt (op sub : Nat) : Packet := { (one coll0).packet op 3 0 false 100 with subop := sub }
def heldUp : State := (one coll0).trib! (fun x => { x with held := [({ pkt 1 0 with dst := 1 }, 0, 0)] })
def flow0 : RxFlow := ⟨0, [(pkt 1 0, 5, 0)], false⟩
def get0 : JroOp := ⟨1, 1, 2, none, 0, 0, 1, [], 0, 0, 0, 0, 0⟩
theorem witness_PacketsAndFlows :
    (∃ (s : State) (p : Packet), s.deaf = false ∧ p.op = 1 ∧ p.dst = s.nodeNo) ∧
    (∃ (s : State) (p : Packet), s.deaf = false ∧ p.op = 2 ∧ p.dst = s.nodeNo) ∧
    (∃ (s : State) (p : Packet), s.deaf = false ∧ p.op = 3 ∧ p.dst = s.nodeNo) ∧
    (∃ (s : State) (p : Packet), s.deaf = false ∧ p.op = 4 ∧ p.dst = s.nodeNo) ∧
    (∃ (s : State) (p : Packet), s.deaf = false ∧ p.op = 0x10 ∧ p.dst = s.nodeNo) ∧
    (∃ (s : State) (p : Packet), s.deaf = false ∧ p.op = 0x11 ∧ p.dst = s.nodeNo) ∧
    (∃ (s : State) (p : Packet), s.deaf = false ∧ p.op = 0x20 ∧ p.subop = 0 ∧ p.dst = s.nodeNo) ∧
    (∃ (s : State) (p : Packet), s.deaf = false ∧ p.op = 0x20 ∧ p.subop = 1 ∧ p.dst = s.nodeNo) ∧
    (∃ (s : State) (p : Packet), s.deaf = false ∧ p.op = 0x21 ∧ p.dst = s.nodeNo) ∧
    (∃ (s : State) (d : Nat) (o : _) (late : _) (gone : _) (t : _), s.trib.held.find? (fun (h : Packet × Nat × Nat) => decide (h.1.dst = d) && (s.choice h.1).isNone) = some o ∧ (fun (h : Packet × Nat × Nat) => decide (h.1.dst = d) && (s.choice h.1).isNone && decide (h.2.1 + s.unreachNs ≤ (s.reach (o.2.1 + s.unreachNs)).now)) = late ∧ (s.reach (o.2.1 + s.unreachNs)).trib.held.filter late = gone ∧ (gone.foldl (fun (t : State) (h : Packet × Nat × Nat) => t.taken h.1 h.2.2) ((s.reach (o.2.1 + s.unreachNs)).trib! (fun t => { t with held := t.held.filter (fun h => !late h) }))).count Reg.TRB_CNT0 6 gone.length = t ∧ t.choices d 0 = []) ∧
    (∃ (s : State) (n : _) (c : _) (f : _) (t0 : _), c < 4 ∧ Tbl.find (n * 4 + c) s.trib.rxFlows = some f ∧
      minL (f.held.map (fun (h : Packet × Nat × Nat) => h.2.1)) = some t0) ∧
    (∃ (s : State) (i : _) (o : _), Tbl.find i s.trib.ops = some o) ∧
    (∃ (s : State) (n : _), (Tbl.getD n Peer_blank s.trib.peers).probeNs ≠ 0) := by
  refine ⟨?_, ?_, ?_, ?_, ?_, ?_, ?_, ?_, ?_, ?_, ?_, ?_, ?_⟩
  · exact ⟨one coll0, pkt 1 0, by decide +kernel⟩
  · exact ⟨one coll0, pkt 2 0, by decide +kernel⟩
  · exact ⟨one coll0, pkt 3 0, by decide +kernel⟩
  · exact ⟨one coll0, pkt 4 0, by decide +kernel⟩
  · exact ⟨one coll0, pkt 0x10 0, by decide +kernel⟩
  · exact ⟨one coll0, pkt 0x11 0, by decide +kernel⟩
  · exact ⟨one coll0, pkt 0x20 0, by decide +kernel⟩
  · exact ⟨one coll0, pkt 0x20 1, by decide +kernel⟩
  · exact ⟨one coll0, pkt 0x21 0, by decide +kernel⟩
  · exact ⟨heldUp, 1, ({ pkt 1 0 with dst := 1 }, 0, 0), _, _, _, by decide +kernel, rfl, rfl, rfl, by decide +kernel⟩
  · exact ⟨(one coll0).trib! (fun x => { x with rxFlows := [(7, flow0)] }), 1, 3, flow0, 5, by decide +kernel⟩
  · exact ⟨(one coll0).trib! (fun x => { x with ops := [(9, get0)] }), 9, get0, by decide +kernel⟩
  · exact ⟨(one coll0).peer! 1 (fun p => { p with probeNs := 5 }), 1, by decide +kernel⟩

def chan0 : Chan := ⟨.up, [0, 1, 2, 3], [0, 1, 2, 3], 0, 0⟩
def ord0 (c : Option Nat) (t : OrdTarget) : OrdAccess := ⟨c, false, false, t, [], false, 0, none⟩
theorem witness_FailuresAndScrubs :
    (∃ (k : _), k < 8) ∧
    (∃ (s : State) (c : _) (x : _), c < 32 ∧ Tbl.find c s.delta.chans = some x ∧ x.state ≠ .fenced ∧ x.state ≠ .absent) ∧
    (∃ (s : State) (c : _), c < 32 ∧ (Tbl.find c s.delta.chans = none ∨ ∃ x, Tbl.find c s.delta.chans = some x ∧ (x.state = .fenced ∨ x.state = .absent))) ∧
    (∃ (s : State) (l : _) (x : _), l < 1024 ∧ Tbl.find (l / 32) s.delta.chans = some x ∧ x.state ≠ .fenced ∧ x.state ≠ .absent ∧
      s.delta.failedLuns.contains l = false ∧ x.targets.contains (l % 32 / 4) = true ∧ l % 4 < s.delta.geom.luns) ∧
    (∃ (s : State) (k : _) (c : _), k < 8 ∧ c < 32 ∧ s.gauge.fenced.contains (unitOf (2 + k) (0x80 + c)) = false) ∧
    (∃ (a : OrdAccess) (l : _), ordOk a = true ∧ a.target = .mesh l) ∧
    (∃ (a : OrdAccess), ordOk a = true ∧ a.cell = none ∧ (∀ l, a.target ≠ .mesh l)) ∧
    (∃ (a : OrdAccess) (n : _), ordOk a = true ∧ a.cell = some n ∧ (∀ l, a.target ≠ .mesh l)) ∧
    (∃ (s : State), (s.scrubOf 0).paused = false ∧ s.spw.state ≠ .standby ∧ s.cru.held = false ∧ s.host.nodeState = .running) ∧
    (∃ (s : State), (s.scrubOf 1).paused = false ∧ s.spw.state ≠ .standby ∧ s.cru.held = false ∧ s.host.nodeState = .running) ∧
    (∃ (s : State) (k : _), k < 4 ∧ (s.scrubOf 3).paused = false ∧ s.spw.state ≠ .standby ∧ s.cru.held = false ∧ s.host.nodeState = .running) ∧
    (∃ (s : State), s.deltaUp = true ∧ (s.scrubOf 2).paused = false ∧ s.spw.state ≠ .standby ∧ s.cru.held = false ∧ s.host.nodeState = .running) := by
  refine ⟨?_, ?_, ?_, ?_, ?_, ?_, ?_, ?_, ?_, ?_, ?_, ?_⟩
  · exact ⟨7, by decide +kernel⟩
  · exact ⟨one coll0, 0, chan0, by decide +kernel⟩
  · exact ⟨one coll0, 5, by decide, .inl (by decide +kernel)⟩
  · exact ⟨(one coll0).delta! (fun d => { d with geom := ⟨1, 1, 64, 1, 0⟩ }), 0, chan0, by decide +kernel⟩
  · exact ⟨one coll0, 7, 31, by decide +kernel⟩
  · exact ⟨ord0 none (.mesh 255), 255, by decide +kernel⟩
  · exact ⟨ord0 none (.record 0 0), by decide, rfl, nofun⟩
  · exact ⟨ord0 (some 511) (.millRow 0), 511, by decide +kernel, rfl, nofun⟩
  · exact ⟨up, by decide +kernel⟩
  · exact ⟨up, by decide +kernel⟩
  · exact ⟨up, 3, by decide +kernel⟩
  · exact ⟨(one coll0).delta! (fun d => { d with blocks := [(0, ⟨.closed, false, 0, 0, 0x55, 0, 0, []⟩)] }), by decide +kernel⟩

def spwUp (d3 : Bool) (x : SpwState) : State := (up.host! (fun h => { h with d3hot := d3 })).spw! (fun s => { s with state := x, wakeByPeer := true })
theorem witness_DumpsAndStandby :
    (∃ (s : State) (mb : Nat) (c : _) (m : Msg) (t : State), mb ≤ 64 ∧ s.next? mb 0x0802 = some (m, t) ∧ m.comp ≠ 64 ∧
      t.coll (collKey m.comp (m.p 0 2)) = some c ∧ c.state ≠ .dropping ∧ m.p 2 2 = 0 ∧ m.p 0x0C 4 = 0 ∧ 1 ≤ m.p 8 4 ∧ m.p 8 4 ≤ 4096 ∧
        (((sortBy (fun a b => decide (a < b)) (Tbl.keys c.reaches)).filter (fun r => decide (m.p 4 4 ≤ r) && decide (r < m.p 4 4 + m.p 8 4))).flatMap (reachRecord c)).length ≤ m.p 0x18 8) ∧
    (∃ (s : State) (mb : Nat) (c : _) (m : Msg) (t : State), mb ≤ 64 ∧ s.next? mb 0x0803 = some (m, t) ∧ m.comp ≠ 64 ∧
      t.coll (collKey m.comp (m.p 0 2)) = some c ∧ c.state ≠ .dropping ∧ m.p 4 4 = 0 ∧ (t.catchRecords c (m.p 2 2)).flatten.length ≤ m.p 0x10 8) ∧
    (∃ (s : State), s.spw.state = .active ∧ s.serves = true ∧ s.host.d3hot = false) ∧
    (∃ (s : State), s.spw.state = .entering ∧ s.weir.state ≠ .quarantined ∧ s.cru.held = false) ∧
    (∃ (s : State), s.cru.held = false ∧ s.weir.state ≠ .quarantined ∧ s.host.d3hot = true) ∧
    (∃ (s : State) (w : WakeSource), s.cru.held = false ∧ s.weir.state ≠ .quarantined ∧ w ≠ .d0 ∧ s.spw.state = .standby) ∧
    (∃ (s : State), s.serves = true ∧ s.host.d3hot = true ∧ s.spw.wakeByPeer = true ∧ s.slc.batches = [] ∧ s.slc.ctxs.filter (fun c => decide (c.2.state ≠ .quiet)) = []) := by
  refine ⟨?_, ?_, ?_, ?_, ?_, ?_, ?_⟩
  · exact ⟨posted (one collRow) 0 0x0802 (fields 32 [(8, 4, 4096), (0x18, 8, 1048576)]), 0, collRow, _, _, by decide, got (one collRow) 0 0x0802 (fields 32 [(8, 4, 4096), (0x18, 8, 1048576)]) (by decide +kernel) (by decide +kernel), by decide +kernel⟩
  · exact ⟨posted (one collRow) 0 0x0803 (fields 24 [(0x10, 8, 1048576)]), 0, collRow, _, _, by decide, got (one collRow) 0 0x0803 (fields 24 [(0x10, 8, 1048576)]) (by decide +kernel) (by decide +kernel), by decide +kernel⟩
  · exact ⟨up, by decide +kernel⟩
  · exact ⟨spwUp true .entering, by decide +kernel⟩
  · exact ⟨spwUp true .standby, by decide +kernel⟩
  · exact ⟨spwUp true .standby, .peerWake, by decide +kernel⟩
  · exact ⟨spwUp true .active, by decide +kernel⟩

theorem witness_VectorFrame :
    (∃ (s : State) (n : _) (t : _) (k : Task) (a : VArgs), Vec s n t k [a.va, a.vb] (a.ty.dst a.vd) a.parity ∧ s.regEcc n [a.va, a.vb] a.ecc = .clean) ∧
    (∃ (s : State) (n : _) (t : _) (k : Task) (a : VArgs), Vec s n t k [a.va, a.vb] (a.ty.dst a.vd) a.parity ∧ s.regEcc n [a.va, a.vb] a.ecc = .clean) ∧
    (∃ (s : State) (n : _) (t : _) (k : Task) (a : VArgs), Vec s n t k [a.va, a.vb] (a.ty.dst a.vd) a.parity ∧ s.regEcc n [a.va, a.vb] a.ecc = .clean) ∧
    (∃ (s : State) (n : _) (t : _) (k : Task) (a : VArgs), Vec s n t k [a.va, a.vb, a.vc] (a.ty.dst a.vd) a.parity ∧
      s.regEcc n [a.va, a.vb, a.vc] a.ecc = .clean) ∧
    (∃ (s : State) (n : _) (t : _) (k : Task) (a : VArgs), Vec s n t k [a.va, a.vb] [a.vd] a.parity ∧ s.regEcc n [a.va, a.vb] a.ecc = .clean) ∧
    (∃ (s : State) (n : _) (t : _) (k : Task) (a : VArgs), Vec s n t k [a.va, a.vb, a.vc] [a.vd] a.parity ∧ s.regEcc n [a.va, a.vb, a.vc] a.ecc = .clean) ∧
    (∃ (s : State) (n : _) (t : _) (k : Task) (a : VArgs), Vec s n t k [a.va, a.vb] (a.ty.dst a.vd) a.parity ∧ s.regEcc n [a.va, a.vb] a.ecc = .clean ∧
      a.ty.fp = true) ∧
    (∃ (s : State) (n : _) (t : _) (k : Task) (a : VArgs), Vec s n t k [a.va, a.vb] (a.ty.dst a.vd) a.parity ∧ s.regEcc n [a.va, a.vb] a.ecc = .clean ∧
      a.ty.fp = true) ∧
    (∃ (s : State) (n : _) (t : _) (k : Task) (a : VArgs), Vec s n t k [a.va] (a.ty.dst a.vd) a.parity ∧ s.regEcc n [a.va] a.ecc = .clean ∧ a.ty.fp = true) ∧
    (∃ (s : State) (n : _) (t : _) (k : Task) (a : VArgs), Vec s n t k [a.va, a.vb] (a.ty.dst a.vd) a.parity ∧ s.regEcc n [a.va, a.vb] a.ecc = .clean ∧
      a.ty.fp = true) ∧
    (∃ (s : State) (n : _) (t : _) (k : Task) (a : VArgs), Vec s n t k [a.va] (a.ty.dst a.vd) a.parity ∧ s.regEcc n [a.va] a.ecc = .clean ∧ a.ty.fp = true) ∧
    (∃ (s : State) (n : _) (t : _) (k : Task) (a : VArgs), Vec s n t k [a.va] (a.ty.dst a.vd) a.parity ∧ s.regEcc n [a.va] a.ecc = .clean ∧ a.ty.fp = true) ∧
    (∃ (s : State) (n : _) (t : _) (k : Task) (a : VArgs), Vec s n t k [a.va, a.vb] (a.ty.dst a.vd) a.parity ∧ s.regEcc n [a.va, a.vb] a.ecc = .clean ∧
      a.ty.fp = true) ∧
    (∃ (s : State) (n : _) (t : _) (k : Task) (a : VArgs), Vec s n t k [a.va] [a.vd, a.vd + 1] a.parity ∧ s.regEcc n [a.va] a.ecc = .clean) ∧
    (∃ (s : State) (n : _) (t : _) (k : Task) (a : VArgs), Vec s n t k [a.va] [a.vd, a.vd + 1] a.parity ∧ s.regEcc n [a.va] a.ecc = .clean) ∧
    (∃ (s : State) (n : _) (t : _) (k : Task) (a : VArgs), Vec s n t k [a.va, a.va + 1] [a.vd] a.parity ∧ s.regEcc n [a.va, a.va + 1] a.ecc = .clean) ∧
    (∃ (s : State) (n : _) (t : _) (k : Task) (a : VArgs), Vec s n t k [a.va, a.va + 1] [a.vd] a.parity ∧ s.regEcc n [a.va, a.va + 1] a.ecc = .clean) ∧
    (∃ (s : State) (n : _) (t : _) (k : Task) (a : VArgs), Vec s n t k [a.va] [a.vd] a.parity ∧ s.regEcc n [a.va] a.ecc = .clean) ∧
    (∃ (s : State) (n : _) (t : _) (k : Task) (a : VArgs) (m : _), Vec s n t k ((List.range (cdiv m 512)).map (fun i => a.va + i)) [a.vd] a.parity ∧
      s.regEcc n ((List.range (cdiv m 512)).map (fun i => a.va + i)) a.ecc = .clean ∧ a.ty = .f32 ∧ 1 ≤ m ∧ m ≤ 4096) ∧
    (∃ (s : State) (n : _) (t : _) (k : Task) (r : SramRead) (x : _) (y : _), Vec s n t k [r.src] [r.src] none ∧ s.regEcc n [r.src] r.ecc = .clean ∧
      ((List.range 7).any (fun i => decide (x = 2 ^ (i + 1))) && (List.range 7).any (fun i => decide (y = 2 ^ i))
    && decide (y < x)) = true) ∧
    (∃ (s : State) (n : _) (t : _) (k : Task) (d : _) (a : Nat) (b : SramRead), Vec s n t k [a, b.src] [d] none ∧ s.regEcc n [a, b.src] b.ecc = .clean) := by
  refine ⟨?_, ?_, ?_, ?_, ?_, ?_, ?_, ?_, ?_, ?_, ?_, ?_, ?_, ?_, ?_, ?_, ?_, ?_, ?_, ?_, ?_⟩
  · exact ⟨running task0, 0, 1, task0, va0, by decide +kernel⟩
  · exact ⟨running task0, 0, 1, task0, va0, by decide +kernel⟩
  · exact ⟨running task0, 0, 1, task0, va0, by decide +kernel⟩
  · exact ⟨running task0, 0, 1, task0, va0, by decide +kernel⟩
  · exact ⟨running task0, 0, 1, task0, va0, by decide +kernel⟩
  · exact ⟨running task0, 0, 1, task0, va0, by decide +kernel⟩
  · exact ⟨running task0, 0, 1, task0, va0, by decide +kernel⟩
  · exact ⟨running task0, 0, 1, task0, va0, by decide +kernel⟩
  · exact ⟨running task0, 0, 1, task0, va0, by decide +kernel⟩
  · exact ⟨running task0, 0, 1, task0, va0, by decide +kernel⟩
  · exact ⟨running task0, 0, 1, task0, va0, by decide +kernel⟩
  · exact ⟨running task0, 0, 1, task0, va0, by decide +kernel⟩
  · exact ⟨running task0, 0, 1, task0, va0, by decide +kernel⟩
  · exact ⟨running task0, 0, 1, task0, va0, by decide +kernel⟩
  · exact ⟨running task0, 0, 1, task0, va0, by decide +kernel⟩
  · exact ⟨running task0, 0, 1, task0, va0, by decide +kernel⟩
  · exact ⟨running task0, 0, 1, task0, va0, by decide +kernel⟩
  · exact ⟨running task0, 0, 1, task0, va0, by decide +kernel⟩
  · exact ⟨running task0, 0, 1, task0, { va0 with va := 24 }, 4096, by decide +kernel⟩
  · exact ⟨running task0, 0, 1, task0, ⟨31, []⟩, 128, 1, by decide +kernel⟩
  · exact ⟨running task0, 0, 1, task0, 31, 0, ⟨31, []⟩, by decide +kernel⟩

/-- A record of unit 5 with SEQ `n`. -/
def recOf (n : Nat) (k : ErrClass) : GRec := ⟨n, 0, 5, 0x0010, k, false, false, 0, 0x3FF, 0, 0⟩

/-- Records that wait in the queue of unit 5. -/
def queued (l : List GRec) : State := up.gauge! (fun g => { g with queues := [(5, l)] })

/-- The handler of unit 5 is open for another nanosecond. -/
def handling : State := up.gauge! (fun g => { g with handlers := [(5, 1)] })

/-- A node that Weir holds quarantined. -/
def quarantined : State := up.weir! (fun w => { w with state := .quarantined })

theorem witness_CountersSaturate :
    (∃ base i a : Nat, a ≠ base + 8 * i) ∧
    (∃ (a : Nat) (m : RMap), regAt a = some m ∧ counterBases.contains m.base = true) :=
  ⟨⟨Reg.ERR_CNT0, 7, Reg.ERR_CNT0, by decide⟩, ⟨Reg.ERR_CNT0, _, (Option.some_get (by decide +kernel)).symm, by decide +kernel⟩⟩

theorem witness_LogAcrossResets :
    (∃ typ : Nat, typ ≠ rstCold) ∧
    (∃ (s : State) (cause : WarmCause), s.gauge.log = [recOf 1 .d] ∧ s.cru.held = false ∧ s.weir.state ≠ .quarantined ∧
      (cause = .linkDown → s.host.linkUp = true)) :=
  ⟨⟨rstNode, by decide⟩, ⟨up.gauge! (fun g => { g with log := [recOf 1 .d] }), .linkDown, by decide +kernel⟩⟩

theorem witness_NestedErrorsRaised :
    (∃ (s : State) (unit : Nat), s.handlerOpen unit = true) ∧ (∃ (s : State) (unit : Nat), s.handlerOpen unit = false) ∧
    (∃ unit other : Nat, other ≠ unit) :=
  ⟨⟨handling, 5, by decide +kernel⟩, ⟨handling, 6, by decide +kernel⟩, ⟨5, 6, by decide⟩⟩

theorem witness_LoggingSetsPend :
    (∃ (s : State) (k : ErrClass), bit (s.raw Reg.ERR_INT) k.code = false ∧ bit (s.raw Reg.ERR_INT) (16 + k.code) = true) ∧
    (∃ (s : State) (k : ErrClass), bit (s.raw Reg.ERR_INT) k.code = true) ∧
    (∃ (s : State) (k : ErrClass), bit (s.raw Reg.ERR_INT) (16 + k.code) = false) ∧
    (∃ (s : State) (u n : Nat) (r : GRec) (rest : List GRec), s.cru.held = false ∧ s.gauge.drainStopped = false ∧
      minL (s.gauge.queues.filterMap (fun q => q.2.head?.map (·.seq))) = some n ∧ s.gauge.queues.find? (headSeq n) = some (u, r :: rest) ∧
      (logInsert 65536 s.gauge.log r).2.1 = true) :=
  ⟨⟨up.setRaw Reg.ERR_INT (2 ^ 20), .n, by decide +kernel⟩, ⟨up.setRaw Reg.ERR_INT 1, .c, by decide +kernel⟩,
    ⟨up.setRaw Reg.ERR_INT 0, .n, by decide +kernel⟩, ⟨queued [recOf 3 .d, recOf 4 .c], 5, 3, recOf 3 .d, [recOf 4 .c], by decide +kernel⟩⟩

/-- CAP_W and TJ_THROTTLE_C of a node. -/
def limits (cap tj : Nat) : State := (up.setFld Reg.SPW_CFG 32 16 cap).setFld Reg.SPW_CFG 24 8 tj

theorem witness_SpillwayLimits :
    ((limits 799 84).fld Reg.SPW_CFG 32 16 < 800) ∧
    (800 ≤ (limits 800 85).fld Reg.SPW_CFG 32 16 ∧ (limits 1050 85).fld Reg.SPW_CFG 32 16 ≤ 1050) ∧
    (1050 < (limits 1051 100).fld Reg.SPW_CFG 32 16) ∧
    (85 ≤ (limits 800 85).fld Reg.SPW_CFG 24 8 ∧ (limits 800 100).fld Reg.SPW_CFG 24 8 ≤ 100) ∧
    ((limits 799 84).fld Reg.SPW_CFG 24 8 < 85 ∧ 100 < (limits 799 101).fld Reg.SPW_CFG 24 8) := by
  decide +kernel

theorem witness_ShadowsTakeTheLastWrite :
    (∃ (lo w : Nat) (r2 : List Nat), lo + w ≤ 64 ∧ r2 ≠ []) ∧ (∃ l lo : Nat, l ≠ lo) ∧
    (∃ (s : State) (a : Nat), s.pendingBit a = true) :=
  ⟨⟨63, 1, [0, 127], by decide⟩, ⟨16, 0, by decide⟩, ⟨up.writeS Reg.SLC_SCHED 16 8 7 [0], Reg.SLC_SCHED, by decide +kernel⟩⟩

theorem witness_DroppedWithoutReply :
    (∃ (s : State) (mb : Nat), mb ≤ 64 ∧ (Tbl.find mb s.host.boxes).isSome = true ∧ s.takesMessages = true ∧ (s.box mb).state = .pending ∧
      (s.box mb).outstanding < 1024 ∧ s.batchesWaiting < 4096 ∧
      (natAt (Mem.readBytes (s.box mb).window 0 32) 16 8 % 64 ≠ 0 ∨ natAt (Mem.readBytes (s.box mb).window 0 32) 24 4 < 64)) :=
  ⟨pend 0x0703 63, 64, by decide +kernel⟩

theorem witness_GreatestThetaKept :
    ∃ (s : State) (n l v : Nat) (c : Cell) (x : Lane) (m : Nat), n < 512 ∧ Tbl.find n s.mrc.cells = some c ∧ Tbl.find l c.lanes = some x ∧ v < 2 ^ 32 ∧
      Nat.min v ((s.query x.batch x.query).elim 0 (fun y => y.theta)) = m ∧ x.key < m :=
  ⟨(withQuery collRow 0 { query0 with theta := 9 }).cell! 511 (fun c => { c with lanes := [(127, ⟨1, 0, 0, BoundPart.empty, 0, .all⟩)] }), 511, 127, 2 ^ 32 - 1,
    { Cell.reset with lanes := [(127, ⟨1, 0, 0, BoundPart.empty, 0, .all⟩)] }, ⟨1, 0, 0, BoundPart.empty, 0, .all⟩, 9, by decide +kernel⟩

/-- Function 64 holds one MSI-X message back. -/
def holdsBack : State := up.func! 64 (fun f => { f with waiting := [.msix 64 0 false] })

theorem witness_BusMasterWaits :
    (∃ (s : State) (fn : Nat), Live s ∧ (s.func fn).suppressed = false ∧ (s.func fn).busMaster = false) ∧
    (∃ (s : State) (fn : Nat) (f : Func), fn ≤ 64 ∧ Live s ∧ Tbl.find fn s.host.funcs = some f ∧ f.suppressed = false) :=
  ⟨⟨holdsBack, 64, by decide +kernel⟩, ⟨holdsBack, 64, { Func.reset with waiting := [.msix 64 0 false] }, by decide +kernel⟩⟩

theorem witness_QuarantineEffects :
    ∃ (s : State) (l : Link), s.weir.state ≠ .quarantined ∧ (0, l) ∈ s.trib.links ∧ (l.state = .up ∨ l.state = .trickle) :=
  ⟨linked up, { Link.reset with state := .up, enable := true, peerNode := 1 }, by decide +kernel⟩

/-- Row 4 deleted at epoch 1, which 1,000 later epochs and an hour have passed, and taken out of the graph. -/
def deadSlot (l : LinkState) : Slot := { slot0 with state := .tombstone, delEpoch := 1, link := l }
def deadColl (l : LinkState) : Coll := { collRow with slots := [(0, deadSlot l)], lastEpoch := 1000 }

theorem witness_SlotFreeing :
    (∃ (s : State) (k i : Nat) (c : Coll) (z : Slot), s.coll k = some c ∧ Tbl.find i c.slots = some z ∧
      ((z.state = .tombstone ∨ z.state = .forward) ∧ z.link = .unlinked ∧ s.retained k c (z.delEpoch - 1) = false ∧ (∀ e ∈ s.inFlight k, z.delEpoch ≤ e))) ∧
    (∃ (s : State) (k i : Nat) (c : Coll) (z : Slot), s.coll k = some c ∧ Tbl.find i c.slots = some z ∧
      ¬((z.state = .tombstone ∨ z.state = .forward) ∧ z.link = .unlinked ∧ s.retained k c (z.delEpoch - 1) = false ∧ (∀ e ∈ s.inFlight k, z.delEpoch ≤ e))) :=
  ⟨⟨one (deadColl .unlinked), 0, 0, deadColl .unlinked, deadSlot .unlinked, by decide +kernel⟩,
    ⟨one (deadColl .linked), 0, 0, deadColl .linked, deadSlot .linked, by decide +kernel⟩⟩

theorem witness_NodeLogReplacement :
    (∃ log : List GRec, log.length < 65536) ∧
    (∃ (log : List GRec) (m : Nat), 65536 ≤ log.length ∧ (∃ x ∈ log, tierOf x.cls = m) ∧ (∀ x ∈ log, m ≤ tierOf x.cls)) ∧
    (∃ (s : State) (u n : Nat) (r : GRec) (rest : List GRec), s.cru.held = false ∧ s.gauge.drainStopped = false ∧
      minL (s.gauge.queues.filterMap (fun q => q.2.head?.map (·.seq))) = some n ∧ s.gauge.queues.find? (headSeq n) = some (u, r :: rest)) := by
  refine ⟨⟨[], by decide⟩, ⟨List.replicate 65536 (recOf 1 .x), 1, ?_, ?_, ?_⟩, ⟨queued [recOf 3 .d], 5, 3, recOf 3 .d, [], by decide +kernel⟩⟩
  · exact Nat.le_of_eq (by rw [List.length_replicate])
  · exact ⟨recOf 1 .x, List.mem_replicate.2 ⟨by decide, rfl⟩, rfl⟩
  · intro x hx; rw [(List.mem_replicate.1 hx).2]; decide

theorem witness_SpillwayVector :
    ∃ (s t : State), Live s ∧ (s.func 0).busMaster = true ∧ (s.func 0).suppressed = false ∧ exec (.spillwaySample 1100 101) s = .next t :=
  ⟨up.func! 0 (fun f => { f with busMaster := true }), _, by decide +kernel, by decide +kernel, by decide +kernel, rfl⟩

theorem witness_EmptyQueueIdles : ∃ s : State, s.pending = [] := ⟨up, rfl⟩

/-- AGE_TICK waits. -/
def ticking (s : State) : State := { s with pending := [.ageTick] }

theorem witness_QueueLeftAlone : ∃ (c : Instr) (s t : State), exec c s = .next t ∧ s.pending ≠ [] := ⟨.ageTick, ticking up, _, rfl, by decide⟩

theorem witness_StepKeepsForms : ∃ s t : State, step s = .next t ∧ RegFile.canon s.regs = true ∧ memsWf s.host = true :=
  ⟨ticking (pend 0x0703 64), _, rfl, by decide +kernel, by decide +kernel⟩

theorem witness_StepKeepsGaugeBounds : ∃ s t : State, step s = .next t ∧ gaugeBounded s.gauge = true ∧ s.gauge.queues ≠ [] :=
  ⟨ticking (queued [recOf 3 .d]), _, rfl, by decide +kernel, by decide +kernel⟩

theorem witness_StepKeepsPartRecord : ∃ s t : State, step s = .next t ∧ recordSynced s.weir = true ∧ s.pending ≠ [] :=
  ⟨ticking State.reset, _, rfl, by decide +kernel, by decide⟩

theorem witness_TimeAndSeqNeverFall : ∃ s t : State, step s = .next t ∧ (∀ c rest, s.pending = c :: rest → Resets c = false) ∧ s.pending ≠ [] :=
  ⟨ticking up, _, rfl, fun c rest h => by cases h; rfl, by decide⟩

theorem witness_QuarantineIsSilent :
    ∃ s t : State, step s = .next t ∧ (∀ c rest, s.pending = c :: rest → Resets c = false) ∧ s.weir.state = .quarantined ∧ s.pending ≠ [] :=
  ⟨ticking quarantined, _, rfl, fun c rest h => by cases h; rfl, rfl, by decide⟩

theorem witness_EffectsStayInTheirParts : ∃ (c : Instr) (s t : State), exec c s = .next t := ⟨.thetaPush 511 0 1, up, _, rfl⟩

theorem witness_EveryCommandAnswers : (∃ c : Instr, c.WellFormed = true) ∧ (∃ c : Instr, c.WellFormed = false) :=
  ⟨⟨.preempt 255, by decide⟩, ⟨.preempt 256, by decide⟩⟩

theorem witness_UnitQueues :
    (∃ (s : State) (r : GRec), 64 ≤ (Tbl.getD r.unit [] s.gauge.queues).length) ∧
    (∃ (s : State) (r : GRec), r.cls = .c ∧ (Tbl.getD r.unit [] s.gauge.queues).length < 64 ∧
      56 ≤ ((Tbl.getD r.unit [] s.gauge.queues).filter (fun x => decide (x.cls = .c))).length) ∧
    (∃ (s : State) (r : GRec), (Tbl.getD r.unit [] s.gauge.queues).length < 64 ∧
      (r.cls = .c → ((Tbl.getD r.unit [] s.gauge.queues).filter (fun x => decide (x.cls = .c))).length < 56)) ∧
    (∃ (s : State) (u n : Nat) (r : GRec) (rest : List GRec), s.cru.held = false ∧ s.gauge.drainStopped = false ∧
      minL (s.gauge.queues.filterMap (fun q => q.2.head?.map (·.seq))) = some n ∧ s.gauge.queues.find? (headSeq n) = some (u, r :: rest)) :=
  ⟨⟨queued (List.replicate 64 (recOf 3 .d)), recOf 4 .d, by decide +kernel⟩, ⟨queued (List.replicate 56 (recOf 3 .c)), recOf 4 .c, by decide +kernel⟩,
    ⟨queued (List.replicate 55 (recOf 3 .c)), recOf 4 .c, by decide +kernel⟩, ⟨queued [recOf 3 .d], 5, 3, recOf 3 .d, [], by decide +kernel⟩⟩

/-! ### Which commands are well formed, at the edge of each check -/

theorem test_wf_mailbox : (Instr.nodeInfo 64).WellFormed = true ∧ (Instr.nodeInfo 65).WellFormed = false := by decide
theorem test_wf_core : (Instr.endTask 255).WellFormed = true ∧ (Instr.endTask 256).WellFormed = false := by decide
theorem test_wf_cell : (Instr.outRead 511).WellFormed = true ∧ (Instr.outRead 512).WellFormed = false := by decide
theorem test_wf_rct : (Instr.rctSet 11718655 true).WellFormed = true ∧ (Instr.rctSet 11718656 true).WellFormed = false := by decide
theorem test_wf_stack : (Instr.tokenGrant 3).WellFormed = true ∧ (Instr.tokenGrant 4).WellFormed = false := by decide
theorem test_wf_failed_stack : (Instr.stackFail 7).WellFormed = true ∧ (Instr.stackFail 8).WellFormed = false := by decide
theorem test_wf_engine : (Instr.linkSlot 3).WellFormed = true ∧ (Instr.linkSlot 4).WellFormed = false := by decide
theorem test_wf_link : (Instr.wake 31).WellFormed = true ∧ (Instr.wake 32).WellFormed = false := by decide
theorem test_wf_vf : (Instr.vfFunctionLevelReset 0).WellFormed = false ∧ (Instr.vfFunctionLevelReset 1).WellFormed = true ∧
    (Instr.vfFunctionLevelReset 64).WellFormed = true ∧ (Instr.vfFunctionLevelReset 65).WellFormed = false := by decide
theorem test_wf_function : (Instr.busMasterEnable 64 true).WellFormed = true ∧ (Instr.busMasterEnable 65 true).WellFormed = false := by decide
theorem test_wf_pll : (Instr.clockLoss 21).WellFormed = true ∧ (Instr.clockLoss 22).WellFormed = false ∧ (Instr.clockLoss 3).WellFormed = false := by decide
theorem test_wf_port : (Instr.endSession 66 0).WellFormed = true ∧ (Instr.endSession 67 0).WellFormed = false := by decide
theorem test_wf_bus : (Instr.entdaa 1 0).WellFormed = true ∧ (Instr.entdaa 2 0).WellFormed = false := by decide
theorem test_wf_part : (Instr.channelFail (.channel 31)).WellFormed = true ∧ (Instr.channelFail (.channel 32)).WellFormed = false ∧
    (Instr.channelFail (.lun 1024)).WellFormed = false ∧ (Instr.channelFail (.hbm 8 0)).WellFormed = false ∧
    (Instr.channelFail (.hbm 7 32)).WellFormed = false := by decide
theorem test_wf_access : (Instr.ordinaryAccess ⟨some 511, false, false, .millRow 366207, [], false, 0, none⟩).WellFormed = true ∧
    (Instr.ordinaryAccess ⟨some 511, false, false, .millRow 366208, [], false, 0, none⟩).WellFormed = false ∧
    (Instr.ordinaryAccess ⟨some 512, false, false, .record 0 0, [], false, 0, none⟩).WellFormed = false ∧
    (Instr.ordinaryAccess ⟨none, false, false, .millRow 0, [], false, 0, none⟩).WellFormed = false ∧
    (Instr.ordinaryAccess ⟨none, false, false, .mesh 256, [], false, 0, none⟩).WellFormed = false := by decide

/-! ### Worked examples of the spec -/

/-- A number in units of 10^−n, rounded to the nearest. -/
def places (n : Nat) (a : F32) : Int := Dy.rneQuot (Dy.mul (fdy a) (Dy.ofInt (10 ^ n : Nat))) ⟨1, 0⟩

/-- BF16 elements as bytes, padded to 64 elements. -/
def bf (l : List Nat) : List Byte := l.flatMap (le 2) ++ zeros (128 - 2 * l.length)

/-- The row and the query of the example after R57: DIM 64, inner product, CODE4, BF16. -/
def exRow : List Byte := bf [0x3F90, 0xBF40, 0x3EA0, 0x3F00, 0xBE40, 0x3D80, 0x3F30, 0xBEE0]
def exQuery : List Byte := bf [0x3F00, 0x3EA0, 0xBF40, 0x3F90, 0x3E80, 0, 0x3F00, 0xBE80]

/-- Chapter 02, the example of one CODE4 row: its code bytes and side record. -/
theorem test_example_code :
    encodeRow desc0 4 exRow = ([0x87, 0x20, 0xEC, 0xA4] ++ List.replicate 28 0xEE, le 2 0x3000 ++ le 2 0x3400 ++ le 2 0x3079, []) := by
  decide +kernel

/-- The same example: the reference score 1.0625. -/
theorem test_example_score : (desc0.refQuery exQuery).map (fun q => refScore0 desc0 q exRow) = some 0x3F880000#32 := by decide +kernel

/-- The same example: the interval [0.85573, 1.51927]. -/
theorem test_example_interval :
    (desc0.refQuery exQuery).map (fun q =>
      let c := encodeRow desc0 4 exRow
      let r := cellInterval desc0 4 (codeQuery desc0 4 q) f32One c.1 c.2.1
      (places 5 r.1, places 5 r.2.1)) = some (85573, 151927) := by
  decide +kernel

/-- Chapter 11, the example of choosing a victim. -/
theorem test_example_reclaim :
    reclaimScore 9216 2304 1200 1250 10 64 = 19174 ∧ reclaimScore 9216 4608 1150 1250 900 64 = 319061 ∧
    reclaimScore 9216 8000 300 1250 1023 64 = 135947 := by decide +kernel

/-- The same example: the SLC target. -/
theorem test_example_slc : slcTargetOf 1600 9216 7 12902400 64 4 64 = 22 ∧ slcTargetOf 1600 9216 7 0 64 4 1000 = 372 ∧
    slcTargetOf 1600 9216 7 0 64 4 64 = 64 := by decide +kernel

/-- The lists of the example of chapter 05. -/
def exEntry (n : Nat) (e : Nat × Nat × Nat) : Entry := ⟨e.2.2, e.1, 0, e.2.1, false, n⟩
def exAcc (v : Int) : Acc := { Acc.empty false with val := v * 2 ^ 147 }
def exList0 : PList := { PList.empty false 0 with
  entries := [(12, 5, 0xBF600000), (70, 9, 0xBF400000), (33, 2, 0xBF300000), (41, 1, 0xBF300000)].map (exEntry 0)
  pruned := true, kthKey := 0xBF300000, tie := 1, acc := exAcc 22, bound := ⟨0xC0000000, 0x40500000, 0⟩ }
def exList1 : PList := { PList.empty false 1 with
  entries := [(19, 4, 0xBF500000), (70, 8, 0xBF480000), (8, 3, 0xBF300000), (60, 2, 0xBF200000)].map (exEntry 1)
  pruned := true, kthKey := 0xBF200000, tie := 0, acc := exAcc 17, bound := ⟨0x3F000000, 0x3FC00000, 0⟩ }

/-- Chapter 05, the example of two partial lists: entries, ties, sums and the interval of the rest. -/
theorem test_example_merge :
    let r := PList.merge false 4 64 (fun _ => 0) 0 [exList0, exList1]
    let a := aggregates false 0 r
    r.entries.map (·.rowId) = [12, 19, 70, 8] ∧ r.kthKey = 0xBF300000 ∧ r.tie = 3 ∧ (unionOf (fun _ => 0) [exList0, exList1]).2.1 = [] ∧
    places 3 a.sel = 3125 ∧ places 3 a.restLo = 10250 ∧ places 3 a.restHi = 16500 ∧ a.restExact = false := by
  decide +kernel

/-- The selection of the example of chapter 07: logits 2 and 1 selected, 0 and −1 left out. -/
def exAtt : PList :=
  [(0x40000000#32, 0), (0x3F800000#32, 1), (0#32, 2), (0xBF800000#32, 3)].foldl
    (fun p e => p.absorb true 2 e.1 ⟨sortKey e.1, e.2, 0, 0, false, 0⟩) (PList.empty true 0)

/-- Chapter 07, the example of a short head: STAB_EXP, SEL_SUM, the rest and the mass. -/
theorem test_example_attention_mass :
    let a := aggregates true 0 exAtt
    let m := attMass a exAtt
    a.stab = 2 ∧ places 6 a.sel = 2526834 ∧ places 6 a.restLo = 341970 ∧ places 6 a.restHi = 341970 ∧ a.restExact = true ∧
    places 5 m.1 = 11920 ∧ places 5 m.2 = 11920 := by
  decide +kernel

/-- The same example: the weights and the output. -/
theorem test_example_attention_output :
    let w := [attWeight 2 0x40000000#32, attWeight 2 0x3F800000#32]
    let sel := (aggregates true 0 exAtt).sel
    w.map (places 6) = [1847264, 679570] ∧
    places 6 (attChannel sel w [0x3F000000#32, 0x3F800000#32]) = 634471 ∧ places 6 (attChannel sel w [0xBE800000#32, 0x3F400000#32]) = 18941 := by
  decide +kernel

/-- Chapter 17, Table SPW-2, step 2: at 990 W over a cap of 900 W a sample lowers SPW_LIMIT to 80 and changes STATE to CAPPED. -/
theorem test_example_cap :
    (match exec (.spillwaySample 990 60) ((up.setFld Reg.SPW_CFG 32 16 900).spw! (fun x => { x with limit := 96 })) with
    | .next t => decide (t.spw.limit = 80 ∧ t.spw.state = .capped)
    | _ => false) = true := by
  decide +kernel
/-- FIPS 202: SHA3-256 of the three letters abc, in the published example values. -/
theorem test_sha3 :
    sha3 [0x61#8, 0x62#8, 0x63#8] =
      [0x3A#8, 0x98#8, 0x5D#8, 0xA7#8, 0x4F#8, 0xE2#8, 0x25#8, 0xB2#8, 0x04#8, 0x5C#8, 0x17#8, 0x2D#8, 0x6B#8, 0xD3#8, 0x90#8, 0xBD#8,
       0x85#8, 0x5F#8, 0x08#8, 0x6E#8, 0x3E#8, 0x9D#8, 0x52#8, 0x5B#8, 0x46#8, 0xBF#8, 0xE2#8, 0x45#8, 0x11#8, 0x43#8, 0x15#8, 0x32#8] := by
  decide +kernel

/-- FIPS 197, appendix C.3: AES-256 of one block. -/
theorem test_aes_block :
    aesBlock (aesKeys (List.range 32)) ((List.range 16).map (fun i => 17 * i)) =
      [0x8E, 0xA2, 0xB7, 0xCA, 0x51, 0x67, 0x45, 0xBF, 0xEA, 0xFC, 0x49, 0x90, 0x4B, 0x49, 0x60, 0x89] := by decide +kernel

/-- R518, R519: one symbol is corrected, two are not, and a codeword with the mask of R519 alone reads as poisoned. -/
theorem test_symbols :
    symOutcome false [] = .clean ∧ symOutcome false [(0, 0x80)] = .corrected 0 ∧ symOutcome false [(67, 1)] = .corrected 67 ∧
    symOutcome false [(3, 7), (60, 9)] = .uncorrectable ∧ symOutcome true [] = .poisoned := by decide +kernel

/-- No row of the table has bits, so no word spells a command. -/
theorem test_decode_none : decodeTableWord 32 0 = none := rfl

end Sys2Proof.Tests
end

section
/-! The waiting shadows of class S fields (R14 to R17): what a write and a boundary leave of the shadow of a field, what the agents of its block
act on meanwhile, and the field once every agent has reached its boundary. -/

namespace Sys2Proof.Machine

/-- After writes of `f` at every key of a list, each of those keys reads `f`. -/
theorem find_foldl_put {α : Type} (f : Nat → α) {l : List Nat} {k : Nat} : ∀ {t : Tbl α}, k ∈ l ∨ Tbl.find k t = some (f k) →
    Tbl.find k (l.foldl (fun t j => Tbl.put j (f j) t) t) = some (f k) := by
  induction l with
  | nil => intro t h; exact h.resolve_left List.not_mem_nil
  | cons j l ih =>
    intro t h
    refine ih ?_
    by_cases hj : k = j
    · subst hj; exact .inr (Tbl.find_put_same k (f k) t)
    · rw [Tbl.find_put_other j k (f j) t hj]
      exact h.imp_left (fun hm => (List.mem_cons.1 hm).resolve_left hj)

/-- The shadow is one of the field at `lo` of the register at `a`. -/
def ofField (a lo : Nat) (x : Shadow) : Bool := decide (x.addr = a) && decide (x.lo = lo)

theorem ofField_iff {a lo : Nat} {x : Shadow} : ofField a lo x = true ↔ x.addr = a ∧ x.lo = lo := by
  rw [ofField, Bool.and_eq_true, decide_eq_true_eq, decide_eq_true_eq]

theorem ofField_self (x : Shadow) : ofField x.addr x.lo x = true := ofField_iff.2 ⟨rfl, rfl⟩

/-- A shadow of one field of a register is of no other. -/
theorem ofField_other {a l : Nat} {x : Shadow} (h : l ≠ x.lo) : ofField a l x = false :=
  Bool.eq_false_iff.2 (fun hx => h (ofField_iff.1 hx).2.symm)

theorem State.shadow_eq_find (s : State) (a lo : Nat) : s.shadow a lo = s.regs.shadows.find? (ofField a lo) := rfl

theorem State.otherShadows_eq_filter (s : State) (a lo : Nat) :
    s.otherShadows a lo = s.regs.shadows.filter (fun x => !ofField a lo x) := rfl

/-- A waiting shadow of a field names the field. -/
theorem State.shadow_names {s : State} {a lo : Nat} {x : Shadow} (h : s.shadow a lo = some x) : x.addr = a ∧ x.lo = lo :=
  ofField_iff.1 (List.find?_some h)

/-- The shadows other than that of a field hold none of it. -/
theorem State.find_otherShadows_same (s : State) (a lo : Nat) : (s.otherShadows a lo).find? (ofField a lo) = none := by
  rw [State.otherShadows_eq_filter, List.find?_eq_none]
  intro x hx hof
  have hother : (!ofField a lo x) = true := (List.mem_filter.1 hx).2
  rw [hof] at hother
  exact Bool.false_ne_true hother

/-- The shadows other than that of a field are those of every other field. -/
theorem State.find_otherShadows_other {s : State} {a lo l : Nat} (h : l ≠ lo) :
    (s.otherShadows a lo).find? (ofField a l) = s.shadow a l := by
  rw [State.otherShadows_eq_filter, State.shadow_eq_find, List.find?_filter]
  congr 1
  funext x
  by_cases hl : ofField a l x = true
  · have hlo : ofField a lo x = false := ofField_other (fun e => h ((ofField_iff.1 hl).2.symm.trans e.symm))
    rw [hl, hlo]
    exact decide_eq_true ⟨rfl, rfl⟩
  · rw [Bool.eq_false_iff.2 hl]
    exact decide_eq_false (fun hb => Bool.false_ne_true hb.2)

/-- Without the shadow of a field none of it waits. -/
theorem State.shadow_of_otherShadows {s t : State} {a lo : Nat} (h : t.regs.shadows = s.otherShadows a lo) : t.shadow a lo = none := by
  rw [State.shadow_eq_find, h, State.find_otherShadows_same]

/-- A shadow put behind the others is the shadow of its field. -/
theorem State.shadow_of_append {s t : State} {x : Shadow} (h : t.regs.shadows = s.otherShadows x.addr x.lo ++ [x]) :
    t.shadow x.addr x.lo = some x := by
  rw [State.shadow_eq_find, h, List.find?_append, State.find_otherShadows_same, List.find?_cons_of_pos (ofField_self x), Option.none_or]

/-- It is the shadow of no other field. -/
theorem State.shadow_of_append_other {s t : State} {a l : Nat} {x : Shadow} (h : t.regs.shadows = s.otherShadows a x.lo ++ [x])
    (hl : l ≠ x.lo) : t.shadow a l = s.shadow a l := by
  rw [State.shadow_eq_find, h, List.find?_append, State.find_otherShadows_other hl,
    List.find?_cons_of_neg (Bool.eq_false_iff.1 (ofField_other hl)), List.find?_nil, Option.or_none]

/-- PENDING of a register: a field of it has a waiting shadow (R17). -/
theorem State.pendingBit_iff {s : State} {a : Nat} : s.pendingBit a = true ↔ ∃ lo, (s.shadow a lo).isSome = true := by
  unfold State.pendingBit
  rw [List.any_eq_true]
  constructor
  · rintro ⟨x, hx, ha⟩
    exact ⟨x.lo, List.find?_isSome.2 ⟨x, hx, ofField_iff.2 ⟨of_decide_eq_true ha, rfl⟩⟩⟩
  · rintro ⟨lo, hsome⟩
    obtain ⟨x, hx, hof⟩ := List.find?_isSome.1 hsome
    exact ⟨x, hx, decide_eq_true (ofField_iff.1 hof).1⟩

/-- What each agent of a list acts on, the table that a shadowed write keeps (R16). -/
def State.heldBy (s : State) (a lo w : Nat) (agents : List Nat) : Tbl Nat :=
  agents.foldl (fun t g => Tbl.put g (s.fldFor a lo w g) t) []

theorem State.getD_heldBy {s : State} {a lo w d g : Nat} {agents : List Nat} (h : g ∈ agents) :
    Tbl.getD g d (s.heldBy a lo w agents) = s.fldFor a lo w g := by
  unfold State.heldBy Tbl.getD
  rw [find_foldl_put _ (.inl h)]
  rfl

/-- A write while agents run leaves its value, and its value alone, in the shadow of the field (R16). -/
theorem State.shadow_writeS {s : State} {a lo w v : Nat} {running : List Nat} (h : running ≠ []) :
    (s.writeS a lo w v running).shadow a lo = some ⟨a, lo, w, v % 2 ^ w, running, s.heldBy a lo w running⟩ := by
  unfold State.writeS
  rw [if_neg h]
  exact State.shadow_of_append (s := s) (x := ⟨a, lo, w, v % 2 ^ w, running, s.heldBy a lo w running⟩) rfl

/-- An agent that runs acts on the value that it acted on before the write (R16). -/
theorem State.fldFor_writeS {s : State} {a lo w v g : Nat} {running : List Nat} (h : g ∈ running) :
    (s.writeS a lo w v running).fldFor a lo w g = s.fldFor a lo w g := by
  rw [State.fldFor, State.shadow_writeS (List.ne_nil_of_mem h)]
  exact (if_pos (List.contains_iff_mem.2 h)).trans (State.getD_heldBy h)

/-- A boundary of a field without a waiting shadow changes nothing. -/
theorem State.boundary_of_none {s : State} {a lo w g : Nat} (h : s.shadow a lo = none) : s.boundary a lo w g = s := by
  rw [State.boundary, h]

/-- At the boundary of the last agent that waits the shadow takes effect and is gone (R16, R17). -/
theorem State.boundary_of_last {s : State} {a lo w g : Nat} {x : Shadow} (h : s.shadow a lo = some x) (hw : lo + w ≤ 64)
    (hx : x.waiting.filter (fun k => decide (k ≠ g)) = []) :
    (s.boundary a lo w g).fld a lo w = x.newVal % 2 ^ w ∧ (s.boundary a lo w g).shadow a lo = none := by
  unfold State.boundary
  simp only [h, if_pos hx]
  exact ⟨State.fld_setFld_same s a lo w x.newVal hw, State.shadow_of_otherShadows (s := s) rfl⟩

/-- At the boundary of any other agent the shadow waits for the rest (R17). -/
theorem State.boundary_of_rest {s : State} {a lo w g : Nat} {x : Shadow} (h : s.shadow a lo = some x)
    (hx : x.waiting.filter (fun k => decide (k ≠ g)) ≠ []) :
    (s.boundary a lo w g).shadow a lo = some { x with waiting := x.waiting.filter (fun k => decide (k ≠ g)) } := by
  obtain ⟨rfl, rfl⟩ := State.shadow_names h
  unfold State.boundary
  simp only [h, if_neg hx]
  exact State.shadow_of_append (s := s) (x := { x with waiting := x.waiting.filter (fun k => decide (k ≠ g)) }) rfl

/-- The boundary of a field leaves the shadows of the register's other fields waiting (R17). -/
theorem State.shadow_boundary_other {s : State} {a lo w g l : Nat} (h : l ≠ lo) : (s.boundary a lo w g).shadow a l = s.shadow a l := by
  cases hx : s.shadow a lo with
  | none => rw [State.boundary_of_none hx]
  | some x =>
    obtain ⟨-, rfl⟩ := State.shadow_names hx
    unfold State.boundary
    simp only [hx]
    split
    · exact State.find_otherShadows_other h
    · exact State.shadow_of_append_other (s := s) (x := { x with waiting := x.waiting.filter (fun k => decide (k ≠ g)) }) rfl h

/-- Boundaries of a field without a waiting shadow change nothing. -/
theorem State.foldl_boundary_of_none {s : State} {a lo w : Nat} (h : s.shadow a lo = none) (agents : List Nat) :
    agents.foldl (fun u g => u.boundary a lo w g) s = s := by
  induction agents with
  | nil => rfl
  | cons g agents ih => rw [List.foldl_cons, State.boundary_of_none h, ih]

/-- Once every agent that waits has reached its boundary, the field holds the shadow's value and no shadow of it waits (R16, R17). -/
theorem State.foldl_boundary {a lo w : Nat} (hw : lo + w ≤ 64) {agents : List Nat} : ∀ {s : State} {x : Shadow}, s.shadow a lo = some x →
    x.waiting ≠ [] → x.waiting ⊆ agents →
    (agents.foldl (fun u g => u.boundary a lo w g) s).fld a lo w = x.newVal % 2 ^ w ∧
    (agents.foldl (fun u g => u.boundary a lo w g) s).shadow a lo = none := by
  induction agents with
  | nil => intro s x _ hne hsub; exact absurd (List.subset_nil.1 hsub) hne
  | cons g agents ih =>
    intro s x hx hne hsub
    rw [List.foldl_cons]
    by_cases hrest : x.waiting.filter (fun k => decide (k ≠ g)) = []
    · obtain ⟨hfld, hgone⟩ := State.boundary_of_last hx hw hrest
      rw [State.foldl_boundary_of_none hgone]
      exact ⟨hfld, hgone⟩
    · have hsub' : x.waiting.filter (fun k => decide (k ≠ g)) ⊆ agents := fun k hk => by
        obtain ⟨hmem, hkg⟩ := List.mem_filter.1 hk
        exact (List.mem_cons.1 (hsub hmem)).resolve_left (of_decide_eq_true hkg)
      have hfold := ih (State.boundary_of_rest (w := w) hx hrest) hrest hsub'
      exact hfold

/-- Settles O39: the second write replaces the shadow of the first, and the boundaries of the agents in `r2` use that shadow up. -/
theorem shadowsTakeTheLastWrite : Obligations.ShadowsTakeTheLastWrite := by
  unfold Obligations.ShadowsTakeTheLastWrite
  refine ⟨?_, fun s a lo w g l h => State.shadow_boundary_other h, fun s a => State.pendingBit_iff⟩
  intro s a lo w v1 v2 r1 r2 hw hr2 t
  have hshadow : t.shadow a lo = some ⟨a, lo, w, v2 % 2 ^ w, r2, (s.writeS a lo w v1 r1).heldBy a lo w r2⟩ := State.shadow_writeS hr2
  obtain ⟨hfld, hgone⟩ := State.foldl_boundary hw hshadow hr2 (List.Subset.refl r2)
  refine ⟨⟨_, hshadow, rfl⟩, State.pendingBit_iff.2 ⟨lo, by rw [hshadow]; rfl⟩, fun g hg => State.fldFor_writeS hg, ?_, hgone⟩
  rw [hfld, Nat.mod_mod]

end Sys2Proof.Machine
end

section
/-! What a command and a step keep, for every command of the table: a command that is no reset flows within the parts that `touches` names for it
(the laws under Laws/ give this for each), every command keeps what `Kept` lists, and a step is a command or an idle nanosecond. -/

namespace Sys2Proof.Machine

/-- A command that is no reset flows within its parts: its meaning's law, whose parts are exactly those of `touches`. An operand is named where
unification does not find it, as the meaning does not read it or is unfolded first. -/
theorem flowsX_exec {c : Instr} (hc : Resets c = false) (s : State) : FlowsX (touches c) s (exec c s) := by
  cases c with
  | registerWrite => exact Flows.execRegisterWrite (.refl s) (Nat.or_self _)
  | badSizeAccess => exact Flows.execBadSizeAccess (.refl s) (Nat.or_self _)
  | unassignedAccess => exact Flows.execUnassignedAccess (.refl s) (Nat.or_self _)
  | disabledCoreAccess => exact Flows.execDisabledCoreAccess (.refl s) (Nat.or_self _)
  | rilFaultClear => exact Flows.execRilFaultClear (.refl s) (Nat.or_self _)
  | errIntPendClear => exact Flows.execErrIntPendClear (.refl s) (Nat.or_self _)
  | consumedWrite => exact Flows.execConsumedWrite (.refl s) (Nat.or_self _)
  | hwdWinWrite => exact Flows.execHwdWinWrite (.refl s) (Nat.or_self _)
  | mailboxWindowWrite => exact Flows.execMailboxWindowWrite (.refl s) (Nat.or_self _)
  | submitWrite => exact Flows.execSubmitWrite (.refl s) (Nat.or_self _)
  | bar2Read => exact Flows.execBar2Read (.refl s) (Nat.or_self _)
  | bar2Write => exact Flows.execBar2Write (.refl s) (Nat.or_self _)
  | messageTake => exact Flows.execMessageTake (.refl s) (Nat.or_self _)
  | nodeInfo => exact Flows.execNodeInfo (.refl s) (Nat.or_self _)
  | nodeIdSet => exact Flows.execNodeIdSet (.refl s) (Nat.or_self _)
  | routeSet => exact Flows.execRouteSet (.refl s) (Nat.or_self _)
  | linkSet => exact Flows.execLinkSet (.refl s) (Nat.or_self _)
  | peerReadmit => exact Flows.execPeerReadmit (.refl s) (Nat.or_self _)
  | ringSet => exact Flows.execRingSet (.refl s) (Nat.or_self _)
  | timeSet => exact Flows.execTimeSet (.refl s) (Nat.or_self _)
  | rwpWrite => exact Flows.execRwpWrite (.refl s) (Nat.or_self _)
  | collCreate => exact Flows.execCollCreate (.refl s) (Nat.or_self _)
  | collFreeze => exact Flows.execCollFreeze (.refl s) (Nat.or_self _)
  | freezeSet => exact Flows.execFreezeSet (.refl s) (Nat.or_self _)
  | collDrop => exact Flows.execCollDrop (.refl s) (Nat.or_self _)
  | dropComplete => exact Flows.execDropComplete (.refl s) (Nat.or_self _)
  | collRecode => exact Flows.execCollRecode (.refl s) (Nat.or_self _)
  | recodeReachSwitch => exact Flows.execRecodeReachSwitch (.refl s) (Nat.or_self _)
  | oldReachStorageFree => exact Flows.execOldReachStorageFree (.refl s) (Nat.or_self _)
  | collPlace => exact Flows.execCollPlace (.refl s) (Nat.or_self _)
  | collInfo => exact Flows.execCollInfo (.refl s) (Nat.or_self _)
  | qryBatch => exact Flows.execQryBatch (.refl s) (Nat.or_self _)
  | readEpochCheckReply => exact Flows.execReadEpochCheckReply (.refl s) (Nat.or_self _)
  | mergeSlotGrant => exact Flows.execMergeSlotGrant (.refl s) (Nat.or_self _)
  | rootContextGrant => exact Flows.execRootContextGrant (.refl s) (Nat.or_self _)
  | queryStart => exact Flows.execQueryStart (.refl s) (Nat.or_self _)
  | fanoutPartReceive => exact Flows.execFanoutPartReceive (.refl s) (Nat.or_self _)
  | walkRound => exact Flows.execWalkRound (.refl s) (Nat.or_self _)
  | walkTimeout => exact Flows.execWalkTimeout (.refl s) (Nat.or_self _)
  | cellProg => exact Flows.execCellProg (.refl s) (Nat.or_self _)
  | qload => exact Flows.execQload (.refl s) (Nat.or_self _)
  | reachIssue => exact Flows.execReachIssue (.refl s) (Nat.or_self _)
  | thetaPush => exact Flows.execThetaPush (.refl s) (Nat.or_self _)
  | outRead => exact Flows.execOutRead (.refl s) (Nat.or_self _)
  | rowop => exact Flows.execRowop (.refl s) (Nat.or_self _)
  | planeBits => exact Flows.execPlaneBits (.refl s) (Nat.or_self _)
  | rctSet => exact Flows.execRctSet (.refl s) (Nat.or_self _)
  | cellHalt => exact Flows.execCellHalt (.refl s) (Nat.or_self _)
  | cellStatus => exact Flows.execCellStatus (.refl s) (Nat.or_self _)
  | tokenGrant => exact Flows.execTokenGrant (.refl s) (Nat.or_self _)
  | bundleStart => exact Flows.execBundleStart (.refl s) (Nat.or_self _)
  | bundleEnd => exact Flows.execBundleEnd (.refl s) (Nat.or_self _)
  | ordinaryAccess => exact Flows.execOrdinaryAccess (.refl s) (Nat.or_self _)
  | rescoreComplete => exact Flows.execRescoreComplete (.refl s) (Nat.or_self _)
  | queryLocalComplete => exact Flows.execQueryLocalComplete (.refl s) (Nat.or_self _)
  | topkMerge => exact Flows.execTopkMerge (.refl s) (Nat.or_self _)
  | queryComplete => exact Flows.execQueryComplete (.refl s) (Nat.or_self _)
  | peerTimeout => exact Flows.execPeerTimeout (.refl s) (Nat.or_self _)
  | queryReroute => exact Flows.execQueryReroute (.refl s) (Nat.or_self _)
  | bitmapWrite => exact Flows.execBitmapWrite (.refl s) (Nat.or_self _)
  | bitmapDrop => exact Flows.execBitmapDrop (.refl s) (Nat.or_self _)
  | summaryResync => exact Flows.execSummaryResync (.refl s) (Nat.or_self _)
  | summaryReceive => exact Flows.execSummaryReceive (.refl s) (Nat.or_self _)
  | pubSlow => exact Flows.execPubSlow (.refl s) (Nat.or_self _)
  | updBatch => exact Flows.execUpdBatch (.refl s) (Nat.or_self _)
  | partSend => exact Flows.execPartSend (.refl s) (Nat.or_self _)
  | partArrive => exact Flows.execPartArrive (.refl s) (Nat.or_self _)
  | partPrepare => exact Flows.execPartPrepare (.refl s) (Nat.or_self _)
  | partPrepared => exact Flows.execPartPrepared (.refl s) (Nat.or_self _)
  | epochRequest => exact Flows.execEpochRequest (.refl s) (Nat.or_self _)
  | epochGrant => exact Flows.execEpochGrant (.refl s) (Nat.or_self _)
  | partCommit => exact Flows.execPartCommit (.refl s) (Nat.or_self _)
  | commitReport => exact Flows.execCommitReport (.refl s) (Nat.or_self _)
  | epochComplete => exact Flows.execEpochComplete (.refl s) (Nat.or_self _)
  | stableEpochPush => exact Flows.execStableEpochPush (.refl s) (Nat.or_self _)
  | stableEpochReceive => exact Flows.execStableEpochReceive (.refl s) (Nat.or_self _)
  | updateComplete => exact Flows.execUpdateComplete (.refl s) (Nat.or_self _)
  | prepTimeout => exact Flows.execPrepTimeout (.refl s) (Nat.or_self _)
  | outcomeReply => exact Flows.execOutcomeReply (.refl s) (Nat.or_self _)
  | epochHomeTakeover => exact Flows.execEpochHomeTakeover (.refl s) (Nat.or_self _)
  | migrationStart => exact Flows.execMigrationStart (.refl s) (Nat.or_self _)
  | migrationRelease => exact Flows.execMigrationRelease (.refl s) (Nat.or_self _)
  | tighten => exact Flows.execTighten (.refl s) (Nat.or_self _)
  | radiusReplace => exact Flows.execRadiusReplace (.refl s) (Nat.or_self _)
  | slotFree => exact Flows.execSlotFree (.refl s) (Nat.or_self _)
  | popDecay => exact Flows.execPopDecay (.refl s) (Nat.or_self _)
  | popRecode => exact Flows.execPopRecode (.refl s) (Nat.or_self _)
  | codeRewrite => exact Flows.execCodeRewrite (.refl s) (Nat.or_self _)
  | gather mb dma => exact Flows.execGather (mb := mb) (dma := dma) (.refl s) (Nat.or_self _)
  | defaultRow => exact Flows.execDefaultRow (.refl s) (Nat.or_self _)
  | epochInfo => exact Flows.execEpochInfo (.refl s) (Nat.or_self _)
  | linkSlot => exact Flows.execLinkSlot (.refl s) (Nat.or_self _)
  | linkScan => exact Flows.execLinkScan (.refl s) (Nat.or_self _)
  | repairReach => exact Flows.execRepairReach (.refl s) (Nat.or_self _)
  | attCreate => exact Flows.execAttCreate (.refl s) (Nat.or_self _)
  | attAppend => exact Flows.execAttAppend (.refl s) (Nat.or_self _)
  | attQuery => exact Flows.execAttQuery (.refl s) (Nat.or_self _)
  | objDrop => exact Flows.execObjDrop (.refl s) (Nat.or_self _)
  | objDropComplete => exact Flows.execObjDropComplete (.refl s) (Nat.or_self _)
  | weightLoad => exact Flows.execWeightLoad (.refl s) (Nat.or_self _)
  | modelRun mb dma => exact Flows.execModelRun (mb := mb) (dma := dma) (.refl s) (Nat.or_self _)
  | weightMirror => exact Flows.execWeightMirror (.refl s) (Nat.or_self _)
  | objInfo => exact Flows.execObjInfo (.refl s) (Nat.or_self _)
  | mirrorRefetchComplete => exact Flows.execMirrorRefetchComplete (.refl s) (Nat.or_self _)
  | kernelLoad => exact Flows.execKernelLoad (.refl s) (Nat.or_self _)
  | kernelDrop => exact Flows.execKernelDrop (.refl s) (Nat.or_self _)
  | bufAlloc => exact Flows.execBufAlloc (.refl s) (Nat.or_self _)
  | objPrefetch => exact Flows.execObjPrefetch (.refl s) (Nat.or_self _)
  | extExport => exact Flows.execExtExport (.refl s) (Nat.or_self _)
  | extAttach => exact Flows.execExtAttach (.refl s) (Nat.or_self _)
  | extRead => exact Flows.execExtRead (.refl s) (Nat.or_self _)
  | extRelease => exact Flows.execExtRelease (.refl s) (Nat.or_self _)
  | spaceRelease => exact Flows.execSpaceRelease (.refl s) (Nat.or_self _)
  | compCreate => exact Flows.execCompCreate (.refl s) (Nat.or_self _)
  | compModify => exact Flows.execCompModify (.refl s) (Nat.or_self _)
  | compDestroy => exact Flows.execCompDestroy (.refl s) (Nat.or_self _)
  | mapSet => exact Flows.execMapSet (.refl s) (Nat.or_self _)
  | mapGraceExpiry => exact Flows.execMapGraceExpiry (.refl s) (Nat.or_self _)
  | compInfo => exact Flows.execCompInfo (.refl s) (Nat.or_self _)
  | chargeLog => exact Flows.execChargeLog (.refl s) (Nat.or_self _)
  | semInit => exact Flows.execSemInit (.refl s) (Nat.or_self _)
  | pipeDefine => exact Flows.execPipeDefine (.refl s) (Nat.or_self _)
  | pipeRun => exact Flows.execPipeRun (.refl s) (Nat.or_self _)
  | pipeStageDone => exact Flows.execPipeStageDone (.refl s) (Nat.or_self _)
  | handoverOffer => exact Flows.execHandoverOffer (.refl s) (Nat.or_self _)
  | handoverAccept => exact Flows.execHandoverAccept (.refl s) (Nat.or_self _)
  | handoverTimeout => exact Flows.execHandoverTimeout (.refl s) (Nat.or_self _)
  | attestReport => exact Flows.execAttestReport (.refl s) (Nat.or_self _)
  | flashKeyCreate => exact Flows.execFlashKeyCreate (.refl s) (Nat.or_self _)
  | flashKeyDestroy => exact Flows.execFlashKeyDestroy (.refl s) (Nat.or_self _)
  | peerPolicySet => exact Flows.execPeerPolicySet (.refl s) (Nat.or_self _)
  | fwStage => exact Flows.execFwStage (.refl s) (Nat.or_self _)
  | fwActivate => exact Flows.execFwActivate (.refl s) (Nat.or_self _)
  | errLogRead => exact Flows.execErrLogRead (.refl s) (Nat.or_self _)
  | reachDump => exact Flows.execReachDump (.refl s) (Nat.or_self _)
  | catchmentDump => exact Flows.execCatchmentDump (.refl s) (Nat.or_self _)
  | scrubCtl => exact Flows.execScrubCtl (.refl s) (Nat.or_self _)
  | counterSnapshot => exact Flows.execCounterSnapshot (.refl s) (Nat.or_self _)
  | errorInject => exact Flows.execErrorInject (.refl s) (Nat.or_self _)
  | scalar => exact Flows.execScalar (.refl s) (Nat.or_self _)
  | mxLoad => exact Flows.execMxLoad (.refl s) (Nat.or_self _)
  | mxMma => exact Flows.execMxMma (.refl s) (Nat.or_self _)
  | mxMmaG32 => exact Flows.execMxMmaG32 (.refl s) (Nat.or_self _)
  | accMov => exact Flows.execAccMov (.refl s) (Nat.or_self _)
  | accClr => exact Flows.execAccClr (.refl s) (Nat.or_self _)
  | vAdd => exact Flows.execVAdd (.refl s) (Nat.or_self _)
  | vMul => exact Flows.execVMul (.refl s) (Nat.or_self _)
  | vMax => exact Flows.execVMax (.refl s) (Nat.or_self _)
  | vFma => exact Flows.execVFma (.refl s) (Nat.or_self _)
  | convert => exact Flows.execConvert (.refl s) (Nat.or_self _)
  | vCmp => exact Flows.execVCmp (.refl s) (Nat.or_self _)
  | vSel => exact Flows.execVSel (.refl s) (Nat.or_self _)
  | bAdd => exact Flows.execBAdd (.refl s) (Nat.or_self _)
  | bMul => exact Flows.execBMul (.refl s) (Nat.or_self _)
  | bSqrt => exact Flows.execBSqrt (.refl s) (Nat.or_self _)
  | bDiv => exact Flows.execBDiv (.refl s) (Nat.or_self _)
  | vExp2 => exact Flows.execVExp2 (.refl s) (Nat.or_self _)
  | vSqrt => exact Flows.execVSqrt (.refl s) (Nat.or_self _)
  | vDiv => exact Flows.execVDiv (.refl s) (Nat.or_self _)
  | vRedp => exact Flows.execVRedp (.refl s) (Nat.or_self _)
  | cCx => exact Flows.execCCx (.refl s) (Nat.or_self _)
  | cMerge => exact Flows.execCMerge (.refl s) (Nat.or_self _)
  | ldV => exact Flows.execLdV (.refl s) (Nat.or_self _)
  | stV => exact Flows.execStV (.refl s) (Nat.or_self _)
  | ldS => exact Flows.execLdS (.refl s) (Nat.or_self _)
  | tileGet => exact Flows.execTileGet (.refl s) (Nat.or_self _)
  | tilePut => exact Flows.execTilePut (.refl s) (Nat.or_self _)
  | jroPut => exact Flows.execJroPut (.refl s) (Nat.or_self _)
  | jroGet => exact Flows.execJroGet (.refl s) (Nat.or_self _)
  | jroAtom => exact Flows.execJroAtom (.refl s) (Nat.or_self _)
  | jroNput => exact Flows.execJroNput (.refl s) (Nat.or_self _)
  | jroTopk => exact Flows.execJroTopk (.refl s) (Nat.or_self _)
  | spawn => exact Flows.execSpawn (.refl s) (Nat.or_self _)
  | semAcq => exact Flows.execSemAcq (.refl s) (Nat.or_self _)
  | semRel => exact Flows.execSemRel (.refl s) (Nat.or_self _)
  | waitOn => exact Flows.execWaitOn (.refl s) (Nat.or_self _)
  | yieldTask => exact Flows.execYieldTask (.refl s) (Nat.or_self _)
  | endTask => exact Flows.execEndTask (.refl s) (Nat.or_self _)
  | taskDispatch => exact Flows.execTaskDispatch (.refl s) (Nat.or_self _)
  | taskWatchdog => exact Flows.execTaskWatchdog (.refl s) (Nat.or_self _)
  | leaseExpiry => exact Flows.execLeaseExpiry (.refl s) (Nat.or_self _)
  | teardownComplete => exact Flows.execTeardownComplete (.refl s) (Nat.or_self _)
  | ctxQuietExpiry => exact Flows.execCtxQuietExpiry (.refl s) (Nat.or_self _)
  | preempt => exact Flows.execPreempt (.refl s) (Nat.or_self _)
  | preemptSave => exact Flows.execPreemptSave (.refl s) (Nat.or_self _)
  | shareWindow => exact Flows.execShareWindow (.refl s) (Nat.or_self _)
  | ferryMoveComplete => exact Flows.execFerryMoveComplete (.refl s) (Nat.or_self _)
  | fillComplete => exact Flows.execFillComplete (.refl s) (Nat.or_self _)
  | ageTick => exact Flows.execAgeTick (.refl s) (Nat.or_self _)
  | sectorReadComplete => exact Flows.execSectorReadComplete (.refl s) (Nat.or_self _)
  | programComplete => exact Flows.execProgramComplete (.refl s) (Nat.or_self _)
  | fold => exact Flows.execFold (.refl s) (Nat.or_self _)
  | reclaim => exact Flows.execReclaim (.refl s) (Nat.or_self _)
  | checkpoint => exact Flows.execCheckpoint (.refl s) (Nat.or_self _)
  | mapRebuild => exact Flows.execMapRebuild (.refl s) (Nat.or_self _)
  | deltaStartup _ _ verified => exact Flows.execDeltaStartup (uverified2 := verified) (.refl s) (Nat.or_self _)
  | flitReceive => exact Flows.execFlitReceive (.refl s) (Nat.or_self _)
  | ack => exact Flows.execAck (.refl s) (Nat.or_self _)
  | nak => exact Flows.execNak (.refl s) (Nat.or_self _)
  | creditReturn => exact Flows.execCreditReturn (.refl s) (Nat.or_self _)
  | replayTimeout => exact Flows.execReplayTimeout (.refl s) (Nat.or_self _)
  | ackTimer => exact Flows.execAckTimer (.refl s) (Nat.or_self _)
  | idleTimer => exact Flows.execIdleTimer (.refl s) (Nat.or_self _)
  | linkRxTimeout => exact Flows.execLinkRxTimeout (.refl s) (Nat.or_self _)
  | laneFail => exact Flows.execLaneFail (.refl s) (Nat.or_self _)
  | linkTrain => exact Flows.execLinkTrain (.refl s) (Nat.or_self _)
  | hello => exact Flows.execHello (.refl s) (Nat.or_self _)
  | fabricSession => exact Flows.execFabricSession (.refl s) (Nat.or_self _)
  | linkStepTimeout => exact Flows.execLinkStepTimeout (.refl s) (Nat.or_self _)
  | linkRetry => exact Flows.execLinkRetry (.refl s) (Nat.or_self _)
  | retrainSlow => exact Flows.execRetrainSlow (.refl s) (Nat.or_self _)
  | trickle => exact Flows.execTrickle (.refl s) (Nat.or_self _)
  | trickleSwitch => exact Flows.execTrickleSwitch (.refl s) (Nat.or_self _)
  | wake => exact Flows.execWake (.refl s) (Nat.or_self _)
  | putPacket => exact Flows.execPutPacket (.refl s) (Nat.or_self _)
  | getPacket => exact Flows.execGetPacket (.refl s) (Nat.or_self _)
  | atomic => exact Flows.execAtomic (.refl s) (Nat.or_self _)
  | nput => exact Flows.execNput (.refl s) (Nat.or_self _)
  | getData => exact Flows.execGetData (.refl s) (Nat.or_self _)
  | completion => exact Flows.execCompletion (.refl s) (Nat.or_self _)
  | unreachTimeout => exact Flows.execUnreachTimeout (.refl s) (Nat.or_self _)
  | flowHoldTimeout => exact Flows.execFlowHoldTimeout (.refl s) (Nat.or_self _)
  | opTimeout => exact Flows.execOpTimeout (.refl s) (Nat.or_self _)
  | ping => exact Flows.execPing (.refl s) (Nat.or_self _)
  | pong => exact Flows.execPong (.refl s) (Nat.or_self _)
  | probeTimeout => exact Flows.execProbeTimeout (.refl s) (Nat.or_self _)
  | lossNotice => exact Flows.execLossNotice (.refl s) (Nat.or_self _)
  | quarantineNotice => exact Flows.execQuarantineNotice (.refl s) (Nat.or_self _)
  | lostYou => exact Flows.execLostYou (.refl s) (Nat.or_self _)
  | peerSecretExpiry => exact Flows.execPeerSecretExpiry (.refl s) (Nat.or_self _)
  | vfFunctionLevelReset => exact Flows.execVfFunctionLevelReset (.refl s) (Nat.or_self _)
  | busMasterEnable => exact Flows.execBusMasterEnable (.refl s) (Nat.or_self _)
  | startUp => exact Flows.execStartUp (.refl s) (Nat.or_self _)
  | clockLoss => exact Flows.execClockLoss (.refl s) (Nat.or_self _)
  | thermalTrip => exact Flows.execThermalTrip (.refl s) (Nat.or_self _)
  | powerTrip => exact Flows.execPowerTrip (.refl s) (Nat.or_self _)
  | quarantineEntry => exact Flows.execQuarantineEntry (.refl s) (Nat.or_self _)
  | headwaterFault => exact Flows.execHeadwaterFault (.refl s) (Nat.or_self _)
  | stackFail => exact Flows.execStackFail (.refl s) (Nat.or_self _)
  | channelFail => exact Flows.execChannelFail (.refl s) (Nat.or_self _)
  | logDrain => exact Flows.execLogDrain (.refl s) (Nat.or_self _)
  | ceStormSecond => exact Flows.execCeStormSecond (.refl s) (Nat.or_self _)
  | hbmScrub => exact Flows.execHbmScrub (.refl s) (Nat.or_self _)
  | planeScrub => exact Flows.execPlaneScrub (.refl s) (Nat.or_self _)
  | sramScrub => exact Flows.execSramScrub (.refl s) (Nat.or_self _)
  | flashScrub => exact Flows.execFlashScrub (.refl s) (Nat.or_self _)
  | spillwaySample => exact Flows.execSpillwaySample (.refl s) (Nat.or_self _)
  | standbyEntry => exact Flows.execStandbyEntry (.refl s) (Nat.or_self _)
  | wakeFromStandby => exact Flows.execWakeFromStandby (.refl s) (Nat.or_self _)
  | standbyReturn => exact Flows.execStandbyReturn (.refl s) (Nat.or_self _)
  | getVersion _ req => exact Flows.execGetVersion (ureq1 := req) (.refl s) (Nat.or_self _)
  | getCapabilities _ req => exact Flows.execGetCapabilities (ureq1 := req) (.refl s) (Nat.or_self _)
  | negotiateAlgorithms _ req => exact Flows.execNegotiateAlgorithms (ureq1 := req) (.refl s) (Nat.or_self _)
  | getDigests _ req => exact Flows.execGetDigests (ureq1 := req) (.refl s) (Nat.or_self _)
  | getCertificate => exact Flows.execGetCertificate (.refl s) (Nat.or_self _)
  | challenge => exact Flows.execChallenge (.refl s) (Nat.or_self _)
  | getMeasurements => exact Flows.execGetMeasurements (.refl s) (Nat.or_self _)
  | endSession => exact Flows.execEndSession (.refl s) (Nat.or_self _)
  | heartbeat => exact Flows.execHeartbeat (.refl s) (Nat.or_self _)
  | keyUpdate => exact Flows.execKeyUpdate (.refl s) (Nat.or_self _)
  | kemKey => exact Flows.execKemKey (.refl s) (Nat.or_self _)
  | kemFinish => exact Flows.execKemFinish (.refl s) (Nat.or_self _)
  | tenantSecret => exact Flows.execTenantSecret (.refl s) (Nat.or_self _)
  | ideKm => exact Flows.execIdeKm (.refl s) (Nat.or_self _)
  | entdaa => exact Flows.execEntdaa (.refl s) (Nat.or_self _)
  | bypass => exact Flows.execBypass (.refl s) (Nat.or_self _)
  | samplePreload => exact Flows.execSamplePreload (.refl s) (Nat.or_self _)
  | extest => exact Flows.execExtest (.refl s) (Nat.or_self _)
  | idcode => exact Flows.execIdcode (.refl s) (Nat.or_self _)
  | eraseComplete => exact Flows.execEraseComplete (.refl s) (Nat.or_self _)
  | mirrorRefetchTimeout => exact Flows.execMirrorRefetchTimeout (.refl s) (Nat.or_self _)
  | minRunElapsed => exact Flows.execMinRunElapsed (.refl s) (Nat.or_self _)
  | updatePartReroute => exact Flows.execUpdatePartReroute (.refl s) (Nat.or_self _)
  | vfEnableWrite => exact Flows.execVfEnableWrite (.refl s) (Nat.or_self _)
  | coldReset | pcieWarmReset | nodeReset | recoveryEnter | recoveryLoad | bootFault | fwImageWritten => cases hc

/-- Keeps what every command keeps, up to the next state of an outcome, where there is one. -/
def KeptX (s : State) (o : Host.Outcome State Fault Refusal) : Prop := ∀ t, o = .next t → Kept s t

theorem KeptX.ok {s t : State} (h : Kept s t) : KeptX s (ok t) := by
  intro u hu; cases hu; exact h

/-- What flows within some parts is kept. -/
theorem FlowsX.keptX {b : Nat} {s : State} {o : Host.Outcome State Fault Refusal} (h : FlowsX b s o) : KeptX s o := by
  intro t ht; subst ht; exact h.toKept

/-- What is kept is kept by what flows on from it. -/
theorem Kept.flows {b : Nat} {s t u : State} (h : Kept s t) (k : Flows b t u) : Kept s u := h.trans k.toKept

/-- An opcode whose action on its message keeps what every command keeps (R469). -/
theorem KeptX.onMsg {s : State} {mb op : Nat} {f : Msg → State → State} (hf : ∀ m t, Kept t (f m t)) : KeptX s (onMsg s mb op f) := by
  by_cases hm : mb ≤ 64
  · cases hn : s.next? mb op with
    | none => rw [onMsg_none hm hn]; exact KeptX.ok (Kept.refl s)
    | some p =>
      rw [onMsg_first hm hn]
      have htaken : Kept s p.2 := (FlowsP.get (Flows.next? (w0 := 2 ^ 14 - 1) (.refl s) rfl) hn).toKept
      exact KeptX.ok ((htaken.trans (hf p.1 p.2)).flows (Flows.checkDestroy (w0 := 2 ^ 14 - 1) (.refl _) rfl))
  · rw [Machine.onMsg, onUnit_neg (decide_eq_false hm)]
    intro t ht; cases ht

/-- An admin opcode without operands that resets the node keeps what every command keeps (R481). -/
theorem kept_refuse_or_reset (m : Msg) (t : State) (cause recovery : Nat) :
    Kept t (if m.p 0 8 ≠ 0 then t.refuse m 0x0F0B else (t.done m []).packageReset rstNode cause recovery t.weir.vndrTest) := by
  split
  · exact (Flows.refuse (w0 := 2 ^ 14 - 1) (.refl t) rfl).toKept
  · exact Kept.packageReset (Flows.done (w0 := 2 ^ 14 - 1) (.refl t) rfl).toKept

theorem keptX_execColdReset (powerOn : Bool) (pins : Nat) (s : State) : KeptX s (execColdReset powerOn pins s) :=
  KeptX.ok (Kept.packageReset (Kept.refl s))

theorem keptX_execPcieWarmReset (cause : WarmCause) (pins : Nat) (s : State) : KeptX s (execPcieWarmReset cause pins s) := by
  refine KeptX.ok ?_
  split
  · exact Kept.refl s
  · exact Kept.packageReset (Kept.refl s)

theorem keptX_execNodeReset (mb : Nat) (s : State) : KeptX s (execNodeReset mb s) :=
  KeptX.onMsg (fun m t => kept_refuse_or_reset m t 0x20 0)

theorem keptX_execRecoveryEnter (mb : Nat) (s : State) : KeptX s (execRecoveryEnter mb s) :=
  KeptX.onMsg (fun m t => kept_refuse_or_reset m t 0x21 3)

/-- An image written to package flash leaves the state record and its log (R488, R495). -/
theorem Flows.writeImage {b : Nat} {s t : State} (h : Flows b s t) (i : FwImage) (hb : 2 ^ 9 ||| b = b) :
    Flows b s (t.weir! (fun w => { w with image := i, flashReadable := true })) :=
  Flows.weir! h (hb := hb)

theorem keptX_execRecoveryLoad (mb : Nat) (s : State) : KeptX s (execRecoveryLoad mb s) := by
  refine KeptX.onMsg (fun m t => ?_)
  dsimp only
  split
  · exact (Flows.refuse (w0 := 2 ^ 14 - 1) (.refl t) rfl).toKept
  · split
    · exact (Flows.refuse (w0 := 2 ^ 14 - 1) (Flows.count (.refl t) rfl) rfl).toKept
    · exact Kept.packageReset (Flows.done (w0 := 2 ^ 14 - 1) (Flows.writeImage (.refl t) _ rfl) rfl).toKept

theorem keptX_execBootFault (s : State) : KeptX s (execBootFault s) := by
  refine KeptX.ok ?_
  split
  · exact Kept.refl s
  · rename_i hboot
    have hq : s.weir.state ≠ .quarantined := fun h => hboot (.inr (by rw [h]; decide))
    dsimp only
    split
    · exact Kept.packageReset (Flows.weirBoot (w0 := 2 ^ 14 - 1) (.refl s) hq rfl).toKept
    · exact Kept.refl s

theorem keptX_execFwImageWritten (s : State) : KeptX s (execFwImageWritten s) := by
  refine KeptX.ok ?_
  split
  · exact Kept.packageReset (Flows.done (w0 := 2 ^ 14 - 1) (Flows.weir! (.refl s) (hb := rfl)) rfl).toKept
  · exact Kept.refl s

/-- A command that may reset the node keeps what every command keeps. -/
theorem keptX_exec_of_resets {c : Instr} (hc : Resets c = true) (s : State) : KeptX s (exec c s) := by
  unfold Resets at hc
  split at hc
  case h_1 powerOn pins => exact keptX_execColdReset powerOn pins s
  case h_2 cause pins => exact keptX_execPcieWarmReset cause pins s
  case h_3 mb => exact keptX_execNodeReset mb s
  case h_4 mb => exact keptX_execRecoveryEnter mb s
  case h_5 mb => exact keptX_execRecoveryLoad mb s
  case h_6 => exact keptX_execBootFault s
  case h_7 => exact keptX_execFwImageWritten s
  case h_8 => cases hc

/-- Every command keeps the queue, the canonical forms, Gauge's bounds and what Weir holds for the life of the part. -/
theorem kept_exec {c : Instr} {s t : State} (h : exec c s = .next t) : Kept s t := by
  cases hc : Resets c with
  | false => exact (flowsX_exec hc s).keptX t h
  | true => exact keptX_exec_of_resets hc s t h

/-- A step lets 1 ns pass on an empty queue (log 22), or does what the command at the front of the queue does. -/
theorem step_cases {s t : State} (h : step s = .next t) :
    (s.pending = [] ∧ t = { s with now := s.now + 1 }) ∨ ∃ c rest, s.pending = c :: rest ∧ exec c { s with pending := rest } = .next t := by
  unfold step at h
  split at h
  · rename_i hp; cases h; exact .inl ⟨hp, rfl⟩
  · rename_i c rest hp; exact .inr ⟨c, rest, hp, h⟩

/-- Settles O55: every command keeps the manufacturing record, the record's place as the newest and its rollback counter; an idle step touches
no part of Weir. -/
theorem stepKeepsPartRecord : Obligations.StepKeepsPartRecord := by
  unfold Obligations.StepKeepsPartRecord
  intro s t h
  obtain ⟨-, rfl⟩ | ⟨c, rest, -, hexec⟩ := step_cases h
  · exact ⟨rfl, fun hs => ⟨hs, Nat.le_refl _⟩⟩
  · have hk := kept_exec hexec
    exact ⟨hk.record, fun hs => ⟨hk.synced hs, hk.rollback hs⟩⟩

end Sys2Proof.Machine
end

section
/-! Rows between nodes, the balls that hold them, and reading rows back (R44, R45, R74, R75, R189, R202, R205 to R210, R286, R439 to R441): what each of
these commands answers where its conditions hold. -/

namespace Sys2Proof.Machine

open Sys2Proof.Claims

section Clauses

/-- A command whose meaning is that of an opcode acts on the first message of its mailbox as the opcode acts on messages that meet the conditions (R469). -/
theorem acts_of_onMsg {c : Nat → Instr} {op : Nat} {P : Msg → State → Prop} {f g : Msg → State → State}
    (hexec : ∀ mb s, exec (c mb) s = onMsg s mb op g) (hact : ∀ m t, P m t → g m t = f m t) : Acts c op P f := by
  intro mb s m t hmb hnext hP
  rw [hexec, onMsg_first hmb hnext, hact m t hP]

variable {s : State} {k i row n b r e l : Nat} {ls : List Nat} {c : Coll} {z : Slot}

/-! ### Moving rows (R202) -/

/-- A current row that nothing holds and that the map gives to another node, which is not lost, goes there in a batch of its own. -/
theorem exec_migrationStart (hcoll : s.coll k = some c) (hrow : c.currentOf row = some (i, z))
    (hlock : Tbl.has (migKey k row) s.search.migrations = false)
    (hparts : s.search.parts.any (fun q => decide (q.coll = k) && Part_holds q && (Part_rows q).contains row) = false)
    (hfar : n ≠ s.nodeNo) (hhome : s.homeOf c.comp c.desc.span row = n) (hlive : s.nodeLost n = false) :
    exec (.migrationStart k row n) s =
      .next (((s.free.2.slc! (fun q => { q with nextBatch := s.slc.nextBatch + 1 })).search! (fun q => { q with
        updSeq := s.search.updSeq + 1
        upds := Tbl.put s.slc.nextBatch ⟨k, s.search.updSeq + 1, [.migrate z (Coll_filterMask c i)], .preparing, [], some n, [], [], 0,
          s.mapVersion c.comp, 0, 0, some [(i, s.free.1 % 2 ^ 40)], 0, 0⟩ q.upds
        migrations := Tbl.put (migKey k row) s.slc.nextBatch q.migrations })).sendUpd n k
          (.part k (s.search.updSeq + 1) [.migrate z (Coll_filterMask c i)])) := by
  change execMigrationStart k row n s = _
  unfold execMigrationStart
  simp only [hcoll, hrow, hlock, hparts]
  rw [if_neg (by simp [hfar, hhome, hlive])]
  rfl

/-- A row whose migration batch is gone is released; the other rows of that batch stay locked. -/
theorem exec_migrationRelease (hcoll : s.coll k = some c) (hlock : Tbl.find (migKey k row) s.search.migrations = some b)
    (hgone : Tbl.find b s.search.upds = none)
    (hleft : (Tbl.erase (migKey k row) s.search.migrations).any (fun m => decide (m.2 = b)) = true) :
    exec (.migrationRelease k row) s =
      .next (s.search! (fun q => { q with migrations := Tbl.erase (migKey k row) q.migrations })).promote := by
  change execMigrationRelease k row s = _
  unfold execMigrationRelease
  simp only [hcoll, hlock, hgone, State.search!, hleft]
  rfl

/-! ### Balls (R75) -/

/-- A reach takes its tight radius once no reader can need the wider one. -/
theorem exec_radiusReplace_reach {y : Reach} (hcoll : s.coll k = some c) (hball : Tbl.find r c.reaches = some y) :
    exec (.radiusReplace k (.reach r)) s = .next (if s.mayReplace k c y.tightEpoch then
      s.coll! k (fun c => c.reach! r (fun y => { y with radius := y.tight, tightEpoch := 0 })) else s) := by
  change execRadiusReplace k (.reach r) s = _
  simp only [execRadiusReplace, hcoll, hball, ok]

/-- The same of a catchment. -/
theorem exec_radiusReplace_catchment {y : Catch} (hcoll : s.coll k = some c) (hball : Tbl.find r c.catches = some y) :
    exec (.radiusReplace k (.catchment r)) s = .next (if s.mayReplace k c y.tightEpoch then
      s.coll! k (fun c => { c with catches := Tbl.upd r (fun y => { y with radius := y.tight, tightEpoch := 0 }) c.catches }) else s) := by
  change execRadiusReplace k (.catchment r) s = _
  simp only [execRadiusReplace, hcoll, hball, ok]

/-- The same of a summary of another node's catchment. -/
theorem exec_radiusReplace_summary {v : SourceSums} {y : Summary} (hcoll : s.coll k = some c) (hsource : Tbl.find n c.sources = some v)
    (hball : Tbl.find r v.sums = some y) :
    exec (.radiusReplace k (.summary n r)) s = .next (if s.mayReplace k c y.tightEpoch then s.coll! k (fun c => { c with
      sources := Tbl.upd n (fun v => { v with sums := Tbl.upd r (fun y => { y with radius := y.tight, tightEpoch := 0 }) v.sums }) c.sources })
      else s) := by
  change execRadiusReplace k (.summary n r) s = _
  simp only [execRadiusReplace, hcoll, hsource, Option.bind_some, hball, ok]

/-! ### Slots (R44, R45, R189, R286) -/

/-- The slot of a deleted or forwarded row is freed once it is unlinked and no reader can see the row. -/
theorem exec_slotFree (hcoll : s.coll k = some c) (hslot : Tbl.find i c.slots = some z) (hstate : z.state = .tombstone ∨ z.state = .forward)
    (hlink : z.link = .unlinked) (hretained : s.retained k c (z.delEpoch - 1) = false)
    (hreaders : (s.inFlight k).any (fun e => decide (e < z.delEpoch)) = false) :
    exec (.slotFree k i) s = .next ((s.freeSlot k i).count Reg.LCK_CNT0 6 1) := by
  change execSlotFree k i s = _
  unfold execSlotFree
  simp only [hcoll, hslot]
  have hdead : ¬ (z.state ≠ .tombstone ∧ z.state ≠ .forward) := fun h => hstate.elim h.1 h.2
  rw [if_neg (by simp only [hdead, hlink, hretained, hreaders]; decide)]
  rfl

/-- The access counts of a POPULARITY collection are halved when their time comes. -/
theorem exec_popDecay (hcoll : s.coll k = some c) (hfmt : c.desc.codeFmt = 4) :
    exec (.popDecay k) s = .next ((s.reach (c.decayNs + ms c.desc.popDecay)).coll! k (fun x => { x with
      decayNs := c.decayNs + ms c.desc.popDecay, slots := x.slots.map (fun z => (z.1, { z.2 with access := z.2.access / 2 })) })) := by
  change execPopDecay k s = _
  unfold execPopDecay
  simp only [hcoll]
  rw [if_neg (not_not_intro hfmt)]
  rfl

/-- A row of a POPULARITY collection that is not at its target width takes it, or waits where the slice has no space for a promotion. -/
theorem exec_popRecode (hcoll : s.coll k = some c) (hslot : Tbl.find i c.slots = some z) (hfmt : c.desc.codeFmt = 4) (hold : z.recoded = false)
    (hcurrent : z.current = true) (hwhole : z.damaged = false) (hwidth : c.desc.targetWidth z.access ≠ z.width)
    (hscan : s.reachScanned k z.reach = false) :
    exec (.popRecode k i) s = .next (
      if c.desc.targetWidth z.access = 1 ∧ (s.allocate c.comp 0 (promoBytes c.desc.raw)).isNone = true then
        s.coll! k (fun c => { c with promoteDeferred := c.promoteDeferred + 1 })
      else s.coll! k (fun x => x.slot! i (fun y => ({ y with width := c.desc.targetWidth z.access } : Slot).coded x.desc))) := by
  change execPopRecode k i s = _
  unfold execPopRecode
  simp only [hcoll, hslot]
  rw [if_neg (by simp [hfmt, hold, hcurrent, hwhole, hwidth, hscan])]
  rfl

/-- A lost code is coded again from the reference copy of its row. -/
theorem exec_codeRewrite_ref (hcoll : s.coll k = some c) (hslot : Tbl.find i c.slots = some z) (hused : z.state ≠ .free)
    (hlost : z.codeLost = true) (hwhole : z.damaged = false) :
    exec (.codeRewrite k i false) s = .next ((s.chargeNode c.comp).coll! k (fun c => c.slot! i (fun z => z.coded (c.descOf z)))) := by
  change execCodeRewrite k i false s = _
  unfold execCodeRewrite
  simp only [hcoll, hslot]
  rw [if_neg (by simp [hused, hlost, hwhole]), if_neg Bool.false_ne_true]
  rfl

/-- A lost code whose row's reference copy is unreadable costs the row the first sector of its slot. -/
theorem exec_codeRewrite_media (hcoll : s.coll k = some c) (hslot : Tbl.find i c.slots = some z) (hused : z.state ≠ .free)
    (hlost : z.codeLost = true) (hwhole : z.damaged = false) (hsectors : c.desc.slotLsns c.base i = l :: ls) :
    exec (.codeRewrite k i true) s = .next (c.refExt.elim ((s.chargeNode c.comp).sectorLost c.space l)
      (fun e => (s.chargeNode c.comp).extentLost e (l - c.base) false)) := by
  change execCodeRewrite k i true s = _
  unfold execCodeRewrite
  simp only [hcoll, hslot, hsectors]
  rw [if_neg (by simp [hused, hlost, hwhole]), if_true]
  cases c.refExt <;> rfl

/-! ### Reading rows back (R205 to R210) -/

/-- A GATHER in order at an epoch that this node can read takes a batch and is served as far as its root context lets it. -/
theorem acts_gather (c : Coll) (bs : List Byte) (e : Nat) :
    Acts (fun mb => .gather mb (some bs)) 0x0402 (fun m t => gatherHeaderOk m = true ∧ t.coll (collKey m.comp (m.p 0 2)) = some c ∧
      m.p 4 4 * c.desc.gatherStride (bit (m.p 2 2) 0) ≤ m.p 0x18 8 ∧ c.state = .online ∧
      t.pickEpoch (collKey m.comp (m.p 0 2)) c (m.p 0x20 8) = .run e)
    (fun m t =>
      let k := collKey m.comp (m.p 0 2)
      let r := t.enroll m (t.msgLevel m (m.p 0x2C 1)) (m.p 0x28 4) (some k) []
      (r.2.search! (fun x => { x with gathers := Tbl.put r.1 ⟨k, bit (m.p 2 2) 0, bit (m.p 2 2) 1, e, m.p 0x10 8, splitNum 8 (m.p 4 4) bs,
        t.mapVersion m.comp, t.mapHomes m.comp c.desc.span, c.defaultRow, c.defaultPayload, [], [], [], []⟩ x.gathers })).serveGather r.1) := by
  refine acts_of_onMsg (fun _ _ => rfl) ?_
  rintro m t ⟨hheader, hcoll, hroom, honline, hepoch⟩
  simp only [hheader, hcoll, hepoch]
  rw [if_neg (by decide), if_neg (Nat.not_lt.2 hroom), if_neg (not_not_intro honline)]

/-- DEFAULT_ROW keeps a row that its collection can hold, and a payload where it has payloads. -/
theorem acts_defaultRow (c : Coll) (bs : List Byte) :
    Acts (fun mb => .defaultRow mb (some bs)) 0x0403 (fun m t => m.p 0 2 < 4096 ∧ m.p 2 6 = 0 ∧
      t.coll (collKey m.comp (m.p 0 2)) = some c ∧ (c.desc.refOf false (bytesAt bs 0 (c.desc.dim * c.desc.elemBytes))).isNone = false ∧
      (m.p 8 8 = 0 ∨ bit c.desc.flags 0 = true))
    (fun m t => (t.coll! (collKey m.comp (m.p 0 2)) (fun x => { x with
      defaultRow := bytesAt bs 0 (c.desc.dim * c.desc.elemBytes), defaultPayload := m.p 8 8 })).done m []) := by
  refine acts_of_onMsg (fun _ _ => rfl) ?_
  rintro m t ⟨hid, hzero, hcoll, hrow, hpayload⟩
  have hfields : ¬ (4096 ≤ m.p 0 2 ∨ m.p 2 6 ≠ 0) := by omega
  have hheld : ¬ (m.p 8 8 ≠ 0 ∧ (!bit c.desc.flags 0) = true) := fun h => hpayload.elim h.1 (fun hflag => by simp [hflag] at h)
  simp only [if_neg hfields, hcoll, hrow, if_neg hheld, Bool.false_eq_true, if_false]

/-- EPOCH_INFO of a collection replies with its epochs. -/
theorem acts_epochInfo (c : Coll) :
    Acts .epochInfo 0x0404 (fun m t => m.p 0 2 < 4096 ∧ m.p 2 6 = 0 ∧ t.coll (collKey m.comp (m.p 0 2)) = some c)
    (fun m t => t.done m (le 8 c.lastEpoch ++ le 8 (c.oldestRetained t.now (t.retention (collKey m.comp (m.p 0 2)) c))
      ++ le 8 ((minL (t.inFlight (collKey m.comp (m.p 0 2)))).getD max64) ++ le 2 (t.epochHome c.comp c.desc.span) ++ zeros 6)) := by
  refine acts_of_onMsg (fun _ _ => rfl) ?_
  rintro m t ⟨hid, hzero, hcoll⟩
  have hfields : ¬ (4096 ≤ m.p 0 2 ∨ m.p 2 6 ≠ 0) := by omega
  simp only [if_neg hfields, hcoll]

/-! ### Maps (R439 to R441) -/

/-- A map with a later version and homes that all exist is installed, and what waited for it goes on. -/
theorem acts_mapSet (x : Comp) (bs : List Byte) :
    Acts (fun mb => .mapSet mb (some bs)) 0x0604 (fun m t => m.p 1 3 = 0 ∧ m.p 0 1 ≤ 63 ∧ t.comp (m.p 0 1) = some x ∧
      seqGe 32 (m.p 4 4) x.mapVersion = true ∧ m.p 4 4 ≠ x.mapVersion ∧
      ((List.range 4096).map (fun i => natAt bs (2 * i) 2)).any (fun h => decide (4096 ≤ h)) = false)
    (fun m t => (((((((t.comp! (m.p 0 1) (fun y => { y with
      mapVersion := m.p 4 4, homes := (List.range 4096).map (fun i => natAt bs (2 * i) 2), hasMap := true, prevVersion := y.mapVersion
      hasPrev := true, installNs := t.now })).rehome (m.p 0 1)).spanGrown t (m.p 0 1)).recheck t).done m []).resumeGathers (m.p 0 1)).resumeQueries
        (m.p 0 1) false).resumeWaits (m.p 0 1)) := by
  refine acts_of_onMsg (fun _ _ => rfl) ?_
  rintro m t ⟨hzero, hid, hcomp, hlater, hother, hhomes⟩
  have hfields : ¬ (m.p 1 3 ≠ 0 ∨ 63 < m.p 0 1) := by omega
  have hversion : ¬ (!(seqGe 32 (m.p 4 4) x.mapVersion && decide (m.p 4 4 ≠ x.mapVersion))) = true := by simp [hlater, hother]
  simp only [if_neg hfields, hcomp, if_neg hversion, hhomes, Bool.false_eq_true, if_false]

/-- Without the composition the end of a map's grace period changes nothing. -/
theorem exec_mapGraceExpiry_none {c : Nat} (hcomp : s.comp c = none) : exec (.mapGraceExpiry c) s = .next s := by
  change execMapGraceExpiry c s = _
  simp only [execMapGraceExpiry, hcomp, ok]

/-- At the end of the grace period of a composition's map whatever waited for one goes on. -/
theorem exec_mapGraceExpiry_some {c : Nat} {x : Comp} (hcomp : s.comp c = some x) : exec (.mapGraceExpiry c) s = .next (
    let u := if x.hasPrev then s.reach (x.installNs + s.mapGrace) else s
    let late := u.search.upds.filter (fun p => decide (p.2.coll / 4096 = c) && decide (p.2.stage = .waitMap))
    (((late.foldl (fun t p => t.replan p.1) (late.foldl (fun t p => t.reach p.2.needNs) u)).resumeGathers c).resumeQueries c true).bounceWaits c) := by
  change execMapGraceExpiry c s = _
  simp only [execMapGraceExpiry, hcomp, ok]

end Clauses

/-- Settles O16, clause by clause: each clause is the law above of its command, in the case that the clause's conditions name; those of
TIGHTEN have no conditions and are its definition. -/
theorem rowsAndBalls : Obligations.RowsAndBalls := by
  unfold Obligations.RowsAndBalls
  refine ⟨?migrationStart, ?migrationRelease, fun s k r => rfl, fun s k n r => rfl, fun s k r => rfl, ?replaceCatchment, ?replaceSummary, ?keepReach,
    ?replaceReach, ?slotFree, ?popDecay, ?recode, ?deferRecode, ?rewriteFromRef, ?rewriteOnMedia, acts_gather, acts_defaultRow, acts_epochInfo,
    acts_mapSet, fun s c => exec_mapGraceExpiry_none, fun s c x => exec_mapGraceExpiry_some⟩
  case migrationStart => exact fun s k row n c i z => exec_migrationStart
  case migrationRelease => exact fun s k row c b => exec_migrationRelease
  case replaceCatchment => exact fun s k r c y hcoll hball hmay => by rw [exec_radiusReplace_catchment hcoll hball, if_pos hmay]
  case replaceSummary => exact fun s k n r c v y hcoll hsource hball hmay => by rw [exec_radiusReplace_summary hcoll hsource hball, if_pos hmay]
  case keepReach => exact fun s k r c y hcoll hball hmay => by rw [exec_radiusReplace_reach hcoll hball, if_neg (Bool.eq_false_iff.1 hmay)]
  case replaceReach => exact fun s k r c y hcoll hball hmay => by rw [exec_radiusReplace_reach hcoll hball, if_pos hmay]
  case slotFree => exact fun s k i c z => exec_slotFree
  case popDecay => exact fun s k c => exec_popDecay
  case recode =>
    intro s k i c z hcoll hslot hfmt hold hcurrent hwhole hwidth hscan hspace
    rw [exec_popRecode hcoll hslot hfmt hold hcurrent hwhole hwidth hscan, if_neg (fun h => Bool.eq_false_iff.1 (hspace h.1) h.2)]
  case deferRecode =>
    intro s k i c z hcoll hslot hfmt hold hcurrent hwhole hwidth hscan htarget hspace
    rw [exec_popRecode hcoll hslot hfmt hold hcurrent hwhole (htarget ▸ hwidth) hscan, if_pos ⟨htarget, hspace⟩]
  case rewriteFromRef => exact fun s k i c z => exec_codeRewrite_ref
  case rewriteOnMedia =>
    intro s k i l ls c z hcoll hslot hused hlost hwhole hsectors
    rw [exec_codeRewrite_media hcoll hslot hused hlost hwhole hsectors]
    cases c.refExt <;> rfl

end Sys2Proof.Machine
end

section
/-! The walk of a query, and Braid's linking and repair (R131, R133, R135, R137, R143): what each of these commands answers where its conditions hold. -/

namespace Sys2Proof.Machine

section Clauses

variable {s : State} {b q e k i r : Nat} {y : Query} {w : Walk} {c : Coll}

/-! ### The walk of a query (R131, R133) -/

/-- A live query of a running batch walks a round before its deadline. -/
theorem exec_walkRound (hquery : s.query b q = some y) (hwalk : y.walk = some w) (hruns : s.runs b = true) (hlive : y.live = true)
    (hearly : s.now < w.deadline) : exec (.walkRound b q) s = .next (s.walkRound b q w) := by
  change execWalkRound b q s = _
  have hwalks : ¬ ((!s.runs b) = true ∨ (!y.live) = true ∨ w.deadline ≤ s.now) := by simp [hruns, hlive, hearly]
  simp only [execWalkRound, hquery, hwalk, if_neg hwalks, ok]

/-- At its deadline a walk ends, and is counted as ended by TIME. -/
theorem exec_walkTimeout (hquery : s.query b q = some y) (hwalk : y.walk = some w) :
    exec (.walkTimeout b q) s =
      .next ((((s.reach w.deadline).query! b q (fun y => { y with walk := none })).count Reg.BRD_CNT0 0 1).count Reg.BRD_CNT0 2 1) := by
  change execWalkTimeout b q s = _
  simp only [execWalkTimeout, hquery, hwalk, ok]

/-! ### Linking (R135, R137) -/

/-- An engine takes the slot that has waited longest. -/
theorem exec_linkSlot {x : LinkReq} {rest : List LinkReq} (hengine : e < 4) (hqueue : s.search.linkQ = x :: rest) :
    exec (.linkSlot e) s = .next ((s.search! (fun z => { z with linkQ := rest })).linkSlot x.coll x.slot) := by
  change execLinkSlot e s = _
  rw [execLinkSlot, onUnit_pos (decide_eq_true hengine), hqueue]

/-- The PENDING slots of a collection, each with its reach: by reach, and within a reach by slot. -/
def pendingSlots (c : Coll) : List (Nat × Nat) :=
  (Tbl.keys c.reaches).flatMap (fun r => ((c.slotsOf r).filter (fun z => decide (z.2.link = .pending))).map (fun z => (r, z.1)))

/-- This slot lies before the place of the background scan, which comes to it only after it wraps. -/
def scannedBefore (c : Coll) (p : Nat × Nat) : Bool :=
  decide (p.1 < c.scanPos) || (decide (p.1 = c.scanPos) && decide (p.2 < c.scanSlot))

/-- The order in which the background scan visits PENDING slots: from its place on, then from the start. -/
def scanOrder (c : Coll) (l : List (Nat × Nat)) : List (Nat × Nat) :=
  l.filter (fun p => !scannedBefore c p) ++ l.filter (scannedBefore c)

/-- The background scan at one slot: it queues the slot, or pauses there once the queue is half full. -/
def scanVisit (k : Nat) (acc : State × Option (Nat × Nat)) (p : Nat × Nat) : State × Option (Nat × Nat) :=
  match acc.2 with
  | some _ => acc
  | none => if 524288 ≤ acc.1.search.linkQ.length then (acc.1, some p) else (acc.1.queueLink k p.2, none)

/-- The state after a scan, which keeps the place at which the scan paused. -/
def scanEnd (k : Nat) (acc : State × Option (Nat × Nat)) : State :=
  match acc.2 with
  | some p => acc.1.coll! k (fun c => { c with scanPos := p.1, scanSlot := p.2 })
  | none => acc.1

/-- The background scan visits the PENDING slots in its order. -/
theorem exec_linkScan (hcoll : s.coll k = some c) :
    exec (.linkScan k) s = .next (scanEnd k ((scanOrder c (pendingSlots c)).foldl (scanVisit k) (s, none))) := by
  change execLinkScan k s = _
  unfold execLinkScan
  rw [hcoll]
  rfl

/-- A slot alone is visited wherever the place of the scan lies. -/
theorem scanOrder_singleton (c : Coll) (p : Nat × Nat) : scanOrder c [p] = [p] := by
  cases hplace : scannedBefore c p <;> simp [scanOrder, hplace]

/-- The scan queues a slot while the queue is below half full. -/
theorem scanVisit_of_room {p : Nat × Nat} (hroom : s.search.linkQ.length < 524288) : scanVisit k (s, none) p = (s.queueLink k p.2, none) :=
  if_neg (Nat.not_le.2 hroom)

/-- A scan that finds no PENDING slot changes nothing. -/
theorem exec_linkScan_nil (hcoll : s.coll k = some c) (hpending : pendingSlots c = []) : exec (.linkScan k) s = .next s := by
  rw [exec_linkScan hcoll, hpending]
  rfl

/-- A scan that finds one PENDING slot and room in the queue queues that slot. -/
theorem exec_linkScan_singleton (hcoll : s.coll k = some c) (hpending : pendingSlots c = [(r, i)]) (hroom : s.search.linkQ.length < 524288) :
    exec (.linkScan k) s = .next (s.queueLink k i) := by
  rw [exec_linkScan hcoll, hpending, scanOrder_singleton, List.foldl_cons, List.foldl_nil, scanVisit_of_room hroom]
  rfl

/-! ### Repair (R143) -/

/-- A queued reach is one for this engine: the engine of the quadrant whose stack holds the reach's codes, or engine 0 for a reach that is gone. -/
def State.repairsAt (s : State) (engine : Nat) (x : LinkReq) : Bool :=
  match (s.coll x.coll).bind (fun c => Tbl.find x.slot c.reaches) with
  | some y => decide (y.cell / 128 = engine)
  | none => decide (engine = 0)

/-- An engine repairs the first reach queued for it, and then takes that reach off the queue. -/
theorem exec_repairReach (hengine : e < 4) :
    exec (.repairReach e) s = .next (match s.search.repairQ.find? (s.repairsAt e) with
      | none => s
      | some x => (s.repairReach x.coll x.slot).search! (fun z => { z with repairQ := z.repairQ.filter (fun y => decide (y ≠ x)) })) := by
  change execRepairReach e s = _
  rw [execRepairReach, onUnit_pos (decide_eq_true hengine)]
  rfl

/-- An engine that no queued reach is for changes nothing. -/
theorem exec_repairReach_none (hengine : e < 4) (hfind : s.search.repairQ.find? (s.repairsAt e) = none) :
    exec (.repairReach e) s = .next s := by
  rw [exec_repairReach hengine, hfind]

/-- The first reach that is queued for the engine is repaired and leaves the queue. -/
theorem exec_repairReach_some {x : LinkReq} (hengine : e < 4) (hfind : s.search.repairQ.find? (s.repairsAt e) = some x) :
    exec (.repairReach e) s =
      .next ((s.repairReach x.coll x.slot).search! (fun z => { z with repairQ := z.repairQ.filter (fun y => decide (y ≠ x)) })) := by
  rw [exec_repairReach hengine, hfind]

end Clauses

/-- Settles O18, clause by clause: each clause is the law above of its command, in the case that the clause's conditions name. -/
theorem walksAndLinks : Obligations.WalksAndLinks := by
  unfold Obligations.WalksAndLinks
  refine ⟨?walkRound, ?walkTimeout, ?linkSlot, ?scanNothing, ?scanOne, ?repairNothing, ?repairFirst⟩
  case walkRound => exact fun s b i y w => exec_walkRound
  case walkTimeout => exact fun s b i y w => exec_walkTimeout
  case linkSlot => exact fun s e x rest => exec_linkSlot
  case scanNothing => exact fun s k c => exec_linkScan_nil
  case scanOne => exact fun s k c r i => exec_linkScan_singleton
  case repairNothing => exact fun s e => exec_repairReach_none
  case repairFirst => exact fun s e x => exec_repairReach_some

end Sys2Proof.Machine
end

section
/-! Query batches, from admission to the reply (R86, R87, R104 to R110, R114, R163 to R172, R187, R415, R441): what each of their commands answers where
its conditions hold. -/

namespace Sys2Proof.Machine

open Sys2Proof.Claims

section Clauses

variable {s : State} {b i e slot v : Nat} {ns : List Nat} {qb : QBatch} {q : Query} {c : Coll}

/-! ### Admission (R114, R115, R187) -/

/-- A query batch whose vectors have been read and whose read epoch needs no check takes its merge slots at once. -/
def State.startQryBatch (t : State) (m : Msg) (c : Coll) (bs : List Byte) (e : Nat) : State :=
  let key := collKey m.comp (m.p 0 2)
  let t1 := t.searchBoundary
  let qb := t1.newQBatch key t.nodeNo 0 (m.p 4 2) (m.p 6 2 % 8) e (m.p 0x18 8) (m.p 9 1)
    (admitQueries c m bs (t.mapVersion m.comp) (t.mapHomes m.comp c.desc.span) t.nodeNo)
  let r := t1.addBatch (some m) m.comp 0x0301 (t1.msgLevel m (m.p 8 1)) (m.p 0xC 4) .mergeSlots (some key) []
  let t2 := (r.2.batch! r.1 (fun y => { y with parent := none })).search! (fun x => { x with qbatches := Tbl.put r.1 qb x.qbatches })
  (t2.grantSlots r.1).finishStopped r.1

/-- A QRY_BATCH in order, at an epoch that this node can read, is admitted. -/
theorem qryAdmit_run {t : State} {m : Msg} {bs : List Byte} (hmin : 1 ≤ m.p 4 2) (hmax : m.p 4 2 ≤ 16384) (hheader : qryHeaderOk m m.len = true)
    (hcoll : t.coll (collKey m.comp (m.p 0 2)) = some c) (honline : c.state = .online) (hstride : c.desc.dim * c.desc.elemBytes ≤ m.p 0xA 2)
    (hroom : m.p 2 2 * recordStride (m.p 4 2) ≤ m.p 0x20 8) (hepoch : t.pickEpoch (collKey m.comp (m.p 0 2)) c (m.p 0x28 8) = .run e)
    (hfilter : filterValid (Coll_definedBitmap c) (m.pb 0x40 32) = true) :
    t.qryAdmit m m.len none (some bs) = t.startQryBatch m c bs e := by
  have hk : ¬ (m.p 4 2 = 0 ∨ 16384 < m.p 4 2) := by omega
  have hlengths : ¬ (m.p 0xA 2 < c.desc.dim * c.desc.elemBytes ∨ m.p 0x20 8 < m.p 2 2 * recordStride (m.p 4 2)) := by omega
  have hbitmaps : ¬ ((!bit (m.p 6 2) 3 && !filterValid (Coll_definedBitmap c) (m.pb 0x40 32)) = true) := by simp [hfilter]
  have hfields : ¬ ((!qryHeaderOk m m.len) = true) := by simp [hheader]
  unfold State.qryAdmit
  simp only [if_neg hk, if_neg hfields, hcoll]
  rw [if_neg (not_not_intro honline), if_neg hlengths, hepoch]
  simp only [if_neg hbitmaps, Option.isNone_none, if_true, Bool.false_eq_true, if_false]
  rfl

/-- QRY_BATCH acts so on the first message of its mailbox. -/
theorem acts_qryBatch (c : Coll) (bs : List Byte) (e : Nat) :
    Acts (fun mb => .qryBatch mb (some bs)) 0x0301 (fun m t => 1 ≤ m.p 4 2 ∧ m.p 4 2 ≤ 16384 ∧ qryHeaderOk m m.len = true ∧
      t.coll (collKey m.comp (m.p 0 2)) = some c ∧ c.state = .online ∧ c.desc.dim * c.desc.elemBytes ≤ m.p 0xA 2 ∧
      m.p 2 2 * recordStride (m.p 4 2) ≤ m.p 0x20 8 ∧ t.pickEpoch (collKey m.comp (m.p 0 2)) c (m.p 0x28 8) = .run e ∧
      filterValid (Coll_definedBitmap c) (m.pb 0x40 32) = true)
    (fun m t => t.startQryBatch m c bs e) := by
  refine acts_of_onMsg (fun _ _ => rfl) ?_
  rintro m t ⟨hmin, hmax, hheader, hcoll, honline, hstride, hroom, hepoch, hfilter⟩
  exact qryAdmit_run hmin hmax hheader hcoll honline hstride hroom hepoch hfilter

/-! ### The check of the read epoch (R187) -/

/-- A batch that waited for its epoch check is refused: it ends, and replies with the status and the reason. -/
def State.refuseCheck (s : State) (b st reason : Nat) : State :=
  ((s.epochRefused st).search! (fun y => { y with gathers := Tbl.erase b y.gathers, qbatches := Tbl.erase b y.qbatches })).replyBatch b st reason []

/-- A batch at its epoch check that is not torn down waits for the answer. -/
theorem waits_of_epochCheck {x : Batch} (hstage : x.stage = .epochCheck) (htorn : x.torn = none) : ¬ (x.stage ≠ .epochCheck ∨ x.torn ≠ none) :=
  fun h => h.elim (absurd hstage) (absurd htorn)

section EpochCheck

variable {x : Batch} (hbatch : s.batch b = some x) (hstage : x.stage = .epochCheck) (htorn : x.torn = none)
include hbatch hstage htorn

/-- The epoch home's answer reaches the batch that waits for it. -/
theorem exec_readEpochCheckReply_stable : exec (.readEpochCheckReply b (.stable e)) s = .next (s.epochAnswered b e) := by
  change execReadEpochCheckReply b (.stable e) s = _
  simp only [execReadEpochCheckReply, hbatch, if_neg (waits_of_epochCheck hstage htorn), ok]

/-- A check that was lost on its way is sent again. -/
theorem exec_readEpochCheckReply_pathLost : exec (.readEpochCheckReply b .pathLost) s =
    .next (s.send (s.homeNode (x.coll.getD 0)) 1 (.epochCheck b (x.coll.getD 0) (s.checkedEpoch b))) := by
  change execReadEpochCheckReply b .pathLost s = _
  simp only [execReadEpochCheckReply, hbatch, if_neg (waits_of_epochCheck hstage htorn), ok]

/-- What the epoch home's stable epoch `e` makes of a batch that waits: a refusal of an epoch that is not stable yet, or that is no longer retained; else a
query batch takes its merge slots, and a gather its root context. -/
theorem epochAnswered_eq (hcoll : (s.raiseStable (x.coll.getD 0) e).coll (x.coll.getD 0) = some c) :
    s.epochAnswered b e =
      if e < s.checkedEpoch b then s.refuseCheck b stBad 0x000B
      else if !(s.raiseStable (x.coll.getD 0) e).retained (x.coll.getD 0) c (s.checkedEpoch b) then s.refuseCheck b stEpochRetired 0
      else if (s.qbatch b).isSome then
        (((s.raiseStable (x.coll.getD 0) e).batch! b (fun y => { y with stage := .mergeSlots })).grantSlots b).finishStopped b
      else (((s.raiseStable (x.coll.getD 0) e).batch! b (fun y => { y with stage := .rootWait })).tryRoot b).serveGather b := by
  unfold State.epochAnswered
  simp only [hbatch, if_neg (waits_of_epochCheck hstage htorn), hcoll]
  rfl

/-- An epoch above the stable epoch of its home is refused BAD_DESCRIPTOR. -/
theorem exec_readEpochCheckReply_below (hcoll : (s.raiseStable (x.coll.getD 0) e).coll (x.coll.getD 0) = some c) (hbelow : e < s.checkedEpoch b) :
    exec (.readEpochCheckReply b (.stable e)) s = .next (s.refuseCheck b stBad 0x000B) := by
  rw [exec_readEpochCheckReply_stable hbatch hstage htorn, epochAnswered_eq hbatch hstage htorn hcoll, if_pos hbelow]

/-- A stable epoch that is retained no more is refused EPOCH_RETIRED. -/
theorem exec_readEpochCheckReply_retired (hcoll : (s.raiseStable (x.coll.getD 0) e).coll (x.coll.getD 0) = some c) (hstable : s.checkedEpoch b ≤ e)
    (hretained : (s.raiseStable (x.coll.getD 0) e).retained (x.coll.getD 0) c (s.checkedEpoch b) = false) :
    exec (.readEpochCheckReply b (.stable e)) s = .next (s.refuseCheck b stEpochRetired 0) := by
  rw [exec_readEpochCheckReply_stable hbatch hstage htorn, epochAnswered_eq hbatch hstage htorn hcoll, if_neg (Nat.not_lt.2 hstable), hretained]
  rfl

/-- A query batch goes on at a stable epoch that is retained, from its merge slots. -/
theorem exec_readEpochCheckReply_query (hqb : s.qbatch b = some qb) (hepoch : s.checkedEpoch b = qb.readEpoch)
    (hcoll : (s.raiseStable (x.coll.getD 0) e).coll (x.coll.getD 0) = some c) (hstable : qb.readEpoch ≤ e)
    (hretained : (s.raiseStable (x.coll.getD 0) e).retained (x.coll.getD 0) c qb.readEpoch = true) :
    exec (.readEpochCheckReply b (.stable e)) s =
      .next ((((s.raiseStable (x.coll.getD 0) e).batch! b (fun y => { y with stage := .mergeSlots })).grantSlots b).finishStopped b) := by
  rw [exec_readEpochCheckReply_stable hbatch hstage htorn, epochAnswered_eq hbatch hstage htorn hcoll, hepoch, if_neg (Nat.not_lt.2 hstable), hretained,
    hqb]
  rfl

/-- A gather goes on at a stable epoch that is retained, from its root context. -/
theorem exec_readEpochCheckReply_gather (hqb : s.qbatch b = none)
    (hcoll : (s.raiseStable (x.coll.getD 0) e).coll (x.coll.getD 0) = some c) (hstable : s.checkedEpoch b ≤ e)
    (hretained : (s.raiseStable (x.coll.getD 0) e).retained (x.coll.getD 0) c (s.checkedEpoch b) = true) :
    exec (.readEpochCheckReply b (.stable e)) s =
      .next ((((s.raiseStable (x.coll.getD 0) e).batch! b (fun y => { y with stage := .rootWait })).tryRoot b).serveGather b) := by
  rw [exec_readEpochCheckReply_stable hbatch hstage htorn, epochAnswered_eq hbatch hstage htorn hcoll, if_neg (Nat.not_lt.2 hstable), hretained, hqb]
  rfl

end EpochCheck

/-! ### Starting (R103, R104, R415) -/

/-- A batch that has just got its root context begins. -/
theorem exec_rootContextGrant (hbefore : s.runs b = false) (hafter : (s.tryRoot b).runs b = true) :
    exec (.rootContextGrant b) s = .next ((s.tryRoot b).begin b) := by
  change execRootContextGrant b s = _
  simp only [execRootContextGrant, hbefore, hafter]
  rfl

/-- The nodes that a query visits in round one (R104). -/
def State.firstRound (s : State) (qb : QBatch) (q : Query) (c : Coll) : List Nat :=
  if qb.localOnly then [s.nodeNo]
  else roundOne s.nodeNo qb.r1 (s.spanNodes c.comp c.desc.span) (fun n => (State.nodeBound c q.ref qb.readEpoch n).map (·.1))

/-- The lead starts round one at the nodes `ns`: with no node round two follows, and the lead searches its own rows where it is one of them. -/
def State.leadStart (s : State) (b i : Nat) (ns : List Nat) : State :=
  let u := (s.query! b i (fun y => { y with started := true, done := !ns.contains s.nodeNo })).visit b i 1 ns
  if ns = [] then u.roundTwo b i
  else if ns.contains s.nodeNo && (match u.query b i with | some y => y.live | none => false) then u.startLocal b i else u

section QueryStart

variable (hqb : s.qbatch b = some qb) (hquery : s.query b i = some q) (hruns : s.runs b = true) (hlive : q.live = true) (hfresh : q.started = false)
  (hready : QBatch_ready qb i = true) (hmap : q.needMap = none)
include hqb hquery hruns hlive hfresh hready hmap

/-- A query whose turn it is starts: on a visited node its search, at the lead round one. -/
theorem exec_queryStart : exec (.queryStart b i) s = .next (if qb.lead ≠ s.nodeNo then s.startLocal b i
    else match s.qcoll qb.coll with
      | none => s
      | some c => s.leadStart b i (s.firstRound qb q c)) := by
  change execQueryStart b i s = _
  have hturn : ¬ ((!s.runs b) = true ∨ (!q.live) = true ∨ q.started = true ∨ (!QBatch_ready qb i) = true ∨ q.needMap.isSome = true) := by
    simp [hruns, hlive, hfresh, hready, hmap]
  simp only [execQueryStart, hqb, hquery, if_neg hturn]
  rfl

/-- A visited node starts its own search. -/
theorem exec_queryStart_visited (hlead : qb.lead ≠ s.nodeNo) : exec (.queryStart b i) s = .next (s.startLocal b i) := by
  rw [exec_queryStart hqb hquery hruns hlive hfresh hready hmap, if_pos hlead]

/-- The lead starts round one at the nodes that it chooses. -/
theorem exec_queryStart_lead (hlead : qb.lead = s.nodeNo) (hcoll : s.qcoll qb.coll = some c) (hnodes : s.firstRound qb q c = ns) :
    exec (.queryStart b i) s = .next (s.leadStart b i ns) := by
  rw [exec_queryStart hqb hquery hruns hlive hfresh hready hmap, if_neg (not_not_intro hlead), hcoll, ← hnodes]

end QueryStart

/-! ### A visited node's part (R104, R109, R440) -/

/-- A visited node at the stable epoch that a part's read epoch proves. -/
def State.atPartEpoch (s : State) (p : FanPart) (d : Coll) : State :=
  if d.lastEpoch < p.readEpoch then s.raiseStable (collKey p.comp p.coll) p.readEpoch else s

/-- Every query of a part is answered EPOCH_RETIRED. -/
def State.retireFan (s : State) (p : FanPart) : State :=
  p.queries.foldl (fun t (q : Nat × Nat × List Byte × List Byte × Nat) => t.send p.lead 1 (.refused p.leadBatch q.1 stEpochRetired))
    (s.epochRefused stEpochRetired)

/-- A part that is served becomes a batch of this node, whose first group starts once it runs. -/
def State.serveFan (s : State) (p : FanPart) (d c : Coll) : State :=
  let key := collKey p.comp p.coll
  let s2 := (s.atPartEpoch p d).searchBoundary
  let qs := p.queries.map (fun (q : Nat × Nat × List Byte × List Byte × Nat) =>
    { (Query.fresh q.1 q.2.1 0 ((c.desc.refQuery q.2.2.1).getD ⟨[], [], 0⟩) q.2.2.2.1 none q.2.2.2.2 p.mapVersion (bit p.flags 0) s.nodeNo) with
      vec := q.2.2.1 })
  let qb0 := s2.newQBatch key p.lead p.leadBatch p.k p.flags p.readEpoch 0 0 qs
  let qb : QBatch := { qb0 with noWarm := qb0.noWarm || decide (p.round = 2) }
  let r := s2.addBatch none p.comp 0x0301 p.level 0 .mergeSlots (some key) []
  let s3 := (r.2.search! (fun x => { x with qbatches := Tbl.put r.1 qb x.qbatches })).grantSlots r.1
  if s3.runs r.1 then (List.range (Nat.min 32 qs.length)).foldl (fun t i => t.startLocal r.1 i) s3 else s3

/-- A part under a map that is not here yet waits for it. -/
theorem exec_fanoutPartReceive_hold {p : FanPart} (hjudge : s.judgeMap p.comp p.mapVersion = .hold) :
    exec (.fanoutPartReceive p) s = .next (s.holdReq (.fanout p)) := by
  change execFanoutPartReceive p s = _
  simp only [execFanoutPartReceive, State.takeFan, hjudge, ok]

/-- A part under a map that is over is answered REROUTE. -/
theorem exec_fanoutPartReceive_bounce {p : FanPart} (hjudge : s.judgeMap p.comp p.mapVersion = .bounce) :
    exec (.fanoutPartReceive p) s = .next (s.bounceFan p) := by
  change execFanoutPartReceive p s = _
  simp only [execFanoutPartReceive, State.takeFan, hjudge, ok]

section Accepted

variable {p : FanPart} {d : Coll} (hjudge : s.judgeMap p.comp p.mapVersion = .accept) (hheld : s.coll (collKey p.comp p.coll) = some d)
  (hcoll : (s.atPartEpoch p d).coll (collKey p.comp p.coll) = some c)
include hjudge hheld hcoll

/-- A part under a map that is in force is served where its read epoch is retained. -/
theorem exec_fanoutPartReceive_accept : exec (.fanoutPartReceive p) s =
    .next (if !(s.atPartEpoch p d).retained (collKey p.comp p.coll) c p.readEpoch then (s.atPartEpoch p d).retireFan p else s.serveFan p d c) := by
  change execFanoutPartReceive p s = _
  unfold State.atPartEpoch at hcoll
  simp only [execFanoutPartReceive, State.takeFan, hjudge, hheld, hcoll]
  rfl

/-- A part at an epoch that is retained no more is answered EPOCH_RETIRED. -/
theorem exec_fanoutPartReceive_retired (hretained : (s.atPartEpoch p d).retained (collKey p.comp p.coll) c p.readEpoch = false) :
    exec (.fanoutPartReceive p) s = .next ((s.atPartEpoch p d).retireFan p) := by
  rw [exec_fanoutPartReceive_accept hjudge hheld hcoll, if_pos (by rw [hretained]; rfl)]

/-- A part at an epoch that is retained is served. -/
theorem exec_fanoutPartReceive_serve (hretained : (s.atPartEpoch p d).retained (collKey p.comp p.coll) c p.readEpoch = true) :
    exec (.fanoutPartReceive p) s = .next (s.serveFan p d c) := by
  rw [exec_fanoutPartReceive_accept hjudge hheld hcoll, if_neg (by rw [hretained]; decide)]

end Accepted

/-! ### Re-scores (R86, R89, R90) -/

/-- The read of a row's reference copy is charged to the batch where it touches flash. -/
def State.chargeRef (s : State) (b : Nat) (c : Coll) (slot : Nat) : State :=
  match s.refLun c slot with
  | some l => s.chargeRead b l
  | none => s

/-- The reference copy of a row is unreadable: the first sector of its slot is lost, and the rows that this makes DAMAGED leave the candidates. -/
def State.loseRef (s : State) (b i slot k : Nat) (c : Coll) : State :=
  match c.desc.slotLsns c.base slot with
  | [] => s
  | l :: _ =>
    let s1 := match c.refExt with
      | some e => s.extentLost e (l - c.base) false
      | none => s.sectorLost c.space l
    (s1.dropDamaged k).rethreshold b i

section Rescore

variable {x : Cand} {z : Slot} (hqb : s.qbatch b = some qb) (hquery : s.query b i = some q) (hruns : s.runs b = true) (hlive : q.live = true)
  (hcoll : s.qcoll qb.coll = some c) (hnext : Query_next q = some x) (hrow : Tbl.find slot c.slots = some z) (hslot : x.slot = slot)
  (hserved : s.readWaits (s.refLun c slot) .demand = false)
include hqb hquery hruns hlive hcoll hnext hrow hslot hserved

/-- The read of the row that R86 re-scores next has ended. One that failed uncorrectably poisons an attention object, or costs the row; else a row that
has become DAMAGED leaves the candidates, and any other is absorbed by the selection. -/
theorem exec_rescoreComplete (media : Bool) : exec (.rescoreComplete b i slot media) s = .next (
    let t := s.chargeRef b c slot
    if media && decide (attBase ≤ qb.coll) then t.poisonObj (qb.coll - attBase)
    else if media then t.loseRef b i slot qb.coll c
    else if z.damaged then (t.dropDamaged qb.coll).rethreshold b i
    else t.absorbRow b i qb c x z) := by
  change execRescoreComplete b i slot media s = _
  have hsearches : ¬ ((!s.runs b) = true ∨ (!q.live) = true) := by simp [hruns, hlive]
  have hturn : ¬ ((decide (x.slot ≠ slot) || s.readWaits (s.refLun c slot) .demand) = true) := by simp [hslot, hserved]
  simp only [execRescoreComplete, hqb, hquery, if_neg hsearches, hcoll, hnext, hrow, if_neg hturn]
  rfl

/-- The row is absorbed. -/
theorem exec_rescoreComplete_absorb (hwhole : z.damaged = false) :
    exec (.rescoreComplete b i slot false) s = .next ((s.chargeRef b c slot).absorbRow b i qb c x z) := by
  rw [exec_rescoreComplete hqb hquery hruns hlive hcoll hnext hrow hslot hserved]
  exact congrArg _ (if_neg (Bool.eq_false_iff.1 hwhole))

/-- The row has become DAMAGED meanwhile. -/
theorem exec_rescoreComplete_damaged (hdamaged : z.damaged = true) :
    exec (.rescoreComplete b i slot false) s = .next (((s.chargeRef b c slot).dropDamaged qb.coll).rethreshold b i) := by
  rw [exec_rescoreComplete hqb hquery hruns hlive hcoll hnext hrow hslot hserved]
  exact congrArg _ (if_pos hdamaged)

/-- The row is a token of an attention object, and its read failed. -/
theorem exec_rescoreComplete_poison (hatt : attBase ≤ qb.coll) :
    exec (.rescoreComplete b i slot true) s = .next ((s.chargeRef b c slot).poisonObj (qb.coll - attBase)) := by
  rw [exec_rescoreComplete hqb hquery hruns hlive hcoll hnext hrow hslot hserved]
  exact congrArg _ (if_pos (decide_eq_true hatt))

end Rescore

/-! ### The end of a search on this node (R87, R106, R163, R167) -/

/-- The lanes of a query that has ended here are halted, and its selection is counted. -/
def State.closeSearch (s : State) (b i : Nat) (qb : QBatch) (p : PList) : State :=
  ((s.haltLanes b i).query! b i (fun y => { y with done := true })).countSelection qb.k p.damagedExtra

/-- A visited node sends the list of a query to the lead by TOPK-MERGE, and is done with the query. -/
def State.sendList (s : State) (b i : Nat) (qb : QBatch) (q : Query) (c : Coll) (p : PList) : State :=
  let bs := p.bytes q.leadTag (decide (c.desc.nOut ≠ 0))
  (((((s.freeSlotOf b i).send qb.lead 2 (.topk q.leadTag p)).fwOp (qb.coll / 4096) 5 2 qb.lead 0xE 3 q.leadTag 0 bs.length bs).count Reg.SND_CNT0 0 1).query!
    b i (fun y => { y with complete := true, cands := [], sweep := [] })).batchOver b

section LocalComplete

variable (hqb : s.qbatch b = some qb) (hquery : s.query b i = some q) (hruns : s.runs b = true) (hdone : Query_localDone q = true)
include hqb hquery hruns hdone

/-- A query that a DAMAGED row had raised too far is searched again, from the threshold it started from. -/
theorem exec_queryLocalComplete_again (hraised : q.overRaised qb.k = true) : exec (.queryLocalComplete b i) s =
    .next (((s.haltLanes b i).query! b i (fun y => y.again qb.aggExp s.nodeNo)).startLocal b i) := by
  change execQueryLocalComplete b i s = _
  have hends : ¬ ((!s.runs b) = true ∨ (!Query_localDone q) = true) := by simp [hruns, hdone]
  simp only [execQueryLocalComplete, hqb, hquery, if_neg hends, if_pos hraised, ok]

variable (hraised : q.overRaised qb.k = false) (hcoll : s.qcoll qb.coll = some c)
include hraised hcoll

/-- Else the search ends with a list, which the lead merges and any other node sends to it. -/
theorem exec_queryLocalComplete_list : exec (.queryLocalComplete b i) s = .next (
    let p := QBatch_list qb q s.nodeNo c.id
    let s1 := s.closeSearch b i qb p
    if qb.lead = s.nodeNo then s1.mergeList (s.mergeTag q.slot q.idx) p else s1.sendList b i qb q c p) := by
  change execQueryLocalComplete b i s = _
  have hends : ¬ ((!s.runs b) = true ∨ (!Query_localDone q) = true) := by simp [hruns, hdone]
  simp only [execQueryLocalComplete, hqb, hquery, if_neg hends, if_neg (Bool.eq_false_iff.1 hraised), hcoll]
  rfl

/-- A visited node sends its list. -/
theorem exec_queryLocalComplete_send (hlead : qb.lead ≠ s.nodeNo) : exec (.queryLocalComplete b i) s =
    .next ((s.closeSearch b i qb (QBatch_list qb q s.nodeNo c.id)).sendList b i qb q c (QBatch_list qb q s.nodeNo c.id)) := by
  rw [exec_queryLocalComplete_list hqb hquery hruns hdone hraised hcoll]
  exact congrArg _ (if_neg hlead)

/-- The lead merges its own list. -/
theorem exec_queryLocalComplete_merge (hlead : qb.lead = s.nodeNo) : exec (.queryLocalComplete b i) s =
    .next ((s.closeSearch b i qb (QBatch_list qb q s.nodeNo c.id)).mergeList (s.mergeTag q.slot q.idx) (QBatch_list qb q s.nodeNo c.id)) := by
  rw [exec_queryLocalComplete_list hqb hquery hruns hdone hraised hcoll]
  exact congrArg _ (if_pos hlead)

end LocalComplete

/-! ### The end of a query at its lead (R107 to R110, R172, R441) -/

section Lead

variable (hqb : s.qbatch b = some qb) (hquery : s.query b i = some q) (hlead : qb.lead = s.nodeNo)
include hqb hquery hlead

/-- A query completes once round two expects no more lists. -/
theorem exec_queryComplete_lists (hruns : s.runs b = true) (hopen : q.complete = false) (hround : q.round = 2) (hexpect : q.expect = []) :
    exec (.queryComplete b i none) s = .next (s.finishQuery b i) := by
  change execQueryComplete b i none s = _
  have hwaits : ¬ (qb.lead ≠ s.nodeNo ∨ (!s.runs b) = true ∨ q.complete = true) := by simp [hlead, hruns, hopen]
  have hends : q.status.isSome = true ∨ (q.round = 2 ∧ q.expect = []) := .inr ⟨hround, hexpect⟩
  simp only [execQueryComplete, hqb, hquery, if_neg hwaits, if_pos hends, ok]

/-- A query whose visited node does not answer in time completes PEER_LOST. -/
theorem exec_peerTimeout (hopen : q.complete = false) (hstatus : q.status = none)
    (hexpect : q.expect.any (fun n => decide (n ≠ s.nodeNo)) = true) :
    exec (.peerTimeout b i) s = .next ((s.reach q.deadline).stopQuery b i stPeerLost) := by
  change execPeerTimeout b i s = _
  have hwaits : ¬ (qb.lead ≠ s.nodeNo ∨ q.complete = true ∨ q.status.isSome = true ∨ (!q.expect.any (fun n => decide (n ≠ s.nodeNo))) = true) := by
    rw [hexpect]; simp [hlead, hopen, hstatus]
  simp only [execPeerTimeout, hqb, hquery, if_neg hwaits, ok]

/-- A query that a visited node answers REROUTE, of a map later than the lead's, waits for that map. -/
theorem exec_queryReroute_wait (hopen : q.complete = false) (hvisited : q.visited ≠ []) (hstatus : q.status = none) (hmap : q.needMap = none)
    (htries : q.reroutes < 2) (hlater : seqGe 32 (s.mapVersion (qb.coll / 4096)) v = false) : exec (.queryReroute b i v) s =
    .next ((s.haltLanes b i).query! b i (fun y => { y with needMap := some v, expect := [], walk := none, round := 0 })) := by
  change execQueryReroute b i v s = _
  have hwaits : ¬ (qb.lead ≠ s.nodeNo ∨ q.complete = true ∨ q.visited = [] ∨ q.status.isSome = true ∨ q.needMap.isSome = true) := by
    simp [hlead, hopen, hvisited, hstatus, hmap]
  simp only [execQueryReroute, hqb, hquery, if_neg hwaits, if_neg (Nat.not_le.2 htries), if_neg (Bool.eq_false_iff.1 hlater), ok]

end Lead

end Clauses

/-- Settles O17, clause by clause: each clause is the law above of its command, in the case that the clause's conditions name; those of
MERGE_SLOT_GRANT and TOPK_MERGE have no conditions and are its definition. -/
theorem searchBatches : Obligations.SearchBatches := by
  unfold Obligations.SearchBatches
  refine ⟨acts_qryBatch, ?checkedQuery, ?checkLost, ?checkedBelow, ?checkedRetired, ?checkedGather, fun s b => rfl, ?root, ?startVisited, ?startLead,
    ?hold, ?bounce, ?retired, ?serve, ?absorb, ?drop, ?poison, ?again, ?send, ?merge, fun s tag l => rfl, ?lists, ?timeout, ?reroute⟩
  case checkedQuery => exact fun s b x q e c => exec_readEpochCheckReply_query
  case checkLost => exact fun s b x => exec_readEpochCheckReply_pathLost
  case checkedBelow => exact fun s b x e c => exec_readEpochCheckReply_below
  case checkedRetired => exact fun s b x e c => exec_readEpochCheckReply_retired
  case checkedGather => exact fun s b x e c => exec_readEpochCheckReply_gather
  case root => exact fun s b => exec_rootContextGrant
  case startVisited => exact fun s b i qb q => exec_queryStart_visited
  case startLead => exact fun s b i qb q c ns => exec_queryStart_lead
  case hold => exact fun s p => exec_fanoutPartReceive_hold
  case bounce => exact fun s p => exec_fanoutPartReceive_bounce
  case retired => exact fun s p c d => exec_fanoutPartReceive_retired
  case serve => exact fun s p c d => exec_fanoutPartReceive_serve
  case absorb => exact fun s b i slot qb q c x z => exec_rescoreComplete_absorb
  case drop => exact fun s b i slot qb q c x z => exec_rescoreComplete_damaged
  case poison => exact fun s b i slot qb q c x z => exec_rescoreComplete_poison
  case again => exact fun s b i qb q => exec_queryLocalComplete_again
  case send => exact fun s b i qb q c => exec_queryLocalComplete_send
  case merge => exact fun s b i qb q c => exec_queryLocalComplete_merge
  case lists => exact fun s b i qb q => exec_queryComplete_lists
  case timeout => exact fun s b i qb q => exec_peerTimeout
  case reroute => exact fun s b i v qb q => exec_queryReroute_wait

end Sys2Proof.Machine
end

section
/-! What SLOT_FREE changes in a collection and what it leaves (R189, R123). -/

namespace Sys2Proof

/-! ### What a freed slot counts for -/

/-- An update that turns an entry not counted into one not counted leaves the count. -/
theorem Tbl.length_filter_upd {α : Type} {k : Nat} {f : α → α} {p : Nat × α → Bool} {t : Tbl α} {a : α} (hfind : Tbl.find k t = some a)
    (hbefore : p (k, a) = false) (hafter : p (k, f a) = false) : ((Tbl.upd k f t).filter p).length = (t.filter p).length := by
  induction t with
  | nil => cases hfind
  | cons x t ih =>
    obtain ⟨j, b⟩ := x
    by_cases hj : j = k
    · subst hj
      obtain rfl : b = a := by simpa [Tbl.find] using hfind
      simp [Tbl.upd, hbefore, hafter]
    · have hrest : Tbl.find k t = some a := by simpa [Tbl.find, hj] using hfind
      simp only [Tbl.upd, if_neg hj, List.filter_cons]
      split
      · rw [List.length_cons, List.length_cons, ih hrest]
      · exact ih hrest

/-- Writing a strip entry touches no slot. -/
@[simp] theorem Coll.putStrip_slots (c : Coll) (i : Nat) : (c.putStrip i).slots = c.slots := by
  unfold Coll.putStrip
  split <;> rfl

section

variable {i : Nat} {c : Coll} {z : Slot}

/-- The tombstone count as one filter of the slots. -/
theorem Coll.tombs_eq (c : Coll) (r : Nat) :
    c.tombs r = (c.slots.filter (fun x => x.2.tomb && (decide (x.2.reach = r) && decide (x.2.state ≠ .free)))).length := by
  simp only [Coll.tombs, Coll.slotsOf, List.filter_filter]

/-- Freeing a slot that its reach does not count as a tombstone leaves the reach's tombstone count (R610). -/
theorem Coll.tombs_of_freed {c' : Coll} {g : Slot → Nat} (hslot : Tbl.find i c.slots = some z) (htomb : z.tomb = false)
    (hslots : c'.slots = Tbl.upd i (fun z => z.freed (g z)) c.slots) (r : Nat) : c'.tombs r = c.tombs r := by
  rw [Coll.tombs_eq, Coll.tombs_eq, hslots]
  exact Tbl.length_filter_upd hslot (by rw [htomb, Bool.false_and]) rfl

/-- A slot out of the graph is no tombstone that its reach counts. -/
theorem Slot.tomb_of_unlinked (hlink : z.link = .unlinked) : z.tomb = false := by
  simp [Slot.tomb, hlink]

end

end Sys2Proof

namespace Sys2Proof.Machine

/-! ### The freed slot -/

section Clauses

variable {s : State} {k i : Nat} {c : Coll} {z : Slot}

/-- An updated collection is the one read. -/
theorem State.coll_coll_upd (hcoll : s.coll k = some c) (f : Coll → Coll) : (s.coll! k f).coll k = some (f c) := by
  change Tbl.find k (Tbl.upd k f s.search.colls) = _
  rw [Tbl.find_upd_same]
  exact congrArg _ hcoll

/-- Discarding sectors touches no collection. -/
theorem State.coll_discardAll (s : State) (space : Nat) (lsns : List Nat) (k : Nat) : (s.discardAll space lsns).coll k = s.coll k := by
  have hsearch : (s.discardAll space lsns).search = s.search := (Flows.discardAll (w0 := pRegs ||| pDelta) (.refl s) rfl).search rfl
  unfold State.coll
  rw [hsearch]

/-- After a slot is freed its collection has the slot freed at the next generation, and every other slot as it was. -/
theorem State.freeSlot_slots (hcoll : s.coll k = some c) (hslot : Tbl.find i c.slots = some z) : ∃ c', (s.freeSlot k i).coll k = some c' ∧
    c'.slots = Tbl.upd i (fun z => z.freed ((z.gen + 1) % 256)) c.slots := by
  unfold State.freeSlot
  simp only [hcoll, hslot, State.coll_coll_upd hcoll, State.coll_discardAll]
  exact ⟨_, rfl, Coll.putStrip_slots _ i⟩

/-! ### When a slot may be freed -/

/-- What SLOT_FREE asks of a slot: a dead row, out of the graph, that no reader can see any more. -/
abbrev State.mayFree (s : State) (k : Nat) (c : Coll) (z : Slot) : Prop :=
  (z.state = .tombstone ∨ z.state = .forward) ∧ z.link = .unlinked ∧ s.retained k c (z.delEpoch - 1) = false ∧ ∀ e ∈ s.inFlight k, z.delEpoch ≤ e

/-- No reader below an epoch, as the model tests it. -/
theorem State.noReaderBelow_iff {d : Nat} : (s.inFlight k).any (fun e => decide (e < d)) = false ↔ ∀ e ∈ s.inFlight k, d ≤ e := by
  simp

/-- A slot that may not be freed fails one of the tests of the model. -/
theorem State.refuses_of_not_mayFree (hkeep : ¬ s.mayFree k c z) : (z.state ≠ .tombstone ∧ z.state ≠ .forward) ∨ z.link ≠ .unlinked
    ∨ s.retained k c (z.delEpoch - 1) = true ∨ (s.inFlight k).any (fun e => decide (e < z.delEpoch)) = true := by
  refine Decidable.byContradiction fun hnone => hkeep ?_
  obtain ⟨hdead, hrest⟩ := not_or.1 hnone
  obtain ⟨hlink, hrest⟩ := not_or.1 hrest
  obtain ⟨hretained, hreaders⟩ := not_or.1 hrest
  have hstate : z.state = .tombstone ∨ z.state = .forward :=
    (Decidable.em (z.state = .tombstone)).imp id (fun hno => Decidable.byContradiction fun hforward => hdead ⟨hno, hforward⟩)
  exact ⟨hstate, Decidable.not_not.1 hlink, Bool.eq_false_iff.2 hretained, State.noReaderBelow_iff.1 (Bool.eq_false_iff.2 hreaders)⟩

/-- A slot that may not be freed stays as it is, and with it the node. -/
theorem exec_slotFree_keep (hcoll : s.coll k = some c) (hslot : Tbl.find i c.slots = some z) (hkeep : ¬ s.mayFree k c z) :
    exec (.slotFree k i) s = .next s := by
  change execSlotFree k i s = _
  simp only [execSlotFree, hcoll, hslot, ok, if_pos (State.refuses_of_not_mayFree hkeep)]

end Clauses

/-- Settles O44: a slot that may be freed is freed and counted by LCK_CNT6, which leaves the other slots and, since the slot is out of the graph, the
reach's tombstone count; any other slot stays, with the whole node. -/
theorem slotFreeing : Obligations.SlotFreeing := by
  unfold Obligations.SlotFreeing
  intro s k i c z hcoll hslot
  by_cases hfree : s.mayFree k c z
  · have ⟨hstate, hlink, hretained, hreaders⟩ := hfree
    obtain ⟨c', hcoll', hslots⟩ := State.freeSlot_slots hcoll hslot
    refine ⟨_, c', exec_slotFree hcoll hslot hstate hlink hretained (State.noReaderBelow_iff.2 hreaders), hcoll', fun j hj => ?_,
      Coll.tombs_of_freed hslot (Slot.tomb_of_unlinked hlink) hslots _, ?_⟩
    · rw [hslots, Tbl.find_upd_other _ _ _ _ hj]
    · rw [if_pos hfree]
      exact ⟨z.freed ((z.gen + 1) % 256), by rw [hslots, Tbl.find_upd_same, hslot]; rfl, rfl, rfl⟩
  · refine ⟨s, c, exec_slotFree_keep hcoll hslot hfree, hcoll, fun _ _ => rfl, rfl, ?_⟩
    rw [if_neg hfree]
    exact hslot

end Sys2Proof.Machine
end

section
/-! Update batches, from their admission to their reply (R176, R178, R180, R190 to R194, R200, R203, R442, R608, R612): what each command of the
coordinator and of the homes answers where its conditions hold. -/

namespace Sys2Proof.Machine

open Sys2Proof.Claims

/-! ### Admission (R176, R178, R191) -/

/-- UPD_BATCH of a collection that takes updates is admitted, with the home of every operation. -/
theorem acts_updBatch (c : Coll) (bs : List Byte) :
    Acts (fun mb => .updBatch mb (some bs)) 0x0401 (fun m t => updHeaderOk m = true ∧ t.coll (collKey m.comp (m.p 0 2)) = some c
      ∧ c.state = .online ∧ c.frozen = false ∧ Coll_nextEpoch c ≠ 2 ^ 48 - 1)
    (fun m t =>
      let k := collKey m.comp (m.p 0 2)
      let ops := t.withHomes m.comp c.desc.span (takeData c.desc ((List.range (m.p 2 2)).map (fun i => UpdOp.ofBytes (bytesAt bs (64 * i) 64)))
        (bs.drop (64 * m.p 2 2)))
      let r := t.enroll m (t.msgLevel m (m.p 6 1)) (m.p 8 4) (some k) []
      r.2.search! (fun x => { x with
        updSeq := t.search.updSeq + 1
        upds := Tbl.put r.1 ⟨k, t.search.updSeq + 1, ops, .preparing, homesOf ops, none, [], [], 0, t.mapVersion m.comp, m.p 0x18 8, 0, none, 0, 0⟩
          x.upds })) := by
  refine acts_of_onMsg (fun _ _ => rfl) ?_
  rintro m t ⟨hheader, hcoll, honline, hfrozen, hepochs⟩
  have htakes : ¬ (c.frozen = true ∨ Coll_nextEpoch c = 2 ^ 48 - 1) := by simp only [hfrozen, hepochs]; decide
  simp only [hheader, hcoll, Bool.not_true, Bool.false_eq_true, if_false]
  rw [if_neg (not_not_intro honline), if_neg htakes]

/-! ### A part at its home (R190, R192, R203, R440, R608) -/

/-- The operations of a part go on where their rows have moved (R203); the part then waits for its locks, after those that came before it (R192). -/
def State.enterPart (s : State) (k coord seq : Nat) (c : Coll) (ops : List UpdOp) : State :=
  let f := s.forwardOps k c ops
  (f.2.search! (fun x => { x with
    arrivals := x.arrivals + 1
    parts := x.parts ++ [⟨k, coord, seq, f.1, .waiting, f.2.search.arrivals, [], [], 0, 0, none, none, false⟩] })).promote

section Arrival

variable {s : State} {p : PartMsg} {c : Coll} (hnew : s.part (collKey p.comp p.coll) p.coord p.seq = none)
  (hcoll : s.coll (collKey p.comp p.coll) = some c)
include hnew hcoll

/-- A part of another coordinator comes under a map that is in force. -/
theorem exec_partArrive_other (hother : p.coord ≠ s.nodeNo) (hjudge : s.judgeMap p.comp p.mapVersion = .accept) :
    exec (.partArrive p) s = .next (s.enterPart (collKey p.comp p.coll) p.coord p.seq c p.ops) := by
  have hmine : s.ownPart p = none := if_neg hother
  change execPartArrive p s = _
  simp only [execPartArrive, State.takePart, hnew, hcoll, hmine, hjudge, hother, decide_false, Bool.false_and]
  rfl

/-- A part of this node's own batch takes its operations and its map version from the batch. -/
theorem exec_partArrive_own {u : Nat × UpdBatch} (hmine : s.ownPart p = some u)
    (hjudge : s.judgeMap p.comp u.2.mapVersion = .accept) : exec (.partArrive p) s =
      .next (s.enterPart (collKey p.comp p.coll) p.coord p.seq c (opsAt u.2 s.nodeNo)) := by
  change execPartArrive p s = _
  simp only [execPartArrive, State.takePart, hnew, hcoll, hmine, hjudge, Option.isNone_some, Bool.and_false]
  rfl

end Arrival

section Part

variable {s : State} {k coord seq e : Nat} {p : Part} {c : Coll} {o : Outcome2}

/-- A part whose rows are all its own is prepared operation by operation, and its copies are flushed once none of them waits (R191 step 2, R349). -/
theorem exec_partPrepare {t : State} {f : List UpdOp × State} {d : Coll} {done : Bool} (hpart : s.part k coord seq = some p)
    (hlocked : p.state = .locked) (hsplit : p.split = none) (hdelta : s.deltaUp = true) (hcoll : s.coll k = some d)
    (hforward : s.forwardOps k d p.ops = f)
    (hprep : (f.2.part! k coord seq (fun q => { q with ops := f.1 })).prepAll k coord seq (List.range p.ops.length) = (t, done))
    (hafter : ((t.publishGrown k).part! k coord seq (fun q => { q with state := .writing })).coll k = some c) :
    exec (.partPrepare k coord seq) s = .next (
      let u := (t.publishGrown k).part! k coord seq (fun q => { q with state := .writing })
      if done then ((u.flush c.space (s.flashMask c.comp c.deltaMask)).getD u).settleWrites k coord seq else t) := by
  change execPartPrepare k coord seq s = _
  have hready : ¬ (p.state ≠ .locked ∨ p.split.isSome = true ∨ (!s.deltaUp) = true) := by simp [hlocked, hsplit, hdelta]
  simp only [execPartPrepare, hpart, if_neg hready, hcoll, hforward, hprep, hafter]
  cases done <;> rfl

/-! ### Outcomes (R193) -/

/-- A prepared part asks for its outcome once. -/
theorem asks_of_prepared (hprepared : p.state = .prepared) (hfirst : p.askSent = false) :
    ¬ (p.state ≠ .prepared ∨ p.askSent = true) := by
  simp [hprepared, hfirst]

/-- A prepared part that waited too long asks the epoch home for its outcome, once. -/
theorem exec_prepTimeout_ask (hpart : s.part k coord seq = some p) (hcoll : s.coll k = some c) (hprepared : p.state = .prepared)
    (hfirst : p.askSent = false) (hhome : s.epochHome c.comp c.desc.span ≠ s.nodeNo) : exec (.prepTimeout k coord seq) s =
      .next (((s.reach p.deadline).part! k coord seq (fun p => { p with askSent := true })).sendUpd (s.epochHome c.comp c.desc.span) k
        (.outcomeAsk k coord seq)) := by
  change execPrepTimeout k coord seq s = _
  simp only [execPrepTimeout, hpart, hcoll, if_neg (asks_of_prepared hprepared hfirst), if_pos hhome, ok]

/-- At the epoch home itself the part takes the outcome that the home judges. -/
theorem exec_prepTimeout_home {t : State} (hpart : s.part k coord seq = some p) (hcoll : s.coll k = some c) (hprepared : p.state = .prepared)
    (hfirst : p.askSent = false) (hhome : s.epochHome c.comp c.desc.span = s.nodeNo)
    (hjudge : (s.reach p.deadline).judgeOutcome k coord seq = some (o, t)) :
    exec (.prepTimeout k coord seq) s = .next (t.partOutcome k coord seq o) := by
  change execPrepTimeout k coord seq s = _
  simp only [execPrepTimeout, hpart, hcoll, if_neg (asks_of_prepared hprepared hfirst), if_neg (not_not_intro hhome), hjudge, ok]

/-- A prepared part that has asked takes the outcome that it is answered. -/
theorem exec_outcomeReply (hpart : s.part k coord seq = some p) (hprepared : p.state = .prepared) (hasked : p.askSent = true) :
    exec (.outcomeReply k coord seq o) s = .next (s.partOutcome k coord seq o) := by
  change execOutcomeReply k coord seq o s = _
  simp only [execOutcomeReply, hpart, if_pos (And.intro hprepared hasked), ok]

/-! ### Commit (R191 step 4, R100, R608) -/

/-- A prepared part of another coordinator commits, and its home reports it. -/
theorem exec_partCommit_prepared (hcoll : s.coll k = some c) (hparts : s.partsOf k coord seq = [p]) (hother : coord ≠ s.nodeNo)
    (hprepared : p.state = .prepared) (hepoch : e ≠ 0) (hpubs : s.pubsWait c = false) :
    exec (.partCommit k coord seq e) s = .next ((s.commitPart k coord p.seq e).sendUpd coord k (.commitReport k seq)) := by
  change execPartCommit k coord seq e s = _
  have hdue : [p].filter (fun q => decide (q.state = .prepared)) = [p] := List.filter_cons_of_pos (decide_eq_true hprepared)
  have hwaits : ¬ (e = 0 ∨ s.pubsWait c = true) := by simp [hepoch, hpubs]
  simp only [execPartCommit, hcoll, hparts, hdue, if_neg hother, if_neg hwaits]
  rfl

/-- Parts that are committed already are reported again, and nothing is applied twice. -/
theorem exec_partCommit_again {rest : List Part} (hcoll : s.coll k = some c) (hparts : s.partsOf k coord seq = p :: rest)
    (hother : coord ≠ s.nodeNo) (hcommitted : (p :: rest).all (fun q => decide (q.state = .committed)) = true) :
    exec (.partCommit k coord seq e) s = .next (s.sendUpd coord k (.commitReport k seq)) := by
  change execPartCommit k coord seq e s = _
  have hdue : (p :: rest).filter (fun q => decide (q.state = .prepared)) = [] := by
    refine List.filter_eq_nil_iff.2 fun q hq => ?_
    rw [of_decide_eq_true (List.all_eq_true.1 hcommitted q hq)]
    decide
  simp only [execPartCommit, hcoll, hparts, hdue, hcommitted, if_neg hother, if_true, ok]

end Part

/-! ### The coordinator (R191, R194, R200, R442, R612) -/

/-- What a home has done with its operations replaces them in the batch, in their order: the operations that result, and the outcomes left over. -/
def UpdBatch_merged (u : UpdBatch) (h : Nat) (l : List UpdOp) : List UpdOp × List UpdOp :=
  u.ops.foldl (fun (acc : List UpdOp × List UpdOp) o =>
    if o.done ∨ o.home ≠ h then (acc.1 ++ [o], acc.2)
    else match acc.2 with | q :: rest => (acc.1 ++ [{ q with done := true }], rest) | [] => (acc.1 ++ [o], [])) ([], l)

/-- A home has prepared its part: the batch takes the outcomes, and asks for its epoch once no part is left to send. -/
def State.homePrepared (s : State) (b : Nat) (u : UpdBatch) (h : Nat) (l : List UpdOp) : State :=
  let s1 := s.upd! b (fun v => { v with ops := if v.migr.isSome then v.ops else (UpdBatch_merged u h l).1, homes := v.homes ++ [h], sent := none })
  if u.parts = [] then s1.askEpoch b else s1

section Coordinator

variable {s : State} {b h v : Nat} {rest : List Nat} {p : Part} {x : Batch} {c : Coll} {m : Msg} {u : UpdBatch} {l : List UpdOp}
  (hupd : Tbl.find b s.search.upds = some u)
include hupd

/-- The part of the first home left is sent, unless an earlier batch has to be prepared there first. -/
theorem exec_partSend (hruns : s.updRuns b u = true) (hstage : u.stage = .preparing) (hidle : u.sent = none)
    (hparts : u.parts = h :: rest) (hlive : s.nodeLost h = false) (hturn : s.sendWaits u h = false) : exec (.partSend b) s =
    .next (let s1 := s.upd! b (fun u => { u with sent := some h, parts := rest })
      if h = s.nodeNo then s1 else (s1.sendUpd h u.coll (.part u.coll (UpdBatch_partSeq u h) (opsAt u h))).count Reg.LCK_CNT0 2 1) := by
  change execPartSend b s = _
  simp only [execPartSend, hupd, hruns, hstage, hidle, hparts, hlive, hturn]
  rfl

section Answer

variable (hsent : u.sent = some h)
include hsent

/-- Another node's outcomes are those that it reports. -/
theorem exec_partPrepared_other (hother : h ≠ s.nodeNo) : exec (.partPrepared b h l) s = .next (s.homePrepared b u h l) := by
  change execPartPrepared b h l s = _
  simp only [execPartPrepared, hupd, if_neg (not_not_intro hsent), if_neg hother]
  rfl

/-- A home bounced the part: the batch waits for a map as late as the home's. -/
theorem exec_updatePartReroute_wait : exec (.updatePartReroute b h v false) s = .next (s.partBounced b v) := by
  change execUpdatePartReroute b h v false s = _
  simp only [execUpdatePartReroute, hupd, if_neg (not_not_intro hsent)]
  rfl

/-- A home does not hold the collection: the operations that it should have taken fail. -/
theorem exec_updatePartReroute_fail : exec (.updatePartReroute b h v true) s = .next (
    let s1 := s.upd! b (fun u => { u with sent := none, ops := u.ops.map (fun o => if !o.done ∧ o.home = h then o.fail stBad 0x010B else o) })
    if u.parts = [] then s1.askEpoch b else s1) := by
  change execUpdatePartReroute b h v true s = _
  simp only [execUpdatePartReroute, hupd, if_neg (not_not_intro hsent)]
  rfl

end Answer

/-- This node's own outcomes are those of its prepared part. -/
theorem exec_partPrepared_own (hsent : u.sent = some s.nodeNo)
    (hpart : s.part u.coll s.nodeNo (UpdBatch_partSeq u s.nodeNo) = some p) (hprepared : p.state = .prepared) :
    exec (.partPrepared b s.nodeNo l) s = .next (s.homePrepared b u s.nodeNo p.ops) := by
  change execPartPrepared b s.nodeNo l s = _
  simp only [execPartPrepared, hupd, if_neg (not_not_intro hsent), if_true, hpart, if_pos hprepared]
  rfl

/-- A home is counted as reported once, this node itself only when every part of the batch here is committed. -/
theorem exec_commitReport (hstage : u.stage = .committing) (hhome : u.homes.contains h = true) (hfirst : u.reports.contains h = false)
    (hhere : (decide (h ≠ s.nodeNo) || (!(s.partsOf u.coll s.nodeNo u.seq).isEmpty
      && (s.partsOf u.coll s.nodeNo u.seq).all (fun p => decide (p.state = .committed)))) = true) :
    exec (.commitReport b h) s = .next ((s.upd! b (fun u => { u with reports := u.reports ++ [h] })).tryReport b) := by
  change execCommitReport b h s = _
  simp only [execCommitReport, hupd, hhere]
  rw [if_neg (by simp only [hstage, hhome, hfirst]; decide)]
  rfl

/-- Another home reports its commit. -/
theorem exec_commitReport_other (hstage : u.stage = .committing) (hother : h ≠ s.nodeNo) (hhome : u.homes.contains h = true)
    (hfirst : u.reports.contains h = false) :
    exec (.commitReport b h) s = .next ((s.upd! b (fun u => { u with reports := u.reports ++ [h] })).tryReport b) :=
  exec_commitReport hupd hstage hhome hfirst (by rw [decide_eq_true hother, Bool.true_or])

/-- This node itself reports its commit. -/
theorem exec_commitReport_own (hstage : u.stage = .committing) (hparts : s.partsOf u.coll s.nodeNo u.seq ≠ [])
    (hcommitted : (s.partsOf u.coll s.nodeNo u.seq).all (fun p => decide (p.state = .committed)) = true)
    (hhome : u.homes.contains s.nodeNo = true) (hfirst : u.reports.contains s.nodeNo = false) :
    exec (.commitReport b s.nodeNo) s = .next ((s.upd! b (fun u => { u with reports := u.reports ++ [s.nodeNo] })).tryReport b) :=
  exec_commitReport hupd hstage hhome hfirst (by simp [hcommitted, hparts])

/-- Once its epoch is stable a batch writes its completion records and replies (R180, R191 step 5). -/
theorem exec_updateComplete (hbatch : s.batch b = some x) (hcoll : s.coll u.coll = some c)
    (hmsg : x.msg = some m) (hmigr : u.migr = none) (htorn : x.torn = none)
    (hstage : u.stage = .stableWait ∨ (u.stage = .reporting ∧ s.epochHome c.comp c.desc.span ≠ s.nodeNo)) (hstable : u.epoch ≤ c.lastEpoch) :
    exec (.updateComplete b) s = .next (
      let good := (u.ops.filter (fun o => decide (o.status = 0))).length
      let s2 := ((s.output m u.complAddr (u.ops.flatMap (fun o => o.record s.nodeNo u.epoch))).dropPart u.coll s.nodeNo u.seq).search! (fun y => { y with
        upds := Tbl.erase b y.upds })
      (if u.epoch = 0 then s2 else s2.count Reg.LCK_CNT0 1 1).replyBatch b (updStatus u.ops) 0
        (le 8 (if good = 0 then 0 else u.epoch) ++ le 2 good ++ le 2 (u.ops.length - good) ++ le 4 0)) := by
  change execUpdateComplete b s = _
  have hends : ¬ (u.migr.isSome = true ∨ x.torn ≠ none ∨ (!(decide (u.stage = .stableWait)
      || (decide (u.stage = .reporting) && decide (s.epochHome c.comp c.desc.span ≠ s.nodeNo)))) = true ∨ c.lastEpoch < u.epoch) := by
    have hover : (decide (u.stage = .stableWait) || (decide (u.stage = .reporting) && decide (s.epochHome c.comp c.desc.span ≠ s.nodeNo))) = true := by
      simpa using hstage
    rw [hover]
    simp [hmigr, htorn, hstable]
  simp only [execUpdateComplete, hupd, hbatch, hcoll, hmsg, if_neg hends]
  rw [hmigr]
  rfl

end Coordinator

/-- Settles O14, clause by clause: each clause is the law above of its command, in the case that the clause's conditions name. -/
theorem updateBatches : Obligations.UpdateBatches := by
  unfold Obligations.UpdateBatches
  refine ⟨acts_updBatch, ?partSend, ?arriveOther, ?arriveOwn, ?partPrepare, ?preparedOther, ?preparedOwn, ?rerouteWait, ?rerouteFail, ?commit,
    ?commitAgain, ?reportOther, ?reportOwn, ?complete, ?timeoutAsk, ?timeoutHome, ?outcome⟩
  case partSend => exact fun s b u h rest => exec_partSend
  case arriveOther => exact fun s p c hnew hother hjudge hcoll => exec_partArrive_other hnew hcoll hother hjudge
  case arriveOwn => exact fun s p u c hnew _ hmine hjudge hcoll => exec_partArrive_own hnew hcoll hmine hjudge
  case partPrepare => exact fun s t f k coord seq p c d done => exec_partPrepare
  case preparedOther => exact fun s b u h l => exec_partPrepared_other
  case preparedOwn => exact fun s b u p l => exec_partPrepared_own
  case rerouteWait => exact fun s b u h v => exec_updatePartReroute_wait
  case rerouteFail => exact fun s b u h v => exec_updatePartReroute_fail
  case commit => exact fun s k coord seq e c p => exec_partCommit_prepared
  case commitAgain => exact fun s k coord seq e c p rest => exec_partCommit_again
  case reportOther => exact fun s b u h => exec_commitReport_other
  case reportOwn => exact fun s b u => exec_commitReport_own
  case complete => exact fun s b u x c m => exec_updateComplete
  case timeoutAsk => exact fun s k coord seq p c => exec_prepTimeout_ask
  case timeoutHome => exact fun s k coord seq p c o t => exec_prepTimeout_home
  case outcome => exact fun s k coord seq p o => exec_outcomeReply

end Sys2Proof.Machine
end

section
/-! Epochs and their home (R184, R185, R191 step 3, R193, R195, R440, R554, R607): what each of these commands answers where its conditions hold. -/

namespace Sys2Proof.Machine

/-! ### Requests at the epoch home (R184, R193, R554, R607) -/

/-- The epoch home answers another node's request with the outcome of its batch; a batch that it finds aborted is aborted here too. -/
def State.answerEpochReq (s : State) (k coord seq : Nat) : Outcome2 → State
  | .epoch e => s.sendUpd coord k (.epochGrant k seq e)
  | .aborted x => (s.sendUpd coord k (.epochAbort k seq x)).abortPart k coord seq

section Request

variable {s t : State} {k coord seq v : Nat} {c : Coll} {h : EpochHome} {o : Outcome2} {u : Nat × UpdBatch} (hcoll : s.coll k = some c)
include hcoll

/-- Another node's request is answered as the epoch home grants it. -/
theorem exec_epochRequest_other (hhome : c.home = some h) (hother : coord ≠ s.nodeNo) (hopen : h.takeover = false)
    (hhere : s.epochHome c.comp c.desc.span = s.nodeNo) (hjudge : s.judgeMap c.comp v ≠ .hold) (hgrant : s.grantEpoch k coord seq = some (o, t)) :
    exec (.epochRequest k coord seq v) s = .next (t.answerEpochReq k coord seq o) := by
  change execEpochRequest k coord seq v s = _
  simp only [execEpochRequest, State.takeEpochReq, hcoll, hhome, decide_eq_true hother, if_neg hother, if_neg hjudge, if_neg (not_not_intro hhere),
    hopen, hgrant]
  cases o <;> rfl

/-- A node that is not the epoch home sends the coordinator on. -/
theorem exec_epochRequest_reroute (hhome : c.home = none) (hother : coord ≠ s.nodeNo) (hjudge : s.judgeMap c.comp v ≠ .hold) :
    exec (.epochRequest k coord seq v) s = .next (s.sendUpd coord k (.epochReroute k seq (s.mapVersion c.comp))) := by
  change execEpochRequest k coord seq v s = _
  simp only [execEpochRequest, State.takeEpochReq, hcoll, hhome, decide_eq_true hother, if_neg hother, if_neg hjudge]
  rfl

/-- A batch of the epoch home itself takes its epoch where it stands. -/
theorem exec_epochRequest_own (hhome : c.home = some h) (hupd : s.updOf k seq = some u) (hstage : u.2.stage = .wantEpoch)
    (hopen : h.takeover = false) (hhere : s.epochHome c.comp c.desc.span = s.nodeNo) (hjudge : s.judgeMap c.comp (s.mapVersion c.comp) ≠ .hold)
    (hgrant : s.grantEpoch k s.nodeNo seq = some (o, t)) : exec (.epochRequest k s.nodeNo seq v) s = .next t := by
  change execEpochRequest k s.nodeNo seq v s = _
  simp only [execEpochRequest, State.takeEpochReq, hcoll, hhome, hupd, decide_eq_true hstage, if_true, if_neg hjudge, if_neg (not_not_intro hhere),
    hopen, hgrant, Bool.or_true]
  rfl

end Request

/-! ### The answer at the coordinator (R191 step 3, R193, R554, R607) -/

section Answer

variable {s : State} {b e v : Nat} {u : UpdBatch} {mv : List (Nat × Nat)} {x : Bool} (hupd : Tbl.find b s.search.upds = some u)
  (hstage : u.stage = .wantEpoch) (hnone : u.epoch = 0) (haway : s.homeNode u.coll ≠ s.nodeNo)
include hupd hstage hnone haway

/-- A batch takes its epoch, which decides it. -/
theorem exec_epochGrant_decided (hmigr : u.migr = none) (hbits : s.search.bitWrites.find? (fun w => decide (w.seq = u.seq)) = none) :
    exec (.epochGrant b (.granted e)) s = .next (s.decided b u e) := by
  change execEpochGrant b (.granted e) s = _
  simp only [execEpochGrant, hupd, if_neg (not_not_intro hstage), if_neg (not_not_intro hnone), if_neg haway, hmigr, hbits, ok]

/-- A migration takes its epoch, and commits. -/
theorem exec_epochGrant_migration (hmigr : u.migr = some mv) :
    exec (.epochGrant b (.granted e)) s = .next (s.commitMigration b u mv e) := by
  change execEpochGrant b (.granted e) s = _
  simp only [execEpochGrant, hupd, if_neg (not_not_intro hstage), if_neg (not_not_intro hnone), if_neg haway, hmigr, ok]

/-- A node that is not the epoch home sends the batch on, to the epoch home of a map as late as that node's. -/
theorem exec_epochGrant_reroute : exec (.epochGrant b (.reroute v)) s = .next (if seqGe 32 (s.mapVersion (u.coll / 4096)) v then s.askEpoch b
    else s.upd! b (fun u => { u with needMap := v, needNs := s.now + s.mapGrace })) := by
  change execEpochGrant b (.reroute v) s = _
  simp only [execEpochGrant, hupd, if_neg (not_not_intro hstage), if_neg (not_not_intro hnone), if_neg haway, ok]

/-- A batch that the epoch home has aborted is aborted everywhere; BATCH_ABORT is logged unless the epochs have run out (R193, R554). -/
theorem exec_epochGrant_aborted (hmigr : u.migr = none)
    (hbits : (if x then s else s.logAbort (u.coll / 4096)).search.bitWrites.find? (fun w => decide (w.seq = u.seq)) = none) :
    exec (.epochGrant b (.aborted x)) s = .next
      ((if x then s else s.logAbort (u.coll / 4096)).abortBatch b (if x then stBad else stInternal) (if x then 0x010A else 0x0109)) := by
  change execEpochGrant b (.aborted x) s = _
  simp only [execEpochGrant, hupd, if_neg (not_not_intro hstage), if_neg (not_not_intro hnone), if_neg haway, hmigr, hbits, ok]

end Answer

/-! ### The stable epoch (R184, R185) -/

/-- An open epoch home counts every epoch that it has given. -/
theorem counts_of_given {h : EpochHome} {e : Nat} (hgiven : e < h.next) (hepoch : e ≠ 0) (hopen : h.takeover = false) :
    ¬ (h.next ≤ e ∨ e = 0 ∨ h.takeover = true) := by
  simp [hgiven, hepoch, hopen]

section Home

variable {s : State} {k e b : Nat} {c : Coll} {h : EpochHome} {u : UpdBatch} (hcoll : s.coll k = some c)
include hcoll

section Complete

variable (hhome : c.home = some h) (hgiven : e < h.next) (hepoch : e ≠ 0) (hopen : h.takeover = false)
include hhome hgiven hepoch hopen

/-- The epoch home counts an epoch of another node's batch complete. -/
theorem exec_epochComplete_other (hupd : s.search.upds.find? (fun u => decide (u.2.coll = k) && decide (u.2.epoch = e)) = none) :
    exec (.epochComplete k e) s = .next (s.epochDone k e) := by
  change execEpochComplete k e s = _
  simp only [execEpochComplete, hcoll, Option.bind_some, hhome, if_neg (counts_of_given hgiven hepoch hopen), hupd, ok]

/-- The same of a batch of its own, which then waits for the stable epoch. -/
theorem exec_epochComplete_own
    (hupd : s.search.upds.find? (fun u => decide (u.2.coll = k) && decide (u.2.epoch = e)) = some (b, u)) (hstage : u.stage = .reporting) :
    exec (.epochComplete k e) s = .next ((s.epochDone k e).upd! b (fun u => { u with stage := .stableWait })) := by
  change execEpochComplete k e s = _
  simp only [execEpochComplete, hcoll, Option.bind_some, hhome, if_neg (counts_of_given hgiven hepoch hopen), hupd, if_pos hstage, ok]

end Complete

/-- The epoch home tells the other nodes a stable epoch that it has not told them yet. -/
theorem exec_stableEpochPush (hhome : c.home = some h) (hnew : h.pushed < h.stable) : exec (.stableEpochPush k) s =
    .next ((s.others c.comp c.desc.span).foldl (fun t n => t.sendUpd n k (.stable k h.stable))
      ((s.reach (h.lastPushNs + us (s.fld Reg.LCK_TIMING 0 16))).coll! k (fun c => { c with home := some { h with
        pushed := h.stable, lastPushNs := (s.reach (h.lastPushNs + us (s.fld Reg.LCK_TIMING 0 16))).now } }))) := by
  change execStableEpochPush k s = _
  simp only [execStableEpochPush, hcoll, hhome, if_neg (Nat.not_le.2 hnew), ok]

/-- A later stable epoch rises here, and committed parts of other nodes up to it are forgotten. -/
theorem exec_stableEpochReceive (hhome : c.home = none) (hlater : c.lastEpoch < e) : exec (.stableEpochReceive k e) s =
    .next ((s.raiseStable k e).search! (fun x => { x with
      parts := x.parts.filter (fun p => !(decide (p.coll = k) && decide (p.state = .committed) && decide (p.epoch ≤ e)
        && decide (p.coord ≠ s.nodeNo))) })) := by
  change execStableEpochReceive k e s = _
  have hrises : ¬ (c.home.isSome = true ∨ e ≤ c.lastEpoch) := by simp [hhome, hlater]
  simp only [execStableEpochReceive, hcoll, if_neg hrises, ok]

/-! ### A new epoch home (R195, R607) -/

/-- A new epoch home that no survivor and no batch or part here tells of an epoch goes on after the last stable one. -/
theorem exec_epochHomeTakeover_nothing (hhome : c.home = some h) (htakeover : h.takeover = true)
    (hhere : s.epochHome c.comp c.desc.span = s.nodeNo) (hupds : s.search.upds = []) (hparts : s.search.parts = []) :
    exec (.epochHomeTakeover k []) s = .next ((((s.coll! k (fun x => { x with
      home := some (advance 1 ⟨c.lastEpoch + 1, c.lastEpoch, [], [], false, 0, 0⟩) })).raiseStable k
        (advance 1 ⟨c.lastEpoch + 1, c.lastEpoch, [], [], false, 0, 0⟩).stable).answerChecks k).resumeEpochs k) := by
  change execEpochHomeTakeover k [] s = _
  have htakes : ¬ ((!h.takeover) = true ∨ s.epochHome c.comp c.desc.span ≠ s.nodeNo) := by simp [htakeover, hhere]
  have hmax : Nat.max c.lastEpoch (maxL []) = c.lastEpoch := Nat.max_eq_left (Nat.zero_le _)
  simp only [execEpochHomeTakeover, hcoll, hhome, if_neg htakes, hupds, hparts, List.filter_nil, List.map_nil, List.flatMap_nil, List.append_nil, hmax,
    Nat.sub_self, List.range_zero, List.length_nil, ok]

end Home

/-- Settles O15, clause by clause: each clause is the law above of its command, in the case that the clause's conditions name. -/
theorem epochs : Obligations.Epochs := by
  unfold Obligations.Epochs
  refine ⟨?requestOther, ?requestReroute, ?requestOwn, ?decided, ?migration, ?reroute, ?aborted, ?completeOther, ?completeOwn, ?push, ?receive,
    ?takeover⟩
  case requestOther =>
    intro s t k coord seq v c h o hcoll hhome hother hopen hhere hjudge hgrant
    rw [exec_epochRequest_other hcoll hhome hother hopen hhere hjudge hgrant]
    cases o <;> rfl
  case requestReroute => exact fun s k coord seq v c => exec_epochRequest_reroute
  case requestOwn => exact fun s t k seq v c h o u => exec_epochRequest_own
  case decided => exact fun s b u e => exec_epochGrant_decided
  case migration => exact fun s b u e mv => exec_epochGrant_migration
  case reroute => exact fun s b u v => exec_epochGrant_reroute
  case aborted => exact fun s b u x => exec_epochGrant_aborted
  case completeOther => exact fun s k e c h => exec_epochComplete_other
  case completeOwn => exact fun s k e c h b u => exec_epochComplete_own
  case push => exact fun s k c h => exec_stableEpochPush
  case receive => exact fun s k e c => exec_stableEpochReceive
  case takeover => exact fun s k c h => exec_epochHomeTakeover_nothing

end Sys2Proof.Machine
end

section
/-! The vector unit, the bound path and the selection network (R53, R256 to R259, R262): what each instruction answers where its conditions hold, and
what it leaves unchanged where its sources read without an SRAM error. -/

namespace Sys2Proof

theorem Tbl.upd_id {α : Type} (k : Nat) (t : Tbl α) : Tbl.upd k id t = t := by
  induction t with
  | nil => rfl
  | cons x t ih => obtain ⟨j, a⟩ := x; simp only [Tbl.upd, ih, id_eq, ite_self]

/-- Two updates of an entry are one. -/
theorem Tbl.upd_upd {α : Type} (k : Nat) (f g : α → α) (t : Tbl α) : Tbl.upd k g (Tbl.upd k f t) = Tbl.upd k (g ∘ f) t := by
  induction t with
  | nil => rfl
  | cons x t ih => obtain ⟨j, a⟩ := x; by_cases h : j = k <;> simp [Tbl.upd, h, ih]

end Sys2Proof

namespace Sys2Proof.Machine

open Sys2Proof.Claims

/-! ### What an instruction answers -/

/-- An instruction of the right form whose operands are not poisoned acts. -/
theorem onRegs_of_issues {s : State} {n t : Nat} {k : Task} {okForm : Bool} {reads : List Nat} {f : Nat → Task → State} (h : Issues s n t k reads)
    (hform : okForm = true) : onRegs s n okForm reads f = .next (f t k) := by
  obtain ⟨hcore, hrunning, hclear⟩ := h
  rw [onRegs, onTask, onUnit_pos (decide_eq_true hcore), hrunning, hform]
  simp only [Bool.not_true, Bool.false_eq_true, if_false, hclear]

/-- A vector instruction of the right form on registers that exist writes its results and ends, whatever errors its sources read with. -/
theorem onVec_of_vec {s : State} {n t : Nat} {k : Task} {okForm : Bool} {reads dst ecc : List Nat} {par : Option Nat} {f : State → State}
    (h : Vec s n t k reads dst par) (hform : okForm = true) :
    onVec s n okForm reads dst par ecc f = .next ((f s).vecEnd n k reads dst (s.regEcc n reads ecc)) := by
  obtain ⟨hissues, hdst, hreads, rfl⟩ := h
  exact onRegs_of_issues hissues (by rw [hform, hdst, hreads]; rfl)

theorem onVec1_of_vec {s : State} {n t : Nat} {k : Task} {a : VArgs} {f : Nat → Nat} (h : Vec s n t k [a.va] (a.ty.dst a.vd) a.parity)
    (hfp : a.ty.fp = true) : onVec1 s n a f = .next ((s.vdst n a.ty a.vd ((s.vsrc n a.ty a.va).map f)).vecEnd n k [a.va] (a.ty.dst a.vd)
      (s.regEcc n [a.va] a.ecc)) := onVec_of_vec h hfp

theorem onVec2_of_vec {s : State} {n t : Nat} {k : Task} {okForm : Bool} {a : VArgs} {fp int : Nat → Nat → Nat}
    (h : Vec s n t k [a.va, a.vb] (a.ty.dst a.vd) a.parity) (hform : okForm = true) : onVec2 s n okForm a fp int = .next (
      (s.vdst n a.ty a.vd (List.zipWith (if a.ty.fp then fp else int) (s.vsrc n a.ty a.va) (s.vsrc n a.ty a.vb))).vecEnd n k [a.va, a.vb]
        (a.ty.dst a.vd) (s.regEcc n [a.va, a.vb] a.ecc)) := onVec_of_vec h hform

/-- The form of V.REDP (R257): FP32, and 1 to 4,096 elements. -/
theorem redpForm {ty : VTy} {m : Nat} (hty : ty = .f32) (hmin : 1 ≤ m) (hmax : m ≤ 4096) :
    (decide (ty = .f32) && decide (1 ≤ m) && decide (m ≤ 4096)) = true := by
  rw [decide_eq_true hty, decide_eq_true hmin, decide_eq_true hmax]; rfl

/-- The form of C.CX (R262): blocks of 2 to 128 entries, and a distance that is a power of two within the block. -/
theorem cxForm_iff {x y : Nat} : ((List.range 7).any (fun i => decide (x = 2 ^ (i + 1))) && (List.range 7).any (fun i => decide (y = 2 ^ i))
    && decide (y < x)) = true ↔ ∃ i j, x = 2 ^ (i + 1) ∧ y = 2 ^ j ∧ i < 7 ∧ j ≤ i := by
  simp only [Bool.and_eq_true, List.any_eq_true, List.mem_range, decide_eq_true_eq]
  constructor
  · rintro ⟨⟨⟨i, hi, rfl⟩, j, -, rfl⟩, hlt⟩
    exact ⟨i, j, rfl, rfl, hi, Nat.le_of_lt_succ ((Nat.pow_lt_pow_iff_right Nat.one_lt_two).1 hlt)⟩
  · rintro ⟨i, j, rfl, rfl, hi, hji⟩
    exact ⟨⟨⟨i, hi, rfl⟩, j, Nat.lt_of_le_of_lt hji hi, rfl⟩, Nat.pow_lt_pow_right Nat.one_lt_two (Nat.lt_succ_of_le hji)⟩

/-- Settles O28, clause by clause: each instruction is `onVec` of its operands and results; the bound path and the transcendental functions ask for a
floating-point type, V.REDP and C.CX for their own forms. -/
theorem vectorInstructions : Obligations.VectorInstructions := by
  unfold Obligations.VectorInstructions
  refine ⟨?vAdd, ?vMul, ?vMax, ?vFma, ?widenBf16, ?widenF16, ?narrowBf16, ?narrowF16, ?i32ToF32, ?vCmp, ?vSel, ?bAdd, ?bMul, ?bSqrt, ?bDiv, ?vExp2,
    ?vSqrt, ?vDiv, ?vRedp, ?cCx, ?cMerge⟩
  case vAdd => exact fun s n t k a h => show execVAdd n a s = _ from onVec2_of_vec h rfl
  case vMul => exact fun s n t k a h => show execVMul n a s = _ from onVec2_of_vec h rfl
  case vMax => exact fun s n t k a h => show execVMax n a s = _ from onVec2_of_vec h rfl
  case vFma => exact fun s n t k a h => show execVFma n a s = _ from onVec_of_vec h rfl
  case widenBf16 =>
    intro s n t k a h
    change execConvert n .widenBf16 a s = _
    rw [execConvert, onVec_of_vec h rfl]
  case widenF16 =>
    intro s n t k a h
    change execConvert n .widenF16 a s = _
    rw [execConvert, onVec_of_vec h rfl]
  case narrowBf16 =>
    intro s n t k a h
    change execConvert n .narrowBf16 a s = _
    rw [execConvert, onVec_of_vec h rfl]
  case narrowF16 =>
    intro s n t k a h
    change execConvert n .narrowF16 a s = _
    rw [execConvert, onVec_of_vec h rfl]
  case i32ToF32 =>
    intro s n t k a h
    change execConvert n .i32ToF32 a s = _
    rw [execConvert, onVec_of_vec h rfl]
  case vCmp => exact fun s n t k c a h => show execVCmp n c a s = _ from onVec_of_vec h rfl
  case vSel => exact fun s n t k a h => show execVSel n a s = _ from onVec_of_vec h rfl
  case bAdd => exact fun s n d t k a h hfp => show execBAdd n d a s = _ from onVec2_of_vec h hfp
  case bMul => exact fun s n d t k a h hfp => show execBMul n d a s = _ from onVec2_of_vec h hfp
  case bSqrt => exact fun s n d t k a h hfp => show execBSqrt n d a s = _ from onVec1_of_vec h hfp
  case bDiv => exact fun s n d t k a h hfp => show execBDiv n d a s = _ from onVec2_of_vec h hfp
  case vExp2 => exact fun s n t k a h hfp => show execVExp2 n a s = _ from onVec1_of_vec h hfp
  case vSqrt => exact fun s n t k a h hfp => show execVSqrt n a s = _ from onVec1_of_vec h hfp
  case vDiv => exact fun s n t k a h hfp => show execVDiv n a s = _ from onVec2_of_vec h hfp
  case vRedp => exact fun s n m t k a h hty hmin hmax => show execVRedp n m a s = _ from onVec_of_vec h (redpForm hty hmin hmax)
  case cCx => exact fun s n r i j t k h hi hji => show execCCx n r _ _ s = _ from onVec_of_vec h (cxForm_iff.2 ⟨i, j, rfl, rfl, hi, hji⟩)
  case cMerge => exact fun s n vd va vb t k h => show execCMerge n vd va vb s = _ from onVec_of_vec h rfl

/-! ### What it leaves unchanged -/

/-- A vector register is that of its core's entry. -/
theorem State.vreg_eq (s : State) (n r : Nat) : s.vreg n r = Tbl.getD r 0 ((Tbl.find n s.slc.cores).getD Core.reset).regs.v := rfl

/-- A core at its next instruction. -/
def nextPc (c : Core) : Core := { c with regs := { c.regs with pc := c.regs.pc + 8 } }

theorem State.pcNext_eq (s : State) (n : Nat) : s.pcNext n = s.core! n nextPc := rfl

/-- `g` changes of a core nothing but the vector registers of `ds`, and which of its registers are poisoned or bad. -/
structure WritesVec (ds : List Nat) (g : Core → Core) : Prop where
  core : ∀ c, { g c with regs := c.regs } = c
  regs : ∀ c, { (g c).regs with v := c.regs.v, poison := c.regs.poison, bad := c.regs.bad } = c.regs
  others : ∀ c r, r ∉ ds → Tbl.find r (g c).regs.v = Tbl.find r c.regs.v

theorem WritesVec.comp {ds : List Nat} {f g : Core → Core} (hf : WritesVec ds f) (hg : WritesVec ds g) : WritesVec ds (g ∘ f) where
  core c := by
    have hfc := hf.core c
    rwa [← hg.core (f c)] at hfc
  regs c := by
    have hfc := hf.regs c
    rwa [← hg.regs (f c)] at hfc
  others c r hr := (hg.others (f c) r hr).trans (hf.others c r hr)

/-- `t` is `s` after writes of vector registers of `ds` in core `n`. -/
def VecWrites (n : Nat) (ds : List Nat) (s t : State) : Prop := ∃ g, WritesVec ds g ∧ t = s.core! n g

section Writes

variable {n r : Nat} {ds : List Nat} {s t : State}

theorem VecWrites.refl (n : Nat) (ds : List Nat) (s : State) : VecWrites n ds s s := by
  refine ⟨id, ⟨fun _ => rfl, fun _ => rfl, fun _ _ _ => rfl⟩, ?_⟩
  rw [State.core!, State.slc!, Tbl.upd_id]

theorem VecWrites.core! {g : Core → Core} (h : VecWrites n ds s t) (hg : WritesVec ds g) : VecWrites n ds s (t.core! n g) := by
  obtain ⟨f, hf, rfl⟩ := h
  refine ⟨g ∘ f, hf.comp hg, ?_⟩
  simp only [State.core!, State.slc!, Tbl.upd_upd]

/-- A write of part of a register of `ds` is one of `ds`. -/
theorem VecWrites.vpart! {v : Nat} (h : VecWrites n ds s t) (hr : r ∈ ds) : VecWrites n ds s (t.vpart! n r v) := by
  refine h.core! ⟨fun _ => rfl, fun _ => rfl, fun c q hq => ?_⟩
  have hne : q ≠ r := fun e => hq (e ▸ hr)
  by_cases hv : v = 0
  · simp only [if_pos hv, Tbl.find_erase_other r q _ hne]
  · simp only [if_neg hv, Tbl.find_put_other r q v _ hne]

/-- So is a write of the whole register, which is then neither poisoned nor bad. -/
theorem VecWrites.vreg! {v : Nat} (h : VecWrites n ds s t) (hr : r ∈ ds) : VecWrites n ds s (t.vreg! n r v) :=
  (h.vpart! hr).core! ⟨fun _ => rfl, fun _ => rfl, fun _ _ _ => rfl⟩

/-- One register written. -/
theorem VecWrites.one (n r v : Nat) (s : State) : VecWrites n [r] s (s.vreg! n r v) := (VecWrites.refl n _ s).vreg! (List.mem_cons_self ..)

/-- Two registers written. -/
theorem VecWrites.two (n r q v w : Nat) (s : State) : VecWrites n [r, q] s ((s.vreg! n r v).vreg! n q w) :=
  ((VecWrites.refl n _ s).vreg! (List.mem_cons_self ..)).vreg! (List.mem_cons_of_mem _ (List.mem_cons_self ..))

/-- The results of an arithmetic instruction go into its destination registers, two for 16-bit sources. -/
theorem VecWrites.vdst (n : Nat) (ty : VTy) (r : Nat) (l : List Nat) (s : State) : VecWrites n (ty.dst r) s (s.vdst n ty r l) := by
  unfold State.vdst VTy.dst
  split
  · exact .two n r (r + 1) _ _ s
  · exact .one n r _ s

/-- Writes of vector registers, the count of RIL_CNT2 and the move of the pc are all that an instruction does of which `VecOnly` speaks. -/
theorem VecWrites.vecOnly (h : VecWrites n ds s t) : VecOnly n ds s ((t.rilCount n 2 1).pcNext n) := by
  obtain ⟨g, hg, rfl⟩ := h
  have hcores : (((s.core! n g).rilCount n 2 1).pcNext n).slc.cores = Tbl.upd n (nextPc ∘ g) s.slc.cores := by
    rw [State.pcNext_eq]
    exact Tbl.upd_upd ..
  have hflows : Flows (pRegs ||| pSlc ||| pFree) s (((s.core! n g).rilCount n 2 1).pcNext n) :=
    Flows.pcNext (Flows.rilCount (Flows.core! (.refl s) rfl) rfl) rfl
  refine ⟨hflows.toSame, ?counter, rfl, rfl, ?otherCores, ?registers, ?core⟩
  case counter =>
    intro a ha
    calc (((s.core! n g).rilCount n 2 1).pcNext n).raw a = ((s.core! n g).rilCount n 2 1).raw a := rfl
      _ = (s.core! n g).raw a := State.raw_count_other _ _ 2 _ a ha
      _ = s.raw a := rfl
  case otherCores =>
    intro m hm
    rw [hcores, Tbl.find_upd_other n m _ _ hm]
  case registers =>
    intro r hr
    rw [State.vreg_eq, State.vreg_eq, hcores, Tbl.find_upd_same]
    cases Tbl.find n s.slc.cores with
    | none => rfl
    | some c => exact congrArg (Option.getD · 0) (hg.others c r hr)
  case core =>
    intro c hc
    have hregs := hg.regs c
    refine ⟨nextPc (g c), by rw [hcores, Tbl.find_upd_same, hc]; rfl, hg.core c, ?_⟩
    exact ⟨(congrArg RillRegs.acc hregs :), (congrArg RillRegs.stat hregs :), (congrArg RillRegs.x hregs :), (congrArg (·.pc + 8) hregs :)⟩

/-- Where the sources read clean, an instruction ends with its count and the move of the pc: no register is poisoned and nothing is recorded. -/
theorem State.vecEnd_clean (t : State) (n : Nat) (k : Task) (reads ds : List Nat) :
    t.vecEnd n k reads ds .clean = (t.rilCount n 2 1).pcNext n := rfl

/-- An instruction that wrote `ds` and whose sources read clean ends with `VecOnly`. -/
theorem vecOnly_of_vecEnd {o : Host.Outcome State Fault Refusal} {k : Task} {reads : List Nat} {e : EccOutcome}
    (hnext : o = .next (t.vecEnd n k reads ds e)) (hclean : e = .clean) (hwrites : VecWrites n ds s t) : ∃ u, o = .next u ∧ VecOnly n ds s u := by
  rw [hclean, State.vecEnd_clean] at hnext
  exact ⟨_, hnext, hwrites.vecOnly⟩

end Writes

/-- Settles O60 from what each instruction answers (O28) and the registers that this answer writes. -/
theorem vectorFrame : Obligations.VectorFrame := by
  obtain ⟨vAdd, vMul, vMax, vFma, widenBf16, widenF16, narrowBf16, narrowF16, i32ToF32, vCmp, vSel, bAdd, bMul, bSqrt, bDiv, vExp2, vSqrt, vDiv, vRedp,
    cCx, cMerge⟩ := vectorInstructions
  unfold Obligations.VectorFrame
  refine ⟨?vAdd, ?vMul, ?vMax, ?vFma, ?vCmp, ?vSel, ?bAdd, ?bMul, ?bSqrt, ?bDiv, ?vExp2, ?vSqrt, ?vDiv, ?widenBf16, ?widenF16, ?narrowBf16, ?narrowF16,
    ?i32ToF32, ?vRedp, ?cCx, ?cMerge⟩
  case vAdd => exact fun s n t k a h hclean => vecOnly_of_vecEnd (vAdd s n t k a h) hclean (.vdst n a.ty a.vd _ s)
  case vMul => exact fun s n t k a h hclean => vecOnly_of_vecEnd (vMul s n t k a h) hclean (.vdst n a.ty a.vd _ s)
  case vMax => exact fun s n t k a h hclean => vecOnly_of_vecEnd (vMax s n t k a h) hclean (.vdst n a.ty a.vd _ s)
  case vFma => exact fun s n t k a h hclean => vecOnly_of_vecEnd (vFma s n t k a h) hclean (.vdst n a.ty a.vd _ s)
  case vCmp => exact fun s n t k c a h hclean => vecOnly_of_vecEnd (vCmp s n t k c a h) hclean (.one n a.vd _ s)
  case vSel => exact fun s n t k a h hclean => vecOnly_of_vecEnd (vSel s n t k a h) hclean (.one n a.vd _ s)
  case bAdd => exact fun s n t k d a h hclean hfp => vecOnly_of_vecEnd (bAdd s n d t k a h hfp) hclean (.vdst n a.ty a.vd _ s)
  case bMul => exact fun s n t k d a h hclean hfp => vecOnly_of_vecEnd (bMul s n d t k a h hfp) hclean (.vdst n a.ty a.vd _ s)
  case bSqrt => exact fun s n t k d a h hclean hfp => vecOnly_of_vecEnd (bSqrt s n d t k a h hfp) hclean (.vdst n a.ty a.vd _ s)
  case bDiv => exact fun s n t k d a h hclean hfp => vecOnly_of_vecEnd (bDiv s n d t k a h hfp) hclean (.vdst n a.ty a.vd _ s)
  case vExp2 => exact fun s n t k a h hclean hfp => vecOnly_of_vecEnd (vExp2 s n t k a h hfp) hclean (.vdst n a.ty a.vd _ s)
  case vSqrt => exact fun s n t k a h hclean hfp => vecOnly_of_vecEnd (vSqrt s n t k a h hfp) hclean (.vdst n a.ty a.vd _ s)
  case vDiv => exact fun s n t k a h hclean hfp => vecOnly_of_vecEnd (vDiv s n t k a h hfp) hclean (.vdst n a.ty a.vd _ s)
  case widenBf16 => exact fun s n t k a h hclean => vecOnly_of_vecEnd (widenBf16 s n t k a h) hclean (.two n a.vd (a.vd + 1) _ _ s)
  case widenF16 => exact fun s n t k a h hclean => vecOnly_of_vecEnd (widenF16 s n t k a h) hclean (.two n a.vd (a.vd + 1) _ _ s)
  case narrowBf16 => exact fun s n t k a h hclean => vecOnly_of_vecEnd (narrowBf16 s n t k a h) hclean (.one n a.vd _ s)
  case narrowF16 => exact fun s n t k a h hclean => vecOnly_of_vecEnd (narrowF16 s n t k a h) hclean (.one n a.vd _ s)
  case i32ToF32 => exact fun s n t k a h hclean => vecOnly_of_vecEnd (i32ToF32 s n t k a h) hclean (.one n a.vd _ s)
  case vRedp =>
    intro s n t k a m h hclean hty hmin hmax
    exact vecOnly_of_vecEnd (vRedp s n m t k a h hty hmin hmax) hclean ((VecWrites.refl n _ s).vpart! (List.mem_cons_self ..))
  case cCx =>
    intro s n t k r x y h hclean hform
    obtain ⟨i, j, rfl, rfl, hi, hji⟩ := cxForm_iff.1 hform
    exact vecOnly_of_vecEnd (cCx s n r i j t k h hi hji) hclean (.one n r.src _ s)
  case cMerge => exact fun s n t k d a b h hclean => vecOnly_of_vecEnd (cMerge s n d a b t k h) hclean (.one n d _ s)

end Sys2Proof.Machine
end

section
/-! The threshold keys of a cell's lanes (R84, R282): what THETA_PUSH raises, and what it leaves unchanged. -/

namespace Sys2Proof

/-- A lane that receives a key keeps the greater of that and its own (R282). -/
def Lane.receive (k : Nat) (x : Lane) : Lane := { x with key := max x.key k }

/-- A lower key is ignored; any other is the lane's new key. -/
theorem Lane.receive_eq_ite (k : Nat) (x : Lane) : x.receive k = { x with key := if k < x.key then x.key else k } := by
  by_cases hlower : k < x.key
  · rw [if_pos hlower, Lane.receive, Nat.max_eq_left (Nat.le_of_lt hlower)]
  · rw [if_neg hlower, Lane.receive, Nat.max_eq_right (Nat.le_of_not_lt hlower)]

end Sys2Proof

namespace Sys2Proof.Machine

/-- The θ of a query, and 0 where the query is gone. -/
def State.theta (s : State) (b q : Nat) : Nat := match s.query b q with | some y => y.theta | none => 0

theorem State.theta_eq_elim (s : State) (b q : Nat) : s.theta b q = (s.query b q).elim 0 (fun y => y.theta) := by
  unfold State.theta
  cases s.query b q <;> rfl

/-- A cell one of whose lanes receives a key, held to the θ of the lane's query (R84). -/
def State.pushKey (s : State) (l v : Nat) (c : Cell) : Cell :=
  { c with lanes := Tbl.upd l (fun x => x.receive (Nat.min v (s.theta x.batch x.query))) c.lanes }

/-- THETA_PUSH updates the one cell by `State.pushKey`. -/
theorem exec_thetaPush {s : State} {n l v : Nat} (hcell : n < 512) (hkey : v < 2 ^ 32) :
    exec (.thetaPush n l v) s = .next (s.cell! n (s.pushKey l v)) := by
  change execThetaPush n l v s = _
  rw [execThetaPush, onCell, onUnit_pos (decide_eq_true hcell), Nat.mod_eq_of_lt hkey]
  rfl

@[simp] theorem State.cell_upd_cells (s : State) (n : Nat) (f : Cell → Cell) : (s.cell! n f).mrc.cells = Tbl.upd n f s.mrc.cells := rfl

/-- Settles O41: the lane takes the greater of its key and the pushed one; another lane or cell is not the entry that the updates name, and the rest
of the state is outside the cells. -/
theorem greatestThetaKept : Obligations.GreatestThetaKept := by
  unfold Obligations.GreatestThetaKept
  rintro s n l v c x m hn hcell hlane hv rfl
  refine ⟨s.cell! n (s.pushKey l v), s.pushKey l v c, exec_thetaPush hn hv, ?cell, ?lane, fun k hk => Tbl.find_upd_other l k _ _ hk,
    fun k hk => ?otherCells, rfl, rfl, State.mrc_upd_regs .., State.mrc_upd_host .., State.mrc_upd_search .., State.mrc_upd_slc ..⟩
  case cell => rw [State.cell_upd_cells, Tbl.find_upd_same, hcell, Option.map_some]
  case lane => rw [State.pushKey, Tbl.find_upd_same, hlane, Option.map_some, Lane.receive_eq_ite, State.theta_eq_elim]
  case otherCells => rw [State.cell_upd_cells, Tbl.find_upd_other _ _ _ _ hk]

end Sys2Proof.Machine
end

section
/-! What holds of every command and step (R461, R467, R538): the queue of waiting commands is no command's business, and quarantine is silent. -/

namespace Sys2Proof.Machine

/-- A command that is no reset takes the node onward, within the command's parts, to the state that it answers. -/
theorem flows_of_exec {c : Instr} {s t : State} (hc : Resets c = false) (h : exec c s = .next t) : Flows (touches c) s t := by
  have hflows : FlowsX (touches c) s (exec c s) := flowsX_exec hc s
  rw [h] at hflows
  exact hflows

/-- Settles O57: an idle nanosecond touches neither Weir nor what the host has seen, and a command that is no reset takes the node onward. -/
theorem quarantineIsSilent : Obligations.QuarantineIsSilent := by
  unfold Obligations.QuarantineIsSilent
  intro s t h hresets hquar
  obtain ⟨-, rfl⟩ | ⟨c, rest, hqueue, hexec⟩ := step_cases h
  · exact ⟨hquar, rfl⟩
  · have honward := (flows_of_exec (hresets c rest hqueue) hexec).toOnward
    exact ⟨honward.staysQuarantined hquar, honward.quiet hquar⟩

/-- Settles O50: the queue is among what every command keeps, a reset too. -/
theorem queueLeftAlone : Obligations.QueueLeftAlone := by
  unfold Obligations.QueueLeftAlone
  exact fun c s t h => (kept_exec h).queue

/-- Settles O48 by the definition of a step: the queue is not empty (log 115). -/
theorem stepTakesFront : Obligations.StepTakesFront := by
  unfold Obligations.StepTakesFront
  exact fun c rest s => rfl

end Sys2Proof.Machine
end

section
/-! The mailboxes (R466, R467, R470, R471): what a write of a window, the submit write and the taking of a message leave, and what becomes of a message
without a usable reply area. -/

namespace Sys2Proof.Machine

open Sys2Proof.Claims

variable {s : State} {mb : Nat}

/-! ### Writes to a window (R466) -/

/-- A mailbox window of a live node is open where it is the admin mailbox's or VF Enable is 1 (R461, R486). -/
theorem State.mbAccess_of_live {off : Nat} {f : State → State} (hlive : Live s) (hopen : mb = 64 ∨ s.host.vfEnable = true) :
    s.mbAccess mb off f = f s := by
  obtain ⟨hheld, hquar⟩ := hlive
  have hserved : ¬ (s.weir.state = .quarantined ∨ (mb ≠ 64 ∧ s.host.vfEnable = false)) := by
    rintro (hq | ⟨hadmin, hoff⟩)
    · exact hquar hq
    · exact hopen.elim hadmin (Bool.eq_false_iff.1 hoff)
  rw [State.mbAccess, hheld, if_neg Bool.false_ne_true, if_neg hserved]

/-- A write above the submit doubleword goes into the window of a FREE mailbox and is discarded by any other. -/
theorem exec_mailboxWindowWrite {off : Nat} {bs : List Byte} (hlive : Live s) (hmb : mb ≤ 64) (hopen : mb = 64 ∨ s.host.vfEnable = true)
    (hoff : 8 ≤ off) (hbytes : bs ≠ []) : exec (.mailboxWindowWrite mb off bs) s = .next (if (s.box mb).state = .free
      then s.box! mb (fun b => { b with window := windowWrite b.window off bs }) else s.discardWrite mb) := by
  change execMailboxWindowWrite mb off bs s = _
  have hsubmit : ¬ (off = 0 ∧ bs.length = 8) := fun h => by omega
  rw [execMailboxWindowWrite, onUnit_pos (decide_eq_true hmb), State.mbAccess_of_live hlive hopen, if_neg hbytes, if_neg hsubmit]
  by_cases hfree : (s.box mb).state = .free
  · rw [if_pos hfree, if_neg (fun h => h.elim (Nat.not_lt.2 hoff) (fun hn => hn hfree))]
  · rw [if_neg hfree, if_pos (.inr hfree)]

/-- The submit write hands the window of a FREE mailbox over to Headwater. -/
theorem exec_submitWrite {v : Nat} (hlive : Live s) (hmb : mb ≤ 64) (hopen : mb = 64 ∨ s.host.vfEnable = true) (hfree : (s.box mb).state = .free) :
    exec (.submitWrite mb v) s =
      .next (s.box! mb (fun b => { b with state := .pending, window := Mem.writeBytes b.window 0 (le 8 v) })) := by
  change execSubmitWrite mb v s = _
  rw [execSubmitWrite, onUnit_pos (decide_eq_true hmb), State.mbAccess_of_live hlive hopen, State.submit, if_pos hfree]

/-! ### Taking a message (R467) -/

/-- The message that the window of a mailbox spells, as Headwater takes it. -/
def State.windowMsg (s : State) (mb : Nat) : Msg :=
  let req := Mem.readBytes (s.box mb).window 0 32
  ⟨mb, (s.box mb).takenSeq + 1, req, Mem.readBytes (s.box mb).window 0x40 (Nat.min (natAt req 2 2) 16320), s.now⟩

/-- The node with the window of a mailbox emptied and its message counted by HWD_CNT0. -/
def State.emptied (s : State) (mb : Nat) : State :=
  (s.box! mb (fun x => { x with window := [], state := .free, takenSeq := x.takenSeq + 1 })).count Reg.HWD_CNT0 0 1

/-- The same node with the message outstanding. -/
def State.enlisted (s : State) (mb : Nat) : State := (s.emptied mb).box! mb (fun x => { x with outstanding := x.outstanding + 1 })

/-- The node without a reply to the window's message: the mailbox names it and REPLY_AREA, and HWD_CNT2 counts it. -/
def State.unreplied (s : State) (mb : Nat) : State :=
  ((s.emptied mb).box! mb (fun x => { x with unrepliedSeq := (s.windowMsg mb).seq, unrepliedReason := 0x0F05 })).count Reg.HWD_CNT0 2 1

/-- Headwater takes the message of a PENDING mailbox where it takes messages and both limits of R467 leave room. -/
theorem exec_messageTake (hmb : mb ≤ 64) (hserves : s.takesMessages = true) (hpending : (s.box mb).state = .pending)
    (houtstanding : (s.box mb).outstanding < 1024) (hwaiting : s.batchesWaiting < 4096) : exec (.messageTake mb) s = .next (s.take mb) := by
  change execMessageTake mb s = _
  rw [execMessageTake, onUnit_pos (decide_eq_true hmb), hserves, decide_eq_true hpending, decide_eq_true houtstanding, decide_eq_true hwaiting]
  exact congrArg _ (if_pos rfl)

/-- A message that is taken is dropped without a usable reply area (R470), is refused where it fails a frame check (R471), and else waits for its
block. -/
theorem State.take_eq (s : State) (mb : Nat) : s.take mb =
    if (s.windowMsg mb).replyAddr % 64 ≠ 0 ∨ (s.windowMsg mb).replyLen < 64 then s.unreplied mb
    else match (s.enlisted mb).frameCheck (s.windowMsg mb) with
      | some r => ((s.enlisted mb).count Reg.HWD_CNT0 1 1).reply (s.windowMsg mb) stBad (frameRefusal (s.windowMsg mb) r)
      | none => (s.enlisted mb).box! mb (fun x => { x with inbox := x.inbox ++ [s.windowMsg mb] }) := by
  unfold State.take State.unreplied State.enlisted State.emptied State.windowMsg
  rfl

/-- Settles O2, clause by clause: each clause is the law above of its command; those of MESSAGE_TAKE are the three ends of a message that is taken. -/
theorem mailboxSubmitAndTake : Obligations.MailboxSubmitAndTake := by
  unfold Obligations.MailboxSubmitAndTake
  refine ⟨fun s mb off bs => exec_mailboxWindowWrite, fun s mb v => exec_submitWrite, ?messageTake⟩
  case messageTake =>
    intro s mb hmb hserves hpending houtstanding hwaiting
    have htake : exec (.messageTake mb) s = .next (s.take mb) := exec_messageTake hmb hserves hpending houtstanding hwaiting
    rw [State.take_eq] at htake
    refine ⟨fun harea => ?dropped, fun halign hlen hcheck => ?passed, fun r halign hlen hcheck => ?failed⟩
    case dropped => exact htake.trans (congrArg _ (if_pos harea))
    case passed =>
      have hchecked : (s.enlisted mb).frameCheck (s.windowMsg mb) = none := hcheck
      rw [htake, if_neg (fun h => h.elim (· halign) (Nat.not_lt.2 hlen)), hchecked]
      rfl
    case failed =>
      have hchecked : (s.enlisted mb).frameCheck (s.windowMsg mb) = some r := hcheck
      rw [htake, if_neg (fun h => h.elim (· halign) (Nat.not_lt.2 hlen)), hchecked]
      rfl

/-! ### A message without a usable reply area (R470) -/

/-- The mailbox of such a message names it and REPLY_AREA; its inbox and its count of outstanding messages stay. -/
theorem State.box_unreplied (hbox : (Tbl.find mb s.host.boxes).isSome = true) : (s.unreplied mb).box mb =
    { s.box mb with
      window := [], state := .free, takenSeq := (s.box mb).takenSeq + 1, unrepliedSeq := (s.box mb).takenSeq + 1, unrepliedReason := 0x0F05 } := by
  have hemptied : (Tbl.find mb (s.emptied mb).host.boxes).isSome = true := (State.has_box_upd s mb mb _).trans hbox
  rw [State.unreplied, State.box_count, State.box_box_upd _ _ _ hemptied, State.emptied, State.box_count, State.box_box_upd _ _ _ hbox]
  rfl

/-- HWD_CNT2 counts such a message. -/
theorem State.raw_unreplied (s : State) (mb : Nat) : (s.unreplied mb).raw (Reg.HWD_CNT0 + 8 * 2) = satAdd (s.raw (Reg.HWD_CNT0 + 8 * 2)) 1 := by
  have hother : Reg.HWD_CNT0 + 8 * 2 ≠ Reg.HWD_CNT0 + 8 * 0 := by decide
  rw [State.unreplied, State.raw_count_same, State.raw_box_upd, State.emptied, State.raw_count_other _ _ _ _ _ hother, State.raw_box_upd]

/-- Settles O40: the message is dropped by `State.unreplied`, which writes nothing for the host. -/
theorem droppedWithoutReply : Obligations.DroppedWithoutReply := by
  unfold Obligations.DroppedWithoutReply
  intro s mb hmb hbox hserves hpending houtstanding hwaiting harea
  have htake : exec (.messageTake mb) s = .next (s.unreplied mb) :=
    by
    rw [exec_messageTake hmb hserves hpending houtstanding hwaiting, State.take_eq]
    exact congrArg _ (if_pos harea)
  refine ⟨s.unreplied mb, htake, ?_⟩
  rw [State.box_unreplied hbox]
  exact ⟨rfl, rfl, rfl, rfl, rfl, rfl, State.raw_unreplied s mb⟩

end Sys2Proof.Machine
end

section
/-! Functions and the BAR2 window (R455, R458, R460, R463, R464, R487): what reads and writes of the window, Bus Master Enable, VF Enable and a Function
Level Reset leave, and in which order what waited goes out. -/

namespace Sys2Proof

/-- A function with Bus Master Enable back at 1, before it issues what waited (R460). -/
def Func.released (f : Func) : Func := { f with busMaster := true, waiting := [] }

end Sys2Proof

namespace Sys2Proof.Machine

open Sys2Proof.Claims

/-- A live node serves BAR0 and BAR2 of the PF (R461). -/
theorem State.urIfQuarantined_of_live {s : State} (h : Live s) (fn addr : Nat) (f : State → State) : s.urIfQuarantined fn addr f = f s := by
  obtain ⟨hheld, hquar⟩ := h
  rw [State.urIfQuarantined, hheld, if_neg Bool.false_ne_true, if_neg hquar]

section Window

variable {s : State} {off len k : Nat} {bs : List Byte} {o : Obj}

/-! ### The window (R463, R464, R487) -/

/-- A running node is not in recovery. -/
theorem running_ne_recovery {n : NodeState} (h : n = .running) : n ≠ .recovery := by rw [h]; decide

/-- A read inside the mapped buffer whose codewords have no injected error returns its bytes. -/
theorem exec_bar2Read_running (hlive : Live s) (hrun : s.host.nodeState = .running) (hwin : s.winBuf = some (k, o))
    (hin : s.fld Reg.HWD_WIN 16 20 * 65536 + off + len ≤ o.bytes) (hhits : o.hits (s.fld Reg.HWD_WIN 16 20 * 65536 + off) len = []) :
    exec (.bar2Read off len) s =
      .next (s.drive (.readData 0 off (Mem.readBytes o.data (s.fld Reg.HWD_WIN 16 20 * 65536 + off) len) o.poisoned)) := by
  change execBar2Read off len s = _
  rw [execBar2Read, State.urIfQuarantined_of_live hlive, if_neg (running_ne_recovery hrun)]
  simp only [hwin, if_neg (Nat.not_lt.2 hin), hhits, State.meetInjected, List.foldl_nil, List.any_nil, Bool.or_false]
  rfl

/-- In recovery mode a read inside the staging area returns its bytes. -/
theorem exec_bar2Read_recovery (hlive : Live s) (hrec : s.host.nodeState = .recovery) (hin : off + len ≤ stagingBytes) :
    exec (.bar2Read off len) s = .next (s.drive (.readData 0 off (Mem.readBytes s.host.staging off len) false)) := by
  change execBar2Read off len s = _
  have hbytes : (List.range len).map (fun i => if off + i < stagingBytes then Mem.read s.host.staging (off + i) else 0) =
      Mem.readBytes s.host.staging off len := by
    refine List.map_congr_left (fun i hi => if_pos ?_)
    have hlt : i < len := List.mem_range.1 hi
    omega
  rw [execBar2Read, State.urIfQuarantined_of_live hlive, if_pos hrec, hbytes]
  rfl

/-- A write inside the mapped buffer changes its bytes, and ends the injected errors of the codewords written whole. -/
theorem exec_bar2Write_running (hlive : Live s) (hrun : s.host.nodeState = .running) (hwin : s.winBuf = some (k, o))
    (hin : s.fld Reg.HWD_WIN 16 20 * 65536 + off + bs.length ≤ o.bytes) : exec (.bar2Write off bs) s =
      .next (let b := s.fld Reg.HWD_WIN 16 20 * 65536 + off
        s.obj! k (fun y => { y with
          data := Mem.writeBytes y.data b (clipBytes b y.bytes bs)
          injected := y.injected.filter (fun x => !(decide (b ≤ x.2 / 64 * 64) && decide (x.2 / 64 * 64 + 64 ≤ b + bs.length))) })) := by
  change execBar2Write off bs s = _
  rw [execBar2Write, State.urIfQuarantined_of_live hlive, if_neg (running_ne_recovery hrun)]
  simp only [hwin, if_neg (Nat.not_lt.2 hin)]
  rfl

end Window

section Functions

variable {s : State} {fn : Nat}

/-! ### Bus Master Enable (R460) -/

/-- While Bus Master Enable is 0 the function's events wait. -/
theorem exec_busMasterEnable_off (hheld : s.cru.held = false) (hfn : fn ≤ 64) :
    exec (.busMasterEnable fn false) s = .next (s.func! fn (fun f => { f with busMaster := false })) := by
  change execBusMasterEnable fn false s = _
  rw [execBusMasterEnable, onUnit_pos (decide_eq_true hfn), hheld]
  rfl

/-- When the bit returns to 1, the function issues again what waited. -/
theorem exec_busMasterEnable_on (hheld : s.cru.held = false) (hfn : fn ≤ 64) :
    exec (.busMasterEnable fn true) s = .next ((s.func fn).waiting.foldl (fun t e => t.emit fn e) (s.func! fn Func.released)) := by
  change execBusMasterEnable fn true s = _
  rw [execBusMasterEnable, onUnit_pos (decide_eq_true hfn), hheld]
  rfl

/-- A function updated is the function read, where the node has it. -/
theorem State.func_func_upd {f : Func} (g : Func → Func) (h : Tbl.find fn s.host.funcs = some f) : (s.func! fn g).func fn = g f := by
  simp only [State.func, State.func!, State.host!, Tbl.getD, Tbl.find_upd_same, h]
  rfl

/-- An update of a function leaves every other. -/
theorem State.func_func_upd_other {k : Nat} (g : Func → Func) (h : k ≠ fn) : (s.func! fn g).func k = s.func k := by
  simp only [State.func, State.func!, State.host!, Tbl.getD, Tbl.find_upd_other fn k g _ h]

/-- The host sees the events of a list, in its order. -/
def State.driveAll (s : State) (l : List HostEvt) : State := s.host! (fun h => { h with out := h.out ++ l })

/-- A function that may issue sends a list of events in its order. -/
theorem State.foldl_emit_sends (l : List HostEvt) : ∀ {s : State}, Live s → (s.func fn).suppressed = false → (s.func fn).busMaster = true →
    l.foldl (fun t e => t.emit fn e) s = s.driveAll l := by
  induction l with
  | nil =>
    intro s _ _ _
    simp only [List.foldl_nil, State.driveAll, State.host!, List.append_nil]
  | cons e l ih =>
    intro s hlive hsends hmaster
    rw [List.foldl_cons, State.emit_sends s fn e hlive.2 hlive.1 hsends hmaster, ih (s := s.drive e) hlive hsends hmaster]
    simp only [State.driveAll, State.drive, State.host!, List.append_assoc, List.singleton_append]

/-- Settles O42: an event waits by the rule of `State.emit`; a function with Bus Master Enable back at 1 sends each event that waited, which touches
neither another function nor any part but the host side. -/
theorem busMasterWaits : Obligations.BusMasterWaits := by
  unfold Obligations.BusMasterWaits
  refine ⟨fun s fn e hlive hsends hmaster => State.emit_waits s fn e hlive.2 hlive.1 hsends hmaster, ?release⟩
  case release =>
    intro s fn f hfn hlive hfind hsends
    have hfunc : s.func fn = f := congrArg (Option.getD · Func.reset) hfind
    have hreleased : (s.func! fn Func.released).func fn = f.released := State.func_func_upd _ hfind
    have hexec : exec (.busMasterEnable fn true) s = .next ((s.func! fn Func.released).driveAll f.waiting) := by
      rw [exec_busMasterEnable_on hlive.1 hfn, hfunc]
      refine congrArg _ (State.foldl_emit_sends f.waiting hlive ?_ ?_) <;> rw [hreleased]
      · exact hsends
      · rfl
    exact ⟨_, hexec, rfl, congrArg Func.waiting hreleased, congrArg Func.busMaster hreleased, fun k hk => State.func_func_upd_other _ hk,
      rfl, rfl, rfl, rfl⟩

/-! ### VF Enable and Function Level Reset (R455, R458) -/

/-- Outside recovery mode VF Enable takes the value written. -/
theorem exec_vfEnableWrite {on : Bool} (hheld : s.cru.held = false) (hstate : s.host.nodeState ≠ .recovery) :
    exec (.vfEnableWrite on) s = .next (s.host! (fun h => { h with vfEnable := on })) := by
  change execVfEnableWrite on s = _
  rw [execVfEnableWrite, hheld, if_neg Bool.false_ne_true, State.host!, decide_eq_true hstate, Bool.and_true]
  rfl

/-- A Function Level Reset of a VF mutes its mailbox, tears its contexts down and drops what it would still issue; the mailbox is then FREE where its
composition lives and CLOSED otherwise (R458). Bus Master Enable returns to 0 (log 26). -/
theorem exec_vfFunctionLevelReset {vf : Nat} (hlive : Live s) (henabled : s.host.vfEnable = true) (hmin : 1 ≤ vf) (hmax : vf ≤ 64) :
    exec (.vfFunctionLevelReset vf) s = .next (
      let s1 := s.mute (vf - 1)
      let s2 := (s1.slc.batches.filter (fun b => decide (b.2.comp = vf - 1) && b.2.msg.isSome)).foldl (fun t b => t.teardown b.1 stTorn) s1
      let s3 := s2.func! vf (fun f => { f with waiting := [], busMaster := false })
      s3.box! (vf - 1) (fun b => { b with
        window := [], state := if (match s3.comp (vf - 1) with | some x => x.destroy.isNone | none => false) then .free else .closed })) := by
  change execVfFunctionLevelReset vf s = _
  have hserved : ¬ (s.cru.held = true ∨ s.weir.state = .quarantined ∨ s.host.vfEnable = false) := by
    obtain ⟨hheld, hquar⟩ := hlive
    rintro (h | h | h)
    · exact Bool.eq_false_iff.1 hheld h
    · exact hquar h
    · exact Bool.eq_false_iff.1 h henabled
  rw [execVfFunctionLevelReset, onUnit_pos (by rw [decide_eq_true hmin, decide_eq_true hmax]; rfl)]
  exact congrArg Host.Outcome.next (if_neg hserved)

end Functions

/-- Settles O3, clause by clause: each clause is the law above of its command, in the case that the clause's conditions name. -/
theorem functionsAndWindow : Obligations.FunctionsAndWindow := by
  unfold Obligations.FunctionsAndWindow
  exact ⟨fun s off len k o => exec_bar2Read_running, fun s off len => exec_bar2Read_recovery, fun s off bs k o => exec_bar2Write_running,
    fun s fn hheld hfn => ⟨exec_busMasterEnable_off hheld hfn, exec_busMasterEnable_on hheld hfn⟩, fun s on => exec_vfEnableWrite,
    fun s vf => exec_vfFunctionLevelReset⟩

end Sys2Proof.Machine
end

section
/-! Host accesses to the registers of BAR0 (R8, R9, R13, R24, R263, R270, R438, R463, R533): what each leaves on a node that serves BAR0. -/

namespace Sys2Proof

/-- A field that a host write leaves and whose attempt is logged (R13). -/
def RField.guarded (f : RField) : Bool := decide (f.acc = .rwp) || decide (f.acc = .wpr)

/-- The map of RIL_FAULT (R270). -/
def rilFaultMap : RMap := ⟨0x600010, 1, 0, 256, 4096, [⟨63, 1, .w1c, .l, 0⟩, ⟨48, 8, .ro, .l, 0⟩, ⟨32, 16, .ro, .l, 0⟩, ⟨0, 32, .ro, .l, 0⟩]⟩

/-- An address below a map's first register is none of its registers. -/
theorem RMap.hits_below {m : RMap} {a : Nat} (h : a < m.base) : m.hits a = false := if_pos h

/-- An address beyond the last register of a map that stands once is none of its registers. -/
theorem RMap.hits_beyond {m : RMap} {a : Nat} (honce : m.cnt2 = 1) (hstep : m.step ≤ 8) (h : m.base + 8 * m.cnt ≤ a) (hcnt : 1 ≤ m.cnt) :
    m.hits a = false := by
  have hbase : ¬ a < m.base := by omega
  simp only [RMap.hits, if_neg hbase, honce, Nat.le_refl, if_true, Nat.zero_mul, Nat.sub_zero, Bool.and_eq_false_iff]
  refine .inr ?_
  split
  · exact decide_eq_false (by omega)
  · refine Bool.eq_false_iff.2 (fun hhit => ?_)
    obtain ⟨hmod, hlt⟩ := (Bool.and_eq_true _ _).mp hhit
    have hmod : (a - m.base) % m.step = 0 := of_decide_eq_true hmod
    have hpos : 0 < m.step := Nat.pos_of_ne_zero (fun h0 => by rw [h0, Nat.mod_zero] at hmod; omega)
    have hlast : a - m.base < m.cnt * m.step := (Nat.div_lt_iff_lt_mul hpos).1 (of_decide_eq_true hlt)
    have hbound : m.cnt * m.step ≤ m.cnt * 8 := Nat.mul_le_mul_left _ hstep
    omega

/-- Of the block of a core, a map that stands once in each block has the register at its own offset. -/
theorem RMap.hits_core {m : RMap} {a n d : Nat} (hcnt : m.cnt = 1) (hcores : m.cnt2 = 256) (hstep : m.step2 = 4096) (hn : n < 256) (hd : d < 4096)
    (ha : a = m.base + 4096 * n + d) : m.hits a = decide (d = 0) := by
  subst ha
  have hbase : ¬ m.base + 4096 * n + d < m.base := by omega
  have hcore : (m.base + 4096 * n + d - m.base) / 4096 = n := by omega
  have hoff : m.base + 4096 * n + d - m.base - n * 4096 = d := by omega
  have hmany : ¬ 256 ≤ 1 := by decide
  simp only [RMap.hits, if_neg hbase, hcnt, hcores, hstep, if_neg hmany, hcore, hoff, Nat.le_refl, if_true, decide_eq_true hn, Bool.true_and]

/-- The maps listed before RIL_FAULT: they stand once, above or below the blocks of the cores, or once in each block, below 0x10. -/
theorem regMaps0_before_rilFault : ∀ m ∈ regMaps0.take 20,
    0x700000 ≤ m.base ∨ (m.cnt2 = 1 ∧ m.step ≤ 8 ∧ m.base + 8 * m.cnt ≤ 0x600000 ∧ 1 ≤ m.cnt) ∨
    (m.cnt = 1 ∧ m.cnt2 = 256 ∧ m.step2 = 4096 ∧ 0x600000 ≤ m.base ∧ m.base < 0x600010) := by
  decide

/-- The register 0x10 bytes into the block of a core is RIL_FAULT. -/
theorem regAt_rilFault {n : Nat} (hn : n < 256) : regAt (0x600010 + 0x1000 * n) = some rilFaultMap := by
  have hsplit : regMaps = regMaps0.take 20 ++ rilFaultMap :: (regMaps0.drop 21 ++ (regMaps1 ++ (regMaps2 ++ regMaps3))) := rfl
  have hbefore : (regMaps0.take 20).find? (fun m => m.hits (0x600010 + 0x1000 * n)) = none := by
    refine List.find?_eq_none.2 (fun m hm => Bool.eq_false_iff.1 ?_)
    obtain habove | ⟨honce, hstep, hlast, hcnt⟩ | ⟨hcnt, hcores, hstep, hlow, hhigh⟩ := regMaps0_before_rilFault m hm
    · exact RMap.hits_below (by omega)
    · exact RMap.hits_beyond honce hstep (by omega) hcnt
    · rw [RMap.hits_core (d := 0x600010 - m.base) hcnt hcores hstep hn (by omega) (by omega)]
      exact decide_eq_false (by omega)
  have hfault : rilFaultMap.hits (0x600010 + 0x1000 * n) = true := RMap.hits_core (d := 0) rfl rfl rfl hn (by decide) rfl
  rw [regAt, hsplit, List.find?_append, hbefore, Option.none_or]
  exact List.find?_cons_of_pos hfault

end Sys2Proof

namespace Sys2Proof.Machine

open Sys2Proof.Claims

variable {s : State} {addr size v n : Nat}

/-! ### Discarded accesses (R9, R24, R263) -/

/-- A discarded access is logged, and a read returns zero. -/
theorem State.badAccess_eq_ite (s : State) (wr : Bool) (addr size why : Nat) : s.badAccess wr addr size why = if wr then s.logAccess true addr size why
    else (s.logAccess false addr size why).drive (.readData 0 addr (zeros size) false) := by
  cases wr <;> rfl

/-- An access of a wrong size or alignment is discarded. -/
theorem exec_badSizeAccess {wr : Bool} (hlive : Live s) (hbad : (size ≠ 4 ∧ size ≠ 8) ∨ addr % size ≠ 0) :
    exec (.badSizeAccess wr addr size) s = .next (s.badAccess wr addr size 0) := by
  change execBadSizeAccess wr addr size s = _
  rw [execBadSizeAccess, State.urIfQuarantined_of_live hlive, if_pos hbad]
  rfl

/-- An access to an address without a register is discarded. -/
theorem exec_unassignedAccess {wr : Bool} (hlive : Live s) (hwindow : 0x4000 ≤ addr) (hnone : regAt (addr / 8 * 8) = none) :
    exec (.unassignedAccess wr addr size) s = .next (s.badAccess wr addr size 1) := by
  change execUnassignedAccess wr addr size s = _
  have hunassigned : ¬ (addr < 0x4000 ∨ (regAt (addr / 8 * 8)).isSome = true) := by
    rw [hnone]
    exact fun h => h.elim (Nat.not_lt.2 hwindow) Bool.false_ne_true
  rw [execUnassignedAccess, State.urIfQuarantined_of_live hlive, if_neg hunassigned]
  rfl

/-- A write to the block of a disabled core is discarded; a read returns the fixed values of its register. -/
theorem exec_disabledCoreAccess {wr : Bool} (hlive : Live s) (hrun : s.host.nodeState = .running) (hlow : 0x600000 ≤ addr) (hhigh : addr < 0x700000)
    (hoff : s.coreOn ((addr - 0x600000) / 0x1000) = false) :
    exec (.disabledCoreAccess wr addr) s = .next (if wr then s.badAccess true addr 8 3
      else s.answerRead 0 addr (le 8 (s.rilView ((addr - 0x600000) / 0x1000) (addr % 0x1000))) false) := by
  change execDisabledCoreAccess wr addr s = _
  have hdisabled : ¬ (addr < 0x600000 ∨ 0x700000 ≤ addr ∨ s.coreOn ((addr - 0x600000) / 0x1000) = true ∨ s.host.nodeState = .recovery) := by
    rintro (h | h | h | h)
    · exact Nat.not_lt.2 hlow h
    · exact Nat.not_lt.2 h hhigh
    · exact Bool.eq_false_iff.1 hoff h
    · exact running_ne_recovery hrun h
  rw [execDisabledCoreAccess, State.urIfQuarantined_of_live hlive]
  exact congrArg _ (if_neg hdisabled)

/-! ### Writes that reach a register (R8, R11) -/

/-- A write of a right size to a register that the node's state does not hide, and that is not of a disabled core, reaches the register. -/
theorem State.bar0Write_eq_regWrite (hsize : size = 4 ∨ size = 8) (halign : addr % size = 0) (hwindow : 0x4000 ≤ addr)
    (hreg : (regAt (addr / 8 * 8)).isSome = true) (hshown : s.host.nodeState ≠ .recovery ∨ recoveryHides addr = false)
    (hcore : addr < 0x600000 ∨ 0x700000 ≤ addr ∨ s.coreOn ((addr - 0x600000) / 0x1000) = true) : s.bar0Write addr size v = s.regWrite addr size v := by
  have hright : ¬ ((size ≠ 4 ∧ size ≠ 8) ∨ addr % size ≠ 0) := by omega
  have hassigned : ¬ (regAt (addr / 8 * 8)).isNone = true := by rw [← Option.not_isSome, hreg]; exact Bool.false_ne_true
  have hvisible : ¬ (s.host.nodeState = .recovery ∧ recoveryHides addr = true) := fun h => hshown.elim (· h.1) (fun hf => Bool.eq_false_iff.1 hf h.2)
  have henabled : ¬ (0x600000 ≤ addr ∧ addr < 0x700000 ∧ (!s.coreOn ((addr - 0x600000) / 0x1000)) = true) := by
    rintro ⟨hlow, hhigh, hoff⟩
    rcases hcore with h | h | h
    · exact Nat.not_lt.2 hlow h
    · exact Nat.not_lt.2 h hhigh
    · rw [h] at hoff; exact Bool.false_ne_true hoff
  rw [State.bar0Write, if_neg hright, if_neg (Nat.not_lt.2 hwindow), if_neg hassigned, if_neg hvisible, if_neg henabled]

/-- The same, of the host's command. -/
theorem exec_registerWrite (hlive : Live s) (hsize : size = 4 ∨ size = 8) (halign : addr % size = 0) (hwindow : 0x4000 ≤ addr)
    (hreg : (regAt (addr / 8 * 8)).isSome = true) (hshown : s.host.nodeState ≠ .recovery ∨ recoveryHides addr = false)
    (hcore : addr < 0x600000 ∨ 0x700000 ≤ addr ∨ s.coreOn ((addr - 0x600000) / 0x1000) = true) :
    exec (.registerWrite addr size v) s = .next (s.regWrite addr size v) := by
  change execRegisterWrite addr size v s = _
  rw [execRegisterWrite, State.urIfQuarantined_of_live hlive, State.bar0Write_eq_regWrite hsize halign hwindow hreg hshown hcore]
  rfl

/-- An 8-byte write to a register without guarded fields logs nothing. -/
theorem State.regWrite_whole {m : RMap} (halign : addr % 8 = 0) (hreg : regAt addr = some m) (hopen : m.fields.any RField.guarded = false) :
    s.regWrite addr 8 v =
      if 0x600000 ≤ addr ∧ addr < 0x700000 then
        if addr % 0x1000 = 8 ∧ bit (v % 2 ^ 64) 8 = true then s.core! ((addr - 0x600000) / 0x1000) (fun c => { c with accSat := false })
        else if addr % 0x1000 = 0x10 then (if bit (v % 2 ^ 64) 63 = true then s.clearFault ((addr - 0x600000) / 0x1000) else s)
        else m.fields.foldl (fun t f => t.hostField addr (v % 2 ^ 64) 0 64 f) s
      else m.fields.foldl (fun t f => t.hostField addr (v % 2 ^ 64) 0 64 f) s := by
  have haddr : addr / 8 * 8 = addr := by omega
  have hlog : m.fields.any (fun f => (decide (f.acc = .rwp) || decide (f.acc = .wpr)) && decide (0 < f.lo + f.width) && decide (f.lo < 64)) = false := by
    refine List.any_eq_false.2 (fun f hf h => ?_)
    have hguarded : (decide (f.acc = .rwp) || decide (f.acc = .wpr)) = true := by
      simp only [Bool.and_eq_true] at h
      exact h.1.1
    exact List.any_eq_false.1 hopen f hf hguarded
  unfold State.regWrite
  simp only [haddr, hreg, halign, Nat.mul_zero, Nat.zero_add, if_true, hlog, Bool.false_eq_true, if_false, Nat.zero_le, true_and, and_true,
    Nat.le_refl]

/-- A write of a register outside the cores' blocks writes field by field. -/
theorem State.regWrite_fields {m : RMap} (halign : addr % 8 = 0) (hreg : regAt addr = some m) (hopen : m.fields.any RField.guarded = false)
    (hcore : addr < 0x600000 ∨ 0x700000 ≤ addr) : s.regWrite addr 8 v = m.fields.foldl (fun t f => t.hostField addr (v % 2 ^ 64) 0 64 f) s := by
  rw [State.regWrite_whole halign hreg hopen, if_neg (by omega)]

/-- HWD_WIN takes its three fields. -/
theorem State.regWrite_hwdWin (s : State) (v : Nat) : s.regWrite Reg.HWD_WIN 8 v =
    ((s.setFld Reg.HWD_WIN 48 16 (bits (v % 2 ^ 64) 48 16)).setFld Reg.HWD_WIN 16 20 (bits (v % 2 ^ 64) 16 20)).setFld Reg.HWD_WIN 0 1
      (bits (v % 2 ^ 64) 0 1) :=
  State.regWrite_fields (m := ⟨0x8008, 1, 0, 1, 0, [⟨48, 16, .rw, .l, 0⟩, ⟨16, 20, .rw, .l, 0⟩, ⟨0, 1, .rw, .l, 0⟩]⟩) (by decide) (by decide +kernel)
    (by decide) (.inl (by decide))

/-- SLC_CHARGE takes CONSUMED. -/
theorem State.regWrite_slcCharge (s : State) (v : Nat) :
    s.regWrite Reg.SLC_CHARGE 8 v = s.setFld Reg.SLC_CHARGE 0 32 (bits (v % 2 ^ 64) 0 32) :=
  State.regWrite_fields (m := ⟨0x100018, 1, 0, 1, 0, [⟨32, 32, .ro, .l, 0⟩, ⟨0, 32, .rw, .l, 0⟩]⟩) (by decide) (by decide +kernel)
    (by decide) (.inl (by decide))

/-- A 1 written to VALID of RIL_FAULT clears the recorded fault of the core (R270). -/
theorem State.regWrite_rilFault (s : State) {n : Nat} (hn : n < 256) : s.regWrite (0x600010 + 0x1000 * n) 8 (2 ^ 63) = s.clearFault n := by
  have hoff : (0x600010 + 0x1000 * n) % 0x1000 = 0x10 := by omega
  have hcore : (0x600010 + 0x1000 * n - 0x600000) / 0x1000 = n := by omega
  rw [State.regWrite_whole (by omega) (regAt_rilFault hn) (by decide), if_pos (by omega), hoff, hcore, if_neg (by decide), if_pos rfl, if_pos (by decide)]

/-- RIL_FAULT_CLEAR clears the recorded fault of an enabled core. -/
theorem exec_rilFaultClear (hlive : Live s) (hrun : s.host.nodeState = .running) (hn : n < 256) (hon : s.coreOn n = true) :
    exec (.rilFaultClear n) s = .next (s.clearFault n) := by
  change execRilFaultClear n s = _
  have haligned : (0x600010 + 0x1000 * n) / 8 * 8 = 0x600010 + 0x1000 * n := by omega
  have hcore : (0x600010 + 0x1000 * n - 0x600000) / 0x1000 = n := by omega
  have hwrite : s.bar0Write (0x600010 + 0x1000 * n) 8 (2 ^ 63) = s.regWrite (0x600010 + 0x1000 * n) 8 (2 ^ 63) :=
    State.bar0Write_eq_regWrite (.inr rfl) (by omega) (by omega) (by rw [haligned, regAt_rilFault hn]; rfl) (.inl (running_ne_recovery hrun))
      (.inr (.inr (by rw [hcore]; exact hon)))
  rw [execRilFaultClear, onUnit_pos (decide_eq_true hn), State.urIfQuarantined_of_live hlive, hwrite, State.regWrite_rilFault s hn]

/-- ERR_INT_PEND_CLEAR clears the bits of PEND that it names (R533). -/
theorem exec_errIntPendClear {mask : Nat} (hlive : Live s) (hrun : s.host.nodeState = .running) :
    exec (.errIntPendClear mask) s = .next (s.clearPend mask) := by
  change execErrIntPendClear mask s = _
  rw [execErrIntPendClear, State.urIfQuarantined_of_live hlive, if_neg (running_ne_recovery hrun)]
  rfl

/-- CONSUMED_WRITE stores CONSUMED of SLC_CHARGE (R438). -/
theorem exec_consumedWrite (hlive : Live s) (hrun : s.host.nodeState = .running) :
    exec (.consumedWrite v) s = .next (s.setFld Reg.SLC_CHARGE 0 32 (bits (v % 2 ^ 64) 0 32)) := by
  change execConsumedWrite v s = _
  have hwrite : s.bar0Write Reg.SLC_CHARGE 8 v = s.regWrite Reg.SLC_CHARGE 8 v :=
    State.bar0Write_eq_regWrite (.inr rfl) (by decide) (by decide) (by decide +kernel) (.inl (running_ne_recovery hrun)) (.inl (by decide))
  rw [execConsumedWrite, State.urIfQuarantined_of_live hlive, hwrite, State.regWrite_slcCharge]
  rfl

/-- HWD_WIN_WRITE stores the fields of HWD_WIN, in recovery mode too (R463, R486). -/
theorem exec_hwdWinWrite (hlive : Live s) : exec (.hwdWinWrite v) s = .next (
    ((s.setFld Reg.HWD_WIN 48 16 (bits (v % 2 ^ 64) 48 16)).setFld Reg.HWD_WIN 16 20 (bits (v % 2 ^ 64) 16 20)).setFld Reg.HWD_WIN 0 1
      (bits (v % 2 ^ 64) 0 1)) := by
  change execHwdWinWrite v s = _
  have hwrite : s.bar0Write Reg.HWD_WIN 8 v = s.regWrite Reg.HWD_WIN 8 v :=
    State.bar0Write_eq_regWrite (.inr rfl) (by decide) (by decide) (by decide +kernel) (.inr (by decide)) (.inl (by decide))
  rw [execHwdWinWrite, State.urIfQuarantined_of_live hlive, hwrite, State.regWrite_hwdWin]
  rfl

/-- Settles O1, clause by clause: each clause is the law above of its command. -/
theorem hostRegisterAccesses : Obligations.HostRegisterAccesses := by
  unfold Obligations.HostRegisterAccesses
  refine ⟨?registerWrite, ?badSize, ?unassigned, ?disabledCore, fun s n => exec_rilFaultClear, fun s mask => exec_errIntPendClear,
    fun s v => exec_consumedWrite, fun s v => exec_hwdWinWrite⟩
  case registerWrite =>
    intro s addr size v hlive hrun hsize halign hwindow hreg hcore
    exact exec_registerWrite hlive hsize halign hwindow hreg (.inl (running_ne_recovery hrun)) (hcore.imp_right .inl)
  case badSize => exact fun s wr addr size hlive hbad => by rw [exec_badSizeAccess hlive hbad, State.badAccess_eq_ite]
  case unassigned => exact fun s wr addr size hlive hwindow hnone => by rw [exec_unassignedAccess hlive hwindow hnone, State.badAccess_eq_ite]
  case disabledCore =>
    intro s addr hlive hrun hlow hhigh hoff
    exact ⟨exec_disabledCoreAccess (wr := true) hlive hrun hlow hhigh hoff, exec_disabledCoreAccess (wr := false) hlive hrun hlow hhigh hoff⟩

end Sys2Proof.Machine
end

section
/-! Weir's quarantine (R502), the test access port and the I3C targets (R500, R582, R584). -/

namespace Sys2Proof

/-- A link of a node that Weir quarantines: a live one sends QUARANTINE in trickle mode (R407). -/
def Link.quarantined (l : Link) : Link :=
  if l.state = .up ∨ l.state = .trickle then { l with state := .trickle, queue := [], out := l.out ++ [.ctl .quarantine] } else l

theorem Link.quarantined_of_live {l : Link} (h : l.state = .up ∨ l.state = .trickle) :
    l.quarantined = { l with state := .trickle, queue := [], out := l.out ++ [.ctl .quarantine] } := if_pos h

theorem Link.quarantined_not_up (l : Link) : l.quarantined.state ≠ .up := by
  by_cases h : l.state = .up ∨ l.state = .trickle
  · rw [Link.quarantined_of_live h]
    change LinkSt.trickle ≠ LinkSt.up
    decide
  · rw [Link.quarantined, if_neg h]; exact fun hup => h (.inl hup)

/-- Tributary after Weir quarantines the node: no session secret is left, and every link has entered its quarantine. -/
def TribSt.quarantined (t : TribSt) : TribSt :=
  { t with
    links := t.links.map (fun l => (l.1, l.2.quarantined))
    peers := t.peers.map (fun p => (p.1, { p.2 with secretNs := 0 })) }

/-- The causes of the two trips of R501, for which Weir drives WTRIP_N low. -/
abbrev IsTrip (cause : Nat) : Prop := cause = 3 ∨ cause = 4

/-- Weir's record of the quarantine and what it keeps of its keys. -/
def WeirSt.quarantined (w : WeirSt) (cause unit now : Nat) : WeirSt :=
  { w with
    state := .quarantined, quarCause := cause, quarUnit := unit, quarNs := now
    slots := w.slots.filter (fun k => decide (k.1 / 65536 = 3)), spdm := [], wtripLow := if IsTrip cause then true else w.wtripLow }

end Sys2Proof

namespace Sys2Proof.Machine

variable {s : State} {cause unit : Nat}

/-- What quarantine does to a node that is not in quarantine: the other units are held in reset, and beyond that it touches Weir, Tributary, the drain
of the log and WTRIP_N. -/
theorem State.quarantine_eq (h : s.weir.state ≠ .quarantined) : s.quarantine cause unit = { s.holdUnits with
    weir := s.weir.quarantined cause unit s.now
    trib := s.holdUnits.trib.quarantined
    gauge := { s.gauge with drainStopped := true }
    host := { s.holdUnits.host with out := s.host.out ++ if IsTrip cause then [.wtrip true] else [] } } := by
  by_cases htrip : IsTrip cause
  · rw [State.quarantine, if_neg h, if_pos htrip, if_pos htrip, WeirSt.quarantined, if_pos htrip]
    rfl
  · rw [State.quarantine, if_neg h, if_neg htrip, if_neg htrip, WeirSt.quarantined, if_neg htrip, List.append_nil]
    rfl

/-- Settles O43: each clause is read off `State.quarantine_eq`, those of links and peers entry by entry. -/
theorem quarantineEffects : Obligations.QuarantineEffects := by
  unfold Obligations.QuarantineEffects
  intro s cause unit hstate
  rw [State.quarantine_eq hstate]
  refine ⟨rfl, rfl, rfl, rfl, rfl, rfl, ?secrets, rfl, rfl, rfl, rfl, rfl, rfl, rfl, rfl, rfl, rfl, ?liveLinks, ?noLinkUp, ?trip, ?noTrip⟩
  case secrets =>
    intro p hp
    obtain ⟨q, -, rfl⟩ := List.mem_map.1 hp
    rfl
  case liveLinks =>
    intro n l hl hlive
    rw [← Link.quarantined_of_live hlive]
    exact List.mem_map_of_mem (f := fun k => (k.1, Link.quarantined k.2)) hl
  case noLinkUp =>
    intro k hk
    obtain ⟨l, -, rfl⟩ := List.mem_map.1 hk
    exact l.2.quarantined_not_up
  case trip => exact fun htrip => ⟨if_pos htrip, congrArg (s.host.out ++ ·) (if_pos htrip)⟩
  case noTrip =>
    intro h3 h4
    have hnot : ¬ IsTrip cause := fun htrip => htrip.elim h3 h4
    exact ⟨if_neg hnot, (congrArg (s.host.out ++ ·) (if_neg hnot)).trans (List.append_nil _)⟩

/-! ### The test access port (R500, R582) -/

/-- The word that IDCODE shifts out: version 1, part 0x0540, the manufacturer's code of 11 bits, and a 1. -/
def idcodeWord (manufacturer : Nat) : Nat := 0x10540001 + manufacturer % 2 ^ 11 * 2

/-- The fields of R582 but the manufacturer, whose code stays below bit 12. -/
theorem idcodeWord_fields (j : Nat) : idcodeWord j % 2 = 1 ∧ bits (idcodeWord j) 28 4 = 1 ∧ bits (idcodeWord j) 12 16 = 0x0540 := by
  have hcode : j % 2 ^ 11 < 2 ^ 11 := Nat.mod_lt _ (Nat.two_pow_pos 11)
  unfold idcodeWord bits
  generalize j % 2 ^ 11 = m at hcode
  omega

theorem exec_bypass (s : State) : exec .bypass s = .next ((s.weir! (fun w => { w with tap := .bypass })).drive (.tap 1 0)) := rfl

theorem exec_samplePreload (s : State) : exec .samplePreload s = .next (s.weir! (fun w => { w with tap := .samplePreload })) := rfl

/-- EXTEST quarantines the node, with cause SCAN and no unit of its own. -/
theorem exec_extest (s : State) : exec .extest s = .next ((s.quarantine 6 0xFF).weir! (fun w => { w with tap := .extest })) := rfl

theorem exec_idcode (s : State) :
    exec .idcode s = .next ((s.weir! (fun w => { w with tap := .idcode })).drive (.tap 32 (idcodeWord Config.jep106))) := rfl

/-! ### The I3C targets (R584) -/

/-- While the always-on partition runs, a target drives its provisional ID and takes the address. -/
theorem exec_entdaa {bus addr : Nat} (hbus : bus < 2) (hheld : s.cru.held = false) : exec (.entdaa bus addr) s = .next
    ((s.drive (.i3c (le 6 s.provisionalId).reverse)).weir! (fun w => { w with i3cAddr := Tbl.put bus addr w.i3cAddr })) := by
  change execEntdaa bus addr s = _
  rw [execEntdaa, onUnit_pos (decide_eq_true hbus), hheld, if_neg Bool.false_ne_true]

/-- Settles O11, clause by clause: each clause is read off the state that its command answers by the law above. -/
theorem scanAndI3c : Obligations.ScanAndI3c := by
  unfold Obligations.ScanAndI3c
  refine ⟨exec_bypass, exec_samplePreload, ?extest, fun s => ⟨_, idcodeWord Config.jep106, exec_idcode s, rfl, rfl, idcodeWord_fields _⟩,
    fun s bus addr hbus hheld => ⟨_, exec_entdaa hbus hheld, Tbl.find_put_same .., rfl⟩⟩
  intro s hstate
  refine ⟨_, exec_extest s, ?_⟩
  rw [State.quarantine_eq hstate]
  exact ⟨rfl, rfl, rfl, rfl⟩

end Sys2Proof.Machine
end

section
/-! Gauge's unit queues and node log (R529, R530, R600): what a record's entry and its move into the node log leave, and the bounds of both. -/

namespace Sys2Proof

/-- The least of a list of numbers is the library's. -/
theorem minL_eq_min? (l : List Nat) : minL l = l.min? := by
  cases l <;> rfl

/-- A member below which no other lies is the least of a list. -/
theorem minL_eq_of_least {l : List Nat} {m : Nat} (hmem : m ∈ l) (hleast : ∀ x ∈ l, m ≤ x) : minL l = some m := by
  rw [minL_eq_min?]
  exact List.min?_eq_some_iff.2 ⟨hmem, hleast⟩

end Sys2Proof

namespace Sys2Proof.Machine

theorem dropFirst_cons (p : GRec → Bool) (a : GRec) (l : List GRec) :
    dropFirst p (a :: l) = bif p a then l else a :: dropFirst p l := by
  rw [dropFirst, dropFirst, takeFirst]
  cases p a with
  | true => rfl
  | false => cases takeFirst p l <;> rfl

/-- Removing the first record that satisfies `p` is the library's `eraseP`. -/
theorem dropFirst_eq_eraseP (p : GRec → Bool) (l : List GRec) : dropFirst p l = l.eraseP p := by
  induction l with
  | nil => rfl
  | cons a l ih => rw [dropFirst_cons, List.eraseP_cons, ih]

/-- Where a record satisfies `p`, the oldest that does is removed. -/
theorem dropFirst_eq_append {p : GRec → Bool} {l : List GRec} {x : GRec} (hx : x ∈ l) (hp : p x = true) :
    ∃ pre y post, l = pre ++ y :: post ∧ p y = true ∧ (∀ z ∈ pre, ¬ p z = true) ∧ dropFirst p l = pre ++ post := by
  obtain ⟨y, pre, post, hpre, hy, hl, herase⟩ := List.exists_of_eraseP hx hp
  exact ⟨pre, y, post, hl, hy, hpre, (dropFirst_eq_eraseP p l).trans herase⟩

/-! ### The node log (R530) -/

section Log

variable {log : List GRec} {r : GRec} {m : Nat}

/-- Below its capacity the log takes every record. -/
theorem logInsert_of_room {cap : Nat} (hroom : log.length < cap) : logInsert cap log r = (log ++ [r], true, false) := if_pos hroom

/-- The lowest tier of a log is one of which it holds a record, and below which it holds none. -/
theorem minL_tiers (hheld : ∃ x ∈ log, tierOf x.cls = m) (hlowest : ∀ x ∈ log, m ≤ tierOf x.cls) :
    minL (log.map (fun x => tierOf x.cls)) = some m := by
  obtain ⟨x, hx, rfl⟩ := hheld
  refine minL_eq_of_least (List.mem_map_of_mem hx) (fun n hn => ?_)
  obtain ⟨y, hy, rfl⟩ := List.mem_map.1 hn
  exact hlowest y hy

/-- At a full log of lowest tier `m`, three ways: the record is dropped, or the oldest of class C makes room for it, or the oldest of tier `m`. -/
theorem logInsert_of_full {cap : Nat} (hfull : cap ≤ log.length) (hmin : minL (log.map (fun x => tierOf x.cls)) = some m) : logInsert cap log r =
    if tierOf r.cls < m then (log, false, true)
    else if m = 0 ∧ log.any (fun x => decide (x.cls = .c)) = true then (dropFirst (fun x => decide (x.cls = .c)) log ++ [r], true, true)
    else (dropFirst (fun x => decide (tierOf x.cls = m)) log ++ [r], true, true) := by
  rw [logInsert, if_neg (Nat.not_lt.2 hfull), hmin]
  rfl

/-- Which record makes room, where one does: of tier 0 the oldest of class C, where the log holds one, and else the oldest of tier `m`. -/
theorem logInsert_replaces {cap : Nat} (hfull : cap ≤ log.length) (hheld : ∃ x ∈ log, tierOf x.cls = m) (hlowest : ∀ x ∈ log, m ≤ tierOf x.cls)
    (htier : ¬ tierOf r.cls < m) :
    ∃ pre x post, log = pre ++ x :: post ∧ tierOf x.cls = m ∧ logInsert cap log r = (pre ++ post ++ [r], true, true) ∧
      (if m = 0 ∧ ∃ y ∈ log, y.cls = .c then x.cls = .c ∧ ∀ y ∈ pre, y.cls ≠ .c else ∀ y ∈ pre, tierOf y.cls ≠ m) := by
  have hinsert := logInsert_of_full (r := r) hfull (minL_tiers hheld hlowest)
  simp only [if_neg htier, List.any_eq_true, decide_eq_true_eq] at hinsert
  by_cases hclassC : m = 0 ∧ ∃ y ∈ log, y.cls = .c
  · simp only [if_pos hclassC] at hinsert ⊢
    obtain ⟨rfl, y, hy, hcls⟩ := hclassC
    obtain ⟨pre, x, post, hlog, hx, hpre, hdrop⟩ := dropFirst_eq_append (p := fun x => decide (x.cls = .c)) hy (decide_eq_true hcls)
    have hx : x.cls = .c := of_decide_eq_true hx
    exact ⟨pre, x, post, hlog, by rw [hx]; rfl, by rw [hinsert, hdrop], hx, fun z hz hc => hpre z hz (decide_eq_true hc)⟩
  · simp only [if_neg hclassC] at hinsert ⊢
    obtain ⟨y, hy, htierY⟩ := hheld
    obtain ⟨pre, x, post, hlog, hx, hpre, hdrop⟩ := dropFirst_eq_append (p := fun x => decide (tierOf x.cls = m)) hy (decide_eq_true htierY)
    exact ⟨pre, x, post, hlog, of_decide_eq_true hx, by rw [hinsert, hdrop], fun z hz ht => hpre z hz (decide_eq_true ht)⟩

end Log

/-! ### A move from the queues into the node log (R600, R533) -/

@[simp] theorem State.emit_gauge (s : State) (fn : Nat) (e : HostEvt) : (s.emit fn e).gauge = s.gauge := by
  obtain h | h | h := s.emit_cases fn e <;> rw [h]
  · exact State.func_upd_gauge ..
  · exact State.drive_gauge ..

@[simp] theorem State.emit_regs (s : State) (fn : Nat) (e : HostEvt) : (s.emit fn e).regs = s.regs := by
  obtain h | h | h := s.emit_cases fn e <;> rw [h]
  · exact State.func_upd_regs ..
  · exact State.drive_regs ..

/-- States with the same register file read the same of every register. -/
theorem State.raw_congr {s t : State} (h : t.regs = s.regs) (a : Nat) : t.raw a = s.raw a := by
  rw [State.raw, State.raw, h]

/-- PEND and its interrupt are no matter of Gauge's queues and log. -/
@[simp] theorem State.pend_gauge (s : State) (k : ErrClass) : (s.pend k).gauge = s.gauge := by
  unfold State.pend
  dsimp only
  split
  · rfl
  · split
    · rw [State.emit_gauge, State.setRaw_gauge]
    · exact State.setRaw_gauge ..

/-- PEND is of ERR_INT and of no other register. -/
theorem State.raw_pend_other {s : State} {k : ErrClass} {a : Nat} (h : a ≠ Reg.ERR_INT) : (s.pend k).raw a = s.raw a := by
  unfold State.pend
  dsimp only
  split
  · rfl
  · split
    · rw [State.raw_congr (State.emit_regs ..), State.raw_setRaw_other _ _ _ _ h]
    · exact State.raw_setRaw_other _ _ _ _ h

/-- The first record of unit `u`'s queue leaves the queue for the node log; a record replaced or dropped there is counted (R530). -/
def State.moveToLog (s : State) (u : Nat) (r : GRec) (rest : List GRec) : State :=
  let moved := s.gauge! (fun g => { g with
    queues := if rest = [] then Tbl.erase u g.queues else Tbl.put u rest g.queues, log := (logInsert 65536 g.log r).1 })
  if (logInsert 65536 s.gauge.log r).2.2 then moved.count Reg.ERR_CNT0 3 1 else moved

section Drain

variable {s : State} {u n : Nat} {r : GRec} {rest : List GRec}

@[simp] theorem State.moveToLog_gauge : (s.moveToLog u r rest).gauge = { s.gauge with
    queues := if rest = [] then Tbl.erase u s.gauge.queues else Tbl.put u rest s.gauge.queues, log := (logInsert 65536 s.gauge.log r).1 } := by
  unfold State.moveToLog
  dsimp only
  split
  · rw [State.count_gauge, State.gauge_upd_gauge]
  · rw [State.gauge_upd_gauge]

/-- ERR_CNT3 counts the record that a move replaces or drops. -/
theorem State.raw_moveToLog_cnt3 : (s.moveToLog u r rest).raw (Reg.ERR_CNT0 + 24) =
    if (logInsert 65536 s.gauge.log r).2.2 then satAdd (s.raw (Reg.ERR_CNT0 + 24)) 1 else s.raw (Reg.ERR_CNT0 + 24) := by
  unfold State.moveToLog
  dsimp only
  split
  · exact State.raw_count_same _ Reg.ERR_CNT0 3 1
  · exact State.raw_congr (State.gauge_upd_regs ..) _

/-- The drain moves the record of least SEQ at the head of a queue; a record that it logs is counted and sets its PEND bit. -/
theorem State.drainOne_eq (hleast : minL (s.gauge.queues.filterMap (fun q => q.2.head?.map (·.seq))) = some n)
    (hhead : s.gauge.queues.find? (headSeq n) = some (u, r :: rest)) : s.drainOne =
      if (logInsert 65536 s.gauge.log r).2.1 then ((s.moveToLog u r rest).count Reg.ERR_CNT0 0 1).pend r.cls else s.moveToLog u r rest := by
  simp only [State.drainOne, hleast, hhead]
  rfl

theorem State.drainOne_gauge (hleast : minL (s.gauge.queues.filterMap (fun q => q.2.head?.map (·.seq))) = some n)
    (hhead : s.gauge.queues.find? (headSeq n) = some (u, r :: rest)) : s.drainOne.gauge = { s.gauge with
      queues := if rest = [] then Tbl.erase u s.gauge.queues else Tbl.put u rest s.gauge.queues, log := (logInsert 65536 s.gauge.log r).1 } := by
  rw [State.drainOne_eq hleast hhead]
  split
  · rw [State.pend_gauge, State.count_gauge, State.moveToLog_gauge]
  · exact State.moveToLog_gauge

/-- A logged record's count and PEND bit leave ERR_CNT3 to the move. -/
theorem State.raw_drainOne_cnt3 (hleast : minL (s.gauge.queues.filterMap (fun q => q.2.head?.map (·.seq))) = some n)
    (hhead : s.gauge.queues.find? (headSeq n) = some (u, r :: rest)) : s.drainOne.raw (Reg.ERR_CNT0 + 24) =
      if (logInsert 65536 s.gauge.log r).2.2 then satAdd (s.raw (Reg.ERR_CNT0 + 24)) 1 else s.raw (Reg.ERR_CNT0 + 24) := by
  rw [State.drainOne_eq hleast hhead]
  split
  · rw [State.raw_pend_other (by decide), State.raw_count_other _ _ _ _ _ (by decide)]
    exact State.raw_moveToLog_cnt3
  · exact State.raw_moveToLog_cnt3

/-- The record at the head of the queue that the drain finds has the SEQ it looks for. -/
theorem seq_of_headSeq (hhead : s.gauge.queues.find? (headSeq n) = some (u, r :: rest)) : r.seq = n := by
  have hseq : headSeq n (u, r :: rest) = true := List.find?_some hhead
  exact Option.some.inj (of_decide_eq_true hseq)

/-- A drain that runs moves one record. -/
theorem exec_logDrain (hheld : s.cru.held = false) (hruns : s.gauge.drainStopped = false) : exec .logDrain s = .next s.drainOne := by
  change execLogDrain s = _
  rw [execLogDrain, hruns, hheld]
  rfl

end Drain

/-- Settles O45: the replacement is that of `logInsert`, whose result and ERR_CNT3 the drain leaves. -/
theorem nodeLogReplacement : Obligations.NodeLogReplacement := by
  unfold Obligations.NodeLogReplacement
  refine ⟨fun log r hroom => logInsert_of_room hroom, ?full, ?drain⟩
  case full =>
    intro log r m hfull hheld hlowest
    by_cases htier : tierOf r.cls < m
    · rw [if_pos htier, logInsert_of_full hfull (minL_tiers hheld hlowest), if_pos htier]
    · rw [if_neg htier]
      exact logInsert_replaces hfull hheld hlowest htier
  case drain =>
    intro s u n r rest hheld hruns hleast hhead
    exact ⟨s.drainOne, exec_logDrain hheld hruns, congrArg GaugeSt.log (State.drainOne_gauge hleast hhead), State.raw_drainOne_cnt3 hleast hhead⟩

/-! ### A record enters its unit's queue (R529) -/

section Enqueue

variable {s : State} {r : GRec} {q : List GRec}

/-- A record that finds no entry it may use is dropped and counted. -/
theorem State.enqueueRec_of_full (hq : q = Tbl.getD r.unit [] s.gauge.queues)
    (hfull : 64 ≤ q.length ∨ (r.cls = .c ∧ 56 ≤ (q.filter (fun x => decide (x.cls = .c))).length)) :
    s.enqueueRec r = s.count Reg.ERR_CNT0 2 1 := by
  subst hq
  exact if_pos hfull

/-- Any other record waits behind those of its unit. -/
theorem State.enqueueRec_of_room (hq : q = Tbl.getD r.unit [] s.gauge.queues) (hroom : q.length < 64)
    (hclassC : r.cls = .c → (q.filter (fun x => decide (x.cls = .c))).length < 56) :
    s.enqueueRec r = s.gauge! (fun g => { g with queues := Tbl.put r.unit (q ++ [r]) g.queues }) := by
  subst hq
  refine if_neg ?_
  rintro (hfull | ⟨hcls, hfull⟩)
  · exact Nat.not_lt.2 hfull hroom
  · exact Nat.not_lt.2 hfull (hclassC hcls)

end Enqueue

/-- Settles O59: a record enters by the two laws above, and leaves by the drain. -/
theorem unitQueues : Obligations.UnitQueues := by
  unfold Obligations.UnitQueues
  refine ⟨fun s r q hq hfull => State.enqueueRec_of_full hq hfull, ?enters, ?leaves⟩
  case enters =>
    intro s r q hq hroom hclassC
    rw [State.enqueueRec_of_room hq hroom hclassC]
    exact ⟨Tbl.find_put_same .., rfl, State.gauge_upd_regs .., fun u hu => Tbl.find_put_other _ _ _ _ hu⟩
  case leaves =>
    intro s u n r rest hheld hruns hleast hhead
    refine ⟨s.drainOne, exec_logDrain hheld hruns, seq_of_headSeq hhead, ?_, ?_⟩ <;> rw [State.drainOne_gauge hleast hhead]

/-! ### The bounds of every run -/

/-- Settles O54: the bounds are among what every command keeps, since records come in only where `State.enqueueRec` and `logInsert` have room for
them; an idle step leaves Gauge alone. -/
theorem stepKeepsGaugeBounds : Obligations.StepKeepsGaugeBounds := by
  unfold Obligations.StepKeepsGaugeBounds
  intro s t h hbounded
  obtain ⟨-, rfl⟩ | ⟨c, rest, -, hexec⟩ := step_cases h
  · exact hbounded
  · exact (kept_exec hexec).bounds hbounded

/-- Settles O52: the mailboxes of the reset state are those of any reset; it holds no register value and no record, and one state record. -/
theorem resetKeepsForms : Obligations.ResetKeepsForms := by
  unfold Obligations.ResetKeepsForms
  exact ⟨rfl, memsWf_reset HostSt.reset, rfl, by decide⟩

end Sys2Proof.Machine
end

section
/-! Containment and what the resets leave of Gauge (R528, R531, R534 to R538, R553). -/

namespace Sys2Proof.Machine

/-! ### Raising an error (R534 to R536) -/

/-- The action of a class, once the record of an error of a unit is formed (R534, R535, R538). -/
def State.act (s : State) (k : ErrClass) (unit : Nat) (batch : Option Nat) (status : Nat) : State :=
  match k with
  | .c => s
  | .d => s.openHandler unit .d
  | .x => (match batch with | some b => s.teardown b status | none => s).openHandler unit .x
  | .u => ((match batch with | some b => s.teardown b status | none => s).fenceUnit unit).openHandler unit .u
  | .n => s.fatal unit

section Raise

variable {s : State} {unit typ comp ctx addr detail status : Nat} {k : ErrClass} {batch : Option Nat}

/-- A class C error is logged. -/
theorem State.raise_c : s.raise unit typ .c batch comp ctx addr detail status = s.logC unit typ comp ctx addr detail := by
  simp only [State.raise, ne_eq, not_true_eq_false, decide_false, Bool.and_false, Bool.false_eq_true, if_false, if_true]

/-- An error of a unit whose handler is open is counted, and acts as one of the class that it is raised to. -/
theorem State.raise_of_open (hopen : s.handlerOpen unit = true) (hc : k ≠ .c) (hn : k ≠ .n) :
    s.raise unit typ k batch comp ctx addr detail status =
      ((s.count Reg.ERR_CNT0 4 1).form unit typ (k.raised batch.isSome) true comp ctx addr detail).act (k.raised batch.isSome) unit batch status := by
  have hnested : (s.handlerOpen unit && decide (k ≠ .n) && decide (k ≠ .c)) = true := by
    rw [hopen, decide_eq_true hn, decide_eq_true hc]; rfl
  simp only [State.raise, hnested, if_true, if_neg hc]
  rfl

/-- Where no handler of the unit is open, or there is no higher class, an error acts as one of its own class. -/
theorem State.raise_of_own (hown : s.handlerOpen unit = false ∨ k = .n) (hc : k ≠ .c) :
    s.raise unit typ k batch comp ctx addr detail status = (s.form unit typ k false comp ctx addr detail).act k unit batch status := by
  have hnested : (s.handlerOpen unit && decide (k ≠ .n) && decide (k ≠ .c)) = false := by
    obtain hclosed | rfl := hown
    · rw [hclosed]; rfl
    · rw [decide_eq_false (fun h => h rfl), Bool.and_false, Bool.false_and]
  simp only [State.raise, hnested, Bool.false_eq_true, if_false, if_neg hc]
  rfl

end Raise

/-- A handler opened is that of its own unit alone (R535). -/
theorem State.handlerOpen_openHandler_other {s : State} {unit other : Nat} {k : ErrClass} (h : other ≠ unit) :
    (s.openHandler other k).handlerOpen unit = s.handlerOpen unit := by
  have hfind : Tbl.find unit (s.openHandler other k).gauge.handlers = Tbl.find unit s.gauge.handlers := Tbl.find_put_other _ _ _ _ h.symm
  rw [State.handlerOpen, hfind]
  rfl

/-- Settles O36: each clause is the law of its class, with the action of the class that `ErrClass.raised` gives. -/
theorem nestedErrorsRaised : Obligations.NestedErrorsRaised := by
  unfold Obligations.NestedErrorsRaised
  refine ⟨?dConsumed, ?d, ?x, ?u, ?c, ?closed, ?other⟩
  case dConsumed => exact fun s unit typ b comp ctx addr detail status hopen => State.raise_of_open hopen (by decide) (by decide)
  case d => exact fun s unit typ comp ctx addr detail status hopen => State.raise_of_open hopen (by decide) (by decide)
  case x =>
    intro s unit typ b comp ctx addr detail status hopen
    cases b with
    | none => exact State.raise_of_open hopen (by decide) (by decide)
    | some n => exact State.raise_of_open hopen (by decide) (by decide)
  case u => exact fun s unit typ b comp ctx addr detail status hopen => State.raise_of_open hopen (by decide) (by decide)
  case c => exact fun s unit typ b comp ctx addr detail status => State.raise_c
  case closed => exact fun s unit typ b comp ctx addr detail status hclosed => State.raise_of_own (.inl hclosed) (by decide)
  case other => exact fun s unit other k h => State.handlerOpen_openHandler_other h

/-! ### Resets of the package (R531, R553, Table CRU-3) -/

/-- Quarantine leaves the stored registers. -/
@[simp] theorem State.quarantine_regs (s : State) (cause unit : Nat) : (s.quarantine cause unit).regs = s.regs := by
  by_cases hstate : s.weir.state = .quarantined
  · rw [State.quarantine, if_pos hstate]
  · rw [State.quarantine_eq hstate]
    rfl

/-- Quarantine leaves the node log. -/
@[simp] theorem State.quarantine_log (s : State) (cause unit : Nat) : (s.quarantine cause unit).gauge.log = s.gauge.log := by
  by_cases hstate : s.weir.state = .quarantined
  · rw [State.quarantine, if_pos hstate]
  · rw [State.quarantine_eq hstate]

/-- A reset leaves no stored register and of Gauge what Table CRU-3 says; a VNDR_TEST ball that is high then quarantines the node (R581). -/
theorem State.packageReset_cases (s : State) (typ cause recovery pins : Nat) : ∃ t : State, t.regs = ⟨[], []⟩ ∧
    t.gauge = gaugeAfter s.gauge (decide (typ = rstCold)) ∧
    (s.packageReset typ cause recovery pins = t ∨ s.packageReset typ cause recovery pins = t.quarantine 6 0xFF) := by
  unfold State.packageReset
  dsimp only
  split <;> split
  · exact ⟨_, State.drive_regs .., State.drive_gauge .., .inl rfl⟩
  · exact ⟨_, rfl, rfl, .inl rfl⟩
  · exact ⟨_, State.drive_regs .., State.drive_gauge .., .inr rfl⟩
  · exact ⟨_, rfl, rfl, .inr rfl⟩

@[simp] theorem State.packageReset_regs (s : State) (typ cause recovery pins : Nat) : (s.packageReset typ cause recovery pins).regs = ⟨[], []⟩ := by
  obtain ⟨t, hregs, -, h | h⟩ := s.packageReset_cases typ cause recovery pins <;> rw [h]
  · exact hregs
  · rw [State.quarantine_regs, hregs]

theorem State.packageReset_log (s : State) (typ cause recovery pins : Nat) :
    (s.packageReset typ cause recovery pins).gauge.log = (gaugeAfter s.gauge (decide (typ = rstCold))).log := by
  obtain ⟨t, -, hgauge, h | h⟩ := s.packageReset_cases typ cause recovery pins <;> rw [h]
  · rw [hgauge]
  · rw [State.quarantine_log, hgauge]

/-- A cold reset empties the node log. -/
theorem State.packageReset_log_cold (s : State) (cause recovery pins : Nat) : (s.packageReset rstCold cause recovery pins).gauge.log = [] :=
  State.packageReset_log s rstCold cause recovery pins

/-- Any other reset keeps it, with PRIOR set in every record. -/
theorem State.packageReset_log_kept {s : State} {typ cause recovery pins : Nat} (h : typ ≠ rstCold) :
    (s.packageReset typ cause recovery pins).gauge.log = s.gauge.log.map (fun r => { r with prior := true }) := by
  rw [State.packageReset_log, decide_eq_false h]
  rfl

/-- A warm trigger resets a node that neither a lost clock nor Weir holds (R459, R565). -/
theorem exec_pcieWarmReset {s : State} {cause : WarmCause} {pins : Nat} (hheld : s.cru.held = false) (hstate : s.weir.state ≠ .quarantined)
    (hlink : cause = .linkDown → s.host.linkUp = true) :
    exec (.pcieWarmReset cause pins) s = .next (s.packageReset rstWarm (warmCode cause) 0 pins) := by
  change execPcieWarmReset cause pins s = _
  have htripped : s.tripped = false := by rw [State.tripped, decide_eq_false hstate, Bool.false_and]
  have hdown : (decide (cause = .linkDown) && !s.host.linkUp) = false := by
    by_cases hcause : cause = .linkDown
    · rw [hlink hcause, Bool.not_true, Bool.and_false]
    · rw [decide_eq_false hcause, Bool.false_and]
  rw [execPcieWarmReset, hheld, htripped, hdown]
  rfl

/-- Settles O35: the log of each reset is that of `packageReset`. -/
theorem logAcrossResets : Obligations.LogAcrossResets := by
  unfold Obligations.LogAcrossResets
  refine ⟨fun s typ cause recovery pins htyp => State.packageReset_log_kept htyp, fun s powerOn pins => ⟨_, rfl, State.packageReset_log_cold ..⟩, ?warm⟩
  exact fun s cause pins hheld hstate hlink => ⟨_, exec_pcieWarmReset hheld hstate hlink, State.packageReset_log_kept (by decide)⟩

/-- The manual gives no counter or meter a reset value but 0. -/
theorem resetVal_of_counterBases : ∀ m ∈ regMaps, counterBases.contains m.base = true → m.resetVal = 0 := by
  decide

/-- Settles O34: a count by the laws of the registers; a reset leaves every counter at the reset value of its map. -/
theorem countersSaturate : Obligations.CountersSaturate := by
  unfold Obligations.CountersSaturate
  refine ⟨State.raw_count_same, State.raw_count_other, ?reset⟩
  intro s cause recovery pins a m hreg hcounter
  have hread : (s.packageReset rstNode cause recovery pins).raw a = regReset a := by rw [State.raw, State.packageReset_regs]; rfl
  rw [hread, regReset, hreg]
  exact resetVal_of_counterBases m (List.mem_of_find?_eq_some hreg) hcounter

end Sys2Proof.Machine
end

section
/-! The events of chapters 15 and 16 (R501, R527, R532, R538, R600): the state that each leaves. -/

namespace Sys2Proof.Machine

open Sys2Proof.Claims

variable {s : State}

/-! ### The class C counts of a second (R532) -/

@[simp] theorem State.ceRoll_now (s : State) : s.ceRoll.now = s.now := by
  unfold State.ceRoll
  dsimp only
  split
  · rfl
  · exact State.gauge_upd_now ..

/-- In a second other than that of its counts, Gauge counts from none. -/
theorem State.ceRoll_gauge (h : s.gauge.ceSecond ≠ s.now / 1000000000) :
    s.ceRoll.gauge = { s.gauge with ceSecond := s.now / 1000000000, ceCounts := [], ceStormed := [] } := by
  rw [State.ceRoll, if_neg h, State.gauge_upd_gauge]

/-- Node time moves on to the second that follows. -/
theorem State.reach_nextSecond (s : State) : (s.reach ((s.now / 1000000000 + 1) * 1000000000)).now = (s.now / 1000000000 + 1) * 1000000000 := by
  rw [State.reach_now]
  exact Nat.max_eq_right (by omega)

/-! ### Trips (R501) -/

/-- What Weir records of a trip, with WTRIP_N low. -/
theorem State.quarantine_trip {cause unit : Nat} (hstate : s.weir.state ≠ .quarantined) (htrip : IsTrip cause) :
    (s.quarantine cause unit).weir.state = .quarantined ∧ (s.quarantine cause unit).weir.quarCause = cause ∧
    (s.quarantine cause unit).weir.quarNs = s.now ∧ (s.quarantine cause unit).weir.wtripLow = true := by
  rw [State.quarantine_eq hstate]
  exact ⟨rfl, rfl, rfl, if_pos htrip⟩

/-- A running node is not in quarantine. -/
theorem running_ne_quarantined {w : WeirState} (h : w = .running) : w ≠ .quarantined := by rw [h]; decide

/-- At the trip temperature the node is quarantined, after TJ_MAX_C has seen it. -/
theorem exec_thermalTrip {tj : Nat} (hheld : s.cru.held = false) (hpart : s.partValid = true) (htrip : s.weir.mfg.tripC ≤ tj) :
    exec (.thermalTrip tj) s = .next ((s.seeTj tj).quarantine 3 0xFF) := by
  change execThermalTrip tj s = _
  rw [execThermalTrip, hheld, hpart, decide_eq_true htrip]
  rfl

/-- Above the trip power the node is quarantined. -/
theorem exec_powerTrip {watts : Nat} (hheld : s.cru.held = false) (hpart : s.partValid = true) (htrip : s.weir.mfg.tripW < watts) :
    exec (.powerTrip watts) s = .next (s.quarantine 4 0xFF) := by
  change execPowerTrip watts s = _
  rw [execPowerTrip, hheld, hpart, decide_eq_true htrip]
  rfl

/-! ### Node-fatal handling (R538) and Headwater's faults (R527) -/

/-- The handling of a class N error ends in quarantine with every queued record in the node log. -/
theorem exec_quarantineEntry_handled {b unit : Nat} (hheld : s.cru.held = false) (hfatal : s.gauge.fatal = some b) :
    exec (.quarantineEntry 1 unit) s = .next (((s.drainAll s.queued).gauge! (fun g => { g with fatal := none })).quarantine 1 b) := by
  change execQuarantineEntry 1 unit s = _
  simp only [execQuarantineEntry, hheld, hfatal]
  rfl

/-- A second class N error ends the handling of the first, and what is queued is lost. -/
theorem exec_quarantineEntry_nested {b unit : Nat} (hheld : s.cru.held = false) (hfatal : s.gauge.fatal = some b) :
    exec (.quarantineEntry 2 unit) s = .next ((s.gauge! (fun g => { g with queues := [], fatal := none })).quarantine 2 (unit % 256)) := by
  change execQuarantineEntry 2 unit s = _
  rw [execQuarantineEntry, hheld, hfatal]
  rfl

/-- A fault of a Headwater core is a class N error of the core. -/
theorem exec_headwaterFault {detail : Nat} (hlive : Live s) : exec (.headwaterFault detail) s =
    .next ((s.form (unitOf 0x14 (detail % 4)) 0x0051 .n false 0xFF 0x3FF 0 detail).fatal (unitOf 0x14 (detail % 4))) := by
  change execHeadwaterFault detail s = _
  obtain ⟨hheld, hstate⟩ := hlive
  rw [execHeadwaterFault, if_neg (not_or.2 ⟨Bool.eq_false_iff.1 hheld, hstate⟩), State.raise_of_own (.inr rfl) (by decide)]
  rfl

/-- Settles O6, clause by clause: each clause is the law above of its command, or is read off the state that the law gives. -/
theorem gaugeEvents : Obligations.GaugeEvents := by
  unfold Obligations.GaugeEvents
  refine ⟨fun s => exec_logDrain, ?ceStormSecond, ?thermalTrip, ?powerTrip, fun s u b => exec_quarantineEntry_handled,
    fun s u b => exec_quarantineEntry_nested, fun s d => exec_headwaterFault⟩
  case ceStormSecond =>
    intro s
    refine ⟨_, rfl, (State.ceRoll_now _).trans s.reach_nextSecond, fun hsecond => ?_⟩
    have hnow : (s.reach ((s.now / 1000000000 + 1) * 1000000000)).now / 1000000000 = s.now / 1000000000 + 1 := by
      rw [State.reach_nextSecond, Nat.mul_div_cancel _ (by decide)]
    rw [State.ceRoll_gauge (by rw [hnow, State.reach_gauge]; exact hsecond)]
    exact ⟨rfl, rfl, hnow⟩
  case thermalTrip =>
    intro s tj hheld hrun hpart htrip
    exact ⟨_, exec_thermalTrip hheld hpart htrip, State.quarantine_trip (s := s.seeTj tj) (running_ne_quarantined hrun) (.inl rfl)⟩
  case powerTrip =>
    intro s w hheld hrun hpart htrip
    exact ⟨_, exec_powerTrip hheld hpart htrip, State.quarantine_trip (running_ne_quarantined hrun) (.inr rfl)⟩

end Sys2Proof.Machine
end

section
/-! Node time and SEQ over a step, the reset state, and the limits of Spillway (R525, R559, R563, R567). -/

namespace Sys2Proof.Machine

/-! ### Node time, SEQ and the reset state (R525, R563, R567) -/

/-- Settles O56: an idle step adds 1 ns, and a command that is no reset takes the node onward. -/
theorem timeAndSeqNeverFall : Obligations.TimeAndSeqNeverFall := by
  unfold Obligations.TimeAndSeqNeverFall
  intro s t h hresets
  obtain ⟨-, rfl⟩ | ⟨c, rest, hqueue, hexec⟩ := step_cases h
  · exact ⟨Nat.le_succ _, Nat.le_refl _⟩
  · have honward := (flows_of_exec (hresets c rest hqueue) hexec).toOnward
    exact ⟨honward.time, honward.seq⟩

/-- Settles O49 by the definition of a step on an empty queue. -/
theorem emptyQueueIdles : Obligations.EmptyQueueIdles := by
  unfold Obligations.EmptyQueueIdles
  intro s hqueue
  exact ⟨{ s with now := s.now + 1 }, by rw [step, hqueue], rfl, rfl⟩

/-- Every entry of a table of equal entries is the default of a read. -/
theorem getD_tblOf {α : Type} (k n : Nat) (a : α) : Tbl.getD k a (tblOf n a) = a := by
  have hentries (l : List Nat) : Tbl.getD k a (l.map (fun i => (i, a))) = a := by
    induction l with
    | nil => rfl
    | cons i l ih =>
      rw [List.map_cons, Tbl.getD, Tbl.find]
      split
      · rfl
      · exact ih
  exact hentries (List.range n)

/-- Every mailbox of the reset state is one from reset. -/
theorem State.box_reset (mb : Nat) : State.reset.box mb = boxReset := getD_tblOf mb 65 boxReset

/-- Settles O51: a register that is not stored reads its reset value, and the tables of mailboxes and links hold entries from reset. -/
theorem resetState : Obligations.ResetState := by
  unfold Obligations.ResetState
  refine ⟨rfl, rfl, rfl, rfl, fun mb _ => ?boxes, fun a => rfl, rfl, rfl, rfl, rfl, by decide, rfl⟩
  case boxes =>
    rw [State.box_reset]
    exact ⟨rfl, rfl, rfl⟩

/-! ### The limits of Spillway (R559) -/

theorem inRange_of_mem {v lo hi d : Nat} (hlo : lo ≤ v) (hhi : v ≤ hi) : inRange v lo hi d = v := if_pos ⟨hlo, hhi⟩

theorem inRange_of_outside {v lo hi d : Nat} (h : v < lo ∨ hi < v) : inRange v lo hi d = d :=
  if_neg (fun ⟨hlo, hhi⟩ => h.elim (Nat.not_lt.2 hlo) (Nat.not_lt.2 hhi))

/-- Settles O38: CAP_W is cut at both ends, and TJ_THROTTLE_C outside its range is its default. -/
theorem spillwayLimits : Obligations.SpillwayLimits := by
  unfold Obligations.SpillwayLimits
  refine ⟨?below, ?within, ?above, fun s => inRange_of_mem, fun s => inRange_of_outside⟩
  case below =>
    intro s hlow
    exact Nat.max_eq_left (Nat.le_trans (Nat.min_le_right _ _) (Nat.le_of_lt hlow))
  case within =>
    intro s hlow hhigh
    have hcut : Nat.min 1050 (s.fld Reg.SPW_CFG 32 16) = s.fld Reg.SPW_CFG 32 16 := Nat.min_eq_right hhigh
    rw [State.capW, hcut]
    exact Nat.max_eq_right hlow
  case above =>
    intro s hhigh
    have hcut : Nat.min 1050 (s.fld Reg.SPW_CFG 32 16) = 1050 := Nat.min_eq_left (Nat.le_of_lt hhigh)
    rw [State.capW, hcut]
    rfl

end Sys2Proof.Machine
end

section
/-! What the resets of the package leave, and the commands that reset it (R481, R484, R488, R495, R565, R571, Tables CRU-2 and CRU-3). -/

namespace Sys2Proof.Machine

open Sys2Proof.Claims

variable {s : State}

/-- A warm trigger resets a node that neither a lost clock nor a trip holds; the loss of a link that is down is no trigger (R459, R566). -/
theorem exec_pcieWarmReset_of_untripped {cause : WarmCause} {pins : Nat} (hheld : s.cru.held = false) (htripped : s.tripped = false)
    (hlink : cause = .linkDown → s.host.linkUp = true) :
    exec (.pcieWarmReset cause pins) s = .next (s.packageReset rstWarm (warmCode cause) 0 pins) := by
  change execPcieWarmReset cause pins s = _
  have hdown : (decide (cause = .linkDown) && !s.host.linkUp) = false := by
    by_cases hcause : cause = .linkDown
    · rw [hlink hcause, Bool.not_true, Bool.and_false]
    · rw [decide_eq_false hcause, Bool.false_and]
  rw [execPcieWarmReset, hheld, htripped, hdown]
  rfl

/-- In every other state it has no effect. -/
theorem exec_pcieWarmReset_ignored {cause : WarmCause} {pins : Nat}
    (h : s.cru.held = true ∨ s.tripped = true ∨ (cause = .linkDown ∧ s.host.linkUp = false)) : exec (.pcieWarmReset cause pins) s = .next s := by
  change execPcieWarmReset cause pins s = _
  have hignored : (s.cru.held || s.tripped || (decide (cause = .linkDown) && !s.host.linkUp)) = true := by
    obtain hheld | htripped | ⟨hcause, hdown⟩ := h
    · rw [hheld, Bool.true_or, Bool.true_or]
    · rw [htripped, Bool.or_true, Bool.true_or]
    · rw [decide_eq_true hcause, hdown, Bool.not_false, Bool.and_true, Bool.or_true]
  rw [execPcieWarmReset, hignored]
  rfl

/-- An opcode without operands that refuses the reserved bits of its payload and else resets the package (R481). -/
theorem acts_reset {c : Nat → Instr} {op cause recovery : Nat} (hexec : ∀ mb s, exec (c mb) s = onMsg s mb op (fun m t =>
      if m.p 0 8 ≠ 0 then t.refuse m 0x0F0B else (t.done m []).packageReset rstNode cause recovery t.weir.vndrTest)) :
    Acts c op (fun m _ => m.p 0 8 = 0) (fun m t => (t.done m []).packageReset rstNode cause recovery t.weir.vndrTest) :=
  acts_of_onMsg hexec (fun _ _ hpayload => if_neg (not_not_intro hpayload))

/-- RECOVERY_LOAD of at most the staging area, outside the recovery that the part's own data caused, takes the staged image where Weir does not
refuse it (R488). -/
theorem acts_recoveryLoad : Acts .recoveryLoad 0x010B (fun m t => t.host.recoveryCause ≠ 1 ∧ m.p 0 8 ≤ stagingBytes) (fun m t =>
    let i := FwImage.ofBytes (Mem.readBytes t.host.staging 0 (m.p 0 8))
    if t.imageRefusal i = none then
      ((t.weir! (fun w => { w with image := i, flashReadable := true })).done m []).packageReset rstNode 0x23 0 t.weir.vndrTest
    else (t.count Reg.WEI_CNT0 3 1).refuse m 0x0F0A) := by
  refine acts_of_onMsg (fun mb s => rfl) (fun m t hP => ?_)
  obtain ⟨hcause, hlen⟩ := hP
  have hbytes : Nat.min (m.p 0 8) stagingBytes = m.p 0 8 := Nat.min_eq_left hlen
  rw [if_neg hcause, hbytes]
  dsimp only
  cases hrefusal : t.imageRefusal (FwImage.ofBytes (Mem.readBytes t.host.staging 0 (m.p 0 8))) with
  | none => exact (if_neg (fun h => h.elim (Nat.not_lt.2 hlen) Bool.false_ne_true)).trans (if_pos rfl).symm
  | some reason => exact (if_pos (.inr rfl)).trans (if_neg (Option.some_ne_none reason)).symm

/-- A firmware image written to package flash is the image of the node reset that follows (R495). -/
theorem exec_fwImageWritten {m : Msg} {i : FwImage} (hmsg : s.weir.activating = some m) (hstaged : s.weir.staged = some i) :
    exec .fwImageWritten s = .next (((s.weir! (fun w => { w with image := i, staged := none, activating := none })).done m []).packageReset
      rstNode 0x22 0 s.weir.vndrTest) := by
  change execFwImageWritten s = _
  rw [execFwImageWritten, hmsg, hstaged]
  rfl

/-- A boot that step 7 of Table WEI-1 completes and that does not reach RUNNING ends in a node reset into recovery mode (R571). -/
theorem exec_bootFault (hheld : s.cru.held = false) (hboot : s.weir.state = .boot) (hverified : s.weirBoot.2 = 0) :
    exec .bootFault s = .next (s.weirBoot.1.packageReset rstNode 0x24 4 s.weir.vndrTest) := by
  change execBootFault s = _
  rw [execBootFault, hheld, hboot]
  exact congrArg _ (if_pos hverified)

/-- What a reset with every VNDR_TEST ball low leaves; the fall of WTRIP_N that a cold reset ends is seen by the host alone. -/
theorem State.packageReset_pinsLow (s : State) (typ cause recovery : Nat) : ∃ out id, s.packageReset typ cause recovery 0 = { s with
    freeCtr := s.freeCtr + 1, now := if typ = rstCold then 0 else s.now
    host := { hostAfter s.host with out := out }, regs := ⟨[], []⟩, gauge := gaugeAfter s.gauge (decide (typ = rstCold))
    slc := SluiceSt.reset, search := SearchSt.reset, mrc := MrcSt.reset, ferry := FerrySt.reset, delta := deltaKept s.delta
    trib := tribAfter s.trib (decide (typ = rstCold)), weir := weirAfter s.weir (decide (typ = rstCold)) 0 id, spw := SpwSt.reset
    cru := { CruSt.reset with cause := cause, typ := typ, resets := if typ = rstCold then 0 else Nat.min 65535 (s.cru.resets + 1),
                              recoveryNext := recovery } } := by
  simp only [State.packageReset, if_true, decide_eq_true_eq]
  split
  · exact ⟨_, _, rfl⟩
  · exact ⟨_, _, rfl⟩

/-- Settles O7, clause by clause: each clause is the law above of its command, and the last is read off `State.packageReset_pinsLow`. -/
theorem resetCommands : Obligations.ResetCommands := by
  unfold Obligations.ResetCommands
  refine ⟨fun s power pins => rfl, fun s cause pins => exec_pcieWarmReset_of_untripped, fun s cause pins => exec_pcieWarmReset_ignored,
    acts_reset (fun mb s => rfl), acts_reset (fun mb s => rfl), acts_recoveryLoad, fun s m i => exec_fwImageWritten, fun s => exec_bootFault, ?leaves⟩
  case leaves =>
    intro s typ cause recovery
    obtain ⟨out, id, hreset⟩ := s.packageReset_pinsLow typ cause recovery
    dsimp only
    rw [hreset]
    exact ⟨rfl, rfl, rfl, rfl, rfl, rfl, rfl, rfl, rfl, rfl, rfl, rfl, rfl, rfl, rfl, rfl, rfl, rfl, rfl⟩

end Sys2Proof.Machine
end

section
/-! Start-up and the loss of a clock (R454, R484 to R493, R564, Tables WEI-1 and CRU-4). -/

namespace Sys2Proof.Machine

open Sys2Proof.Claims

variable {s : State} {r : StateRec}

/-! ### Weir's steps of start-up (Table WEI-1) -/

/-- Step 5: the newest state record and key table are loaded, and a new record counts the incarnation. -/
def State.loadRecord (s : State) (r : StateRec) : State :=
  (s.weir! (fun w => { w with bootStep := 5, identity := true, record := r, keyTable := (newestKeys w.keyCopies).2.entries })).newRecord
    (fun r => { r with incarnation := (r.incarnation + 1) % 2 ^ 32 })

/-- Step 7: Weir runs the image in package flash. -/
def State.bootImage (s : State) (r : StateRec) : State :=
  ((s.loadRecord r).weir! (fun w => { w with
    bootStep := 7, state := .running, measure := s.weir.image.measure, fwKey := s.weir.image.keyIndex })).putSlot (slotCode 1 64)
    (s.loadRecord r).systemKey

/-- Package flash that cannot be read is found at step 1 (R489). -/
theorem State.weirBoot_unreadable (hflash : s.weir.flashReadable = false) : s.weirBoot.2 = 5 := by
  simp only [State.weirBoot, hflash, Bool.not_false, if_true]

/-- A part that passes every check of Table WEI-1 and need not enter recovery mode completes step 7. -/
theorem State.weirBoot_verified {i : Nat} (hflash : s.weir.flashReadable = true) (hpuf : s.weir.mfg.pufOk = true)
    (hsignature : s.weir.mfg.signatureOk = true) (hmap : s.weir.mfg.mapOk = true) (hrecord : newestRec s.weir.stateLog = some (i, r))
    (hrecovery : s.cru.recoveryNext = 0) (hheader : s.weir.image.refusal r.rollback r.revoked false = none)
    (hbody : s.weir.image.bodyOk = true) : s.weirBoot = (s.bootImage r, 0) := by
  simp only [State.weirBoot, hflash, hpuf, hsignature, hmap, hrecord, hrecovery, hheader, hbody, Bool.not_true, Bool.false_eq_true, or_self,
    if_false, ne_eq, not_true_eq_false]
  rfl

/-- The steps of Table WEI-1 leave the host side. -/
theorem State.weirBoot_host (hboot : s.weir.state = .boot) : s.weirBoot.1.host = s.host :=
  (Flows.weirBoot (w0 := pRegs ||| pWeir) (.refl s) (by rw [hboot]; decide) rfl).host rfl

/-! ### The port, the rollback counter and the units (R454, R493, Table CRU-4) -/

/-- Training decides the link, which comes up exactly in Flit mode. -/
theorem State.trainPcie_host (s : State) : ∃ rate lanes, s.trainPcie.host = { s.host with linkUp := s.host.flitMode, rate := rate, lanes := lanes } := by
  cases hflit : s.host.flitMode with
  | true =>
    rw [State.trainPcie, hflit]
    exact ⟨_, _, rfl⟩
  | false =>
    rw [State.trainPcie, hflit]
    exact ⟨0, 0, (Flows.logC (w0 := pRegs ||| pGauge) (.refl _) rfl).host rfl⟩

@[simp] theorem State.trainPcie_weir (s : State) : s.trainPcie.weir = s.weir :=
  (Flows.trainPcie (w0 := pHost ||| pRegs ||| pGauge ||| pFree) (.refl s) rfl).weir rfl

@[simp] theorem State.trainPcie_cru (s : State) : s.trainPcie.cru = s.cru :=
  (Flows.trainPcie (w0 := pHost ||| pRegs ||| pGauge ||| pFree) (.refl s) rfl).cru rfl

/-- At the first RUNNING under an image the rollback counter is at least the image's, and its revocations are in the revoked set (R493). -/
theorem State.raiseRollback_weir (s : State) : ∃ seq log, s.raiseRollback.weir = { s.weir with
    record := { s.weir.record with seq := seq, rollback := Nat.max s.weir.record.rollback s.weir.image.rollback,
                                   revoked := s.weir.record.revoked ||| s.weir.image.revoke }
    stateLog := log } := by
  by_cases hraise : s.weir.record.rollback < s.weir.image.rollback ∨ s.weir.record.revoked ||| s.weir.image.revoke ≠ s.weir.record.revoked
  · rw [State.raiseRollback, if_pos hraise]
    exact ⟨_, _, rfl⟩
  · obtain ⟨hcounter, hrevoked⟩ := not_or.1 hraise
    have hmax : Nat.max s.weir.record.rollback s.weir.image.rollback = s.weir.record.rollback := Nat.max_eq_left (Nat.not_lt.1 hcounter)
    rw [State.raiseRollback, if_neg hraise, hmax, Decidable.not_not.1 hrevoked]
    exact ⟨_, _, rfl⟩

/-- The node at RUNNING, before R493 raises the rollback counter. -/
def State.runUnits (s : State) : State :=
  (((s.cru! (fun c => { c with plls := 0x1FFFF7 })).loadCells.host! (fun h => { h with
    nodeState := .running, fwVersion := s.weir.image.version })).trainPcie).box! 64 (fun b => { b with state := .free })

theorem State.runUnits_weir (s : State) : s.runUnits.weir = s.weir := State.trainPcie_weir _

theorem State.startNode_nil (s : State) : s.startNode [] = s.runUnits.raiseRollback := rfl

/-- Node and port run the image of Weir. -/
theorem State.startNode_host (s : State) : (s.startNode []).host.nodeState = .running ∧ (s.startNode []).host.linkUp = s.host.flitMode ∧
    (s.startNode []).host.fwVersion = s.weir.image.version := by
  have hraise : (s.startNode []).host = s.runUnits.host := (Flows.raiseRollback (w0 := pWeir) (.refl _) rfl).host rfl
  obtain ⟨rate, lanes, htrain⟩ := State.trainPcie_host ((s.cru! (fun c => { c with plls := 0x1FFFF7 })).loadCells.host! (fun h => { h with
    nodeState := .running, fwVersion := s.weir.image.version }))
  rw [hraise, State.runUnits, State.box!, State.host_upd_host, htrain]
  exact ⟨rfl, rfl, rfl⟩

/-- The units that fail their tests are fenced one after another, in a node at RUNNING. -/
theorem State.startNode_eq_foldl (s : State) (failed : List Nat) : s.startNode failed =
    failed.foldl (fun t u => if unitExists u then t.raise u (testFail u) .u none 0xFF 0x3FF 0 0 0 else t) (s.startNode []) := rfl

/-! ### The command START_UP (R489, R570) -/

/-- A start-up that completes step 7 goes on with Table CRU-4. -/
theorem exec_startUp_running {failed : List Nat} (hheld : s.cru.held = false) (hboot : s.weir.state = .boot) (hverified : s.weirBoot.2 = 0) :
    exec (.startUp failed) s = .next (s.weirBoot.1.startNode failed) := by
  change execStartUp failed s = _
  rw [execStartUp, hheld, hboot]
  exact congrArg _ (if_pos hverified)

/-- Any other start-up goes into recovery mode. -/
theorem exec_startUp_recovery {failed : List Nat} (hheld : s.cru.held = false) (hboot : s.weir.state = .boot) (hcause : s.weirBoot.2 ≠ 0) :
    exec (.startUp failed) s = .next (s.weirBoot.1.startRecovery s.weirBoot.2) := by
  change execStartUp failed s = _
  rw [execStartUp, hheld, hboot]
  exact congrArg _ (if_neg hcause)

/-- In recovery mode the port trains, VF Enable is 0, and the staging area is zero (R484 to R487). -/
theorem State.startRecovery_enters (s : State) (cause : Nat) :
    (s.startRecovery cause).weir.state = .recovery ∧ (s.startRecovery cause).host.nodeState = .recovery ∧
    (s.startRecovery cause).host.recoveryCause = cause ∧ (s.startRecovery cause).host.linkUp = s.host.flitMode ∧
    (s.startRecovery cause).host.vfEnable = false ∧ (s.startRecovery cause).host.staging = [] ∧
    (s.startRecovery cause).cru.recoveryNext = 0 := by
  rw [State.startRecovery]
  generalize hready : State.host! _ _ = u
  obtain ⟨rate, lanes, htrain⟩ := u.trainPcie_host
  rw [State.box_upd_weir, State.box_upd_cru, State.trainPcie_weir, State.trainPcie_cru, State.box!, State.host_upd_host, htrain, ← hready]
  exact ⟨rfl, rfl, rfl, rfl, rfl, rfl, rfl⟩

/-- A start-up without a fault ends in RUNNING, with the image measured and the state record of Weir counted up (R489, R493). -/
theorem exec_startUp_verified (hheld : s.cru.held = false) (hboot : s.weir.state = .boot) (hverified : s.weirBoot = (s.bootImage r, 0)) :
    ∃ t, exec (.startUp []) s = .next t ∧ t.weir.state = .running ∧ t.host.nodeState = .running ∧ t.weir.bootStep = 7
      ∧ t.host.linkUp = s.host.flitMode
      ∧ t.host.fwVersion = s.weir.image.version ∧ t.weir.measure = s.weir.image.measure
      ∧ t.weir.record.rollback = Nat.max r.rollback s.weir.image.rollback
      ∧ t.weir.record.revoked = r.revoked ||| s.weir.image.revoke
      ∧ t.weir.record.incarnation = (r.incarnation + 1) % 2 ^ 32 := by
  obtain ⟨hnode, hlink, hversion⟩ := (s.bootImage r).startNode_host
  obtain ⟨seq, log, hweir⟩ := (s.bootImage r).runUnits.raiseRollback_weir
  rw [← State.startNode_nil, State.runUnits_weir] at hweir
  refine ⟨_, exec_startUp_running hheld hboot (congrArg Prod.snd hverified), ?_⟩
  rw [hverified, hweir]
  exact ⟨rfl, hnode, rfl, hlink, hversion, rfl, rfl, rfl, rfl⟩

/-! ### The loss of a clock (R564) -/

/-- The loss of the reference or of WPLL holds every unit, with WTRIP_N low. -/
theorem exec_clockLoss_reference {pll : Nat} (hheld : s.cru.held = false) (hpll : pll = 0 ∨ pll = 21) : exec (.clockLoss pll) s =
    .next (((s.holdUnits.cru! (fun c => { c with held := true, plls := 0 })).weir! (fun w => { w with wtripLow := true })).drive (.wtrip true)) := by
  change execClockLoss pll s = _
  have hunit : (decide (pll ≤ 21) && decide (pll ≠ 3)) = true := by
    rw [decide_eq_true (show pll ≤ 21 by omega), decide_eq_true (show pll ≠ 3 by omega)]
    rfl
  rw [execClockLoss, onUnit_pos hunit, hheld, if_neg Bool.false_ne_true, if_pos hpll]

/-- The loss of lock of another PLL of a live node is a class N error of the clock unit. -/
theorem exec_clockLoss_pll {pll : Nat} (hlive : Live s) (hmin : 1 ≤ pll) (hmax : pll ≤ 20) (hunused : pll ≠ 3) (hlocked : bit s.cru.plls pll = true) :
    exec (.clockLoss pll) s = .next (((s.cru! (fun c => { c with plls := setBits c.plls pll 1 0 })).form (unitOf 0x17 0) 0x0052 .n false 0xFF
      0x3FF 0 pll).fatal (unitOf 0x17 0)) := by
  change execClockLoss pll s = _
  obtain ⟨hheld, hquar⟩ := hlive
  have hunit : (decide (pll ≤ 21) && decide (pll ≠ 3)) = true := by
    rw [decide_eq_true (show pll ≤ 21 by omega), decide_eq_true hunused]
    rfl
  have hreference : ¬ (pll = 0 ∨ pll = 21) := by omega
  have hserved : ¬ ((!bit s.cru.plls pll) = true ∨ s.weir.state = .quarantined) := by
    rw [hlocked]
    exact not_or.2 ⟨Bool.false_ne_true, hquar⟩
  rw [execClockLoss, onUnit_pos hunit, hheld, if_neg Bool.false_ne_true, if_neg hreference, if_neg hserved,
    State.raise_of_own (.inr rfl) (by decide)]
  rfl

end Sys2Proof.Machine
end

section
/-! The samples of Spillway, and the vector that they send (R555, R556, R559, R560). -/

namespace Sys2Proof.Machine

open Sys2Proof.Claims

variable {s t : State} {powerW tjC : Nat}

/-! ### What a sample does (R555, R556) -/

/-- The node at the next sample; SPW_CNT1 counts the time in CAPPED since the last one. -/
def State.atSample (s : State) : State :=
  let u := s.reach (s.spw.lastSampleNs + us 10)
  if s.spw.state = .capped then u.count Reg.SPW_CNT0 1 ((u.now - s.spw.lastSampleNs) / 1000) else u

/-- The node with the readings of a sample. -/
def State.readings (s : State) (powerW tjC : Nat) : State :=
  (s.atSample.seeTj tjC).spw! (fun x => { x with
    powerW := Nat.min 65535 powerW, tjC := Nat.min 255 tjC, lastSampleNs := s.atSample.now
    cool := s.atSample.eased powerW tjC
    coolSinceNs := if s.atSample.eased powerW tjC && x.cool then x.coolSinceNs else s.atSample.now })

/-- A step of Table SPW-1 taken under pressure. -/
def State.stepTaken (s : State) : State := ((s.spw! (fun x => { x with lastStepNs := s.now })).count Reg.SPW_CNT0 0 1).spwState

/-- A step of Table SPW-1 given back. -/
def State.stepBack (s : State) : State := (s.retreat.spw! (fun x => { x with coolSinceNs := s.now })).spwState

/-- What Spillway does at the readings: one step, a retreat, or neither (R556). -/
def State.react (s : State) (powerW tjC : Nat) : State :=
  if s.pressed powerW tjC then
    if s.spw.lastStepNs ≠ 0 ∧ s.now < s.spw.lastStepNs + us 100 then s
    else match s.throttle with
      | some t => t.stepTaken
      | none => s
  else if s.spw.cool && decide (s.spw.coolSinceNs + ms 1 ≤ s.now) && !SpwFree s.spw then s.stepBack
  else s

/-- A sample of a running node in ACTIVE or CAPPED takes the readings and reacts to them. -/
theorem exec_spillwaySample (hlive : Live s) (hrun : s.host.nodeState = .running) (hstate : s.spw.state = .active ∨ s.spw.state = .capped) :
    exec (.spillwaySample powerW tjC) s = .next ((s.readings powerW tjC).react powerW tjC) := by
  change execSpillwaySample powerW tjC s = _
  obtain ⟨hheld, hquar⟩ := hlive
  have hsampled : (decide (s.spw.state = .active) || decide (s.spw.state = .capped)) = true := by
    rw [← Bool.decide_or]
    exact decide_eq_true hstate
  have hserved : ¬ (s.cru.held = true ∨ s.host.nodeState ≠ .running ∨ s.weir.state = .quarantined ∨
      (!(decide (s.spw.state = .active) || decide (s.spw.state = .capped))) = true) := by
    rw [hheld, hrun, hsampled]
    exact not_or.2 ⟨Bool.false_ne_true, not_or.2 ⟨not_not_intro rfl, not_or.2 ⟨hquar, Bool.false_ne_true⟩⟩⟩
  rw [execSpillwaySample, if_neg hserved]
  rfl

/-- In every other state of a live node it has no effect. -/
theorem exec_spillwaySample_ignored (h : ¬ (s.host.nodeState = .running ∧ (s.spw.state = .active ∨ s.spw.state = .capped))) :
    exec (.spillwaySample powerW tjC) s = .next s := by
  change execSpillwaySample powerW tjC s = _
  refine congrArg _ (if_pos (.inr ?_))
  by_cases hrun : s.host.nodeState = .running
  · have hother : (decide (s.spw.state = .active) || decide (s.spw.state = .capped)) = false := by
      rw [← Bool.decide_or]
      exact decide_eq_false (fun hstate => h ⟨hrun, hstate⟩)
    rw [hother]
    exact .inr (.inr rfl)
  · exact .inl hrun

/-- At most the cap, where one is set, and below TJ_THROTTLE_C there is no pressure. -/
theorem State.pressed_eq_false (hpower : s.capEn = true → powerW ≤ s.capW) (htj : tjC < s.tjThrottle) : s.pressed powerW tjC = false := by
  rw [State.pressed, decide_eq_false (Nat.not_le.2 htj), Bool.or_false]
  cases hcap : s.capEn with
  | false => rfl
  | true => exact decide_eq_false (Nat.not_lt.2 (hpower hcap))

/-- Spillway without pressure that holds no step keeps what the readings leave. -/
theorem State.react_of_free (hpressed : s.pressed powerW tjC = false) (hfree : SpwFree s.spw = true) : s.react powerW tjC = s := by
  rw [State.react, hpressed, hfree, Bool.not_true, Bool.and_false]
  rfl

/-- Settles O8, clause by clause: each clause is the law above of its command, or is read off the state that the law gives. -/
theorem startUpClockAndSample : Obligations.StartUpClockAndSample := by
  unfold Obligations.StartUpClockAndSample
  refine ⟨?verified, ?running, ?recovery, fun s => State.weirBoot_unreadable, ?reference, fun s pll => exec_clockLoss_pll, ?sample⟩
  case verified =>
    intro s i r hheld hboot hflash hpuf hsignature hmap hrecord hrecovery hheader hbody
    exact exec_startUp_verified hheld hboot (State.weirBoot_verified hflash hpuf hsignature hmap hrecord hrecovery hheader hbody)
  case running =>
    intro s failed hheld hboot hverified
    rw [exec_startUp_running hheld hboot hverified, State.startNode_eq_foldl]
  case recovery =>
    intro s failed hheld hboot hcause
    refine ⟨_, exec_startUp_recovery hheld hboot hcause, ?_⟩
    rw [← State.weirBoot_host hboot]
    exact State.startRecovery_enters _ _
  case reference =>
    intro s pll hheld hpll
    exact ⟨_, exec_clockLoss_reference hheld hpll, rfl, rfl, rfl, rfl⟩
  case sample =>
    intro s p tj hlive hrun hactive hpower htj hfree
    have hat : s.atSample = s.reach (s.spw.lastSampleNs + us 10) := if_neg (by rw [hactive]; decide)
    have hpressed : (s.readings p tj).pressed p tj = false := by
      rw [State.readings, hat]
      exact State.pressed_eq_false (s := s) hpower htj
    have hfree' : SpwFree (s.readings p tj).spw = true := by
      rw [State.readings, hat]
      exact hfree
    refine ⟨_, exec_spillwaySample hlive hrun (.inl hactive), ?_⟩
    rw [State.react_of_free hpressed hfree', State.readings, hat]
    exact ⟨rfl, rfl, rfl, rfl, rfl, rfl, hactive, rfl⟩

/-! ### PF MSI-X vector 1 (R560) -/

/-- The PF of a live node may issue what it has to send. -/
structure PfIssues (s : State) : Prop where
  live : Live s
  master : (s.func 0).busMaster = true
  sends : (s.func 0).suppressed = false

/-- `t` comes from `s` with PF vector 1 sent `n` times; the host sees nothing else, and the PF may still issue where it could before. -/
structure SendsVector (n : Nat) (s t : State) : Prop where
  host : t.host = { s.host with out := s.host.out ++ List.replicate n (.msix 0 1 (s.func 0).ideEnabled) }
  weir : t.weir.state = s.weir.state
  cru : t.cru = s.cru

theorem SendsVector.func {n : Nat} (h : SendsVector n s t) : t.func 0 = s.func 0 := by
  rw [State.func, h.host]
  rfl

theorem SendsVector.pfIssues {n : Nat} (h : SendsVector n s t) (hs : PfIssues s) : PfIssues t where
  live := ⟨h.cru ▸ hs.live.1, h.weir ▸ hs.live.2⟩
  master := h.func ▸ hs.master
  sends := h.func ▸ hs.sends

/-- An operation that leaves the host side sends nothing. -/
theorem SendsVector.of_host_eq (hhost : t.host = s.host) (hweir : t.weir.state = s.weir.state) (hcru : t.cru = s.cru) : SendsVector 0 s t where
  host := by rw [hhost, List.replicate_zero, List.append_nil]
  weir := hweir
  cru := hcru

theorem SendsVector.trans {n m : Nat} {u : State} (h : SendsVector n s t) (k : SendsVector m t u) : SendsVector (n + m) s u where
  host := by rw [k.host, h.func, h.host, ← List.replicate_append_replicate, ← List.append_assoc]
  weir := k.weir.trans h.weir
  cru := k.cru.trans h.cru

theorem SendsVector.spwVector (h : PfIssues s) : SendsVector 1 s s.spwVector := by
  rw [State.spwVector, State.emit_sends s 0 _ h.live.2 h.live.1 h.sends h.master]
  exact ⟨rfl, rfl, rfl⟩

/-- The host side alone sees the vector. -/
@[simp] theorem State.spwVector_spw (s : State) : s.spwVector.spw = s.spw := by
  obtain h | h | h := s.emit_cases 0 (.msix 0 1 (s.func 0).ideEnabled) <;> rw [State.spwVector, h] <;> rfl

/-- STATE that follows the steps that Spillway holds (R556). -/
def State.followed (s : State) : SpwState := if SpwFree s.spw then .active else .capped

/-- The node with STATE set so. -/
def State.setFollowed (s : State) : State := s.spw! (fun x => { x with state := s.followed })

theorem State.spwState_eq (s : State) :
    s.spwState = if s.spw.state = .active ∧ s.followed = .capped then s.setFollowed.spwVector else s.setFollowed := rfl

theorem State.spwState_spw (s : State) : s.spwState.spw = { s.spw with state := s.followed } := by
  rw [State.spwState_eq]
  split
  · rw [State.spwVector_spw]
    rfl
  · rfl

/-- STATE sends the vector where it changes from ACTIVE to CAPPED. -/
theorem SendsVector.spwState (h : PfIssues s) :
    SendsVector (b2n (decide (s.spw.state = .active) && decide (s.spwState.spw.state = .capped))) s s.spwState := by
  have hset : SendsVector 0 s s.setFollowed := .of_host_eq rfl rfl rfl
  rw [State.spwState_spw, ← Bool.decide_and]
  by_cases hcaps : s.spw.state = .active ∧ s.followed = .capped
  · rw [State.spwState_eq, if_pos hcaps, decide_eq_true hcaps]
    exact hset.trans (SendsVector.spwVector (hset.pfIssues h))
  · rw [State.spwState_eq, if_neg hcaps, decide_eq_false hcaps]
    exact hset

/-- A change of the steps that Spillway holds sends the vector exactly where it enters stage Z, and leaves STATE. -/
structure EntersZ (s t : State) : Prop where
  sends : SendsVector (b2n (!s.spw.zStage && t.spw.zStage)) s t
  state : t.spw.state = s.spw.state

/-- A change of Spillway's own state that neither enters stage Z nor sets STATE. -/
theorem EntersZ.spw! {f : SpwSt → SpwSt} (hz : (!s.spw.zStage && (f s.spw).zStage) = false) (hstate : (f s.spw).state = s.spw.state) :
    EntersZ s (s.spw! f) where
  sends := by
    rw [State.spw_upd_spw, hz]
    exact .of_host_eq rfl rfl rfl
  state := hstate

/-- What then leaves STATE, stage Z and the host side changes nothing of this. -/
theorem EntersZ.then_quiet {u : State} (h : EntersZ s t) (hspw : u.spw.zStage = t.spw.zStage ∧ u.spw.state = t.spw.state) (hu : SendsVector 0 t u) :
    EntersZ s u where
  sends := by
    rw [hspw.1]
    exact h.sends.trans hu
  state := hspw.2.trans h.state

theorem entersZ_throttle (h : PfIssues s) (ht : s.throttle = some t) : EntersZ s t := by
  rw [State.throttle] at ht
  split at ht
  case isTrue =>
    cases ht
    exact .spw! (Bool.not_and_self _) rfl
  case isFalse =>
    split at ht
    case isTrue =>
      cases ht
      exact .spw! (Bool.not_and_self _) rfl
    case isFalse =>
      split at ht
      case isTrue hz =>
        cases ht
        have hset : SendsVector 0 s (s.spw! (fun x => { x with zStage := true, limit := 0 })) := .of_host_eq rfl rfl rfl
        have hone : b2n (!s.spw.zStage && true) = 1 := by rw [hz]; rfl
        refine ⟨?_, by rw [State.spwVector_spw]; rfl⟩
        rw [State.spwVector_spw, State.spw_upd_spw, hone]
        exact hset.trans (SendsVector.spwVector (hset.pfIssues h))
      case isFalse => cases ht

theorem entersZ_retreat (s : State) : EntersZ s s.retreat := by
  rw [State.retreat]
  split
  · exact .spw! (Bool.and_false _) rfl
  · split
    · exact .spw! (Bool.not_and_self _) rfl
    · split
      · exact .spw! (Bool.not_and_self _) rfl
      · exact .spw! (f := id) (Bool.not_and_self _) rfl

/-- How often a sample that takes `s` to `t` is to send vector 1 (R560). -/
def vectorCount (s t : State) : Nat :=
  b2n (decide (s.spw.state = .active) && decide (t.spw.state = .capped)) + b2n (!s.spw.zStage && t.spw.zStage)

/-- No change of STATE and stage Z, no vector. -/
theorem vectorCount_of_same (hstate : t.spw.state = s.spw.state) (hz : t.spw.zStage = s.spw.zStage) : vectorCount s t = 0 := by
  rw [vectorCount, hstate, hz, Bool.not_and_self, ← Bool.decide_and, decide_eq_false]
  · rfl
  · rintro ⟨hactive, hcapped⟩
    rw [hactive] at hcapped
    cases hcapped

/-- A change of the steps held, after which STATE follows, sends what R560 says. -/
theorem EntersZ.spwState (h : EntersZ s t) (hs : PfIssues s) : SendsVector (vectorCount s t.spwState) s t.spwState := by
  have hz : t.spwState.spw.zStage = t.spw.zStage := by rw [State.spwState_spw]
  rw [vectorCount, hz, ← h.state, Nat.add_comm]
  exact h.sends.trans (SendsVector.spwState (h.sends.pfIssues hs))

theorem EntersZ.stepTaken (h : EntersZ s t) (hs : PfIssues s) : SendsVector (vectorCount s t.stepTaken) s t.stepTaken := by
  refine EntersZ.spwState ?_ hs
  exact h.then_quiet ⟨rfl, rfl⟩ (.of_host_eq rfl rfl rfl)

theorem sendsVector_stepBack (h : PfIssues s) : SendsVector (vectorCount s s.stepBack) s s.stepBack := by
  refine EntersZ.spwState ?_ h
  exact (entersZ_retreat s).then_quiet ⟨rfl, rfl⟩ (.of_host_eq rfl rfl rfl)

/-- A sample's reaction sends vector 1 exactly as often as R560 says. -/
theorem sendsVector_react (h : PfIssues s) : SendsVector (vectorCount s (s.react powerW tjC)) s (s.react powerW tjC) := by
  have hnone : SendsVector (vectorCount s s) s s := by
    rw [vectorCount_of_same rfl rfl]
    exact .of_host_eq rfl rfl rfl
  rw [State.react]
  split
  · split
    · exact hnone
    · split
      case h_1 t ht => exact (entersZ_throttle h ht).stepTaken h
      case h_2 => exact hnone
  · split
    · exact sendsVector_stepBack h
    · exact hnone

/-- The readings change neither STATE nor stage Z, and the host does not see them. -/
theorem State.readings_quiet (s : State) (powerW tjC : Nat) : SendsVector 0 s (s.readings powerW tjC) ∧
    (s.readings powerW tjC).spw.state = s.spw.state ∧ (s.readings powerW tjC).spw.zStage = s.spw.zStage := by
  rw [State.readings, State.atSample]
  split
  · exact ⟨.of_host_eq rfl rfl rfl, rfl, rfl⟩
  · exact ⟨.of_host_eq rfl rfl rfl, rfl, rfl⟩

/-- Settles O46: the readings send nothing, and what Spillway does at them sends the vector for each of the two changes. -/
theorem spillwayVector : Obligations.SpillwayVector := by
  unfold Obligations.SpillwayVector
  intro s t powerW tjC hlive hmaster hsends hexec
  suffices hsent : SendsVector (vectorCount s t) s t from congrArg HostSt.out hsent.host
  by_cases hsampled : s.host.nodeState = .running ∧ (s.spw.state = .active ∨ s.spw.state = .capped)
  · rw [exec_spillwaySample hlive hsampled.1 hsampled.2] at hexec
    cases hexec
    obtain ⟨hquiet, hstate, hz⟩ := s.readings_quiet powerW tjC
    have hreact := sendsVector_react (powerW := powerW) (tjC := tjC) (hquiet.pfIssues ⟨hlive, hmaster, hsends⟩)
    rw [vectorCount, hstate, hz, ← vectorCount] at hreact
    exact Nat.zero_add (vectorCount s _) ▸ hquiet.trans hreact
  · rw [exec_spillwaySample_ignored hsampled] at hexec
    cases hexec
    rw [vectorCount_of_same rfl rfl]
    exact .of_host_eq rfl rfl rfl

end Sys2Proof.Machine
end

section
/-! What holds of every command and step, whatever its operands: the canonical forms, the parts that a command can touch, and the only stop (Tables SCP-1,
SCP-3, ARC-1, ARC-2, HWD-3). -/

namespace Sys2Proof.Machine

/-- Settles O53: every command keeps both canonical forms, and an idle nanosecond touches neither the registers nor the host side. -/
theorem stepKeepsForms : Obligations.StepKeepsForms := by
  unfold Obligations.StepKeepsForms
  rintro s t h ⟨hregs, hmems⟩
  obtain ⟨-, rfl⟩ | ⟨c, rest, -, hexec⟩ := step_cases h
  · exact ⟨hregs, hmems⟩
  · have hkept := kept_exec hexec
    exact ⟨hkept.canon hregs, hkept.mems hmems⟩

/-- Two states differ at most in the parts of the state. -/
theorem same_allParts (s t : State) : Same (2 ^ 14 - 1) s t := by
  constructor <;> exact fun h => absurd h (by decide)

/-- A command that may reset the node is one whose effect can lie in every part. -/
theorem touches_of_resets {c : Instr} (hc : Resets c = true) : touches c = 2 ^ 14 - 1 := by
  unfold Resets at hc
  split at hc
  case h_8 => cases hc
  all_goals rfl

/-- Settles O58: a command that is no reset flows within its parts, and a reset may change all of them. -/
theorem effectsStayInTheirParts : Obligations.EffectsStayInTheirParts := by
  unfold Obligations.EffectsStayInTheirParts
  intro c s t h
  cases hc : Resets c with
  | false => exact (flows_of_exec hc h).toSame
  | true => exact touches_of_resets hc ▸ same_allParts s t

/-! ### The only stop (Table ARC-1, log 116) -/

/-- The check of an access to a bank group or the mesh is that its operands name places that the node has. -/
theorem ordOk_eq_exists (a : OrdAccess) : ordOk a = a.exists := by
  unfold ordOk OrdAccess.exists
  split <;> rfl

/-- Every command answers on the units that its operands name: its meaning is a next state on them, for all operands where the command is of the whole
node, and the fault on any other unit. -/
theorem exec_eq_onUnit (c : Instr) (s : State) : ∃ t, exec c s = onUnit c.WellFormed t := by
  cases c with
  | scalar core op => cases op <;> exact ⟨_, rfl⟩
  | convert core k a => cases k <;> exact ⟨_, rfl⟩
  | channelFail part => cases part <;> exact ⟨_, rfl⟩
  | ordinaryAccess a => exact ⟨_, congrArg (onUnit · _) (ordOk_eq_exists a)⟩
  | _ => exact ⟨_, rfl⟩

/-- Settles O47: on the units of the node a command's answer is a next state, and elsewhere it is the fault. -/
theorem everyCommandAnswers : Obligations.EveryCommandAnswers := by
  unfold Obligations.EveryCommandAnswers
  intro c s
  obtain ⟨t, hexec⟩ := exec_eq_onUnit c s
  rw [hexec]
  exact ⟨fun hunit => ⟨t, onUnit_pos hunit⟩, onUnit_neg⟩

end Sys2Proof.Machine
end

section
/-! The admin opcodes on the node's own registers, ring and time (R481, Tables HWD-11 and HWD-12), and the diagnostics opcodes on Gauge (R550 to R552, Table
ERR-8): what each leaves and replies. -/

namespace Sys2Proof.Machine

open Sys2Proof.Claims

/-- Settles O4, clause by clause: under a clause's conditions none of the refusals of its opcode applies. -/
theorem adminOpcodes : Obligations.AdminOpcodes := by
  unfold Obligations.AdminOpcodes
  refine ⟨acts_of_onMsg (fun _ _ => rfl) ?nodeInfo, acts_of_onMsg (fun _ _ => rfl) ?nodeIdSet, acts_of_onMsg (fun _ _ => rfl) ?routeSet,
    acts_of_onMsg (fun _ _ => rfl) ?linkSet, acts_of_onMsg (fun _ _ => rfl) ?peerReadmit, acts_of_onMsg (fun _ _ => rfl) ?ringSet,
    acts_of_onMsg (fun _ _ => rfl) ?timeSet, acts_of_onMsg (fun _ _ => rfl) ?rwpWrite⟩
  case nodeInfo =>
    intro m t hzero
    rw [if_neg (not_not_intro hzero)]
    cases t.nodeId <;> rfl
  case nodeIdSet =>
    rintro m t ⟨hzero, hid, hstopped⟩
    rw [if_neg (not_not_intro hzero), if_neg (Nat.not_le.2 hid), if_neg (Bool.eq_false_iff.1 hstopped)]
  case routeSet =>
    rintro m t ⟨hzero, hlen, hmin, hmax, hlast⟩
    rw [if_neg (by omega), if_neg (by omega)]
  case linkSet => exact fun m t _ => rfl
  case peerReadmit =>
    rintro m t ⟨hzero, hid, hlost⟩
    rw [if_neg (not_not_intro hzero), if_neg (Nat.not_le.2 hid), if_pos hlost]
  case ringSet =>
    rintro m t ⟨hzero, hmin, hmax, hpow⟩
    have hentries : ¬ (m.p 0 4 ≠ 0 ∧ (m.p 0 4 < 64 ∨ 65536 < m.p 0 4 ∨ !isPow2 (m.p 0 4))) := by
      rw [hpow]; simp; omega
    have hring : ¬ m.p 0 4 = 0 := by omega
    simp only [if_neg (not_not_intro hzero), if_neg hentries, if_neg hring]
  case timeSet => exact fun m t hlater => if_neg (Nat.not_lt.2 hlater)
  case rwpWrite =>
    rintro m t ⟨hzero, hreg, hmask⟩
    have hfields : ¬ ((m.p 0 4 ≠ Reg.FRY_BPOOL ∧ m.p 0 4 ≠ Reg.DLT_FORMAT ∧ m.p 0 4 ≠ Reg.DLT_MAP) ∨ m.p 0x10 8 / 2 ^ 32 ≠ 0) := by
      rw [Nat.div_eq_of_lt hmask]; simp [hreg]
    have hpool : m.p 0 4 ≠ Reg.FRY_BPOOL := by rw [hreg]; decide
    have hmap : m.p 0 4 ≠ Reg.DLT_MAP := by rw [hreg]; decide
    simp only [if_neg (not_not_intro hzero), if_pos hreg, if_neg hfields]
    rw [if_neg (fun h => h.1 hreg), if_neg (fun h => hpool h.1), if_neg (fun h => hmap h.1), hreg]

/-- Settles O5, clause by clause: under a clause's conditions none of the refusals of its opcode applies, and what is asked names the case of it. -/
theorem diagnosticsOpcodes : Obligations.DiagnosticsOpcodes := by
  unfold Obligations.DiagnosticsOpcodes
  refine ⟨acts_of_onMsg (fun _ _ => rfl) ?errLogRead, acts_of_onMsg (fun _ _ => rfl) ?interval, acts_of_onMsg (fun _ _ => rfl) ?start,
    acts_of_onMsg (fun _ _ => rfl) ?pause, acts_of_onMsg (fun _ _ => rfl) ?resume, fun o => acts_of_onMsg (fun _ _ => rfl) ?snapshot,
    fun o => acts_of_onMsg (fun _ _ => rfl) ?injectMemory, acts_of_onMsg (fun _ _ => rfl) ?injectFatal⟩
  case errLogRead =>
    rintro m t ⟨hmin, hmax, hzero, halign⟩
    rw [if_neg (by omega)]
    rfl
  case interval =>
    rintro m t ⟨htarget, haction, hzero, hvalue⟩
    rw [if_neg (by rw [haction]; omega), if_pos haction]
  case start =>
    rintro m t ⟨htarget, haction, hzero⟩
    simp only [haction]
    rw [if_neg (by omega), if_neg (by decide), if_true]
  case pause =>
    rintro m t ⟨htarget, haction, hzero⟩
    simp only [haction]
    rw [if_neg (by omega), if_neg (by decide), if_neg (by decide), if_true]
  case resume =>
    rintro m t ⟨htarget, haction, hzero⟩
    simp only [haction]
    rw [if_neg (by omega), if_neg (by decide), if_neg (by decide), if_neg (by decide)]
  case snapshot =>
    rintro m t ⟨hbuffer, hzero, hroom⟩
    simp only [hbuffer]
    rw [if_neg (by omega)]
  case injectMemory =>
    rintro m t ⟨hmin, hmax, hzero, hzero', hbuffer, hinside⟩
    simp only [hbuffer]
    rw [if_neg (by omega), if_pos hmax, if_neg (Nat.not_le.2 hinside)]
  case injectFatal =>
    rintro m t ⟨hkind, hzero, hzero', hcomps⟩
    simp only [hkind, hcomps]
    rw [if_neg (by omega), if_neg (by decide), if_neg (by simp), if_neg (by decide), if_neg (by decide)]

end Sys2Proof.Machine
end

section
/-! Weir's security opcodes (R494, R495, R504, R509, R511 to R514, Table WEI-8) and the SPDM requests of the model (R503, R506 to R508, Table WEI-7): what
each leaves and answers. -/

namespace Sys2Proof.Machine

open Sys2Proof.Claims

/-! ### The security opcodes -/

/-- The checks of an image do not look at the image that is staged. -/
theorem State.imageRefusal_staged (t : State) (x : Option FwImage) (i : FwImage) :
    (t.weir! (fun w => { w with staged := x })).imageRefusal i = t.imageRefusal i := rfl

/-- Settles O9, clause by clause: under a clause's conditions none of the refusals of its opcode applies. An image is staged from bytes that hold no
injected error, so that reading them raises none. -/
theorem securityOpcodes : Obligations.SecurityOpcodes := by
  unfold Obligations.SecurityOpcodes
  refine ⟨acts_of_onMsg (fun _ _ => rfl) ?attestReport, fun x => acts_of_onMsg (fun _ _ => rfl) ?newKey,
    fun x e => acts_of_onMsg (fun _ _ => rfl) ?knownKey, acts_of_onMsg (fun _ _ => rfl) ?flashKeyDestroy,
    fun o => acts_of_onMsg (fun _ _ => rfl) ?fwStage, acts_of_onMsg (fun _ _ => rfl) ?fwActivate, acts_of_onMsg (fun _ _ => rfl) ?peerPolicySet⟩
  case attestReport =>
    intro m t hidentity
    rw [hidentity]
    rfl
  case newKey =>
    rintro m t ⟨hcomp, hzero, hid, hkeyless, hunused, hnew, hroom⟩
    have hfree : ¬ (m.p 8 8 = 0 ∨ Tbl.has (m.p 0 1) t.weir.flashKeys ∨ t.weir.flashKeys.any (fun k => decide (k.2 = m.p 8 8))) := by
      simp only [hid, hkeyless, hunused]; decide
    simp only [hcomp, hnew]
    rw [if_neg (not_not_intro hzero), if_neg hfree, if_neg (Nat.not_le.2 hroom)]
  case knownKey =>
    rintro m t ⟨hcomp, hzero, hid, hkeyless, hunused, hknown, htenant, hcheck⟩
    have hfree : ¬ (m.p 8 8 = 0 ∨ Tbl.has (m.p 0 1) t.weir.flashKeys ∨ t.weir.flashKeys.any (fun k => decide (k.2 = m.p 8 8))) := by
      simp only [hid, hkeyless, hunused]; decide
    simp only [hcomp, hknown]
    rw [if_neg (not_not_intro hzero), if_neg hfree, if_neg (by simp [htenant, hcheck])]
  case flashKeyDestroy =>
    rintro m t ⟨hzero, hcomp, hkey, hunused⟩
    simp only [if_neg (not_not_intro hzero), Option.isNone_eq_false_iff.2 hcomp, hkey, hunused, ne_eq, not_true_eq_false, if_false, Bool.false_eq_true]
    rfl
  case fwStage =>
    rintro m t ⟨hidle, hbuffer, hzero, hinside, hclean, hwhole⟩
    have hread (k id : Nat) : t.meetInjected k id [] = t := rfl
    simp only [hidle, hbuffer, hclean, hwhole, hread, State.imageRefusal_staged]
    rw [if_neg (by decide), if_neg (not_not_intro hzero), if_neg (Nat.not_lt.2 hinside), if_neg (by decide)]
    generalize FwImage.ofBytes (Mem.readBytes o.data (m.p 8 8) (m.p 0x10 8)) = i
    cases t.imageRefusal i <;> rfl
  case fwActivate =>
    rintro m t ⟨hzero, hidle, hstaged⟩
    rw [if_neg (not_not_intro hzero), if_neg (by rw [hidle]; decide), if_neg (Bool.eq_false_iff.1 (Option.isNone_eq_false_iff.2 hstaged))]
  case peerPolicySet =>
    rintro m t ⟨hpeers, hlen⟩
    rw [if_neg (by omega)]

/-! ### The SPDM responder -/

section Spdm

variable {s : State} {port : Nat}

/-- An allowed request on a transport that can answer is served. -/
theorem onSpdm_of_up {allowed : Bool} {f : State → State} (hport : port ≤ 66) (hup : s.spdmUp port = true) (hallowed : allowed = true) :
    onSpdm s port allowed f = .next (f s) := by
  rw [onSpdm, onUnit_pos (decide_eq_true hport), hup, hallowed]
  rfl

/-- A transport updated is the transport read. -/
theorem State.spdm_spdm_upd (s : State) (port : Nat) (f : Spdm → Spdm) : (s.spdm! port f).spdm port = f (s.spdm port) := by
  rw [State.spdm, State.spdm!, State.weir_upd_weir, Tbl.find_put_same, Option.getD_some]

end Spdm

/-- Settles O10, request by request: where a clause's conditions hold the request is allowed, and its answer is the model's. -/
theorem spdmRequests : Obligations.SpdmRequests := by
  unfold Obligations.SpdmRequests
  intro s port hport hup
  have hserved {allowed : Bool} {f : State → State} (hallowed : allowed = true) : onSpdm s port allowed f = .next (f s) :=
    onSpdm_of_up hport hup hallowed
  refine ⟨?getVersion, ?getCapabilities, ?negotiateAlgorithms, ?ready, ?kemFinish, ?session⟩
  case getVersion => exact fun r => (hserved rfl : execGetVersion port r s = _)
  case getCapabilities => exact fun hversion r => (hserved hversion : execGetCapabilities port r s = _)
  case negotiateAlgorithms => exact fun hcapabilities r => (hserved hcapabilities : execNegotiateAlgorithms port r s = _)
  case ready =>
    intro hready
    refine ⟨?getDigests, ?getCertificate, ?challenge, ?getMeasurements, ?kemKey⟩
    case getDigests => exact fun r => (hserved hready : execGetDigests port r s = _)
    case getCertificate =>
      exact fun off len hoff => (hserved (by rw [hready, decide_eq_true hoff]; rfl) : execGetCertificate port off len s = _)
    case challenge => exact fun n => (hserved hready : execChallenge port n s = _)
    case getMeasurements =>
      intro i n hmin hmax
      change execGetMeasurements port i n s = _
      rw [execGetMeasurements, hserved (by rw [hready, decide_eq_true hmax]; rfl), if_neg (by omega), if_neg (by omega)]
    case kemKey =>
      intro n
      refine ⟨_, _, (hserved hready : execKemKey port n s = _), ?_, rfl, rfl⟩
      exact congrArg Spdm.nonce (State.spdm_spdm_upd s.free.2 port (fun p => { p with nonce := n, kemKey := le 32 s.free.1 }))
  case kemFinish =>
    intro cipher v hkey hroom
    change execKemFinish port cipher v s = _
    rw [execKemFinish, hserved rfl, if_neg (by simp only [hkey, false_or]; omega)]
  case session =>
    intro session hsession
    refine ⟨?endSession, ?heartbeat, ?keyUpdate, ?tenantSecret, ?ideKm⟩
    case endSession => exact (hserved hsession : execEndSession port session s = _)
    case heartbeat => exact (hserved hsession : execHeartbeat port session s = _)
    case keyUpdate => exact (hserved hsession : execKeyUpdate port session s = _)
    case tenantSecret =>
      intro secret hmin hmax hcomp hkeyless hlen
      refine (hserved ?_ : execTenantSecret port session secret s = _)
      simp only [hsession, hmin, hmax, hcomp, hkeyless, hlen]
      decide
    case ideKm =>
      intro keys enable hfn hkeys
      change execIdeKm port session port keys enable s = _
      rw [execIdeKm, hserved (by rw [hsession, decide_eq_true hfn, decide_eq_true rfl]; rfl)]
      simp only [if_neg hkeys]

end Sys2Proof.Machine
end

section
/-! The collection opcodes (R32, R58 to R64, R183, Table COL-9) and the events that end them: what each leaves and replies. -/

namespace Sys2Proof.Machine

open Sys2Proof.Claims

/-- An opcode on a collection that its sender holds acts on it (R29). -/
theorem State.onColl_of_held {t : State} {m : Msg} {okFields : Bool} {f : Nat → Coll → State} {c : Coll} (hid : m.p 0 2 < 4096)
    (hcoll : t.coll (collKey m.comp (m.p 0 2)) = some c) (hfields : okFields = true) :
    t.onColl m okFields f = f (collKey m.comp (m.p 0 2)) c := by
  simp only [State.onColl, if_pos hid, hcoll, if_pos hfields]

/-- Settles O12, clause by clause: none of an opcode's refusals applies to a collection that the sender holds, and an event's collection is one that the
event is of. -/
theorem collectionOpcodes : Obligations.CollectionOpcodes := by
  unfold Obligations.CollectionOpcodes
  refine ⟨fun space u => acts_of_onMsg (fun _ _ => rfl) ?create, fun c => acts_of_onMsg (fun _ _ => rfl) ?freeze, ?freezeSet,
    fun c => acts_of_onMsg (fun _ _ => rfl) ?drop, ?dropComplete, fun c u => acts_of_onMsg (fun _ _ => rfl) ?recode, ?reachSwitch, ?oldStorage,
    fun c => acts_of_onMsg (fun _ _ => rfl) ?place, fun c => acts_of_onMsg (fun _ _ => rfl) ?info⟩
  case create =>
    rintro m t ⟨hzero, hid, hreserved, hdesc, hnew, hroom, hspace, hneed⟩
    simp only [hnew, hdesc, hspace, hneed]
    rw [if_neg (Nat.not_le.2 hid), if_neg (not_or.2 ⟨not_not_intro hzero, hreserved⟩), if_neg (not_not_intro rfl), if_neg (by decide),
      if_neg (Nat.not_le.2 hroom)]
  case freeze =>
    rintro m t ⟨hid, hzero, hcoll, honline⟩
    rw [State.onColl_of_held hid hcoll (decide_eq_true hzero), if_neg (not_not_intro honline)]
  case freezeSet =>
    intro s k c m before rest hcoll hfreezes hgone
    change execFreezeSet k s = _
    simp only [execFreezeSet, hcoll, hfreezes, hgone]
    rfl
  case drop =>
    rintro m t ⟨hid, hzero, hcoll, hlive⟩
    rw [State.onColl_of_held hid hcoll (decide_eq_true hzero), if_neg hlive]
  case dropComplete =>
    intro s k c m hcoll hdrop hretired hparts
    change execDropComplete k s = _
    simp only [execDropComplete, hcoll, hdrop, hretired, hparts]
    rfl
  case recode =>
    rintro m t ⟨hid, hzero, hcoll, honline, hidle, hdesc, hsame, hneed⟩
    rw [State.onColl_of_held hid hcoll (decide_eq_true hzero)]
    simp only [hidle, hdesc, hsame, hneed]
    rw [if_neg (not_not_intro honline), if_neg (by decide), if_neg (not_not_intro rfl), if_neg (not_not_intro rfl)]
  case reachSwitch =>
    intro s k r c d y hcoll htarget hreach hold hscan
    change execRecodeReachSwitch k r s = _
    simp only [execRecodeReachSwitch, hcoll, htarget, hreach, hold, hscan]
    rfl
  case oldStorage =>
    intro s k r c hcoll hretired
    change execOldReachStorageFree k r s = _
    simp only [execOldReachStorageFree, hcoll, hretired]
    rfl
  case place =>
    rintro m t ⟨hid, hmill, hbasin, hzero, hcentres, hzero', hcoll, hlive⟩
    rw [State.onColl_of_held hid hcoll (by simp only [hmill, hbasin, hzero, hcentres, hzero']; decide), if_neg hlive]
  case info =>
    rintro m t ⟨hid, hzero, hcoll⟩
    rw [State.onColl_of_held hid hcoll (decide_eq_true hzero)]

end Sys2Proof.Machine
end

section
/-! Filter bitmaps, and the summaries that nodes publish to each other (R92 to R94, R98, R100, R101, R117, Tables SND-4 and SND-7). -/

namespace Sys2Proof.Machine

open Sys2Proof.Claims

/-- A collection id below 4,096 names what its sender holds under it. -/
theorem State.held_of_lt {t : State} {m : Msg} (hid : m.p 0 2 < 4096) : t.held m = t.coll (collKey m.comp (m.p 0 2)) := if_pos hid

/-- A summary of a map that this node accepts, from another node that has no resync open, is kept and acknowledged; a gap in SEQ makes a source that was
sure UNSURE, and its set is asked for (R98, R101). -/
theorem exec_summaryReceive {s : State} {k source catchment ver : Nat} {y : Summary} {c : Coll} {last : Bool} (hcoll : s.coll k = some c)
    (hjudge : s.judgeMap c.comp ver = .accept) (hother : source ≠ s.nodeNo) (hsure : (Tbl.getD source SourceSums.none_ c.sources).unsure = false)
    (hidle : (Tbl.getD source SourceSums.none_ c.sources).resync = false) (hlater : (Tbl.getD source SourceSums.none_ c.sources).lastSeq < y.seq) :
    exec (.summaryReceive k source catchment y ver last) s = .next (
      let gap := decide (y.seq ≠ (Tbl.getD source SourceSums.none_ c.sources).lastSeq + 1)
      let u := (s.source! k source (fun v => { v with
        lastSeq := y.seq, sums := Tbl.put catchment y v.sums, unsure := v.unsure || gap })).send source 1 (.summaryAck k y.seq)
      if gap then u.askResync k source else u) := by
  change execSummaryReceive k source catchment y ver last s = _
  simp only [execSummaryReceive, State.takeSummary, hcoll, hjudge, hsure, hidle]
  rw [if_neg (not_or.2 ⟨hother, Nat.not_le.2 hlater⟩)]
  simp only [Bool.not_false, Bool.and_true, Bool.and_false, Bool.false_eq_true, if_false, ok]

/-- Settles O13, clause by clause: an opcode on a collection that the sender holds, or the law above of a summary; with the next SEQ a summary leaves no
gap. -/
theorem bitmapsAndSummaries : Obligations.BitmapsAndSummaries := by
  unfold Obligations.BitmapsAndSummaries
  refine ⟨fun c bs => acts_of_onMsg (fun _ _ => rfl) ?write, fun c b => acts_of_onMsg (fun _ _ => rfl) ?drop,
    fun c => acts_of_onMsg (fun _ _ => rfl) ?ask, fun c => acts_of_onMsg (fun _ _ => rfl) ?known, ?next, ?gap, ?pubSlow⟩
  case write =>
    rintro m t ⟨hid, hbitmap, hmode, hcoll, honline, hepochs⟩
    rw [if_neg (by omega)]
    simp only [State.held_of_lt hid, hcoll]
    rw [if_neg (not_not_intro honline), if_neg hepochs]
  case drop =>
    rintro m t ⟨hid, hbitmap, hzero, hcoll, hfind, hdefined⟩
    rw [if_neg (by omega)]
    simp only [State.held_of_lt hid, hcoll, hfind, hdefined]
    rfl
  case ask =>
    rintro m t ⟨hid, hzero, hcoll, hspan, hother, hask⟩
    have hunheard (h : (!(Tbl.getD (m.p 2 2) SourceSums.none_ c.sources).unsure) = true ∧ (Tbl.getD (m.p 2 2) SourceSums.none_ c.sources).lastSeq ≠ 0) :
        False := hask.elim (fun hunsure => by simp [hunsure] at h) h.2
    rw [if_neg (by omega)]
    simp only [State.held_of_lt hid, hcoll, hspan]
    rw [if_neg (by decide), if_neg (not_or.2 ⟨hother, hunheard⟩)]
  case known =>
    rintro m t ⟨hid, hzero, hcoll, hspan, hsure, hheard⟩
    rw [if_neg (by omega)]
    simp only [State.held_of_lt hid, hcoll, hspan, hsure]
    rw [if_neg (by decide), if_pos (hheard.imp_right (fun h => ⟨rfl, h⟩))]
  case next =>
    intro s k source catchment y ver c hcoll hjudge hother hsure hidle hnext
    rw [exec_summaryReceive hcoll hjudge hother hsure hidle (by omega), decide_eq_false (not_not_intro hnext)]
    simp only [Bool.or_false, Bool.false_eq_true, if_false]
  case gap =>
    intro s k source catchment y ver last c hcoll hjudge hother hsure hidle hgap
    rw [exec_summaryReceive hcoll hjudge hother hsure hidle (by omega), decide_eq_true (by omega)]
    simp only [Bool.or_true, if_true]
  case pubSlow =>
    intro s k q p c hcoll hpub hfirst hwaits
    change execPubSlow k q s = _
    simp only [execPubSlow, hcoll, hpub, hfirst, hwaits]
    rfl

end Sys2Proof.Machine
end

section
/-! The commands of a Millrace cell, its tokens and its bundles (R272 to R307, R603, Table MRC-8): what each leaves where its conditions hold. -/

namespace Sys2Proof.Machine

section Cells

variable {s : State} {n : Nat}

/-- A vendor command of a cell that the node has completes. -/
theorem onCell_of_lt {t : State} (hn : n < 512) : onCell n t = .next t := onUnit_pos (decide_eq_true hn)

/-- A ROWOP on a cell that is not fenced waits for a bundle of its own, or where its rows do not allow it completes at once (R276, R297, R298). -/
theorem exec_rowop {op : RowOp} (hn : n < 512) : exec (.rowop n op) s = .next (if (s.cell n).fenced then s
    else if s.rowLegal n op then s.cell! n (fun c => ({ c with ops := c.ops ++ [op] } : Cell).settled) else s.rowDone n op) := by
  change execRowop n op s = _
  rw [execRowop, onCell_of_lt hn]
  cases s.rowLegal n op <;> rfl

/-- A draw of a free value leaves every cell. -/
theorem State.cell_free (s : State) (n : Nat) : s.free.2.cell n = s.cell n := rfl

/-- A class change that comes waits for the end of a running bundle of its bank group (R289). -/
def State.takeClass (s : State) (block : Nat) (scratch : Bool) : State :=
  if (s.cell (block / (groupRows / 16))).bundle.isSome then s.mrc! (fun x => { x with pendingRct := x.pendingRct ++ [(block, scratch)] })
  else s.setClass block scratch

/-- An RCT_SET to the class that the block has changes nothing; where the bank group is in use, a free value says whether the block is (log 76). -/
theorem exec_rctSet {k : Nat} {b : Bool} (hk : k < 512 * (groupRows / 16)) : exec (.rctSet k b) s = .next (if s.classOf k = b then s
    else if s.groupUsed (k / (groupRows / 16)) then (if s.free.1 % 2 = 1 then s.free.2 else s.free.2.takeClass k b) else s.takeClass k b) := by
  change execRctSet k b s = _
  rw [execRctSet, onUnit_pos (decide_eq_true hk)]
  cases s.groupUsed (k / (groupRows / 16)) with
  | true => simp only [if_true, State.takeClass, State.cell_free]; rfl
  | false => simp only [Bool.false_eq_true, if_false, Nat.zero_mod, Nat.zero_ne_one, State.takeClass]

end Cells

/-- Settles O19, clause by clause: each command's cell exists, and its conditions pick the branch of its meaning. -/
theorem cellCommands : Obligations.CellCommands := by
  unfold Obligations.CellCommands
  refine ⟨?cellProg, ?qload, ?reachIssue, ?thetaPush, ?drainIdle, ?drain, ?rowopFenced, ?rowopIllegal, ?rowop, fun s k p sl b => rfl, ?rctSame, ?rctUnused,
    ?rctUsed, ?cellHalt, ?cellStatus, ?tokenGrant, ?bundleStart, ?bundleIdle, ?bundleFails, ?bundleEnds⟩
  case cellProg =>
    intro s n off bs hn hboot hbeats hlast
    change execCellProg n off bs s = _
    rw [execCellProg, onCell_of_lt hn, if_neg (by rw [hboot]; simp; omega)]
  case qload =>
    intro s n l b i q hn hl hquery hunused hlive hstarted hruns
    change execQload n l b i s = _
    rw [execQload, onCell_of_lt hn]
    simp only [hquery, hunused, hlive, hstarted, hruns]
    rw [if_neg (by simp; omega)]
  case reachIssue =>
    intro s n k r mask e c j first qb l0 ls hn hcoll hfirst hbatch hlanes huse hof hepoch hruns hready hnext
    change execReachIssue n k r mask e s = _
    rw [execReachIssue, onCell_of_lt hn]
    simp only [hcoll, hfirst, hbatch, hlanes]
    rw [if_neg (by simp [huse, hof, hepoch, hruns, hready, hnext])] <;> rfl
  case thetaPush =>
    intro s n l v hn
    exact (onCell_of_lt hn : execThetaPush n l v s = _)
  case drainIdle =>
    intro s n hn hturn
    change execOutRead n s = _
    rw [execOutRead, onCell_of_lt hn, hturn]
    rfl
  case drain =>
    intro s n hn hturn
    change execOutRead n s = _
    rw [execOutRead, onCell_of_lt hn, hturn]
    rfl
  case rowopFenced => exact fun s n op hn hfenced => by rw [exec_rowop hn, if_pos hfenced]
  case rowopIllegal =>
    intro s n op hn hfenced hrows
    rw [exec_rowop hn, if_neg (Bool.eq_false_iff.1 hfenced), if_neg (Bool.eq_false_iff.1 hrows)]
  case rowop =>
    intro s n op hn hfenced hrows
    rw [exec_rowop hn, if_neg (Bool.eq_false_iff.1 hfenced), if_pos hrows]
  case rctSame => exact fun s k b hk hsame => by rw [exec_rctSet hk, if_pos hsame]
  case rctUnused =>
    intro s k b hk hother hunused
    rw [exec_rctSet hk, if_neg hother, if_neg (Bool.eq_false_iff.1 hunused)]
    rfl
  case rctUsed =>
    intro s k b hk hother hused
    rw [exec_rctSet hk, if_neg hother, if_pos hused]
    rfl
  case cellHalt =>
    intro s n mask hn
    exact (onCell_of_lt hn : execCellHalt n mask s = _)
  case cellStatus =>
    intro s n hn
    exact (onCell_of_lt hn : execCellStatus n s = _)
  case tokenGrant =>
    rintro s t k i g hk rfl hroom hstack hwaits
    change execTokenGrant k s = _
    rw [execTokenGrant, onUnit_pos (decide_eq_true hk)]
    simp only [hstack, hwaits]
    rw [if_neg (Nat.not_le.2 hroom)]
  case bundleStart =>
    intro s n hn htoken hidle haccesses hfenced hdraining
    change execBundleStart n s = _
    rw [execBundleStart, onCell_of_lt hn]
    simp only [htoken, hidle, haccesses, hfenced, hdraining]
    rfl
  case bundleIdle =>
    intro s n rows f hn hidle
    change execBundleEnd n rows f s = _
    rw [execBundleEnd, onCell_of_lt hn]
    simp only [hidle]
  case bundleFails =>
    intro s n rows f t0 t hn hruns hcheck
    change execBundleEnd n rows f s = _
    rw [execBundleEnd, onCell_of_lt hn]
    simp only [hruns, hcheck]
  case bundleEnds =>
    intro s n rows f t0 hn hruns hcheck
    change execBundleEnd n rows f s = _
    rw [execBundleEnd, onCell_of_lt hn]
    simp only [hruns, hcheck] <;> rfl

end Sys2Proof.Machine
end

section
/-! Attention objects, weight objects and kernels, and model runs (Tables ATT-2 to ATT-6): the conditions of each clause pick one branch of its command. -/

namespace Sys2Proof.Machine
open Sys2Proof.Claims

section Objects

variable {s t : State} {mb : Nat} {m : Msg}

/-- A message that names a weight object being loaded waits in its mailbox (R214). -/
theorem exec_objInfo_loading (hmb : mb ≤ 64) (hnext : s.next? mb 0x0508 = some (m, t)) (hload : t.objLoading m.comp (m.p 0 2) = true) :
    exec (.objInfo mb) s = .next (s.checkDestroy m.comp) := by
  change execObjInfo mb s = _
  rw [execObjInfo, onMsg_first hmb hnext, if_pos hload]

/-- A message that names a weight object being loaded waits in its mailbox (R214). -/
theorem exec_objDrop_loading (hmb : mb ≤ 64) (hnext : s.next? mb 0x0504 = some (m, t)) (hload : t.objLoading m.comp (m.p 0 2) = true) :
    exec (.objDrop mb) s = .next (s.checkDestroy m.comp) := by
  change execObjDrop mb s = _
  rw [execObjDrop, onMsg_first hmb hnext, if_pos hload]

end Objects

/-- Settles O20, clause by clause: the object that the message names, and the message's fields, pick the branch of the command's meaning. -/
theorem attentionAndObjects : Obligations.AttentionAndObjects := by
  unfold Obligations.AttentionAndObjects
  refine ⟨acts_of_onMsg (fun _ _ => rfl) ?create, fun o a bs u => acts_of_onMsg (fun _ _ => rfl) ?append, fun o a bs => acts_of_onMsg (fun _ _ => rfl) ?query,
    ?drop, ?dropComplete, ?info,
    fun s mb m t => exec_objInfo_loading, fun s mb m t => exec_objDrop_loading⟩
  case create =>
    rintro m t ⟨hnew, hroom, hreason⟩
    simp only [hnew, hreason]
    rw [if_neg Bool.false_ne_true, if_neg (by omega), if_neg (by simp)]
  case append =>
    rintro m t ⟨hobj, hatt, hzero, hpure, hfits, hvalues, hspace⟩
    simp only [hobj, hatt, hpure, hvalues, hspace]
    rw [if_neg (by omega), if_neg Bool.false_ne_true, if_neg (by omega), if_neg Bool.false_ne_true]
  case query =>
    rintro m t ⟨hk, hkmax, hper, hobj, hatt, hheader, hpure, hlimit, htokens⟩
    simp only [hper, hobj, hatt, hheader, hpure]
    rw [if_neg (by omega), if_neg (by simp), if_neg Bool.false_ne_true, if_neg (by simp; omega)]
    rfl
  case drop =>
    rintro o mb s m t hmb hnext ⟨hloaded, hzero, hobj⟩
    change execObjDrop mb s = _
    rw [execObjDrop, onMsg_first hmb hnext]
    simp only [hloaded, hobj]
    rw [if_neg Bool.false_ne_true, if_neg (not_not_intro hzero)]
  case dropComplete =>
    intro s k o m hobj hdrop hunused hwritten
    change execObjDropComplete k s = _
    simp only [execObjDropComplete, hobj, hdrop, hunused, hwritten]
    rfl
  case info =>
    rintro o mb s m t hmb hnext ⟨hloaded, hzero, hobj⟩
    change execObjInfo mb s = _
    rw [execObjInfo, onMsg_first hmb hnext]
    simp only [hloaded, hobj]
    rw [if_neg Bool.false_ne_true, if_neg (not_not_intro hzero)] <;> rfl

/-- Settles O21, clause by clause: the object or kernel that the message names, and the message's fields, pick the branch of the command's meaning. -/
theorem weightsAndModels : Obligations.WeightsAndModels := by
  unfold Obligations.WeightsAndModels
  refine ⟨?load, ?mirror, ?refetched, ?refetchFails,
    ?refetchTimeout, ?modelRun, fun i g bs => acts_of_onMsg (fun _ _ => rfl) ?kernelLoad,
    fun k => acts_of_onMsg (fun _ _ => rfl) ?kernelDrop⟩
  case load =>
    rintro bs peer w mb s m t hmb hnext ⟨hloaded, hadmin, hid, hflags, htier, hzero, hnew, hroom, hallowed, hreach, himage, rfl⟩
    change execWeightLoad mb (some bs) peer s = _
    rw [execWeightLoad, onMsg_first hmb hnext]
    have hmirror {x : Bool} (h : (bit (m.p 2 1) 0 && !x) = false) : ¬ (bit (m.p 2 1) 0 = true ∧ (!x) = true) := by simpa using h
    simp only [hloaded, hnew, himage]
    rw [if_neg Bool.false_ne_true, if_neg (hmirror hadmin), if_neg (by omega), if_neg Bool.false_ne_true, if_neg (by omega), if_neg (hmirror hallowed),
      if_neg (hmirror hreach), if_neg (not_not_intro rfl)] <;> rfl
  case mirror =>
    rintro peer o w mb s m t hmb hnext ⟨hloaded, hmirrored, hzero, hzero6, hobj, hkind, hallowed, hreach, hidle, hpure⟩
    change execWeightMirror mb peer s = _
    rw [execWeightMirror, onMsg_first hmb hnext]
    simp only [hloaded, hobj, hkind, hidle, hallowed, hreach, hmirrored, hpure]
    rw [if_neg Bool.false_ne_true, if_neg (by omega), if_neg (by simp), if_neg (by simp), if_neg (by simp), if_neg (by simp)]
  case refetched =>
    intro s k tile o w hobj hkind htile
    change execMirrorRefetchComplete k tile true s = _
    simp only [execMirrorRefetchComplete, hobj, hkind, htile]
    rfl
  case refetchFails =>
    intro s k tile o w hobj hkind htile
    change execMirrorRefetchComplete k tile false s = _
    simp only [execMirrorRefetchComplete, hobj, hkind, htile]
    rfl
  case refetchTimeout =>
    intro s k o w u hobj hkind hfirst
    change execMirrorRefetchTimeout k s = _
    simp only [execMirrorRefetchTimeout, hobj, hkind, hfirst]
    rfl
  case modelRun =>
    rintro dma hs mb s m t hmb hnext ⟨hloaded, hheader, hkernel, hweights, hpure, hdma⟩
    change execModelRun mb dma s = _
    rw [execModelRun, onMsg_first hmb hnext]
    have hknown := not_or_intro (ne_true_of_eq_false hkernel) (ne_true_of_eq_false (congrArg (! ·) hweights))
    simp only [hloaded, hheader, hdma]
    rw [if_neg Bool.false_ne_true, if_neg (by simp)]
    exact congrArg (fun u : State => Host.Outcome.next (u.checkDestroy m.comp)) ((if_neg hknown).trans (if_neg (ne_true_of_eq_false hpure)))
  case kernelLoad =>
    rintro m t ⟨hzero, hcomp, hroom, hslot⟩
    simp only [hslot]
    rw [if_neg (not_not_intro hzero), if_neg (by omega)]
    cases kernelImageOk (bs.take (m.p 0x10 8)) <;> rfl
  case kernelDrop =>
    rintro m t ⟨hkernel, hzero⟩
    simp only [hkernel]
    rw [if_neg (not_not_intro hzero)]

end Sys2Proof.Machine
end

section
/-! Compositions, charging and semaphores (Table SLC-10): the conditions of each clause pick one branch of its command. -/

namespace Sys2Proof.Machine

/-- Settles O22, clause by clause: the slice record, the composition that it names, and the message's reserved fields pick the branch. -/
theorem compositions : Obligations.Compositions := by
  unfold Obligations.Compositions
  refine ⟨acts_of_onMsg (fun _ _ => rfl) ?create, fun x => acts_of_onMsg (fun _ _ => rfl) ?modify, fun x => acts_of_onMsg (fun _ _ => rfl) ?destroy,
    fun x => acts_of_onMsg (fun _ _ => rfl) ?info, acts_of_onMsg (fun _ _ => rfl) ?chargeLog, acts_of_onMsg (fun _ _ => rfl) ?semInit⟩
  case create =>
    rintro m t ⟨hfields, hnew, hconflict⟩
    simp only [hfields, hnew, hconflict]
    rw [if_neg (by simp), if_neg (by simp), if_neg Bool.false_ne_true]
  case modify =>
    rintro m t ⟨hfields, hcomp, htenant, hconflict, hbelow, hfirst⟩
    simp only [hfields, hcomp, htenant, hconflict, hbelow, hfirst]
    rw [if_neg (by simp), if_neg Bool.false_ne_true, if_neg Bool.false_ne_true]
  case destroy =>
    rintro m t ⟨hzero, hmax, hcomp, hstays⟩
    simp only [hcomp, hstays]
    rw [if_neg (by omega), if_neg (by simp)]
  case info =>
    rintro m t ⟨hzero, hmax, hadmin, hcomp⟩
    simp only [hcomp, hadmin]
    rw [if_neg (by omega), if_neg (by simp)]
    rfl
  case chargeLog =>
    rintro m t ⟨hzero, haligned⟩
    rw [if_neg (by omega)]
  case semInit =>
    rintro m t ⟨hzero1, hzero6, hnew⟩
    simp only [hnew]
    rw [if_neg (by omega), if_neg Bool.false_ne_true]

end Sys2Proof.Machine
end

section
/-! Pipelines, their runs and handover (R444 to R449, Tables SLC-7 and SLC-10). -/

namespace Sys2Proof.Machine

/-- Settles O23, clause by clause: the pipeline, and the phase of the run that the command names, pick the branch of its meaning. -/
theorem pipelines : Obligations.Pipelines := by
  unfold Obligations.Pipelines
  refine ⟨fun st => acts_of_onMsg (fun _ _ => rfl) ?define, fun p bs => acts_of_onMsg (fun _ _ => rfl) ?run, ?stageDone, ?offer, ?accept, ?timeout⟩
  case define =>
    rintro m t ⟨hone, hzero2, hzero10, hzero18, hlen, hstages, haligned, hmin, hmax, hnode, hnodeMax⟩
    have hstage : ([st].any fun x => decide (x.stateBytes % 64 ≠ 0) || decide (x.stateBytes < 64) || decide (2 ^ 24 < x.stateBytes) ||
        decide (4096 ≤ x.node)) = false := by simp; omega
    simp only [hone, hstages, hstage, List.range_one, List.map_cons, List.map_nil, List.getD_cons_zero, hnode]
    rw [if_neg (by simp; omega), if_neg (not_not_intro rfl)]
    simp only [if_true]
    rfl
  case run =>
    rintro m t ⟨hpriority, hpipe, hinput, houtput, hslots⟩
    simp only [hpriority, hpipe]
    rw [if_neg (by simp), if_neg (by omega), if_neg hslots]
  case stageDone =>
    intro s r x hrun hphase hruns hretired hnext
    change execPipeStageDone r s = _
    simp only [execPipeStageDone, hrun]
    rw [if_neg (by simp [hphase, hruns, hretired]), if_neg hnext]
    rfl
  case offer =>
    intro s r x hrun hphase hput
    change execHandoverOffer r s = _
    simp only [execHandoverOffer, hrun]
    rw [if_neg (by simp only [hphase, hput]; simp)]
    rfl
  case accept =>
    intro s i old o hoffer hmap hallowed hword
    change execHandoverAccept i old s = _
    simp only [execHandoverAccept, hoffer, hmap]
    rw [if_neg (by simp [hallowed]), if_pos (Or.inl hword)]
    rfl
  case timeout =>
    intro s r x hrun hphase hword hoffers
    change execHandoverTimeout r s = _
    simp only [execHandoverTimeout, hrun]
    rw [if_neg (not_not_intro hphase), if_pos hword, if_pos hoffers]
    rfl

end Sys2Proof.Machine
end

section
/-! Ferry's moves, fills and ages, and the buffers that a mailbox allocates (Tables FRY-4 and FRY-7). -/

namespace Sys2Proof.Machine

/-- An instruction of a core that runs a task acts on that task. -/
theorem onTask_of_running {s : State} {n t : Nat} {k : Task} {f : Nat → Task → State} (hn : n < 256) (hrunning : s.running n = some (t, k)) :
    onTask s n f = .next (f t k) := by rw [onTask, onUnit_pos (decide_eq_true hn), hrunning]

/-- Settles O24, clause by clause: the task's moves and descriptor, the frame's fill, or the sector's place pick the branch of the command's meaning. -/
theorem ferryMoves : Obligations.FerryMoves := by
  unfold Obligations.FerryMoves
  refine ⟨fun u => acts_of_onMsg (fun _ _ => rfl) ?bufAlloc, ?prefetch, ?getStalls, ?get, ?putStalls, ?put, fun s i o => rfl, ?filled, ?refilled,
    fun s => rfl, ?sector, ?extentSector⟩
  case bufAlloc =>
    rintro m t ⟨hzero2, hzero17, hid, hmin, hmax, haligned, hgroup, hnew, hroom, hspace⟩
    simp only [hnew, hspace]
    rw [if_neg (by omega), if_neg Bool.false_ne_true, if_neg (by omega)]
  case prefetch =>
    rintro o w mb s m t hmb hnext ⟨hobj, hloaded, hlive, hkind, hzero, hrange, hpure⟩
    change execObjPrefetch mb s = _
    rw [execObjPrefetch, onMsg_first hmb hnext]
    simp only [hobj, hloaded, hlive, hkind, hpure]
    rw [if_neg Bool.false_ne_true]
    simp only [Option.isSome_none, Bool.false_eq_true, if_false]
    rw [if_neg (by omega)]
  case getStalls =>
    intro s n d t k hn hrunning hfull
    change execTileGet n d s = _
    rw [execTileGet, onTask_of_running hn hrunning, if_pos hfull]
  case get =>
    intro s n d t k hn hrunning hroom hdesc
    change execTileGet n d s = _
    rw [execTileGet, onTask_of_running hn hrunning, if_neg (by omega), hdesc]
  case putStalls =>
    intro s n d t k hn hrunning hfull
    change execTilePut n d s = _
    rw [execTilePut, onTask_of_running hn hrunning, if_pos hfull]
  case put =>
    intro s n d t k hn hrunning hroom hdesc
    change execTilePut n d s = _
    rw [execTilePut, onTask_of_running hn hrunning, if_neg (by omega), hdesc]
  case filled =>
    intro s i f bs hfill hfetched hgood hserved
    change execFillComplete i (.ok bs) s = _
    simp only [execFillComplete, hfill, hfetched, hgood, hserved]
    rfl
  case refilled =>
    intro s i f j o hfill hfetched hbasin hserved hbad
    change execFillComplete i o s = _
    simp only [execFillComplete, hfill, hfetched, hbasin, hserved, hbad]
    rfl
  case sector =>
    intro s k l a o hup hspace hbuilt hmap
    change execSectorReadComplete k l o s = _
    simp only [execSectorReadComplete, hup, hbuilt, hmap]
    rw [if_neg (by simp), if_neg (by omega), if_neg Bool.false_ne_true]
    rfl
  case extentSector =>
    intro s e l o x hup hext hheld hlsn hfresh hread
    change execSectorReadComplete (2 ^ 64 + e) l o s = _
    simp only [execSectorReadComplete, hup, Nat.add_sub_cancel_left, hext, hheld]
    rw [if_neg (by simp), if_pos (Nat.le_add_right _ _), if_neg (by simp; omega), if_pos (by rw [hread, decide_eq_false hfresh]; rfl)]
    rfl

end Sys2Proof.Machine
end

section
/-! The flash blocks, their maps, and the extents and spaces that they hold (Tables DLT-6 and DLT-8): the conditions of each clause pick one branch. -/

namespace Sys2Proof.Machine

/-- Settles O25, clause by clause: the state of the block, the LUN's free blocks, or the extent that the message names pick the branch of the command's
meaning. -/
theorem flashTranslation : Obligations.FlashTranslation := by
  unfold Obligations.FlashTranslation
  refine ⟨fun s b p => rfl, ?eraseWaits, ?eraseTaken, ?erased, ?fold, ?reclaimEnds, ?reclaimGoes, ?reclaimStarts, ?checkpoint, ?rebuild, ?startup,
    fun o w e => acts_of_onMsg (fun _ _ => rfl) ?exportObject, fun c => acts_of_onMsg (fun _ _ => rfl) ?exportColl,
    fun e bs => acts_of_onMsg (fun _ _ => rfl) ?attach, fun o i e => acts_of_onMsg (fun _ _ => rfl) ?read,
    fun bs => acts_of_onMsg (fun _ _ => rfl) ?release, acts_of_onMsg (fun _ _ => rfl) ?spaceRelease⟩
  case eraseWaits =>
    intro s b p hbusy
    change execEraseComplete b p s = _
    rw [execEraseComplete, if_pos hbusy]
    rfl
  case eraseTaken =>
    intro s b p hserved htaken
    change execEraseComplete b p s = _
    simp only [execEraseComplete, hserved, htaken]
    rfl
  case erased =>
    intro s b p hserved herasing hunused
    change execEraseComplete b p s = _
    simp only [execEraseComplete, hserved, herasing, hunused]
    rfl
  case fold =>
    intro s l b hup hover holdest
    change execFold l s = _
    rw [execFold, if_neg (by simp [hup, hover]), holdest]
    rfl
  case reclaimEnds =>
    intro s l hup hgoing henough
    change execReclaim l s = _
    rw [execReclaim]
    simp only [hup, hgoing]
    rw [if_neg (by simp), if_pos ⟨trivial, henough⟩]
    rfl
  case reclaimGoes =>
    intro s l b hup hgoing hfew hidle hvictim
    change execReclaim l s = _
    rw [execReclaim]
    simp only [hup, hgoing, hidle, hvictim]
    rw [if_neg (by simp), if_neg (by omega), if_neg (by simp)]
    rfl
  case reclaimStarts =>
    intro s l b hup hnew hidle hfew hvictim
    change execReclaim l s = _
    rw [execReclaim]
    simp only [hup, hnew, hidle, hvictim]
    rw [if_neg (by simp), if_neg (by simp), if_neg (by simp; omega)]
    rfl
  case checkpoint =>
    intro s hup
    change execCheckpoint s = _
    rw [execCheckpoint, if_neg (by simp [hup])]
    rfl
  case rebuild =>
    intro s k n bad x p hspace hpage hrebuilding
    change execMapRebuild k n bad s = _
    simp only [execMapRebuild, hspace, Option.bind_some, hpage, hrebuilding]
    rfl
  case startup =>
    intro s ts fl v hstarting hrunning hup
    change execDeltaStartup ts fl v s = _
    rw [execDeltaStartup, if_neg (by simp [hstarting, hrunning, hup])]
    rfl
  case exportObject =>
    rintro m t ⟨hobject, hzero1, hzero4, hobj, hlive, hkind, hextent⟩
    simp only [hobject, hobj, hlive, hkind, hextent]
    rw [if_neg (by omega), if_pos trivial, if_neg (by simp)]
  case exportColl =>
    rintro m t ⟨hcollection, hzero1, hzero4, hcoll, hlive, hfrozen⟩
    simp only [hcollection, hcoll, hfrozen]
    rw [if_neg (by omega), if_neg (by simp), if_neg hlive]
    exact if_neg (by simp)
  case attach =>
    rintro m t ⟨hzero, hid, hnew, hroom, hmap, hextent⟩
    simp only [hnew, hmap, hextent]
    rw [if_neg (by omega), if_neg Bool.false_ne_true, if_neg (by omega), if_neg (not_not_intro rfl)]
  case read =>
    rintro m t ⟨hobj, hlive, hkind, hextent, hzero, hmin, hmax, haligned, hrange⟩
    simp only [hobj, hlive, hkind, Option.isSome_none, Bool.false_eq_true, if_false, hextent]
    rw [if_neg (by omega)]
  case release =>
    rintro m t ⟨hzero, hmap⟩
    simp only [hmap]
    rw [if_neg (not_not_intro hzero), if_neg (not_not_intro rfl)]
  case spaceRelease =>
    intro m t hunused
    exact if_neg (ne_true_of_eq_false hunused)

end Sys2Proof.Machine
end

section
/-! Tasks and contexts (R243, R244, R247, R411 to R428, R450 to R452): dispatch, waiting, semaphores, pre-emption, and the end of tasks and batches. -/

namespace Sys2Proof.Machine

/-- Settles O26, clause by clause: the task that the core runs, the semaphore, context or batch named, and its state pick the branch of the command's
meaning. -/
theorem tasksAndContexts : Obligations.TasksAndContexts := by
  unfold Obligations.TasksAndContexts
  refine ⟨?spawnUnknown, ?spawnFull, ?spawn, ?acquire, ?acquireWaits, ?acquireUnknown, ?release, ?releaseOther, ?releaseUnknown,
    ?wait, ?waitBlocks, ?waitSem, ?yield, ?endTask, ?dispatchNone, ?dispatch, ?watchdog, ?leaseGone, ?leaseFault, ?leaseNoTask,
    ?tearGone, ?tearMoves, ?tearRun, ?tearQueries, ?tearUpdate, ?tearOther, ?quietEnds, ?quietNot, ?preempt, ?saveNot, ?save, ?minRun, ?minRunNone,
    ?shareWindow⟩
  case spawnUnknown =>
    intro s n h args t k hn hrunning hkernel
    change execSpawn n h args s = _
    rw [execSpawn, onTask_of_running hn hrunning, hkernel]
  case spawnFull =>
    intro s n h args t k x hn hrunning hkernel hfull
    change execSpawn n h args s = _
    rw [execSpawn, onTask_of_running hn hrunning, hkernel]
    simp only [if_pos hfull]
  case spawn =>
    intro s n h args t k x hn hrunning hkernel hroom
    change execSpawn n h args s = _
    rw [execSpawn, onTask_of_running hn hrunning, hkernel]
    simp only [if_neg (Nat.not_le.mpr hroom)]
  case acquire =>
    intro s n i t k x c hn hrunning hi hsem hctx hunits
    change execSemAcq n i s = _
    rw [execSemAcq, onTask_of_running hn hrunning]
    simp only [if_pos hi, hsem, hctx, if_pos hunits]
  case acquireWaits =>
    intro s n i t k x c hn hrunning hi hsem hctx hunits
    change execSemAcq n i s = _
    rw [execSemAcq, onTask_of_running hn hrunning]
    simp only [if_pos hi, hsem, hctx, hunits, Nat.lt_irrefl, if_false]
  case acquireUnknown =>
    intro s n i t k hn hrunning hsem
    change execSemAcq n i s = _
    rw [execSemAcq, onTask_of_running hn hrunning]
    simp only [hsem]
  case release =>
    intro s n i t k x c hn hrunning hi hsem hctx hheld
    change execSemRel n i s = _
    rw [execSemRel, onTask_of_running hn hrunning]
    simp only [if_pos hi, hsem, hctx, if_pos hheld]
  case releaseOther =>
    intro s n i t k x c hn hrunning hi hsem hctx hheld
    change execSemRel n i s = _
    rw [execSemRel, onTask_of_running hn hrunning]
    simp only [if_pos hi, hsem, hctx, hheld, Bool.false_eq_true, if_false]
  case releaseUnknown =>
    intro s n i t k hn hrunning hsem
    change execSemRel n i s = _
    rw [execSemRel, onTask_of_running hn hrunning]
    simp only [hsem]
  case wait =>
    intro s n w t k c u hn hrunning hctx hform hready
    change execWaitOn n w s = _
    rw [execWaitOn, onTask_of_running hn hrunning, hctx]
    cases w with
    | sem i => exact absurd rfl (hform i)
    | _ => simp only [hready]
  case waitBlocks =>
    intro s n w t k c hn hrunning hctx hform hready
    change execWaitOn n w s = _
    rw [execWaitOn, onTask_of_running hn hrunning, hctx]
    cases w with
    | sem i => exact absurd rfl (hform i)
    | _ => simp only [hready]
  case waitSem =>
    intro s n i t k hn hrunning
    exact onTask_of_running hn hrunning
  case yield =>
    rintro s n t k _ hn hrunning rfl
    exact onTask_of_running hn hrunning
  case endTask =>
    intro s n t k hn hrunning
    exact onTask_of_running hn hrunning
  case dispatchNone =>
    intro s n hn hidle
    change execTaskDispatch n s = _
    rw [execTaskDispatch, onUnit_pos (decide_eq_true hn)]
    obtain hbusy | hnone := hidle
    · rw [if_neg (ne_true_of_eq_false hbusy)]
    · rw [hnone]; exact congrArg Host.Outcome.next (ite_self s)
  case dispatch =>
    intro s n t b hn hfree hnext
    change execTaskDispatch n s = _
    rw [execTaskDispatch, onUnit_pos (decide_eq_true hn), if_pos hfree, hnext]
  case watchdog =>
    intro s n t k hn hrunning
    exact onTask_of_running hn hrunning
  case leaseGone =>
    intro s i ctx hgone
    change execLeaseExpiry i ctx s = _
    rw [execLeaseExpiry]
    cases hsem : Tbl.find i s.slc.sems with
    | none => rfl
    | some x => rw [hsem, Option.bind_some] at hgone; simp only [hgone]; rfl
  case leaseFault =>
    intro s i ctx x h t hsem hholder htask
    change execLeaseExpiry i ctx s = _
    simp only [execLeaseExpiry, hsem, hholder, htask]
    rfl
  case leaseNoTask =>
    intro s i ctx x h hsem hholder htask
    change execLeaseExpiry i ctx s = _
    simp only [execLeaseExpiry, hsem, hholder, htask]
    rfl
  case tearGone =>
    intro s b hbatch
    change execTeardownComplete b s = _
    simp only [execTeardownComplete, hbatch]
    rfl
  case tearMoves =>
    intro s b x st hbatch htorn hmoves
    change execTeardownComplete b s = _
    simp only [execTeardownComplete, hbatch, htorn, hmoves]
    rfl
  case tearRun =>
    intro s b x st hbatch htorn hmoves hrun
    change execTeardownComplete b s = _
    simp only [execTeardownComplete, hbatch, htorn, hmoves, hrun]
    rfl
  case tearQueries =>
    intro s b x st qb hbatch htorn hmoves hrun hqueries
    change execTeardownComplete b s = _
    simp only [execTeardownComplete, hbatch, htorn, hmoves, hrun, hqueries]
    rfl
  case tearUpdate =>
    intro s b x st u hbatch htorn hmoves hrun hqueries hupdate
    change execTeardownComplete b s = _
    simp only [execTeardownComplete, hbatch, htorn, hmoves, hrun, hqueries, hupdate]
    rfl
  case tearOther =>
    intro s b x st hbatch htorn hmoves hrun hqueries hupdate
    change execTeardownComplete b s = _
    simp only [execTeardownComplete, hbatch, htorn, hmoves, hrun, hqueries, hupdate]
    rfl
  case quietEnds =>
    intro s i c hctx hquiet
    change execCtxQuietExpiry i s = _
    simp only [execCtxQuietExpiry, hctx, if_pos hquiet]
    rfl
  case quietNot =>
    intro s i c hctx hquiet
    change execCtxQuietExpiry i s = _
    simp only [execCtxQuietExpiry, hctx, if_neg hquiet]
    rfl
  case preempt => exact fun s n hn => onUnit_pos (decide_eq_true hn)
  case saveNot =>
    intro s n hn hphase
    change execPreemptSave n s = _
    rw [execPreemptSave, onUnit_pos (decide_eq_true hn), if_pos hphase]
  case save =>
    rintro s n _ hn hphase rfl
    change execPreemptSave n s = _
    rw [execPreemptSave, onUnit_pos (decide_eq_true hn)]
    exact congrArg Host.Outcome.next (if_neg (not_not_intro hphase))
  case minRun =>
    intro s n k hn htask
    change execMinRunElapsed n s = _
    rw [execMinRunElapsed, onUnit_pos (decide_eq_true hn), htask]
  case minRunNone =>
    intro s n hn htask
    change execMinRunElapsed n s = _
    rw [execMinRunElapsed, onUnit_pos (decide_eq_true hn), htask]
  case shareWindow =>
    rintro s _ rfl
    rfl

end Sys2Proof.Machine
end

section
/-! Scalar instructions, the matrix array, its accumulators, and the scratch (Tables RIL-2 and RIL-4). -/

namespace Sys2Proof.Machine
open Sys2Proof.Claims

section Array

variable {s : State} {n : Nat} {k : Task} {reads ecc : List Nat} {f : State → State}

/-- The array acts on what it reads where no word of it reads uncorrectable, and notes a corrected one (R259). -/
theorem State.arrayReads_of_readable (hread : s.regEcc n reads ecc ≠ .uncorrectable) :
    s.arrayReads n k reads ecc f = (f s).eccNote n k 6 (s.regEcc n reads ecc) := if_neg hread

/-- A stream of the mode that its buffer was loaded in, without a residue mismatch, counts and puts its sums (R250, R255). -/
theorem State.stream_of_mode {a : MxArgs} (hmode : (s.statOf n a.buf a.mode).1 = a.mode.code) (hresidue : a.residue = none) :
    s.stream n a f = (f (s.rilCount n 1 (if a.mode = .int8 then 4 else 1))).pcNext n := by
  rw [State.stream, if_neg (not_not_intro hmode), hresidue]

end Array

/-- Settles O27, clause by clause: the instruction issues, its operands exist, and its reads are readable or noted. -/
theorem scalarAndMatrix : Obligations.ScalarAndMatrix := by
  unfold Obligations.ScalarAndMatrix
  refine ⟨?alu, ?imm, ?addr, ?branchNot, ?branch, ?mxLoad, ?mxMma, ?mxMmaG32, ?accMov, ?accClr, ?ldV, ?stV, ?ldS⟩
  case alu =>
    intro s n t k f d a b hissues hd ha hb
    exact onRegs_of_issues hissues (by simp [hd, ha, hb])
  case imm =>
    intro s n t k d v hissues hd
    exact onRegs_of_issues hissues (by simp [hd])
  case addr =>
    intro s n t k d a off hissues hd ha
    exact onRegs_of_issues hissues (by simp [hd, ha])
  case branchNot =>
    intro s n t k c a b target hissues ha hb hcond
    change execScalar n (.branch c a b target) s = _
    rw [execScalar, onRegs_of_issues hissues (by simp [ha, hb]), if_neg (ne_true_of_eq_false hcond)]
  case branch =>
    intro s n t k c a b target x hissues ha hb hcond hkernel haligned htarget
    change execScalar n (.branch c a b target) s = _
    rw [execScalar, onRegs_of_issues hissues (by simp [ha, hb]), if_pos hcond, hkernel, if_pos ⟨haligned, htarget⟩]
  case mxLoad =>
    intro s n t k buf mode reg hissues hbuf hreg hread
    change execMxLoad n buf mode reg s = _
    rw [execMxLoad, onRegs_of_issues hissues (by simp [hbuf, hreg]), State.arrayReads_of_readable hread]
  case mxMma =>
    intro s n t k a hissues hform hmode hresidue hread
    change execMxMma n a s = _
    rw [execMxMma, onRegs_of_issues hissues hform, State.arrayReads_of_readable hread, State.stream_of_mode hmode hresidue]
  case mxMmaG32 =>
    intro s n t k a hissues hform hints hmode hresidue hread
    change execMxMmaG32 n a s = _
    rw [execMxMmaG32, onRegs_of_issues hissues (by rw [hform, hints]; rfl), State.arrayReads_of_readable hread, State.stream_of_mode hmode hresidue]
  case accMov =>
    intro s n t k i m vd hissues hmin hmax hvd
    exact onRegs_of_issues hissues (by simp [Nat.succ_le_of_lt hmin, hmax, hvd])
  case accClr =>
    intro s n t k i m hissues hmin hmax
    exact onRegs_of_issues hissues (by simp [Nat.succ_le_of_lt hmin, hmax])
  case ldV =>
    rintro s n t k vd addr _ hissues hvd haligned hscratch rfl
    change execLdV n vd addr s = _
    rw [execLdV, onRegs_of_issues hissues (by simp [hvd, haligned]), hscratch]
    rfl
  case stV =>
    intro s n t k vs addr hissues hvs haligned hscratch
    change execStV n vs addr s = _
    rw [execStV, onRegs_of_issues hissues (by simp [hvs, haligned]), hscratch]
    rfl
  case ldS =>
    rintro s n t k xd addr _ hissues hxd haligned hscratch rfl
    change execLdS n xd addr s = _
    rw [execLdS, onRegs_of_issues hissues (by simp [hxd, haligned]), hscratch]
    rfl

end Sys2Proof.Machine
end

section
/-! A task's JRO instructions (R387, R390 to R393): each issues, or stalls while MAX_JRO operations are outstanding. -/

namespace Sys2Proof.Machine

section Issue

variable {s : State} {n t len : Nat} {k : Task} {a : JroArgs} {f : Nat → Task → State}

/-- A JRO instruction of a class that tasks may use, in the task's scratch, issues while fewer than MAX_JRO operations are outstanding. -/
theorem onJro_issues (hn : n < 256) (hrunning : s.running n = some (t, k)) (hmin : 1 ≤ a.cls) (hmax : a.cls ≤ 3) (hscratch : a.off + len ≤ k.scratchBytes)
    (hroom : k.ops.length < k.maxJro) : onJro s n a len f = .next (f t k) := by
  rw [onJro, onTask_of_running hn hrunning, if_neg (by omega), if_neg (by omega), if_neg (by omega)]

/-- With MAX_JRO operations outstanding a JRO instruction stalls (R387). -/
theorem onJro_stalls (hn : n < 256) (hrunning : s.running n = some (t, k)) (hmin : 1 ≤ a.cls) (hmax : a.cls ≤ 3) (hscratch : a.off + len ≤ k.scratchBytes)
    (hfull : k.maxJro ≤ k.ops.length) : onJro s n a len f = .next s := by
  rw [onJro, onTask_of_running hn hrunning, if_neg (by omega), if_neg (by omega), if_pos hfull]

end Issue

/-- Settles O29: each instruction issues its operation, or stalls. -/
theorem jroInstructions : Obligations.JroInstructions := by
  unfold Obligations.JroInstructions
  exact ⟨fun s n a t k => onJro_issues, fun s n a t k => onJro_stalls, fun s n a t k => onJro_issues, fun s n a t k => onJro_stalls,
    fun s n a t k => onJro_issues (len := 0), fun s n a t k => onJro_stalls (len := 0), fun s n a t k => onJro_issues, fun s n a t k => onJro_stalls,
    fun s n a t k => onJro_issues, fun s n a t k => onJro_stalls⟩

end Sys2Proof.Machine
end

section
/-! What a link receives, its timers, its bring-up, trickle mode, and the peer at its end (R372 to R380, R389, R398, R402 to R406, R510, R511). -/

namespace Sys2Proof.Machine

section Links

variable {s : State} {l : Nat} {f : Link → State}

/-- A node that is not deaf acts on a link that it has. -/
theorem onLink_of_lt (hl : l < 32) (hdeaf : s.deaf = false) : onLink s l f = .next (f (s.link l)) := by
  rw [onLink, onUnit_pos (decide_eq_true hl), hdeaf]; rfl

/-- A node that is not deaf acts on a link that carries flits. -/
theorem onLive_of_live (hl : l < 32) (hdeaf : s.deaf = false) (hlive : Link_live (s.link l) = true) : onLive s l f = .next (f (s.link l)) := by
  rw [onLive, onLink_of_lt hl hdeaf, if_pos hlive]

/-- A peer that says over a link that it is quarantined, or that it has declared this node lost, is declared lost (R405, R406). -/
theorem onUnit_declareLost (hl : l < 32) (hdeaf : s.deaf = false) (hlive : Link_live (s.link l) = true) :
    onUnit (decide (l < 32)) (if s.deaf || !Link_live (s.link l) then s else s.declareLost (s.link l).peerNode) =
      .next (s.declareLost (s.link l).peerNode) := by
  rw [onUnit_pos (decide_eq_true hl), hdeaf, hlive]; rfl

end Links

/-- Settles O30, clause by clause: the link carries flits, or is in the step of its bring-up that the command serves. -/
theorem linkCommands : Obligations.LinkCommands := by
  unfold Obligations.LinkCommands
  refine ⟨?flitBad, ?flitSeq, ?flitTag, ?flit, ?ack, ?nak, ?credit, ?replay, ?replayNone, ?ackTimer, ?ackTimerNone, ?idle, ?rxTimeout, ?laneFail,
    ?trainDown, ?train, ?trainAlign, ?hello, ?sessionWaits, ?sessionRefused, ?sessionFirst, ?sessionNext, ?stepTimeout, ?retry, ?retrainSlow, ?trickle,
    ?trickleSwitch, ?wake, fun s l => onUnit_declareLost, fun s l => onUnit_declareLost, fun s n => rfl⟩
  case flitBad =>
    intro s l f hl hdeaf hlive
    change execFlitReceive l f false s = _
    rw [execFlitReceive, onLive_of_live hl hdeaf hlive]
    rfl
  case flitSeq =>
    intro s l f hl hdeaf hlive hseq
    change execFlitReceive l f true s = _
    rw [execFlitReceive, onLive_of_live hl hdeaf hlive, if_neg (by simp), if_pos hseq]
  case flitTag =>
    intro s l f bad hl hdeaf hlive hseq hbad
    change execFlitReceive l f true s = _
    rw [execFlitReceive, onLive_of_live hl hdeaf hlive, if_neg (by simp), if_neg (not_not_intro hseq), hbad]
  case flit =>
    rintro s l f _ hl hdeaf hlive hseq hgood rfl
    change execFlitReceive l f true s = _
    rw [execFlitReceive, onLive_of_live hl hdeaf hlive, if_neg (by simp), if_neg (not_not_intro hseq), hgood]
  case ack =>
    intro s l q hl hdeaf hlive
    exact (onLive_of_live hl hdeaf hlive : execAck l q s = _)
  case nak =>
    intro s l q hl hdeaf hlive
    exact (onLive_of_live hl hdeaf hlive : execNak l q s = _)
  case credit =>
    intro s l p n hl hdeaf hlive hp
    change execCreditReturn l p n s = _
    rw [execCreditReturn, onLive_of_live hl hdeaf hlive, if_neg (by omega)]
  case replay =>
    intro s l hl hdeaf hlive hreplay
    change execReplayTimeout l s = _
    rw [execReplayTimeout, onLive_of_live hl hdeaf hlive, if_neg hreplay]
  case replayNone =>
    intro s l hl hdeaf hlive hreplay
    change execReplayTimeout l s = _
    rw [execReplayTimeout, onLive_of_live hl hdeaf hlive, if_pos hreplay]
  case ackTimer =>
    intro s l hl hdeaf hlive hreceived
    change execAckTimer l s = _
    rw [execAckTimer, onLive_of_live hl hdeaf hlive, if_neg hreceived]
  case ackTimerNone =>
    intro s l hl hdeaf hlive hreceived
    change execAckTimer l s = _
    rw [execAckTimer, onLive_of_live hl hdeaf hlive, if_pos hreceived]
  case idle =>
    intro s l hl hdeaf hlive
    exact (onLive_of_live hl hdeaf hlive : execIdleTimer l s = _)
  case rxTimeout =>
    intro s l hl hdeaf hlive
    exact (onLive_of_live hl hdeaf hlive : execLinkRxTimeout l s = _)
  case laneFail =>
    intro s l hl hdeaf hlive
    exact (onLive_of_live hl hdeaf hlive : execLaneFail l s = _)
  case trainDown =>
    intro s l hl hdeaf hstate
    change execLinkTrain l s = _
    rw [execLinkTrain, onLink_of_lt hl hdeaf, hstate]
  case train =>
    intro s l hl hdeaf hstate
    change execLinkTrain l s = _
    rw [execLinkTrain, onLink_of_lt hl hdeaf, hstate]
  case trainAlign =>
    intro s l hl hdeaf hstate
    change execLinkTrain l s = _
    rw [execLinkTrain, onLink_of_lt hl hdeaf, hstate]
  case hello =>
    intro s l n inc pl hl hdeaf hstate
    change execHello l n inc pl s = _
    rw [execHello, onLink_of_lt hl hdeaf, if_neg (not_not_intro hstate)]
  case sessionWaits =>
    intro s l hs hl hdeaf hstate hfirst hwaits
    change execFabricSession l hs s = _
    rw [execFabricSession, onLink_of_lt hl hdeaf, if_neg (not_not_intro hstate)]
    simp only [decide_eq_true hfirst, decide_eq_true hwaits]
    rfl
  case sessionRefused =>
    intro s l hs hl hdeaf hstate hfirst hstarted hrefused
    change execFabricSession l hs s = _
    rw [execFabricSession, onLink_of_lt hl hdeaf, if_neg (not_not_intro hstate)]
    simp only [decide_eq_true hfirst, decide_eq_false hstarted, hrefused]
    rfl
  case sessionFirst =>
    intro s l hs hl hdeaf hstate hfirst hstarted hadmits
    change execFabricSession l hs s = _
    rw [execFabricSession, onLink_of_lt hl hdeaf, if_neg (not_not_intro hstate)]
    simp only [decide_eq_true hfirst, decide_eq_false hstarted, hadmits]
    rfl
  case sessionNext =>
    intro s l hs hl hdeaf hstate hknown
    change execFabricSession l hs s = _
    rw [execFabricSession, onLink_of_lt hl hdeaf, if_neg (not_not_intro hstate)]
    simp only [decide_eq_false hknown]
    rfl
  case stepTimeout =>
    intro s l hl hdeaf hstep hdeadline
    change execLinkStepTimeout l s = _
    rw [execLinkStepTimeout, onLink_of_lt hl hdeaf, if_neg (not_or_intro hstep hdeadline)]
  case retry =>
    intro s l hl hdeaf hstate henable hnode
    change execLinkRetry l s = _
    rw [execLinkRetry, onLink_of_lt hl hdeaf, if_neg (by rcases hstate with h | h <;> simp [h, henable, hnode])]
  case retrainSlow =>
    intro s l hl hdeaf hlive henable hleft
    change execRetrainSlow l s = _
    rw [execRetrainSlow, onLink_of_lt hl hdeaf, if_neg (by simp [hlive, henable, hleft])]
  case trickle =>
    intro s l hl hdeaf hstate hdraining
    change execTrickle l s = _
    rw [execTrickle, onLink_of_lt hl hdeaf, if_neg (by simp [hstate, hdraining])]
  case trickleSwitch =>
    intro s l hl hdeaf hstate hdraining hreplay hqueue
    change execTrickleSwitch l s = _
    rw [execTrickleSwitch, onLink_of_lt hl hdeaf, if_neg (by simp [hstate, hdraining, hreplay, hqueue])]
  case wake =>
    intro s l hl hdeaf hspw hstandby
    change execWake l s = _
    rw [execWake, onLink_of_lt hl hdeaf, if_neg (by simp [hspw, hstandby])]

end Sys2Proof.Machine
end

section
/-! Packets at the node they are for, and the times after which an operation or a node is given up (R384, R390 to R396, R404, R405). -/

namespace Sys2Proof.Machine

/-- A node that is not deaf receives a packet of the command's kind that is for it. -/
theorem State.arrives_of_kind {s : State} {kind : Bool} {p : Packet} (hdeaf : s.deaf = false) (hkind : kind = true) (hdst : p.dst = s.nodeNo) :
    s.arrives kind p = s.receive p 0 := if_neg (by simp [hdeaf, hkind, hdst])

/-- Settles O31, clause by clause: a packet of the command's kind is received; a time that has passed gives up the packets, the flow, the operations or the
node that it bounds. -/
theorem packetsAndFlows : Obligations.PacketsAndFlows := by
  unfold Obligations.PacketsAndFlows
  refine ⟨?put, ?get, ?atomic, ?nput, ?getData, ?completion, ?ping, ?pong, ?loss, ?unreach, ?flowHold, ?opTimeout, ?probe⟩
  case ping =>
    intro s p hdeaf hop hsub hdst
    exact congrArg Host.Outcome.next (State.arrives_of_kind hdeaf (by rw [hop, hsub]; rfl) hdst)
  case pong =>
    intro s p hdeaf hop hsub hdst
    exact congrArg Host.Outcome.next (State.arrives_of_kind hdeaf (by rw [hop, hsub]; rfl) hdst)
  case unreach =>
    rintro s d o _ _ _ hoverdue rfl rfl rfl hnone
    change execUnreachTimeout d s = _
    simp only [execUnreachTimeout, hoverdue]
    rw [if_pos hnone]
    rfl
  case flowHold =>
    intro s n c f t0 hc hflow hheld
    change execFlowHoldTimeout n c s = _
    simp only [execFlowHoldTimeout, if_pos hc, hflow, hheld]
    rfl
  case opTimeout =>
    intro s i o hop
    change execOpTimeout i s = _
    simp only [execOpTimeout, hop]
    refine congrArg (fun f : State → Nat × JroOp → State => Host.Outcome.next (State.probe (List.foldl f _ _) o.dst)) ?_
    funext u x
    cases Tbl.find x.1 u.trib.ops <;> rfl
  case probe =>
    intro s n hprobe
    change execProbeTimeout n s = _
    rw [execProbeTimeout, if_neg hprobe]
    rfl
  all_goals
    intro s p hdeaf hop hdst
    exact congrArg Host.Outcome.next (State.arrives_of_kind hdeaf (decide_eq_true hop) hdst)

end Sys2Proof.Machine
end

section
/-! Ordinary accesses, units that fail, and the scrubs (R299, R306, R357, R540 to R544). -/

namespace Sys2Proof.Machine

/-- A scrub that may run in the node's state makes its pass (R540, R541). -/
theorem State.scrubPass_of_runs {s : State} {k : Nat} {f : State → State} (hgoes : (s.scrubOf k).paused = false) (hawake : s.spw.state ≠ .standby)
    (hfree : s.cru.held = false) (hrunning : s.host.nodeState = .running) :
    s.scrubPass k f = (f s).scrub! k (fun x => { x with passRuns := false }) := if_neg (by simp [hgoes, hawake, hfree, hrunning])

/-- Settles O32, clause by clause: the part that fails, the place that is accessed, or the scrub that runs picks the branch of the command's meaning. -/
theorem failuresAndScrubs : Obligations.FailuresAndScrubs := by
  unfold Obligations.FailuresAndScrubs
  refine ⟨fun s k hk => onUnit_pos (decide_eq_true hk), ?channel, ?channelGone, ?lun, ?hbm, ?mesh, ?basin, ?cell, ?hbmScrub, ?sramScrub, ?planeScrub,
    ?flashScrub⟩
  case channel =>
    intro s c x hc hchan hfenced habsent
    change execChannelFail (.channel c) s = _
    simp only [execChannelFail, onUnit_pos (decide_eq_true hc), hchan]
    rw [if_neg (not_or_intro hfenced habsent)]
  case channelGone =>
    intro s c hc hgone
    change execChannelFail (.channel c) s = _
    simp only [execChannelFail, onUnit_pos (decide_eq_true hc)]
    obtain hnone | ⟨x, hchan, hout⟩ := hgone
    · rw [hnone]
    · rw [hchan]
      exact congrArg Host.Outcome.next (if_pos hout)
  case lun =>
    intro s l x hl hchan hfenced habsent hworks htarget hlun
    change execChannelFail (.lun l) s = _
    simp only [execChannelFail, onUnit_pos (decide_eq_true hl), hchan]
    rw [if_neg (by simp only [hfenced, habsent, hworks, htarget]; simp [hlun])]
  case hbm =>
    intro s k c hk hc hworks
    change execChannelFail (.hbm k c) s = _
    have hpart : (decide (k < 8) && decide (c < 32)) = true := by rw [decide_eq_true hk, decide_eq_true hc]; rfl
    simp only [execChannelFail, onUnit_pos hpart]
    exact congrArg Host.Outcome.next (if_neg (ne_true_of_eq_false hworks))
  case mesh =>
    intro s a l hok hmesh
    change execOrdinaryAccess a s = _
    rw [execOrdinaryAccess, onUnit_pos hok, hmesh]
  case basin =>
    intro s a hok hcell hmesh
    change execOrdinaryAccess a s = _
    rw [execOrdinaryAccess, onUnit_pos hok, hcell]
    cases htarget : a.target with
    | mesh l => exact absurd htarget (hmesh l)
    | _ => rfl
  case cell =>
    intro s a n hok hcell hmesh
    change execOrdinaryAccess a s = _
    rw [execOrdinaryAccess, onUnit_pos hok, hcell]
    cases htarget : a.target with
    | mesh l => exact absurd htarget (hmesh l)
    | _ => rfl
  case hbmScrub => exact fun s l hgoes hawake hfree hrunning => congrArg Host.Outcome.next (State.scrubPass_of_runs hgoes hawake hfree hrunning)
  case sramScrub => exact fun s l hgoes hawake hfree hrunning => congrArg Host.Outcome.next (State.scrubPass_of_runs hgoes hawake hfree hrunning)
  case planeScrub =>
    intro s k hk hgoes hawake hfree hrunning
    change execPlaneScrub k s = _
    rw [execPlaneScrub, onUnit_pos (decide_eq_true hk), State.scrubPass_of_runs hgoes hawake hfree hrunning]
  case flashScrub =>
    intro s weak hup hgoes hawake hfree hrunning
    change execFlashScrub weak s = _
    rw [execFlashScrub, hup, State.scrubPass_of_runs hgoes hawake hfree hrunning]
    rfl

end Sys2Proof.Machine
end

section
/-! What the dump opcodes write, and STANDBY (R548, R549, R574, R577, R578). -/

namespace Sys2Proof.Machine

/-- A dump that a composition asks for, of a collection that it holds and with fields in range, writes what it finds (R548, R549). -/
theorem State.onDump_of_held {t : State} {m : Msg} {c : Coll} {ok : Bool} {f : Coll → State} (hcomp : m.comp ≠ 64)
    (hcoll : t.coll (collKey m.comp (m.p 0 2)) = some c) (hlive : c.state ≠ .dropping) (hok : ok = true) : t.onDump m ok f = f c := by
  simp only [State.onDump, if_neg hcomp, hcoll, Option.filter_some, decide_eq_true hlive, if_true, hok]

/-- Settles O33, clause by clause: the collection and the range that a dump names, or the power state of the node, pick the branch of the command's
meaning. -/
theorem dumpsAndStandby : Obligations.DumpsAndStandby := by
  unfold Obligations.DumpsAndStandby
  refine ⟨fun c => acts_of_onMsg (fun _ _ => rfl) ?reachDump, fun c => acts_of_onMsg (fun _ _ => rfl) ?catchmentDump, ?entry, ?entryGoesOn, ?wakeD0, ?wake,
    ?comesBack⟩
  case reachDump =>
    rintro m t ⟨hcomp, hcoll, hlive, hzero2, hzero12, hmin, hmax, hfits⟩
    rw [State.onDump_of_held hcomp hcoll hlive (by simp [hzero2, hzero12, Nat.succ_le_of_lt hmin, hmax])]
    exact if_neg (Nat.not_lt.2 hfits)
  case catchmentDump =>
    rintro m t ⟨hcomp, hcoll, hlive, hzero, hfits⟩
    rw [State.onDump_of_held hcomp hcoll hlive (decide_eq_true hzero)]
    exact if_neg (Nat.not_lt.2 hfits)
  case entry =>
    intro s hactive hserves hd3
    change execStandbyEntry s = _
    rw [execStandbyEntry, if_neg (by simp [hactive]), if_pos (by rw [hserves, hd3]; rfl)]
    rfl
  case entryGoesOn =>
    intro s hentering hopen hfree
    change execStandbyEntry s = _
    rw [execStandbyEntry, if_pos ⟨hentering, hopen, by rw [hfree]; rfl⟩]
    rfl
  case wakeD0 =>
    intro s hfree hopen hd3
    change execWakeFromStandby .d0 s = _
    rw [execWakeFromStandby, if_neg (by simp [hfree, hopen])]
    simp only [hd3]
    rfl
  case wake =>
    intro s w hfree hopen hw hstandby
    cases w with
    | d0 => exact absurd rfl hw
    | _ => exact congrArg Host.Outcome.next ((if_neg (by simp [hfree, hopen])).trans (if_pos hstandby))
  case comesBack =>
    intro s hserves hd3 hwoken hbatches hctxs
    change execStandbyReturn s = _
    rw [execStandbyReturn, if_pos (by simp only [hserves, hd3, hwoken, hbatches, hctxs]; rfl)]
    rfl

end Sys2Proof.Machine
end
